-- ==== Sys2Proof/Word.lean ====
section
/-! DEFINITION. The word types of the VM-5016 and their plainest arithmetic. -/

namespace Sys2Proof

/-- A byte. -/
abbrev Byte := BitVec 8

/-- A 64 B line, the host unit (Table 0.5); byte `i` is bits `[8i+7:8i]`. -/
abbrev Line := BitVec 512

/-- A 64 B line's byte mask, bit `i` for byte `i` (R135). -/
abbrev Mask := BitVec 64

/-- A 256 B sector's data (Table 0.5); byte `i` is bits `[8i+7:8i]`. -/
abbrev SecData := BitVec 2048

/-- A 64-bit register or a 64-bit general register of an engine. -/
abbrev Word := BitVec 64

/-- Bits `[lo+w-1:lo]` of a number. -/
def bits (x lo w : Nat) : Nat := (x >>> lo) % 2 ^ w

/-- One bit of a number. -/
def bit (x i : Nat) : Bool := x.testBit i

/-- `x` with bits `[lo+w-1:lo]` replaced by the low bits of `v`. -/
def setBits (x lo w v : Nat) : Nat :=
  x - (bits x lo w) * 2 ^ lo + (v % 2 ^ w) * 2 ^ lo

/-- A Bool as a bit. -/
def b2n (b : Bool) : Nat := if b then 1 else 0

/-- Addition that stops at the largest `w`-bit value: how the manual's counters saturate. -/
def satAdd (w x n : Nat) : Nat := Nat.min (x + n) (2 ^ w - 1)

/-- The `n` low bytes of a number, least significant first: the manual's byte order (R2). -/
def leBytes : Nat → Nat → List Byte
  | 0, _ => []
  | n + 1, x => BitVec.ofNat 8 x :: leBytes n (x / 256)

/-- The number that bytes spell, least significant first (R2). -/
def ofLe : List Byte → Nat
  | [] => 0
  | b :: bs => b.toNat + 256 * ofLe bs

/-- `n` bytes of `bs` from `off`, read as a little-endian number; missing bytes are zero. -/
def fieldLe (bs : List Byte) (off n : Nat) : Nat := ofLe ((bs.drop off).take n)

/-- `bs` cut or filled with zeros to exactly `n` bytes. -/
def padTo (n : Nat) (bs : List Byte) : List Byte := (bs ++ List.replicate (n - bs.length) 0).take n

/-- Two's complement value of a `w`-bit number. -/
def toSigned (w x : Nat) : Int := if x % 2 ^ w < 2 ^ (w - 1) then (x % 2 ^ w : Nat) else ((x % 2 ^ w : Nat) : Int) - 2 ^ w

/-- The `w`-bit two's complement pattern of an integer. -/
def ofSigned (w : Nat) (i : Int) : Nat := (i % (2 ^ w : Nat)).toNat

/-- A line from its 64 bytes. -/
def lineOfBytes (bs : List Byte) : Line := BitVec.ofNat 512 (ofLe (bs.take 64))

/-- The 64 bytes of a line. -/
def lineBytes (l : Line) : List Byte := leBytes 64 l.toNat

/-- The bits of the bytes that a byte mask enables. -/
def maskBits (m : Mask) : Nat → Nat
  | 0 => 0
  | n + 1 => maskBits m n + (if m.getLsbD n then 255 * 256 ^ n else 0)

/-- `old` with the bytes that `m` enables taken from `new` (R136). -/
def mergeLine (old new : Line) (m : Mask) : Line :=
  let k : Line := BitVec.ofNat 512 (maskBits m 64)
  (old &&& ~~~ k) ||| (new &&& k)

/-- Line `i` (0 to 3) of a sector. -/
def secLine (d : SecData) (i : Nat) : Line := BitVec.ofNat 512 (d.toNat >>> (512 * i))

/-- A sector from its four lines. -/
def secOfLines (ls : List Line) : SecData :=
  BitVec.ofNat 2048 (ls.take 4 |>.foldr (fun l acc => l.toNat + 2 ^ 512 * acc) 0)

/-- A sector from its 256 bytes. -/
def secOfBytes (bs : List Byte) : SecData := BitVec.ofNat 2048 (ofLe (bs.take 256))

/-- The 256 bytes of a sector. -/
def secBytes (d : SecData) : List Byte := leBytes 256 d.toNat

/-- Floor of the binary logarithm of `n/d` in units of `2^-16`, for `n ≥ d`. -/
def log2Fix (n d : Nat) : Nat := Nat.log2 (n ^ 65536 / d ^ 65536)

/-- Insert or replace a key's value in a list that is sorted by key. -/
def assocSet {α : Type} (k : Nat) (v : α) : List (Nat × α) → List (Nat × α)
  | [] => [(k, v)]
  | (k', v') :: t => if k < k' then (k, v) :: (k', v') :: t else if k = k' then (k, v) :: t else (k', v') :: assocSet k v t

/-- Remove a key from an association list. -/
def assocDel {α : Type} (k : Nat) : List (Nat × α) → List (Nat × α)
  | [] => []
  | (k', v') :: t => if k = k' then t else (k', v') :: assocDel k t

/-- Look a key up in an association list. -/
def assocGet {α : Type} (k : Nat) : List (Nat × α) → Option α
  | [] => none
  | (k', v') :: t => if k = k' then some v' else assocGet k t

/-- A list of numbers with no repeats: add one. -/
def setAdd (x : Nat) (l : List Nat) : List Nat := if l.contains x then l else l ++ [x]

/-- Replace the element at an index; nothing happens past the end. -/
def listSet {α : Type} (l : List α) (i : Nat) (v : α) : List α := l.set i v

/-- Apply a function to the element at an index. -/
def listMod {α : Type} (l : List α) (i : Nat) (f : α → α) : List α := l.modify i f

end Sys2Proof
end

