-- ==== Sys2Proof/Syntax.lean ====
section
/-! DEFINITION. The commands of the VM-5016: one constructor per row of the opcode table, and the operand types. -/

namespace Sys2Proof

/-- What the medium and the SRAM deliver to one read: the environment's part of a read's outcome.
`bch` lists the outcomes of the BCH decodes the read makes, in order: `some n` decoded with `n` corrected bits,
`none` beyond capability (R267); past the end of the list a decode corrects no bit. `egress` makes the line check fail
at delivery (Table 8.2). `keep` is whether the Pilot cache keeps what was read. `ue` makes a byte of the line's SRAM copy
uncorrectable (R270). (DEDUCED, log entry 158.) -/
structure RdEnv where
  bch : List (Option Nat)
  egress : Bool
  keep : Bool
  ue : Bool
  deriving DecidableEq, Repr

/-- What recovery meets on media: whether each copy of the newest generation and of the one before reads and matches
(R237), whether two valid copies differ, the medians of the start-up survey's samples per die (R132), and the sectors that do not decode (R247),
those that the parity rebuilds first. (DESIGN CHOICE, log entry 154; DESIGN CHOICE, log entry 162.) -/
structure RecEnv where
  copyA : Bool
  copyB : Bool
  prevA : Bool
  prevB : Bool
  differ : Bool
  prevDiffer : Bool
  survey : List (List (Nat × Nat × Nat))
  rebuilt : List Nat
  bad : List Nat
  micros : Nat
  deriving DecidableEq, Repr

/-- How an order's command arrives: the effect of a running order, or a mailbox command of head `h` that is carried out
as an order (R320). -/
inductive OrdReq where
  | run (id : Nat)
  | mbox (h : Nat) (inp : List Byte)
  deriving DecidableEq, Repr

/-- A word of a large table that a scrub finds uncorrectable (Table 8.5): of a home's overlay index, map directory or poison list, of its
map-cache way for a slot; of a wear-tree node `j` or the root of a Point; of a segment's leaf, with the service rows whose header copies
fail; of one or both copies of a segment's state entry. (DEDUCED, log entry 197.) -/
inductive TableUe where
  | overlay (h : Nat)
  | mapDir (h : Nat)
  | poison (h : Nat)
  | mapWay (h slot : Nat)
  | wearNode (n j : Nat)
  | wearRoot (n : Nat)
  | wearLeaf (sg fails : Nat)
  | segCopy (sg : Nat) (both : Bool)
  deriving DecidableEq, Repr

/-- The commands, one for each row of the opcode table, in its order. (DESIGN CHOICE, log entry 4.) -/
inductive Instr where
  /-- MEM_RD (R32): port `p` (0 W, 1 E), 16-bit Tag, device address, what the medium delivers. -/
  | memRd (p tag : Nat) (a : Nat) (ev : RdEnv)
  /-- MEM_RD_DATA (R294): as `memRd`. -/
  | memRdData (p tag : Nat) (a : Nat) (ev : RdEnv)
  /-- MEM_WR (R9): a full line, its poison bit, and whether the line check fails at Binnacle admission (Table 8.2). -/
  | memWr (p tag a : Nat) (data : Line) (poison bad : Bool)
  /-- MEM_WR_PTL (R10): as `memWr` with a byte mask; `ev` for the merge read of R155. -/
  | memWrPtl (p tag a : Nat) (data : Line) (mask : Mask) (poison bad : Bool) (ev : RdEnv)
  /-- UNSUPPORTED_M2S_OPCODE (R294): M2S opcode `op` other than the four supported. -/
  | unsupportedM2sOpcode (p tag op a : Nat)
  /-- GLOBAL_PERSISTENT_FLUSH (R19): port of the request. -/
  | globalPersistentFlush (p : Nat)
  /-- PERST (R300): cause 0 PERST, 1 link down. -/
  | perst (p cause : Nat)
  /-- LINK_TRAINING (R293): result of training in the codes of DEV_PORTSTAT, and whether the port's own REFCLK is usable. -/
  | linkTraining (p rate width : Nat) (flit256 ref : Bool)
  /-- L1_ENTRY (R347). -/
  | l1Entry (p : Nat)
  /-- L1_EXIT (R347). -/
  | l1Exit (p : Nat)
  /-- D3HOT_ENTRY (R349). -/
  | d3hotEntry (p : Nat)
  /-- DECODER_COMMIT (R305): decoder `idx` of head `p`: host base, size, device base, interleave ways, granularity. -/
  | decoderCommit (p idx base size dpa ways gran : Nat)
  /-- MSIX_UNMASK (R343). -/
  | msixUnmask (p v : Nat)
  /-- IDENTIFY (R321): head `h`. -/
  | identify (h : Nat)
  /-- GET_EVENT_RECORDS (R313): log 0 informational, 1 warning, 2 failure, 3 fatal. -/
  | getEventRecords (h log : Nat)
  /-- CLEAR_EVENT_RECORDS (R316). -/
  | clearEventRecords (h log : Nat) (all : Bool) (handles : List Nat)
  /-- GET_EVENT_INTERRUPT_POLICY (R313). -/
  | getEventInterruptPolicy (h : Nat)
  /-- SET_EVENT_INTERRUPT_POLICY (R313): one mode per log: 0 none, 1 MSI or MSI-X, 2 firmware interrupt. -/
  | setEventInterruptPolicy (h : Nat) (policy : List Nat)
  /-- GET_FW_INFO (R321). -/
  | getFwInfo (h : Nat)
  /-- TRANSFER_FW (R320). -/
  | transferFw (h slot off : Nat) (data : List Byte)
  /-- ACTIVATE_FW (R320): action 0 online, 1 at the next start. -/
  | activateFw (h action slot : Nat)
  /-- GET_TIMESTAMP (R317). -/
  | getTimestamp (h : Nat)
  /-- SET_TIMESTAMP (R317). -/
  | setTimestamp (h ns : Nat)
  /-- GET_SUPPORTED_LOGS (R321). -/
  | getSupportedLogs (h : Nat)
  /-- GET_LOG (R321). -/
  | getLog (h off len : Nat)
  /-- IDENTIFY_MEMORY_DEVICE (R321). -/
  | identifyMemoryDevice (h : Nat)
  /-- GET_PARTITION_INFO (R320). -/
  | getPartitionInfo (h : Nat)
  /-- SET_PARTITION_INFO (R292). -/
  | setPartitionInfo (h : Nat) (inp : List Byte)
  /-- GET_LSA (R320). -/
  | getLsa (h off len : Nat)
  /-- SET_LSA (R320). -/
  | setLsa (h off : Nat) (data : List Byte)
  /-- GET_HEALTH_INFO (R321). -/
  | getHealthInfo (h : Nat)
  /-- GET_ALERT_CONFIGURATION (R320). -/
  | getAlertConfiguration (h : Nat)
  /-- SET_ALERT_CONFIGURATION (R320): valid and enable actions (bit 0 life used, bit 1 over-temperature), thresholds. -/
  | setAlertConfiguration (h valid enable life temp : Nat)
  /-- GET_SHUTDOWN_STATE (R308). -/
  | getShutdownState (h : Nat)
  /-- SET_SHUTDOWN_STATE (R308). -/
  | setShutdownState (h v : Nat)
  /-- GET_POISON_LIST (R310). -/
  | getPoisonList (h start len : Nat)
  /-- INJECT_POISON (R311). -/
  | injectPoison (h dpa : Nat)
  /-- CLEAR_POISON (R312). -/
  | clearPoison (h dpa : Nat) (data : Line)
  /-- SCAN_MEDIA (R292): op 4303h to 4305h. -/
  | scanMedia (h op : Nat)
  /-- PERSISTENT_MEMORY_SECURITY (R292): op 4500h to 45FFh. -/
  | persistentMemorySecurity (h op : Nat)
  /-- SANITIZE (R323): step 0 the command, 1 to 5 the steps of R323 as they are reached; health of the random source; segments with slices that fail their clear in step 3, and those slices. -/
  | sanitize (h step : Nat) (rngOk : Bool) (fails : List (Nat × Nat))
  /-- SECURE_ERASE (R324): as `sanitize`. -/
  | secureErase (h step : Nat) (rngOk : Bool) (fails : List (Nat × Nat))
  /-- GET_DEVICE_IDENTITY (R325). -/
  | getDeviceIdentity (h : Nat) (inp : List Byte)
  /-- GET_MODE (R325). -/
  | getMode (h : Nat) (inp : List Byte)
  /-- GET_CHART_SLOTS (R325). -/
  | getChartSlots (h : Nat) (inp : List Byte)
  /-- WRITE_CHART_CHUNK (R479). -/
  | writeChartChunk (h : Nat) (inp : List Byte)
  /-- RUN_ORDER (R327). -/
  | runOrder (h : Nat) (inp : List Byte)
  /-- GET_ORDER_RESULT (R327). -/
  | getOrderResult (h : Nat) (inp : List Byte)
  /-- READ_SEAL_RECORD (R325). -/
  | readSealRecord (h : Nat) (inp : List Byte)
  /-- READ_DECK_LOG (R613). -/
  | readDeckLog (h : Nat) (inp : List Byte)
  /-- READ_POWER_LOG (R538). -/
  | readPowerLog (h : Nat) (inp : List Byte)
  /-- READ_LOGBOOK_PAGE (R618). -/
  | readLogbookPage (h : Nat) (inp : List Byte)
  /-- WRITE_REGISTRY_PAGE (R621). -/
  | writeRegistryPage (h : Nat) (inp : List Byte)
  /-- LOCK_REGISTRY_PAGE (R621). -/
  | lockRegistryPage (h : Nat) (inp : List Byte)
  /-- GET_CAPACITY (R325). -/
  | getCapacity (h : Nat) (inp : List Byte)
  /-- RESET (R565). -/
  | reset (h : Nat) (inp : List Byte)
  /-- SQ_TAIL_WRITE (R459): requester (0 W, 1 E, 2 I3C, 3 engine), ring, value. -/
  | sqTailWrite (by_ r v : Nat)
  /-- CQ_HEAD_WRITE (R466). -/
  | cqHeadWrite (by_ r v : Nat)
  /-- ORDER_DISPATCH (R461): ring 0 W, 1 E, 2 I3C, 3 the internal ring of start-up orders. -/
  | orderDispatch (r : Nat)
  /-- ORDER_COMPLETION (R465): running order. -/
  | orderCompletion (id : Nat)
  /-- MODE_CHANGE (R496). -/
  | modeChange (o : OrdReq)
  /-- CHECKPOINT (R232). -/
  | checkpoint (o : OrdReq)
  /-- DISCARD (R209). -/
  | discard (o : OrdReq)
  /-- SECURE_DISCARD (R210): step 1 to 7 of R210 as it is reached. -/
  | secureDiscard (o : OrdReq) (step : Nat)
  /-- SEAL_RANGE (R286). -/
  | sealRange (o : OrdReq) (ev : RdEnv)
  /-- UNSEAL (R288). -/
  | unseal (o : OrdReq)
  /-- SEAL_VERIFY (R470). -/
  | sealVerify (o : OrdReq) (ev : RdEnv)
  /-- SEAL_EXPORT (R470). -/
  | sealExport (o : OrdReq) (ev : RdEnv)
  /-- TRIGGER (R389). -/
  | trigger (o : OrdReq)
  /-- STREAM_RESET (R385). -/
  | streamReset (o : OrdReq)
  /-- REKEY (R281): step 1 to 5 of R281. -/
  | rekey (o : OrdReq) (step : Nat) (rngOk : Bool)
  /-- FIX (R601). -/
  | fix (o : OrdReq)
  /-- DECK_CLEAR (R613). -/
  | deckClear (o : OrdReq)
  /-- DECK_RUN (R471). -/
  | deckRun (o : OrdReq)
  /-- DECK_STOP (R472). -/
  | deckStop (o : OrdReq)
  /-- CHART_CHECK (R477). -/
  | chartCheck (o : OrdReq)
  /-- HELM_SPACE_WRITE (R330): width in bits. -/
  | helmSpaceWrite (by_ off width : Nat) (v : Word)
  /-- HALF_READ_LATCH (R331): a 32-bit read at `off`. -/
  | halfReadLatch (by_ off : Nat)
  /-- PNT_ARB_WRITE (R60): half 0 low 32 bits, 1 high 32 bits, 2 the whole register. -/
  | pntArbWrite (by_ n half : Nat) (v : Word)
  /-- PNT_RETIRE_WRITE (R95). -/
  | pntRetireWrite (by_ half : Nat) (v : Word)
  /-- WLV_PLACE_WRITE (R190). -/
  | wlvPlaceWrite (by_ h half : Nat) (v : Word)
  /-- STR_CTL_WRITE (R352). -/
  | strCtlWrite (by_ s half : Nat) (v : Word)
  /-- STR_ACT_TRIGGER (R389). -/
  | strActTrigger (by_ s : Nat)
  /-- STR_ACT_QUEUE_RESET (R385). -/
  | strActQueueReset (by_ s : Nat)
  /-- STR_NOTE_READ (R400). -/
  | strNoteRead (by_ p : Nat)
  /-- PWR_CTL_OFF (R523). -/
  | pwrCtlOff (by_ : Nat)
  /-- PWR_CTL_BANKTEST (R515). -/
  | pwrCtlBanktest (by_ : Nat)
  /-- PWR_THR_WRITE (R517). -/
  | pwrThrWrite (by_ : Nat) (v : Word)
  /-- FIX_CTL_TRIGGER (R601): the value written, with TRIGGER set. -/
  | fixCtlTrigger (by_ : Nat) (v : Word)
  /-- SEQ_CMD_FIX (R531). -/
  | seqCmdFix (by_ addr arg : Nat)
  /-- SEQ_CMD_STATUS (R531): the slave's status word, none where no slave acknowledges. -/
  | seqCmdStatus (by_ addr : Nat) (resp : Option Nat)
  /-- RST_CTL_DEVICE (R579). -/
  | rstCtlDevice (by_ key : Nat)
  /-- RST_WDOG_KICK (R579). -/
  | rstWdogKick (by_ : Nat) (v : Word)
  /-- PADHOLD_RELEASE (R563). -/
  | padholdRelease (by_ : Nat) (v : Word)
  /-- TAL_SEL_WRITE (R614). -/
  | talSelWrite (by_ j : Nat) (v : Word)
  /-- TAL_CFG_WRITE (R616). -/
  | talCfgWrite (by_ : Nat) (v : Word)
  /-- SAF_INJ_WRITE (R599). -/
  | safInjWrite (by_ : Nat) (v : Word)
  /-- LLN_CH_WRITE (R650). -/
  | llnChWrite (by_ i half : Nat) (v : Word)
  /-- I3C_READ (R338): the frame's bytes, CRC included. -/
  | i3cRead (frame : List Byte)
  /-- I3C_WRITE (R340). -/
  | i3cWrite (frame : List Byte)
  /-- I3C_STATUS (R339). -/
  | i3cStatus (frame : List Byte)
  /-- I3C_RESPONSE (R341): whether the response is ready (R341). -/
  | i3cResponse (ready : Bool)
  /-- ENTDAA (R337). -/
  | entdaa (addr : Nat)
  /-- SETDASA (R337). -/
  | setdasa (addr : Nat)
  /-- RSTDAA (R337). -/
  | rstdaa
  /-- ENEC (R337): event byte of the CCC. -/
  | enec (b : Nat)
  /-- DISEC (R337). -/
  | disec (b : Nat)
  /-- GETPID (R337). -/
  | getpid
  /-- GETBCR (R337). -/
  | getbcr
  /-- GETDCR (R337). -/
  | getdcr
  /-- GETSTATUS (R337). -/
  | getstatus
  /-- GETMRL (R337). -/
  | getmrl
  /-- SETMRL (R337). -/
  | setmrl (n : Nat)
  /-- GETMWL (R337). -/
  | getmwl
  /-- SETMWL (R337). -/
  | setmwl (n : Nat)
  /-- RSTACT (R337): defining byte. -/
  | rstact (v : Nat)
  /-- IBI_RETRY (R345). -/
  | ibiRetry (nacked : Bool)
  /-- I3C_ADDRESS_IN_DOZE (R342). -/
  | i3cAddressInDoze
  /-- PRODUCER_WRITE (R354). -/
  | producerWrite (p tag a : Nat) (data : Line) (mask : Mask) (poison : Bool)
  /-- CREDIT_RAISE (R364). -/
  | creditRaise (s : Nat)
  /-- STREAM_PAGE_SPILL (R377). -/
  | streamPageSpill (s slot : Nat) (ev : RdEnv)
  /-- HEAD_REFILL (R376). -/
  | headRefill (s : Nat)
  /-- CONSUMER_READ (R355). -/
  | consumerRead (p tag a : Nat) (ev : RdEnv)
  /-- PRODUCER_WINDOW_READ (R356). -/
  | producerWindowRead (p tag a : Nat)
  /-- TRIGGER_LINE_WRITE (R389). -/
  | triggerLineWrite (p tag s t : Nat)
  /-- READ (R373). -/
  | read (p s n : Nat)
  /-- MARK (R373). -/
  | mark (p s : Nat)
  /-- REWIND (R373). -/
  | rewind (p s : Nat)
  /-- RELEASE (R373). -/
  | release (p s t : Nat)
  /-- DROP (R373). -/
  | drop (p s : Nat)
  /-- OP_RESET (R385). -/
  | opReset (p s : Nat)
  /-- OP_INVALID (R373). -/
  | opInvalid (p s code : Nat) (full : Bool)
  /-- QUEUE_RESET (R385). -/
  | queueReset (s cause : Nat)
  /-- RING_RECLAIM (R387). -/
  | ringReclaim (s : Nat)
  /-- BOUNDARY_RECORD (R391). -/
  | boundaryRecord
  /-- WINDOW_CLOSE (R393). -/
  | windowClose (s : Nat)
  /-- WINDOW_RECORD (R394). -/
  | windowRecord (s : Nat)
  /-- ADD (R423): engine, destination, source registers. -/
  | add (e d a b : Nat)
  /-- SUB (R423): engine, destination, source registers. -/
  | sub (e d a b : Nat)
  /-- AND (R423): engine, destination, source registers. -/
  | and (e d a b : Nat)
  /-- OR (R423): engine, destination, source registers. -/
  | or (e d a b : Nat)
  /-- XOR (R423): engine, destination, source registers. -/
  | xor (e d a b : Nat)
  /-- SHL (R423): engine, destination, source registers. -/
  | shl (e d a b : Nat)
  /-- SHR (R423): engine, destination, source registers. -/
  | shr (e d a b : Nat)
  /-- SAR (R423): engine, destination, source registers. -/
  | sar (e d a b : Nat)
  /-- MUL (R423): engine, destination, source registers. -/
  | mul (e d a b : Nat)
  /-- MULH (R423): engine, destination, source registers. -/
  | mulh (e d a b : Nat)
  /-- DIV (R423): engine, destination, source registers. -/
  | div (e d a b : Nat)
  /-- REM (R423): engine, destination, source registers. -/
  | rem (e d a b : Nat)
  /-- ADDI (R423): 16-bit immediate. -/
  | addi (e d a imm : Nat)
  /-- ANDI (R423): 16-bit immediate. -/
  | andi (e d a imm : Nat)
  /-- ORI (R423): 16-bit immediate. -/
  | ori (e d a imm : Nat)
  /-- XORI (R423): 16-bit immediate. -/
  | xori (e d a imm : Nat)
  /-- LHI (R423): `rs`: the unused fields, zero in a legal encoding. -/
  | lhi (e d imm rs : Nat)
  /-- BEQ (R423). -/
  | beq (e b a imm : Nat)
  /-- BNE (R423). -/
  | bne (e b a imm : Nat)
  /-- BLT (R423). -/
  | blt (e b a imm : Nat)
  /-- BGE (R423). -/
  | bge (e b a imm : Nat)
  /-- BLTU (R423). -/
  | bltu (e b a imm : Nat)
  /-- BGEU (R423). -/
  | bgeu (e b a imm : Nat)
  /-- JAL (R423): 21-bit word offset. -/
  | jal (e d off : Nat)
  /-- JR (R423). -/
  | jr (e d a imm : Nat)
  /-- LD8 (R423). -/
  | ld8 (e d a imm : Nat) (ev : RdEnv)
  /-- LD16 (R423). -/
  | ld16 (e d a imm : Nat) (ev : RdEnv)
  /-- LD32 (R423). -/
  | ld32 (e d a imm : Nat) (ev : RdEnv)
  /-- LD64 (R423). -/
  | ld64 (e d a imm : Nat) (ev : RdEnv)
  /-- LD8U (R423). -/
  | ld8u (e d a imm : Nat) (ev : RdEnv)
  /-- LD16U (R423). -/
  | ld16u (e d a imm : Nat) (ev : RdEnv)
  /-- LD32U (R423). -/
  | ld32u (e d a imm : Nat) (ev : RdEnv)
  /-- ST8 (R423). -/
  | st8 (e b a imm : Nat)
  /-- ST16 (R423). -/
  | st16 (e b a imm : Nat)
  /-- ST32 (R423). -/
  | st32 (e b a imm : Nat)
  /-- ST64 (R423). -/
  | st64 (e b a imm : Nat)
  /-- LD_RSV (R424). -/
  | ldRsv (e d a imm : Nat) (ev : RdEnv)
  /-- ST_CND (R454). -/
  | stCnd (e d a b : Nat)
  /-- BAR_CORE (R451). -/
  | barCore (e rs : Nat)
  /-- BAR_QUAD (R451). -/
  | barQuad (e rs : Nat)
  /-- BAR_CHIP (R451). -/
  | barChip (e rs : Nat)
  /-- MREAD (R430). -/
  | mread (e d a b c fn : Nat) (ev : RdEnv)
  /-- MWRITE (R431): whether program verify passes. -/
  | mwrite (e d a b fn rs : Nat) (ok : Bool)
  /-- MCLEAR (R432): mask of slices that fail their clear. -/
  | mclear (e d a b rs retired : Nat)
  /-- MVERIFY (R433). -/
  | mverify (e d a rs : Nat) (ev : RdEnv)
  /-- MFOLD_PAGE (R434). -/
  | mfoldPage (e d a rs : Nat) (ev : RdEnv)
  /-- MFOLD_SECTOR (R434). -/
  | mfoldSector (e d a rs : Nat) (ev : RdEnv)
  /-- MFOLD_SEALED (R434). -/
  | mfoldSealed (e d a rs : Nat) (ev : RdEnv)
  /-- MREF (R435). -/
  | mref (e d a fn rs : Nat)
  /-- MSENSE (R435): the codes at which the 512 lodestone cells of the slice stand. -/
  | msense (e d a b rs : Nat) (els : List Nat)
  /-- MEDIA_TICKET_COMPLETE (R427). -/
  | mediaTicketComplete (e t : Nat)
  /-- QPEEK (R439). -/
  | qpeek (e d a b c fn : Nat) (ev : RdEnv)
  /-- QTAKE (R440). -/
  | qtake (e d a b c fn : Nat) (ev : RdEnv)
  /-- QMARK (R441). -/
  | qmark (e d a b rs : Nat)
  /-- QREWIND (R441). -/
  | qrewind (e d a b rs : Nat)
  /-- QRELEASE (R441). -/
  | qrelease (e d a b rs : Nat)
  /-- QDROP (R441). -/
  | qdrop (e d a b rs : Nat)
  /-- QCREDIT (R441). -/
  | qcredit (e d a fn rs : Nat)
  /-- FIX_INSTRUCTION (R444). -/
  | fixInstruction (e d rs : Nat)
  /-- WAIT (R436). -/
  | wait (e d a b : Nat) (timeout : Bool)
  /-- SLEEP (R443). -/
  | sleep (e d a rs : Nat)
  /-- SLEEP_END (R443). -/
  | sleepEnd (e : Nat)
  /-- TRAP (R414). -/
  | trap (e code rs : Nat)
  /-- EXIT (R416). -/
  | exit (e : Nat)
  /-- EVENT (R416). -/
  | event (e : Nat)
  /-- YIELD (R416). -/
  | yield (e : Nat)
  /-- ERET (R418). -/
  | eret (e rs : Nat)
  /-- GETSYS (R419): what the media deliver where the read takes a task. -/
  | getsys (e d n rs : Nat) (ev : RdEnv)
  /-- PUTSYS (R419). -/
  | putsys (e a n rs : Nat)
  /-- TASK_TAKE (R64): what the media deliver where the task reads. -/
  | taskTake (e d : Nat) (ev : RdEnv)
  /-- WDOG_KICK (R421). -/
  | wdogKick (e a : Nat)
  /-- BUDGET (R413). -/
  | budget (e : Nat)
  /-- ENGINE_WATCHDOG (R421). -/
  | engineWatchdog (e : Nat)
  /-- LOCKSTEP_MISMATCH (R445). -/
  | lockstepMismatch (e : Nat)
  /-- ENGINE_FAULT (R68). -/
  | engineFault (e : Nat)
  /-- ENGINE_SELF_TEST_DONE (R68). -/
  | engineSelfTestDone (e : Nat) (pass : Bool)
  /-- WRITE_MERGE_DRAIN (R411). -/
  | writeMergeDrain (e line : Nat)
  /-- FORWARDING_BUFFER_DRAIN (R450). -/
  | forwardingBufferDrain (q : Nat)
  /-- BARRIER_DRAIN_TIMEOUT (R456). -/
  | barrierDrainTimeout (e : Nat)
  /-- SECTOR_READY (R141): logical sector; cause 0 full masks, 1 SECT_WAIT, 2 slice at 6,144 entries. -/
  | sectorReady (l cause : Nat)
  /-- PAGE_ROUTE (R142): logical page. -/
  | pageRoute (pg : Nat)
  /-- MERGE_READ_DONE (R143). -/
  | mergeReadDone (pg : Nat) (ev : RdEnv)
  /-- SECTOR_PROGRAM_DONE (R87). -/
  | sectorProgramDone (psa : Nat) (ok : Bool)
  /-- OVERLAY_INSTALL (R149). -/
  | overlayInstall (l : Nat)
  /-- PAGE_INSTALL (R225). -/
  | pageInstall (pg : Nat)
  /-- PLACEMENT_LOG_CLOSE (R153): Point; whether program verify passes. -/
  | placementLogClose (n : Nat) (ok : Bool)
  /-- LINE_LOG_CLOSE (R158): home; cause 0 three lines, 1 the wait, 2 a merged line. -/
  | lineLogClose (h cause : Nat)
  /-- LINE_LOG_COMMIT (R158): whether the line log sector and its partial-parity sector pass verify. -/
  | lineLogCommit (h : Nat) (okA okB : Bool)
  /-- WATERMARK (R231). -/
  | watermark (h : Nat)
  /-- ROW_COMPLETE (R164): group number, row, the sectors of the parity page that fail verify (bit j). -/
  | rowComplete (g r fails : Nat)
  /-- ROW_TIMEOUT (R165): as `rowComplete`. -/
  | rowTimeout (g r fails : Nat)
  /-- GROUP_CLOSE (R166): cause 0 slot 1,023, 1 R116, 2 rehoming, 3 secure discard or REKEY. -/
  | groupClose (g cause : Nat)
  /-- GROUP_OPEN (R161): 0 host, 1 fold, 2 stream, 3 metadata. -/
  | groupOpen (kind : Nat)
  /-- SEGMENT_AGE_CLOSE (R116): segment name: Point in [16:13], segment in [12:0]. -/
  | segmentAgeClose (sg : Nat)
  /-- SETTLE_END (R168). -/
  | settleEnd (g : Nat)
  /-- VERIFY_READ_DONE (R169): what the medium delivers to the read and to the reads of a rebuild and a relocation. -/
  | verifyReadDone (psa : Nat) (ev : RdEnv)
  /-- PARITY_RELEASE (R170). -/
  | parityRelease (g : Nat)
  /-- CLEAR_SCHEDULE (R178). -/
  | clearSchedule (n : Nat)
  /-- SEGMENT_CLEAR_DONE (R90): mask of slices that failed. -/
  | segmentClearDone (sg retired : Nat)
  /-- COLLECTION_START (R177). -/
  | collectionStart (n : Nat)
  /-- FOLD_QUEUE (R173): cause 0 count, 1 set full, 2 occupancy. -/
  | foldQueue (pg cause : Nat)
  /-- MAP_FLUSH (R223): home, map page. -/
  | mapFlush (h mp : Nat)
  /-- CHECKPOINT_START (R232): 0 period, 1 log trigger, 2 request. -/
  | checkpointStart (cause : Nat)
  /-- CHECKPOINT_COMPLETE (R235). -/
  | checkpointComplete
  /-- SPARE_RECOMPUTE (R199). -/
  | spareRecompute
  /-- BERTH_LOW (R207). -/
  | berthLow
  /-- METADATA_POOL_TOPUP (R183). -/
  | metadataPoolTopup (n : Nat)
  /-- STATIC_LEVELLING (R196). -/
  | staticLevelling (n : Nat)
  /-- POOL_WEAR_EXCHANGE (R197). -/
  | poolWearExchange (n : Nat)
  /-- MARGIN_SWEEP (R120). -/
  | marginSweep
  /-- REFRESH_QUEUE (R121). -/
  | refreshQueue (sg : Nat)
  /-- LODESTONE_SAMPLE (R125): Point, segment group, the codes at which the 512 lodestone cells of the slice stand. -/
  | lodestoneSample (n g : Nat) (els : List Nat)
  /-- ECLK_UPDATE (R110). -/
  | eclkUpdate
  /-- SCRUB_PASS (R271): words corrected, and words that are uncorrectable. -/
  | scrubPass (ce : Nat) (ues : List TableUe)
  /-- KEY_SWEEP (R279): a key differs from its complement. -/
  | keySweep (bad : Bool)
  /-- BURST_CRC_FAIL (R100): Point, read burst or load burst, which re-send is asked for (1 to 3; 4: the third failed). -/
  | burstCrcFail (n : Nat) (read_ : Bool) (resend : Nat)
  /-- ACK_TIMEOUT (R100). -/
  | ackTimeout (n resend : Nat)
  /-- QUICK_RETRAIN (R104): cause as PNT_LINK.LAST_CAUSE, 0 Doze exit. -/
  | quickRetrain (n cause : Nat)
  /-- QUICK_RETRAIN_DONE (R105). -/
  | quickRetrainDone (n : Nat) (ok : Bool)
  /-- FULL_TRAINING_DONE (R104). -/
  | fullTrainingDone (n : Nat) (ok : Bool)
  /-- DIE_FATAL_STATUS (R105). -/
  | dieFatalStatus (n : Nat)
  /-- STUCK_CELL (R673). -/
  | stuckCell (n c : Nat)
  /-- POINT_DEATH (R73): cause as PNT_LINK.LAST_CAUSE. -/
  | pointDeath (n cause : Nat)
  /-- REHOMING_COMPLETE (R73). -/
  | rehomingComplete (n : Nat) (selfTestOk : Bool)
  /-- DEAD_DIE_RECOVERY (R74): what the media deliver to the reads of the rebuild. -/
  | deadDieRecovery (n pg : Nat) (ev : RdEnv)
  /-- CROSSBAR_SELF_CHECK (R68). -/
  | crossbarSelfCheck (q : Nat) (ok : Bool)
  /-- SECURE_DISCARD_RESUME (R213). -/
  | secureDiscardResume
  /-- REKEY_RESUME (R282). -/
  | rekeyResume
  /-- BANK_TEST (R514): V1 in mV, and the time to V1 - 1 V in ns. -/
  | bankTest (v1 t : Nat)
  /-- BANK_TEST_DUE (R515). -/
  | bankTestDue (cause : Nat)
  /-- BANK_VOLTAGE_LOW (R592). -/
  | bankVoltageLow
  /-- AUTOMATIC_MODE_CHANGE (R494). -/
  | automaticModeChange
  /-- BROWNOUT (R524). -/
  | brownout
  /-- FLUSH_END (R525): cut at VCOMMIT; positions written per home. -/
  | flushEnd (cut : Bool) (pos : List Nat)
  /-- COMMIT_END (R528). -/
  | commitEnd
  /-- SUPPLY_RETURN (R527). -/
  | supplyReturn
  /-- VIN_OVERVOLTAGE (R511). -/
  | vinOvervoltage
  /-- RAIL_STEP (R518). -/
  | railStep (k : Nat)
  /-- RAIL_STEP_DONE (R518). -/
  | railStepDone (k vs : Nat)
  /-- RAIL_STEP_FAIL (R519). -/
  | railStepFail (k cause : Nat)
  /-- RAIL_FAULT (R521). -/
  | railFault (k cause vs : Nat)
  /-- RAIL_DISCHARGED (R520). -/
  | railDischarged (k : Nat) (timeout : Bool)
  /-- RAILS_DOWN_COMPLETE (R528). -/
  | railsDownComplete
  /-- MINIMUM_OFF_TIME_END (R528). -/
  | minimumOffTimeEnd
  /-- ORDERLY_SHUTDOWN (R523). -/
  | orderlyShutdown (step : Nat)
  /-- STEP (R533). -/
  | step (k : Nat)
  /-- DOWN (R523). -/
  | down
  /-- FLUSH (R536). -/
  | flush
  /-- SEQ_FIX (R605). -/
  | seqFix (arg : Nat)
  /-- STATUS (R531). -/
  | status
  /-- CHART (R532). -/
  | chart (blk : Nat) (data : List Byte) (crc : Nat)
  /-- SEQ_NOACK (R531). -/
  | seqNoack (addr cmd : Nat)
  /-- LINE_FLUSH (R535). -/
  | lineFlush
  /-- SEQ_ORPHAN (R534). -/
  | seqOrphan
  /-- SEQ_DISCOVERY (R532): status words of slaves 1 to 7, none where not acknowledged. -/
  | seqDiscovery (resp : List (Option Nat))
  /-- SEQ_GROUP_POLL (R533). -/
  | seqGroupPoll (resp : List (Option Nat))
  /-- WATCH_POWER_ON (R543). -/
  | watchPowerOn
  /-- WATCH_STOP (R510). -/
  | watchStop
  /-- CRYSTAL_SWITCH (R544). -/
  | crystalSwitch
  /-- CRYSTAL_FAIL (R545). -/
  | crystalFail (cause : Nat)
  /-- WAKE_EDGE (R559): the tick from which the input holds its new level. -/
  | wakeEdge (i since : Nat)
  /-- WAKE_LEVEL (R559): the tick from which the input holds its active level. -/
  | wakeLevel (i since : Nat)
  /-- WAKE_RELEASE_OFF (R560): the tick from which the input holds its inactive level. -/
  | wakeReleaseOff (i since : Nat)
  /-- WCH_ALARM (R543). -/
  | wchAlarm
  /-- RESET_N (R658). -/
  | resetN
  /-- DEVICE_RESET (R568). -/
  | deviceReset (code : Nat)
  /-- RESET_FLUSH_END (R568). -/
  | resetFlushEnd (cut : Bool) (pos : List Nat)
  /-- CHIP_WATCHDOG (R565). -/
  | chipWatchdog
  /-- DOZE_ENTRY (R552). -/
  | dozeEntry
  /-- DOZE_REACHED (R553). -/
  | dozeReached
  /-- PAD_HOLD_LATCH (R562). -/
  | padHoldLatch
  /-- MAINTENANCE_WAKE (R554). -/
  | maintenanceWake
  /-- DOZE_WAKE (R555). -/
  | dozeWake (src : Nat)
  /-- OPTION_LOAD (R571): BOOT, CLKMODE, SEQROLE, SEQ_ID. -/
  | optionLoad (straps : List Nat)
  /-- REFERENCE_CHECK (R549). -/
  | referenceCheck (usable present : Bool)
  /-- PLL_LOCK (R551). -/
  | pllLock
  /-- MEDIA_INITIALISATION (R575). -/
  | mediaInitialisation
  /-- RECOVERY (R246). -/
  | recovery (ev : RecEnv)
  /-- CHART_APPLY (R480). -/
  | chartApply
  /-- ACTIVE_REACHED (R576). -/
  | activeReached (p : Nat)
  /-- NO_LINK_TIMEOUT (R577). -/
  | noLinkTimeout
  /-- HEARTBEAT_TIMEOUT (R594). -/
  | heartbeatTimeout
  /-- PLL_UNLOCK (R593). -/
  | pllUnlock (which : Nat)
  /-- CLOCK_DEVIATION (R593). -/
  | clockDeviation
  /-- SEQUENCER_MISMATCH (R591). -/
  | sequencerMismatch
  /-- SAFE_N_READBACK (R595). -/
  | safeNReadback
  /-- LATENT_FAULT_TEST (R597): mask of mechanisms that failed. -/
  | latentFaultTest (fails : Nat)
  /-- FIX_N_EDGE (R605). -/
  | fixNEdge
  /-- DECK_LOG_FLUSH (R610). -/
  | deckLogFlush (cause : Nat)
  /-- TALLY_DUMP (R616). -/
  | tallyDump
  /-- LOGBOOK_SEGMENT_WRITE (R620). -/
  | logbookSegmentWrite (addr : Nat) (data : List Byte)
  /-- OPERATING_SECOND (R625). -/
  | operatingSecond
  /-- SENSOR_READ (R628). -/
  | sensorRead (kind i : Nat) (v : Option Nat)
  /-- THERMAL_EVALUATION (R634). -/
  | thermalEvaluation
  /-- CRITICAL_TIMEOUT (R637). -/
  | criticalTimeout
  /-- COOL_DOWN_END (R639). -/
  | coolDownEnd
  /-- LL_WINDOW_EXCURSION (R642). -/
  | llWindowExcursion (i : Nat)
  /-- LL_SAMPLE (R643). -/
  | llSample (i code : Nat) (clip : Bool)
  /-- LL_EDGE (R643): ship's time from which the comparator holds its new state. -/
  | llEdge (i : Nat) (level : Bool) (since : Nat)
  /-- LL_FRAME_CLOSE (R645). -/
  | llFrameClose
  /-- LL_LEVEL_WAKE (R649): the tick from which the channel holds its level. -/
  | llLevelWake (i : Nat) (active : Bool) (since : Nat)
  /-- LL_STREAM_CHECK (R644). -/
  | llStreamCheck
  /-- BUILT_IN_SELF_TEST (R596). -/
  | builtInSelfTest (fails : Nat)
  /-- QUIET_CLOCK_GATE (R501). -/
  | quietClockGate
  /-- SANITIZE_RESTART (R324). -/
  | sanitizeRestart
  /-- BROWNOUT_WATCH (R511): mV. -/
  | brownoutWatch (vin : Nat)
  /-- RESET_N_RELEASE (R566). -/
  | resetNRelease
  /-- PLACEMENT_QUEUE_REFILL (R67). -/
  | placementQueueRefill (n kind : Nat)
  deriving DecidableEq, Repr

end Sys2Proof
end

