-- ==== Sys2Proof/Config.lean ====
section
/-! DEFINITION. What the manual leaves open: free values. No constant of this file has a body that a proof can see. -/

namespace Sys2Proof.Config

/-- FREE VALUE: the `k`th value drawn from the on-chip random source (R280, R281). -/
opaque freshKey : Nat → BitVec 128

/-- FREE VALUE: a byte of the Almanac ROM (Table 11.1): the manual gives none of its contents. (DESIGN CHOICE, log entry 155.) -/
opaque romByte : Nat → BitVec 8

/-- FREE VALUE: the Device Serial Number (R298). (DESIGN CHOICE, log entry 156.) -/
opaque serial : BitVec 64

/-- FREE VALUE: the device identity record that GENESIS hashes (Table 8.7). -/
opaque identity : Nat → BitVec 8

/-- FREE VALUE: bytes of standard CXL payloads, capability structures and logs that CXL 3.1, not this manual, lays out.
(DEDUCED, log entry 172.) -/
opaque cxlByte : Nat → BitVec 8

/-- FREE VALUE: the version of the helm patch in slot 2 (Table 9.5). -/
opaque patchVersion : BitVec 32

/-- FREE VALUE: the I3C provisioned ID, and its BCR and DCR (R337). (DESIGN CHOICE, log entry 34.) -/
opaque i3cId : Nat → BitVec 8

/-- FREE VALUE: the default maximum read and write lengths of the I3C target (R337). (DESIGN CHOICE, log entry 35.) -/
opaque i3cMax : Nat → BitVec 16

/-- FREE VALUE: the digest of the block CRCs of a checkpoint copy (Table 7.6), whose block layout the manual leaves open.
(DESIGN CHOICE, log entry 65.) -/
opaque ckptDigest : Nat → BitVec 32

/-- FREE VALUE: a value the manual leaves open, drawn in order. (DESIGN CHOICE, log entry 8.) -/
opaque freeValue : Nat → BitVec 64

/-- FREE VALUE: the TAG of a die-link command (Table 3.7), by ship's time. -/
opaque linkTag : Nat → BitVec 5

/-- FREE VALUE: what decides how many sub-pulses a program or a clear takes (R87, R89), by address and clear count.
(DESIGN CHOICE, log entry 104.) -/
opaque pulses : Nat → BitVec 32

/-- FREE VALUE: the lodestone counts of a service row that a drift fallback retry reads (R127), by ship's time and address. -/
opaque lodestones : Nat → BitVec 64

/-- FREE VALUE: the value of a Tally counter whose event counts cycles, issue slots or flits (R615, Table 17.7), by 256 times ship's time
plus the counter. -/
opaque tallyShare : Nat → BitVec 48

/-- FREE VALUE: what a Fix finds of crossbar occupancy and transfer parity errors (Table 17.3), and which half of a clearing die's cells it
finds in their slice clears (R57), by 512 times ship's time plus the snapshot index. -/
opaque snapShare : Nat → BitVec 64

end Sys2Proof.Config
end

