-- ==== Sys2Proof/Machine/RegTable.lean ====
section
/-! DEFINITION. The registers of the Helm space (Table 9.6): their places, reset values and access codes, and their
fields, from the register tables of the manual. -/

namespace Sys2Proof.Machine

/-- One register or family of registers: first offset, stride, number of instances, width in bits, reset value, and the
bits of each access code of Table 0.3 (a bit in no mask is RO or reserved). -/
structure RegRow where
  base : Nat
  stride : Nat
  count : Nat
  width : Nat
  reset : Nat
  rw : Nat
  w1c : Nat
  w1s : Nat
  wo : Nat
  rwo : Nat
  rwl : Nat
  deriving DecidableEq, Repr

/-- A field of a register: the register's offset, the field's lowest bit and its width. -/
structure Fld where
  off : Nat
  lo : Nat
  w : Nat
  deriving DecidableEq, Repr

/-- Rows of the register map, part 1. -/
def regRows1 : List RegRow := [
  ⟨0x0, 0, 1, 32, 0x50160002, 0x0, 0x0, 0x0, 0x0, 0x0, 0x0⟩ /- DEV_ID -/,
  ⟨0x4, 0, 1, 32, 0x0, 0x0, 0x0, 0x0, 0x0, 0x0, 0x0⟩ /- DEV_LAYOUT -/,
  ⟨0x8, 4, 2, 32, 0x0, 0x7, 0x0, 0x0, 0x0, 0x0, 0x0⟩ /- DEV_PORTCFG -/,
  ⟨0x10, 4, 2, 32, 0x0, 0x0, 0x0, 0x0, 0x0, 0x0, 0x0⟩ /- DEV_PORTSTAT -/,
  ⟨0x18, 0, 1, 32, 0x7, 0x0, 0x0, 0x0, 0x0, 0x0, 0x7⟩ /- DEV_ACCESS -/,
  ⟨0x1c, 0, 1, 32, 0x0, 0x0, 0x0, 0x0, 0x0, 0x0, 0x0⟩ /- DEV_DSC -/,
  ⟨0x20, 0, 1, 32, 0x0, 0x0, 0x3f, 0x0, 0x0, 0x0, 0x0⟩ /- DEV_ALERT -/,
  ⟨0x24, 0, 1, 32, 0x3f, 0x3f, 0x0, 0x0, 0x0, 0x0, 0x0⟩ /- DEV_ALERTEN -/,
  ⟨0x28, 4, 3, 32, 0x0, 0x0, 0xff, 0x0, 0x0, 0x0, 0x0⟩ /- DEV_INTSTAT -/,
  ⟨0x100, 0, 1, 32, 0x0, 0x0, 0x0, 0x0, 0x0, 0x0, 0x0⟩ /- MODE_REQ -/,
  ⟨0x104, 0, 1, 32, 0x0, 0x0, 0x0, 0x0, 0x0, 0x0, 0x0⟩ /- MODE_EFF -/,
  ⟨0x108, 0, 1, 32, 0x0, 0x0, 0x0, 0x0, 0x0, 0x0, 0x0⟩ /- MODE_WHY -/,
  ⟨0x10c, 0, 1, 32, 0x0, 0x0, 0x0, 0x0, 0x0, 0x0, 0x0⟩ /- MODE_STAT -/,
  ⟨0x110, 0, 1, 64, 0x0, 0x0, 0x0, 0x0, 0x0, 0x0, 0x0⟩ /- MODE_POINT -/,
  ⟨0x118, 0, 1, 64, 0x0, 0x0, 0x0, 0x0, 0x0, 0x0, 0x0⟩ /- MODE_PTIME -/,
  ⟨0x200, 0, 1, 32, 0x0, 0x0, 0x0, 0x3, 0x0, 0x0, 0x0⟩ /- PWR_CTL -/,
  ⟨0x204, 0, 1, 32, 0x642138, 0xffffff, 0x0, 0x0, 0x0, 0x0, 0x0⟩ /- PWR_THR -/,
  ⟨0x208, 0, 1, 32, 0x0, 0x0, 0x0, 0x0, 0x0, 0x0, 0x0⟩ /- PWR_STAT -/,
  ⟨0x210, 4, 6, 32, 0x0, 0x0, 0xe, 0x0, 0x0, 0x0, 0x0⟩ /- PWR_RAIL -/,
  ⟨0x230, 0, 1, 64, 0xffff0000, 0x0, 0x0, 0x0, 0x0, 0x0, 0x0⟩ /- PWR_BANK -/]

/-- Rows of the register map, part 2. -/
def regRows2 : List RegRow := [
  ⟨0x238, 0, 1, 64, 0x0, 0x0, 0x0, 0x0, 0x0, 0x0, 0x0⟩ /- PWR_VOLT -/,
  ⟨0x240, 0, 1, 64, 0x0, 0x0, 0x0, 0x0, 0x0, 0x0, 0x0⟩ /- PWR_CNT -/,
  ⟨0x248, 0, 1, 32, 0x1f40096, 0xffffffff, 0x0, 0x0, 0x0, 0x0, 0x0⟩ /- PWR_HBCFG -/,
  ⟨0x24c, 0, 1, 32, 0x0, 0x0, 0x0, 0x0, 0x0, 0x0, 0x0⟩ /- PWR_LOG -/,
  ⟨0x400, 0, 1, 32, 0x0, 0x0, 0x0, 0x0, 0x0, 0x0, 0x0⟩ /- SEQ_CFG -/,
  ⟨0x404, 0, 1, 32, 0x0, 0x0, 0x8, 0x0, 0x0, 0x0, 0x0⟩ /- SEQ_STAT -/,
  ⟨0x408, 0, 1, 32, 0x0, 0x0, 0x0, 0x0, 0xffffffff, 0x0, 0x0⟩ /- SEQ_CMD -/,
  ⟨0x410, 4, 8, 32, 0x0, 0x0, 0x0, 0x0, 0x0, 0x0, 0x0⟩ /- SEQ_RESP -/,
  ⟨0x430, 0, 1, 64, 0x0, 0x0, 0x0, 0x0, 0x0, 0x0, 0x0⟩ /- SEQ_ERR -/,
  ⟨0x500, 0, 1, 32, 0x1, 0x0, 0x0, 0x0, 0x0, 0x0, 0x0⟩ /- WCH_CAUSE -/,
  ⟨0x504, 0, 1, 32, 0x0, 0x0, 0x2, 0x0, 0x0, 0x0, 0x0⟩ /- WCH_STAT -/,
  ⟨0x508, 4, 4, 32, 0x6, 0xff0f, 0x0, 0x0, 0x0, 0x0, 0x0⟩ /- WCH_WAKECFG -/,
  ⟨0x518, 0, 1, 32, 0x0, 0x0, 0x1ff, 0x0, 0x0, 0x0, 0x0⟩ /- WCH_WAKESTAT -/,
  ⟨0x520, 0, 1, 64, 0x0, 0x8000ffffffffffff, 0x0, 0x0, 0x0, 0x0, 0x0⟩ /- WCH_ALARM -/,
  ⟨0x528, 0, 1, 64, 0x0, 0x0, 0x0, 0x0, 0x0, 0x0, 0x0⟩ /- WCH_TICKS -/,
  ⟨0x530, 0, 1, 64, 0x0, 0x0, 0x0, 0x0, 0x0, 0x0, 0x0⟩ /- WCH_DORM -/,
  ⟨0x538, 0, 1, 32, 0x0, 0x4, 0x0, 0x0, 0x2, 0x0, 0x0⟩ /- WCH_PADHOLD -/,
  ⟨0x53c, 0, 1, 32, 0x2101, 0xff01, 0x0, 0x0, 0x0, 0x0, 0x0⟩ /- WCH_DOZECFG -/,
  ⟨0x540, 0, 1, 64, 0xff00, 0xffffffffff, 0x0, 0x0, 0x0, 0x0, 0x0⟩ /- WCH_LLWAKE -/,
  ⟨0x600, 0, 1, 32, 0x0, 0x0, 0x0, 0x0, 0x0, 0x0, 0x0⟩ /- CLK_CFG -/]

/-- Rows of the register map, part 3. -/
def regRows3 : List RegRow := [
  ⟨0x604, 0, 1, 32, 0x0, 0x0, 0x8, 0x0, 0x0, 0x0, 0x0⟩ /- CLK_STAT -/,
  ⟨0x700, 0, 1, 32, 0x0, 0x0, 0x0, 0x0, 0xffff0001, 0x0, 0x0⟩ /- RST_CTL -/,
  ⟨0x704, 0, 1, 32, 0x0, 0x0, 0x0, 0x0, 0x0, 0x0, 0x0⟩ /- RST_STAT -/,
  ⟨0x708, 0, 1, 32, 0x0, 0x0, 0x0, 0x0, 0xffffffff, 0x0, 0x0⟩ /- RST_WDOG -/,
  ⟨0x800, 0, 1, 32, 0x12c0a, 0xffffff, 0x0, 0x0, 0x0, 0x0, 0x0⟩ /- THM_CTL -/,
  ⟨0x804, 0, 1, 32, 0x3e80000, 0x0, 0x0, 0x0, 0x0, 0x0, 0x0⟩ /- THM_STAT -/,
  ⟨0x808, 0, 1, 64, 0x0, 0x0, 0x0, 0x0, 0x0, 0x0, 0x0⟩ /- THM_HOT -/,
  ⟨0x810, 0, 1, 32, 0x0, 0x0, 0x0, 0x0, 0x0, 0x0, 0x0⟩ /- THM_EXCL -/,
  ⟨0x840, 4, 16, 32, 0x0, 0x0, 0x0, 0x0, 0x0, 0x0, 0x0⟩ /- THM_MEDIA -/,
  ⟨0x880, 4, 8, 32, 0x0, 0x0, 0x0, 0x0, 0x0, 0x0, 0x0⟩ /- THM_CTRL -/,
  ⟨0x8a0, 8, 8, 64, 0x2710f06000000000, 0xffffffff80000000, 0x0, 0x0, 0x0, 0x0, 0x0⟩ /- THM_AUX -/,
  ⟨0xa00, 0, 1, 32, 0xa0000, 0xff0fff, 0x0, 0x0, 0x0, 0x0, 0x0⟩ /- LLN_CTL -/,
  ⟨0xa04, 0, 1, 32, 0x0, 0x0, 0xff0002, 0x0, 0x0, 0x0, 0x0⟩ /- LLN_STAT -/,
  ⟨0xa08, 0, 1, 64, 0x0, 0x0, 0x0, 0x0, 0x0, 0x0, 0x0⟩ /- LLN_DROP -/,
  ⟨0xa40, 8, 8, 64, 0x3e8, 0xffffffff7f00ffff, 0x0, 0x0, 0x0, 0x0, 0x0⟩ /- LLN_CH -/,
  ⟨0xa80, 4, 8, 32, 0xfff0000, 0xfff0fff, 0x0, 0x0, 0x0, 0x0, 0x0⟩ /- LLN_WIN -/,
  ⟨0xaa0, 4, 8, 32, 0x0, 0x0, 0x0, 0x0, 0x0, 0x0, 0x0⟩ /- LLN_VAL -/,
  ⟨0xc00, 0, 1, 32, 0x0, 0x0, 0x8, 0x0, 0x0, 0x0, 0x0⟩ /- SAF_STAT -/,
  ⟨0xc04, 0, 1, 32, 0x0, 0x0, 0x0, 0x0, 0x0, 0x0, 0x0⟩ /- SAF_SCOPE -/,
  ⟨0xc08, 0, 1, 64, 0x0, 0x0, 0x0, 0x0, 0x0, 0x0, 0x0⟩ /- SAF_FIRST -/]

/-- Rows of the register map, part 4. -/
def regRows4 : List RegRow := [
  ⟨0xc10, 0, 1, 64, 0x0, 0x0, 0x0, 0x0, 0x0, 0x0, 0x0⟩ /- SAF_FTIME -/,
  ⟨0xc18, 0, 1, 64, 0x0, 0x0, 0x0, 0x0, 0x0, 0x0, 0x0⟩ /- SAF_LFT -/,
  ⟨0xc20, 0, 1, 32, 0x0, 0x0, 0x0, 0x0, 0xffffff, 0x0, 0x0⟩ /- SAF_INJ -/,
  ⟨0xc28, 0, 1, 64, 0x0, 0x0, 0x0, 0x0, 0x0, 0x0, 0x0⟩ /- SAF_LFTOPS -/,
  ⟨0xe00, 8, 32, 64, 0x0, 0x0, 0x0, 0x0, 0x0, 0x0, 0x0⟩ /- QDR_SNAP -/,
  ⟨0x1000, 0, 1, 32, 0x102, 0xff02, 0x0, 0x0, 0x1, 0x0, 0x0⟩ /- FIX_CTL -/,
  ⟨0x1004, 0, 1, 32, 0x0, 0x0, 0x0, 0x0, 0x0, 0x0, 0x0⟩ /- FIX_NUM -/,
  ⟨0x1008, 0, 1, 64, 0x0, 0x0, 0x0, 0x0, 0x0, 0x0, 0x0⟩ /- FIX_TIME -/,
  ⟨0x1010, 0, 1, 64, 0x0, 0x0, 0x0, 0x0, 0x0, 0x0, 0x0⟩ /- FIX_CSN -/,
  ⟨0x1018, 0, 1, 32, 0x0, 0x0, 0x0, 0x0, 0x0, 0x0, 0x0⟩ /- FIX_SRC -/,
  ⟨0x1100, 8, 32, 64, 0x0, 0x0, 0x0, 0x0, 0x0, 0x0, 0x0⟩ /- FIX_CHIP -/,
  ⟨0x1800, 8, 256, 64, 0x0, 0x0, 0x0, 0x0, 0x0, 0x0, 0x0⟩ /- FIX_PNT -/,
  ⟨0x2000, 0, 1, 32, 0xa00ff, 0xff00ff, 0x0, 0x0, 0x0, 0x0, 0x0⟩ /- DECK_CFG -/,
  ⟨0x2008, 0, 1, 64, 0x0, 0x0, 0x0, 0x0, 0x0, 0x0, 0x0⟩ /- DECK_STAT -/,
  ⟨0x2040, 4, 32, 32, 0x1ff01ff, 0x1ff01ff, 0x0, 0x0, 0x0, 0x0, 0x0⟩ /- DECK_SEL -/,
  ⟨0x2400, 0, 1, 32, 0x3e8, 0x3fff, 0x0, 0x0, 0x0, 0x0, 0x0⟩ /- TAL_CFG -/,
  ⟨0x2408, 0, 1, 64, 0x0, 0x0, 0x1, 0x0, 0x0, 0x0, 0x0⟩ /- TAL_STAT -/,
  ⟨0x2440, 4, 44, 32, 0x0, 0xffffffff, 0x0, 0x0, 0x0, 0x0, 0x0⟩ /- TAL_SEL -/,
  ⟨0x2500, 8, 176, 64, 0x0, 0x0, 0x0, 0x0, 0x0, 0x0, 0x0⟩ /- TAL_CNT -/,
  ⟨0x2c00, 0, 1, 32, 0x0, 0x0, 0x0, 0x0, 0x0, 0x0, 0x0⟩ /- LBK_STAT -/]

/-- Rows of the register map, part 5. -/
def regRows5 : List RegRow := [
  ⟨0x2c08, 0, 1, 64, 0x0, 0x0, 0x0, 0x0, 0x0, 0x0, 0x0⟩ /- LBK_WRITES -/,
  ⟨0x3000, 0, 1, 64, 0x0, 0x0, 0x0, 0x0, 0x0, 0x0, 0x0⟩ /- PNT_HOMEMAP -/,
  ⟨0x3008, 0, 1, 64, 0x5f5e100, 0x0, 0x100000000, 0x0, 0x0, 0x0, 0xffffffff⟩ /- PNT_RETIRE -/,
  ⟨0x3010, 0, 1, 32, 0x40, 0xffff, 0x0, 0x0, 0x0, 0x0, 0x0⟩ /- PNT_DEADLIM -/,
  ⟨0x3040, 4, 16, 32, 0x0, 0x0, 0x400, 0x0, 0x0, 0x0, 0x0⟩ /- PNT_STAT -/,
  ⟨0x3080, 4, 16, 32, 0x0, 0x0, 0x0, 0x0, 0x0, 0x0, 0x0⟩ /- PNT_LINK -/,
  ⟨0x30c0, 4, 16, 32, 0x0, 0x0, 0x80000000, 0x0, 0x0, 0x0, 0x0⟩ /- PNT_MEDSTAT -/,
  ⟨0x3100, 4, 16, 32, 0x30000000, 0xff000000, 0x0, 0x0, 0x0, 0x0, 0x0⟩ /- PNT_CLRPOOL -/,
  ⟨0x3180, 8, 16, 64, 0x20210420a318, 0xffffffffffff, 0x0, 0x0, 0x0, 0x0, 0x0⟩ /- PNT_ARB -/,
  ⟨0x3200, 8, 16, 64, 0x0, 0x0, 0x0, 0x0, 0x0, 0x0, 0x0⟩ /- PNT_LINKERR -/,
  ⟨0x3800, 0, 1, 32, 0x55800000, 0xffff0000, 0x100, 0x0, 0x0, 0x0, 0x0⟩ /- DRF_CTL -/,
  ⟨0x3804, 0, 1, 32, 0x857f6b, 0xffffff, 0x0, 0x0, 0x0, 0x0, 0x0⟩ /- DRF_WEIGHT -/,
  ⟨0x3808, 0, 1, 32, 0x8013a, 0xffffff, 0x0, 0x0, 0x0, 0x0, 0x0⟩ /- DRF_REFRESH -/,
  ⟨0x380c, 0, 1, 32, 0x3c1000, 0xffffffff, 0x0, 0x0, 0x0, 0x0, 0x0⟩ /- DRF_SAMPLE -/,
  ⟨0x3880, 8, 16, 64, 0x0, 0x0, 0x0, 0x0, 0x0, 0x0, 0x0⟩ /- DRF_ECLK -/,
  ⟨0x3900, 8, 16, 64, 0x0, 0x0, 0x0, 0x0, 0x0, 0x0, 0x0⟩ /- DRF_STAT -/,
  ⟨0x3c00, 0, 1, 32, 0x10088c0, 0xffffff0, 0x0, 0x0, 0x0, 0x0, 0x0⟩ /- OVL_CTL -/,
  ⟨0x3c04, 0, 1, 32, 0x3c003000, 0xffffffff, 0x0, 0x0, 0x0, 0x0, 0x0⟩ /- OVL_MARK -/,
  ⟨0x3c08, 0, 1, 32, 0x8, 0x1f, 0x0, 0x0, 0x0, 0x0, 0x0⟩ /- OVL_VERIFY -/,
  ⟨0x3c80, 8, 16, 64, 0x0, 0x0, 0x0, 0x0, 0x0, 0x0, 0x0⟩ /- OVL_OCC -/]

/-- Rows of the register map, part 6. -/
def regRows6 : List RegRow := [
  ⟨0x3d00, 8, 16, 64, 0x0, 0x0, 0x0, 0x0, 0x0, 0x0, 0x0⟩ /- OVL_STAT -/,
  ⟨0x3e00, 0, 1, 32, 0x3e820080, 0xfffff0f0, 0x0, 0x0, 0x0, 0x0, 0x0⟩ /- MAP_CTL -/,
  ⟨0x3e08, 0, 1, 64, 0x0, 0x0, 0x0, 0x0, 0x0, 0x0, 0x0⟩ /- MAP_CKPT -/,
  ⟨0x3e10, 0, 1, 64, 0x0, 0x0, 0x0, 0x0, 0x0, 0x0, 0x0⟩ /- MAP_LOGS -/,
  ⟨0x3e18, 0, 1, 64, 0x0, 0x0, 0x0, 0x0, 0x0, 0x0, 0x0⟩ /- MAP_REPLAY -/,
  ⟨0x3e80, 8, 16, 64, 0x0, 0x0, 0x0, 0x0, 0x0, 0x0, 0x0⟩ /- MAP_CACHE -/,
  ⟨0x4000, 0, 1, 64, 0x1001e8480, 0x1ffffffff, 0x0, 0x0, 0x0, 0x0, 0x0⟩ /- WLV_CTL -/,
  ⟨0x4008, 0, 1, 64, 0x0, 0x0, 0x0, 0x0, 0x0, 0x0, 0x0⟩ /- WLV_CAP -/,
  ⟨0x4010, 0, 1, 64, 0x0, 0x0, 0x0, 0x0, 0x0, 0x0, 0x0⟩ /- WLV_FREE -/,
  ⟨0x4018, 0, 1, 64, 0x0, 0x0, 0x0, 0x0, 0x0, 0x0, 0x0⟩ /- WLV_STAT -/,
  ⟨0x4020, 0, 1, 64, 0x0, 0x0, 0x0, 0x0, 0x0, 0x0, 0x0⟩ /- WLV_SDISC -/,
  ⟨0x4040, 4, 16, 32, 0x0, 0x0, 0x0, 0x0, 0x0, 0x0, 0x0⟩ /- WLV_ALLOW -/,
  ⟨0x4080, 8, 16, 64, 0x0, 0x0, 0x0, 0x0, 0x0, 0x0, 0x0⟩ /- WLV_PLACE -/,
  ⟨0x4100, 8, 16, 64, 0x0, 0x0, 0x0, 0x0, 0x0, 0x0, 0x0⟩ /- WLV_ROOT -/,
  ⟨0x4180, 8, 16, 64, 0x0, 0x0, 0x0, 0x0, 0x0, 0x0, 0x0⟩ /- WLV_SUM -/,
  ⟨0x4400, 0, 1, 32, 0x0, 0x0, 0x0, 0x0, 0x0, 0x0, 0x0⟩ /- SCR_KEYSTAT -/,
  ⟨0x4408, 0, 1, 64, 0x0, 0x0, 0x1, 0x0, 0x0, 0x0, 0x0⟩ /- SCR_STAT -/,
  ⟨0x4410, 0, 1, 64, 0x0, 0x0, 0x0, 0x0, 0x0, 0x0, 0x0⟩ /- SCR_ECC -/,
  ⟨0x4418, 0, 1, 64, 0x0, 0x0, 0x0, 0x0, 0x0, 0x0, 0x0⟩ /- SCR_SEALHEAD -/,
  ⟨0x4440, 8, 8, 64, 0x0, 0x0, 0x0, 0x0, 0x0, 0x0, 0x0⟩ /- SCR_RANGE -/]

/-- Rows of the register map, part 7. -/
def regRows7 : List RegRow := [
  ⟨0x4480, 4, 8, 32, 0x0, 0x0, 0x0, 0x0, 0x0, 0x0, 0x0⟩ /- SCR_SEALLINK -/,
  ⟨0x4600, 0, 1, 64, 0x0, 0x0, 0x70000, 0x0, 0x0, 0x0, 0x0⟩ /- STR_GSTAT -/,
  ⟨0x4608, 0, 1, 32, 0x0, 0xfff, 0x0, 0x0, 0x0, 0x0, 0x0⟩ /- STR_SEL -/,
  ⟨0x4610, 8, 8, 64, 0x0, 0x0, 0x0, 0x0, 0x0, 0x0, 0x0⟩ /- STR_VIEW -/,
  ⟨0x4650, 0, 1, 64, 0x0, 0xffffffffffffffff, 0x0, 0x0, 0x0, 0x0, 0x0⟩ /- STR_TRIGTIME -/,
  ⟨0x4658, 0, 1, 32, 0x0, 0x0, 0x0, 0x0, 0xff000fff, 0x0, 0x0⟩ /- STR_ACT -/,
  ⟨0x4660, 8, 2, 32, 0x0, 0x0, 0x0, 0x0, 0x0, 0x0, 0x0⟩ /- STR_NOTE -/,
  ⟨0x5000, 16, 3, 32, 0x0, 0xf, 0x0, 0x0, 0x0, 0x0, 0x0⟩ /- ORD_SQ -/,
  ⟨0x5004, 16, 3, 32, 0x1000, 0xf, 0x0, 0x0, 0x0, 0x0, 0x0⟩ /- ORD_CQ -/,
  ⟨0x5008, 16, 3, 64, 0x0, 0x0, 0x5, 0x0, 0x0, 0x0, 0x0⟩ /- ORD_STAT -/,
  ⟨0x5040, 0, 1, 64, 0x0, 0x0, 0x0, 0x0, 0x0, 0x0, 0x0⟩ /- ORD_CHART -/,
  ⟨0x5048, 0, 1, 32, 0x30002, 0x0, 0x0, 0x0, 0x0, 0x0, 0x0⟩ /- ORD_ALMANAC -/,
  ⟨0x8000, 8, 4096, 64, 0x0, 0xffffffffff, 0x0, 0x0, 0x0, 0x0, 0x0⟩ /- STR_CTL -/]

/-- The register map, by rising offset (Table 9.6, Table 9.10 and the register tables of each chapter). -/
def regRows : List RegRow := regRows1 ++ regRows2 ++ regRows3 ++ regRows4 ++ regRows5 ++ regRows6 ++ regRows7

end Sys2Proof.Machine
end

