-- ==== Sys2Proof/Machine/Fields.lean ====
section
/-! DEFINITION. The register fields of the Helm space under their names in the manual. -/

namespace Sys2Proof.Machine

/-- PNT_ARB[i].CLR_FLOOR. -/
def PNT_ARB.CLR_FLOOR (i : Nat) : Fld := ⟨0x3180 + 8 * i, 42, 6⟩
/-- PNT_ARB[i].SCRUB. -/
def PNT_ARB.SCRUB (i : Nat) : Fld := ⟨0x3180 + 8 * i, 36, 6⟩
/-- PNT_ARB[i].VERIFY. -/
def PNT_ARB.VERIFY (i : Nat) : Fld := ⟨0x3180 + 8 * i, 30, 6⟩
/-- PNT_ARB[i].REFRESH. -/
def PNT_ARB.REFRESH (i : Nat) : Fld := ⟨0x3180 + 8 * i, 24, 6⟩
/-- PNT_ARB[i].CLEAR. -/
def PNT_ARB.CLEAR (i : Nat) : Fld := ⟨0x3180 + 8 * i, 18, 6⟩
/-- PNT_ARB[i].FOLD. -/
def PNT_ARB.FOLD (i : Nat) : Fld := ⟨0x3180 + 8 * i, 12, 6⟩
/-- PNT_ARB[i].STREAM. -/
def PNT_ARB.STREAM (i : Nat) : Fld := ⟨0x3180 + 8 * i, 6, 6⟩
/-- PNT_ARB[i].HOST. -/
def PNT_ARB.HOST (i : Nat) : Fld := ⟨0x3180 + 8 * i, 0, 6⟩
/-- PNT_DEADLIM.UNC_LIMIT. -/
def PNT_DEADLIM.UNC_LIMIT : Fld := ⟨0x3010, 0, 16⟩
/-- PNT_STAT[i].CELL_FAILED_V. -/
def PNT_STAT.CELL_FAILED_V (i : Nat) : Fld := ⟨0x3040 + 4 * i, 21, 1⟩
/-- PNT_STAT[i].CELL_FAILED. -/
def PNT_STAT.CELL_FAILED (i : Nat) : Fld := ⟨0x3040 + 4 * i, 16, 5⟩
/-- PNT_STAT[i].CLR_FLOOR_ACT. -/
def PNT_STAT.CLR_FLOOR_ACT (i : Nat) : Fld := ⟨0x3040 + 4 * i, 11, 1⟩
/-- PNT_STAT[i].ARB_REJ. -/
def PNT_STAT.ARB_REJ (i : Nat) : Fld := ⟨0x3040 + 4 * i, 10, 1⟩
/-- PNT_STAT[i].ENG_RETIRED. -/
def PNT_STAT.ENG_RETIRED (i : Nat) : Fld := ⟨0x3040 + 4 * i, 9, 1⟩
/-- PNT_STAT[i].ENG_FAULT. -/
def PNT_STAT.ENG_FAULT (i : Nat) : Fld := ⟨0x3040 + 4 * i, 8, 1⟩
/-- PNT_STAT[i].ADOPTED_HOME. -/
def PNT_STAT.ADOPTED_HOME (i : Nat) : Fld := ⟨0x3040 + 4 * i, 4, 4⟩
/-- PNT_STAT[i].ADOPTED. -/
def PNT_STAT.ADOPTED (i : Nat) : Fld := ⟨0x3040 + 4 * i, 2, 1⟩
/-- PNT_STAT[i].STATE. -/
def PNT_STAT.STATE (i : Nat) : Fld := ⟨0x3040 + 4 * i, 0, 2⟩
/-- PNT_HOMEMAP.HOME field `m`. -/
def PNT_HOMEMAP.HOME (m : Nat) : Fld := ⟨0x3000, 4 * m, 4⟩
/-- PNT_RETIRE.LIMIT_HIGH. -/
def PNT_RETIRE.LIMIT_HIGH : Fld := ⟨0x3008, 33, 1⟩
/-- PNT_RETIRE.LIMIT_REJ. -/
def PNT_RETIRE.LIMIT_REJ : Fld := ⟨0x3008, 32, 1⟩
/-- PNT_RETIRE.LIMIT. -/
def PNT_RETIRE.LIMIT : Fld := ⟨0x3008, 0, 32⟩
/-- PNT_LINK[i].RETRAINS. -/
def PNT_LINK.RETRAINS (i : Nat) : Fld := ⟨0x3080 + 4 * i, 16, 8⟩
/-- PNT_LINK[i].LAST_CAUSE. -/
def PNT_LINK.LAST_CAUSE (i : Nat) : Fld := ⟨0x3080 + 4 * i, 8, 4⟩
/-- PNT_LINK[i].STATE. -/
def PNT_LINK.STATE (i : Nat) : Fld := ⟨0x3080 + 4 * i, 0, 3⟩
/-- PNT_LINKERR[i].TIMEOUTS. -/
def PNT_LINKERR.TIMEOUTS (i : Nat) : Fld := ⟨0x3200 + 8 * i, 48, 16⟩
/-- PNT_LINKERR[i].BURST_FAIL. -/
def PNT_LINKERR.BURST_FAIL (i : Nat) : Fld := ⟨0x3200 + 8 * i, 32, 16⟩
/-- PNT_LINKERR[i].RESENDS. -/
def PNT_LINKERR.RESENDS (i : Nat) : Fld := ⟨0x3200 + 8 * i, 0, 32⟩
/-- PNT_MEDSTAT[i].REPROG_REJ. -/
def PNT_MEDSTAT.REPROG_REJ (i : Nat) : Fld := ⟨0x30c0 + 4 * i, 31, 1⟩
/-- PNT_MEDSTAT[i].SLICE_RET. -/
def PNT_MEDSTAT.SLICE_RET (i : Nat) : Fld := ⟨0x30c0 + 4 * i, 12, 18⟩
/-- PNT_MEDSTAT[i].VFY_RELOC. -/
def PNT_MEDSTAT.VFY_RELOC (i : Nat) : Fld := ⟨0x30c0 + 4 * i, 0, 12⟩
/-- DRF_CTL.DORM_T. -/
def DRF_CTL.DORM_T : Fld := ⟨0x3800, 24, 8⟩
/-- DRF_CTL.GAIN. -/
def DRF_CTL.GAIN : Fld := ⟨0x3800, 16, 8⟩
/-- DRF_CTL.PHI_DEV. -/
def DRF_CTL.PHI_DEV : Fld := ⟨0x3800, 8, 1⟩
/-- DRF_CTL.SURVEY_DONE. -/
def DRF_CTL.SURVEY_DONE : Fld := ⟨0x3800, 0, 1⟩
/-- DRF_WEIGHT.W_C. -/
def DRF_WEIGHT.W_C : Fld := ⟨0x3804, 16, 8⟩
/-- DRF_WEIGHT.W_B. -/
def DRF_WEIGHT.W_B : Fld := ⟨0x3804, 8, 8⟩
/-- DRF_WEIGHT.W_A. -/
def DRF_WEIGHT.W_A : Fld := ⟨0x3804, 0, 8⟩
/-- DRF_REFRESH.URGENT. -/
def DRF_REFRESH.URGENT : Fld := ⟨0x3808, 12, 12⟩
/-- DRF_REFRESH.MARGIN. -/
def DRF_REFRESH.MARGIN : Fld := ⟨0x3808, 0, 12⟩
/-- DRF_SAMPLE.PERIOD. -/
def DRF_SAMPLE.PERIOD : Fld := ⟨0x380c, 16, 16⟩
/-- DRF_SAMPLE.READS. -/
def DRF_SAMPLE.READS : Fld := ⟨0x380c, 0, 16⟩
/-- DRF_ECLK[i].ECLK. -/
def DRF_ECLK.ECLK (i : Nat) : Fld := ⟨0x3880 + 8 * i, 0, 64⟩
/-- DRF_STAT[i].LOW_MARGIN. -/
def DRF_STAT.LOW_MARGIN (i : Nat) : Fld := ⟨0x3900 + 8 * i, 48, 16⟩
/-- DRF_STAT[i].RETRY_FAIL. -/
def DRF_STAT.RETRY_FAIL (i : Nat) : Fld := ⟨0x3900 + 8 * i, 32, 16⟩
/-- DRF_STAT[i].RETRIES. -/
def DRF_STAT.RETRIES (i : Nat) : Fld := ⟨0x3900 + 8 * i, 0, 32⟩
/-- OVL_CTL.PAGE_WAIT. -/
def OVL_CTL.PAGE_WAIT : Fld := ⟨0x3c00, 20, 8⟩
/-- OVL_CTL.SECT_WAIT. -/
def OVL_CTL.SECT_WAIT : Fld := ⟨0x3c00, 12, 8⟩
/-- OVL_CTL.FOLD_SECT. -/
def OVL_CTL.FOLD_SECT : Fld := ⟨0x3c00, 8, 4⟩
/-- OVL_CTL.REMAP_MIN. -/
def OVL_CTL.REMAP_MIN : Fld := ⟨0x3c00, 4, 4⟩
/-- OVL_MARK.HIGH. -/
def OVL_MARK.HIGH : Fld := ⟨0x3c04, 16, 16⟩
/-- OVL_MARK.LOW. -/
def OVL_MARK.LOW : Fld := ⟨0x3c04, 0, 16⟩
/-- OVL_VERIFY.MARGIN_BITS. -/
def OVL_VERIFY.MARGIN_BITS : Fld := ⟨0x3c08, 0, 5⟩
/-- OVL_OCC[i].PEAK. -/
def OVL_OCC.PEAK (i : Nat) : Fld := ⟨0x3c80 + 8 * i, 32, 19⟩
/-- OVL_OCC[i].COUNT. -/
def OVL_OCC.COUNT (i : Nat) : Fld := ⟨0x3c80 + 8 * i, 0, 19⟩
/-- OVL_STAT[i].SET_FULL. -/
def OVL_STAT.SET_FULL (i : Nat) : Fld := ⟨0x3d00 + 8 * i, 48, 16⟩
/-- OVL_STAT[i].MASKED. -/
def OVL_STAT.MASKED (i : Nat) : Fld := ⟨0x3d00 + 8 * i, 32, 16⟩
/-- OVL_STAT[i].FOLDS. -/
def OVL_STAT.FOLDS (i : Nat) : Fld := ⟨0x3d00 + 8 * i, 0, 32⟩
/-- PNT_CLRPOOL[i].TARGET. -/
def PNT_CLRPOOL.TARGET (i : Nat) : Fld := ⟨0x3100 + 4 * i, 24, 8⟩
/-- PNT_CLRPOOL[i].AWAIT. -/
def PNT_CLRPOOL.AWAIT (i : Nat) : Fld := ⟨0x3100 + 4 * i, 12, 12⟩
/-- PNT_CLRPOOL[i].CLEARED. -/
def PNT_CLRPOOL.CLEARED (i : Nat) : Fld := ⟨0x3100 + 4 * i, 0, 12⟩
/-- WLV_CTL.FOLD_OLD. -/
def WLV_CTL.FOLD_OLD : Fld := ⟨0x4000, 32, 1⟩
/-- WLV_CTL.SPREAD. -/
def WLV_CTL.SPREAD : Fld := ⟨0x4000, 0, 32⟩
/-- WLV_CAP.STATE. -/
def WLV_CAP.STATE : Fld := ⟨0x4008, 62, 2⟩
/-- WLV_CAP.BERTH_LOW. -/
def WLV_CAP.BERTH_LOW : Fld := ⟨0x4008, 61, 1⟩
/-- WLV_CAP.LIFE_USED. -/
def WLV_CAP.LIFE_USED : Fld := ⟨0x4008, 53, 7⟩
/-- WLV_CAP.SPARE_PCT. -/
def WLV_CAP.SPARE_PCT : Fld := ⟨0x4008, 46, 7⟩
/-- WLV_CAP.SPARE. -/
def WLV_CAP.SPARE : Fld := ⟨0x4008, 0, 32⟩
/-- WLV_FREE.BERTH. -/
def WLV_FREE.BERTH : Fld := ⟨0x4010, 32, 16⟩
/-- WLV_FREE.FREE. -/
def WLV_FREE.FREE : Fld := ⟨0x4010, 0, 32⟩
/-- WLV_ALLOW[i].ALLOW. -/
def WLV_ALLOW.ALLOW (i : Nat) : Fld := ⟨0x4040 + 4 * i, 0, 24⟩
/-- WLV_PLACE.SLOT field `m`. -/
def WLV_PLACE.SLOT (i : Nat) (m : Nat) : Fld := ⟨0x4080 + 8 * i, 4 * m, 4⟩
/-- WLV_ROOT[i].MAX. -/
def WLV_ROOT.MAX (i : Nat) : Fld := ⟨0x4100 + 8 * i, 32, 32⟩
/-- WLV_ROOT[i].MIN. -/
def WLV_ROOT.MIN (i : Nat) : Fld := ⟨0x4100 + 8 * i, 0, 32⟩
/-- WLV_SUM[i].COUNT. -/
def WLV_SUM.COUNT (i : Nat) : Fld := ⟨0x4180 + 8 * i, 48, 16⟩
/-- WLV_SUM[i].SUM. -/
def WLV_SUM.SUM (i : Nat) : Fld := ⟨0x4180 + 8 * i, 0, 48⟩
/-- WLV_STAT.LOST_WR. -/
def WLV_STAT.LOST_WR : Fld := ⟨0x4018, 32, 32⟩
/-- WLV_STAT.STATIC. -/
def WLV_STAT.STATIC : Fld := ⟨0x4018, 16, 16⟩
/-- WLV_STAT.UNCERTAIN. -/
def WLV_STAT.UNCERTAIN : Fld := ⟨0x4018, 0, 16⟩
/-- WLV_SDISC.BUSY. -/
def WLV_SDISC.BUSY : Fld := ⟨0x4020, 63, 1⟩
/-- WLV_SDISC.RESUMED. -/
def WLV_SDISC.RESUMED : Fld := ⟨0x4020, 62, 1⟩
/-- WLV_SDISC.REMAIN. -/
def WLV_SDISC.REMAIN : Fld := ⟨0x4020, 0, 32⟩
/-- MAP_CTL.CKPT_PERIOD. -/
def MAP_CTL.CKPT_PERIOD : Fld := ⟨0x3e00, 20, 12⟩
/-- MAP_CTL.CKPT_LOGS. -/
def MAP_CTL.CKPT_LOGS : Fld := ⟨0x3e00, 12, 8⟩
/-- MAP_CTL.DIRTY_MAX. -/
def MAP_CTL.DIRTY_MAX : Fld := ⟨0x3e00, 4, 4⟩
/-- MAP_CKPT.GEN. -/
def MAP_CKPT.GEN : Fld := ⟨0x3e08, 32, 32⟩
/-- MAP_CKPT.ACTIVE. -/
def MAP_CKPT.ACTIVE : Fld := ⟨0x3e08, 31, 1⟩
/-- MAP_CKPT.FALLBACK. -/
def MAP_CKPT.FALLBACK : Fld := ⟨0x3e08, 30, 1⟩
/-- MAP_CKPT.SINGLE. -/
def MAP_CKPT.SINGLE : Fld := ⟨0x3e08, 29, 1⟩
/-- MAP_LOGS.SINCE_DONE. -/
def MAP_LOGS.SINCE_DONE : Fld := ⟨0x3e10, 32, 20⟩
/-- MAP_LOGS.SINCE_CUT. -/
def MAP_LOGS.SINCE_CUT : Fld := ⟨0x3e10, 0, 20⟩
/-- MAP_REPLAY.TIME. -/
def MAP_REPLAY.TIME : Fld := ⟨0x3e18, 48, 16⟩
/-- MAP_REPLAY.SECTORS. -/
def MAP_REPLAY.SECTORS : Fld := ⟨0x3e18, 24, 24⟩
/-- MAP_REPLAY.REENTERED. -/
def MAP_REPLAY.REENTERED : Fld := ⟨0x3e18, 0, 24⟩
/-- MAP_CACHE[i].MISSES. -/
def MAP_CACHE.MISSES (i : Nat) : Fld := ⟨0x3e80 + 8 * i, 32, 32⟩
/-- MAP_CACHE[i].DIRTY. -/
def MAP_CACHE.DIRTY (i : Nat) : Fld := ⟨0x3e80 + 8 * i, 16, 16⟩
/-- MAP_CACHE[i].POISON. -/
def MAP_CACHE.POISON (i : Nat) : Fld := ⟨0x3e80 + 8 * i, 0, 13⟩
/-- SCR_RANGE[i].EN. -/
def SCR_RANGE.EN (i : Nat) : Fld := ⟨0x4440 + 8 * i, 63, 1⟩
/-- SCR_RANGE[i].LIMIT. -/
def SCR_RANGE.LIMIT (i : Nat) : Fld := ⟨0x4440 + 8 * i, 28, 28⟩
/-- SCR_RANGE[i].BASE. -/
def SCR_RANGE.BASE (i : Nat) : Fld := ⟨0x4440 + 8 * i, 0, 28⟩
/-- SCR_KEYSTAT.REKEY_RESUMED. -/
def SCR_KEYSTAT.REKEY_RESUMED : Fld := ⟨0x4400, 21, 1⟩
/-- SCR_KEYSTAT.REKEY_BUSY. -/
def SCR_KEYSTAT.REKEY_BUSY : Fld := ⟨0x4400, 20, 1⟩
/-- SCR_KEYSTAT.REKEY_SLOT. -/
def SCR_KEYSTAT.REKEY_SLOT : Fld := ⟨0x4400, 16, 3⟩
/-- SCR_KEYSTAT.KEYGEN. -/
def SCR_KEYSTAT.KEYGEN : Fld := ⟨0x4400, 8, 8⟩
/-- SCR_KEYSTAT.PRESENT. -/
def SCR_KEYSTAT.PRESENT : Fld := ⟨0x4400, 0, 8⟩
/-- SCR_STAT.ALARMS. -/
def SCR_STAT.ALARMS : Fld := ⟨0x4408, 48, 16⟩
/-- SCR_STAT.EGRESS_FAIL. -/
def SCR_STAT.EGRESS_FAIL : Fld := ⟨0x4408, 32, 16⟩
/-- SCR_STAT.ADMIT_FAIL. -/
def SCR_STAT.ADMIT_FAIL : Fld := ⟨0x4408, 16, 16⟩
/-- SCR_STAT.RANGE_KEPT. -/
def SCR_STAT.RANGE_KEPT : Fld := ⟨0x4408, 1, 1⟩
/-- SCR_STAT.ALARM. -/
def SCR_STAT.ALARM : Fld := ⟨0x4408, 0, 1⟩
/-- SCR_ECC.BYTE_UE. -/
def SCR_ECC.BYTE_UE : Fld := ⟨0x4410, 40, 16⟩
/-- SCR_ECC.BYTE_CE. -/
def SCR_ECC.BYTE_CE : Fld := ⟨0x4410, 20, 20⟩
/-- SCR_ECC.TABLE_CE. -/
def SCR_ECC.TABLE_CE : Fld := ⟨0x4410, 0, 20⟩
/-- SCR_SEALHEAD.NUMBER. -/
def SCR_SEALHEAD.NUMBER : Fld := ⟨0x4418, 0, 64⟩
/-- SCR_SEALLINK[i].LINK. -/
def SCR_SEALLINK.LINK (i : Nat) : Fld := ⟨0x4480 + 4 * i, 0, 32⟩
/-- DEV_ID.PART. -/
def DEV_ID.PART : Fld := ⟨0x0, 16, 16⟩
/-- DEV_ID.HEAD. -/
def DEV_ID.HEAD : Fld := ⟨0x0, 8, 2⟩
/-- DEV_ID.STEPPING. -/
def DEV_ID.STEPPING : Fld := ⟨0x0, 0, 4⟩
/-- DEV_LAYOUT.TWIN. -/
def DEV_LAYOUT.TWIN : Fld := ⟨0x4, 9, 1⟩
/-- DEV_LAYOUT.WIN_GIB. -/
def DEV_LAYOUT.WIN_GIB : Fld := ⟨0x4, 0, 9⟩
/-- DEV_PORTCFG[i].TAGBITS. -/
def DEV_PORTCFG.TAGBITS (i : Nat) : Fld := ⟨0x8 + 4 * i, 0, 3⟩
/-- DEV_PORTSTAT[i].RETRAINS. -/
def DEV_PORTSTAT.RETRAINS (i : Nat) : Fld := ⟨0x10 + 4 * i, 16, 8⟩
/-- DEV_PORTSTAT[i].PERST. -/
def DEV_PORTSTAT.PERST (i : Nat) : Fld := ⟨0x10 + 4 * i, 10, 1⟩
/-- DEV_PORTSTAT[i].L1. -/
def DEV_PORTSTAT.L1 (i : Nat) : Fld := ⟨0x10 + 4 * i, 9, 1⟩
/-- DEV_PORTSTAT[i].FLIT256. -/
def DEV_PORTSTAT.FLIT256 (i : Nat) : Fld := ⟨0x10 + 4 * i, 8, 1⟩
/-- DEV_PORTSTAT[i].WIDTH. -/
def DEV_PORTSTAT.WIDTH (i : Nat) : Fld := ⟨0x10 + 4 * i, 4, 3⟩
/-- DEV_PORTSTAT[i].RATE. -/
def DEV_PORTSTAT.RATE (i : Nat) : Fld := ⟨0x10 + 4 * i, 0, 3⟩
/-- DEV_ACCESS.WRITE. -/
def DEV_ACCESS.WRITE : Fld := ⟨0x18, 0, 3⟩
/-- DEV_DSC.COUNT. -/
def DEV_DSC.COUNT : Fld := ⟨0x1c, 0, 32⟩
/-- DEV_ALERT.CAUSE. -/
def DEV_ALERT.CAUSE : Fld := ⟨0x20, 0, 6⟩
/-- DEV_ALERTEN.EN. -/
def DEV_ALERTEN.EN : Fld := ⟨0x24, 0, 6⟩
/-- DEV_INTSTAT[i].PEND. -/
def DEV_INTSTAT.PEND (i : Nat) : Fld := ⟨0x28 + 4 * i, 0, 8⟩
/-- STR_CTL[i].POST. -/
def STR_CTL.POST (i : Nat) : Fld := ⟨0x8000 + 8 * i, 30, 10⟩
/-- STR_CTL[i].PRE. -/
def STR_CTL.PRE (i : Nat) : Fld := ⟨0x8000 + 8 * i, 20, 10⟩
/-- STR_CTL[i].CREDMAX. -/
def STR_CTL.CREDMAX (i : Nat) : Fld := ⟨0x8000 + 8 * i, 13, 7⟩
/-- STR_CTL[i].CUT. -/
def STR_CTL.CUT (i : Nat) : Fld := ⟨0x8000 + 8 * i, 9, 4⟩
/-- STR_CTL[i].CONS. -/
def STR_CTL.CONS (i : Nat) : Fld := ⟨0x8000 + 8 * i, 7, 2⟩
/-- STR_CTL[i].PROD. -/
def STR_CTL.PROD (i : Nat) : Fld := ⟨0x8000 + 8 * i, 5, 2⟩
/-- STR_CTL[i].FIXTRIG. -/
def STR_CTL.FIXTRIG (i : Nat) : Fld := ⟨0x8000 + 8 * i, 4, 1⟩
/-- STR_CTL[i].NOTIFY. -/
def STR_CTL.NOTIFY (i : Nat) : Fld := ⟨0x8000 + 8 * i, 3, 1⟩
/-- STR_CTL[i].FRAMED. -/
def STR_CTL.FRAMED (i : Nat) : Fld := ⟨0x8000 + 8 * i, 2, 1⟩
/-- STR_CTL[i].RING. -/
def STR_CTL.RING (i : Nat) : Fld := ⟨0x8000 + 8 * i, 1, 1⟩
/-- STR_CTL[i].EN. -/
def STR_CTL.EN (i : Nat) : Fld := ⟨0x8000 + 8 * i, 0, 1⟩
/-- STR_GSTAT.WINDOWS. -/
def STR_GSTAT.WINDOWS : Fld := ⟨0x4600, 48, 13⟩
/-- STR_GSTAT.PRE_STREAMS. -/
def STR_GSTAT.PRE_STREAMS : Fld := ⟨0x4600, 32, 7⟩
/-- STR_GSTAT.TRIG_REJ. -/
def STR_GSTAT.TRIG_REJ : Fld := ⟨0x4600, 18, 1⟩
/-- STR_GSTAT.PRE_REJ. -/
def STR_GSTAT.PRE_REJ : Fld := ⟨0x4600, 17, 1⟩
/-- STR_GSTAT.CTL_REJ. -/
def STR_GSTAT.CTL_REJ : Fld := ⟨0x4600, 16, 1⟩
/-- STR_GSTAT.ENABLED. -/
def STR_GSTAT.ENABLED : Fld := ⟨0x4600, 0, 13⟩
/-- STR_SEL.STREAM. -/
def STR_SEL.STREAM : Fld := ⟨0x4608, 0, 12⟩
/-- STR_TRIGTIME.TIME. -/
def STR_TRIGTIME.TIME : Fld := ⟨0x4650, 0, 64⟩
/-- STR_ACT.ACTION. -/
def STR_ACT.ACTION : Fld := ⟨0x4658, 24, 8⟩
/-- STR_ACT.STREAM. -/
def STR_ACT.STREAM : Fld := ⟨0x4658, 0, 12⟩
/-- STR_VIEW[i].VALUE. -/
def STR_VIEW.VALUE (i : Nat) : Fld := ⟨0x4610 + 8 * i, 0, 64⟩
/-- STR_NOTE[i].VALID. -/
def STR_NOTE.VALID (i : Nat) : Fld := ⟨0x4660 + 8 * i, 31, 1⟩
/-- STR_NOTE[i].OVF. -/
def STR_NOTE.OVF (i : Nat) : Fld := ⟨0x4660 + 8 * i, 30, 1⟩
/-- STR_NOTE[i].CAUSE. -/
def STR_NOTE.CAUSE (i : Nat) : Fld := ⟨0x4660 + 8 * i, 16, 7⟩
/-- STR_NOTE[i].STREAM. -/
def STR_NOTE.STREAM (i : Nat) : Fld := ⟨0x4660 + 8 * i, 0, 12⟩
/-- ORD_SQ[i].HEAD. -/
def ORD_SQ.HEAD (i : Nat) : Fld := ⟨0x5000 + 16 * i, 8, 4⟩
/-- ORD_SQ[i].TAIL. -/
def ORD_SQ.TAIL (i : Nat) : Fld := ⟨0x5000 + 16 * i, 0, 4⟩
/-- ORD_CQ[i].PHASE. -/
def ORD_CQ.PHASE (i : Nat) : Fld := ⟨0x5004 + 16 * i, 12, 1⟩
/-- ORD_CQ[i].TAIL. -/
def ORD_CQ.TAIL (i : Nat) : Fld := ⟨0x5004 + 16 * i, 8, 4⟩
/-- ORD_CQ[i].HEAD. -/
def ORD_CQ.HEAD (i : Nat) : Fld := ⟨0x5004 + 16 * i, 0, 4⟩
/-- ORD_STAT[i].DONE. -/
def ORD_STAT.DONE (i : Nat) : Fld := ⟨0x5008 + 16 * i, 32, 32⟩
/-- ORD_STAT[i].RUNNING. -/
def ORD_STAT.RUNNING (i : Nat) : Fld := ⟨0x5008 + 16 * i, 4, 3⟩
/-- ORD_STAT[i].BAD_HEAD. -/
def ORD_STAT.BAD_HEAD (i : Nat) : Fld := ⟨0x5008 + 16 * i, 2, 1⟩
/-- ORD_STAT[i].STALL. -/
def ORD_STAT.STALL (i : Nat) : Fld := ⟨0x5008 + 16 * i, 1, 1⟩
/-- ORD_STAT[i].BAD_TAIL. -/
def ORD_STAT.BAD_TAIL (i : Nat) : Fld := ⟨0x5008 + 16 * i, 0, 1⟩
/-- ORD_CHART.SEQ. -/
def ORD_CHART.SEQ : Fld := ⟨0x5040, 32, 32⟩
/-- ORD_CHART.REC_REJ. -/
def ORD_CHART.REC_REJ : Fld := ⟨0x5040, 16, 8⟩
/-- ORD_CHART.CAUSE. -/
def ORD_CHART.CAUSE : Fld := ⟨0x5040, 8, 4⟩
/-- ORD_CHART.KEPT. -/
def ORD_CHART.KEPT : Fld := ⟨0x5040, 6, 1⟩
/-- ORD_CHART.SOURCE. -/
def ORD_CHART.SOURCE : Fld := ⟨0x5040, 3, 2⟩
/-- ORD_CHART.SLOT. -/
def ORD_CHART.SLOT : Fld := ⟨0x5040, 1, 1⟩
/-- ORD_CHART.VALID. -/
def ORD_CHART.VALID : Fld := ⟨0x5040, 0, 1⟩
/-- ORD_ALMANAC.VERSION. -/
def ORD_ALMANAC.VERSION : Fld := ⟨0x5048, 0, 32⟩
/-- MODE_REQ.QUIET. -/
def MODE_REQ.QUIET : Fld := ⟨0x100, 11, 1⟩
/-- MODE_REQ.SURVEY. -/
def MODE_REQ.SURVEY : Fld := ⟨0x100, 10, 1⟩
/-- MODE_REQ.LOGLINE. -/
def MODE_REQ.LOGLINE : Fld := ⟨0x100, 9, 1⟩
/-- MODE_REQ.COLD. -/
def MODE_REQ.COLD : Fld := ⟨0x100, 8, 1⟩
/-- MODE_REQ.HOLDUP. -/
def MODE_REQ.HOLDUP : Fld := ⟨0x100, 7, 1⟩
/-- MODE_REQ.LOCKSTEP. -/
def MODE_REQ.LOCKSTEP : Fld := ⟨0x100, 6, 1⟩
/-- MODE_REQ.TWIN. -/
def MODE_REQ.TWIN : Fld := ⟨0x100, 5, 1⟩
/-- MODE_REQ.SCRAMBLE. -/
def MODE_REQ.SCRAMBLE : Fld := ⟨0x100, 4, 1⟩
/-- MODE_REQ.SEAL. -/
def MODE_REQ.SEAL : Fld := ⟨0x100, 3, 1⟩
/-- MODE_REQ.RING. -/
def MODE_REQ.RING : Fld := ⟨0x100, 2, 1⟩
/-- MODE_REQ.STREAM. -/
def MODE_REQ.STREAM : Fld := ⟨0x100, 1, 1⟩
/-- MODE_REQ.WINDOW. -/
def MODE_REQ.WINDOW : Fld := ⟨0x100, 0, 1⟩
/-- MODE_EFF.QUIET. -/
def MODE_EFF.QUIET : Fld := ⟨0x104, 11, 1⟩
/-- MODE_EFF.SURVEY. -/
def MODE_EFF.SURVEY : Fld := ⟨0x104, 10, 1⟩
/-- MODE_EFF.LOGLINE. -/
def MODE_EFF.LOGLINE : Fld := ⟨0x104, 9, 1⟩
/-- MODE_EFF.COLD. -/
def MODE_EFF.COLD : Fld := ⟨0x104, 8, 1⟩
/-- MODE_EFF.HOLDUP. -/
def MODE_EFF.HOLDUP : Fld := ⟨0x104, 7, 1⟩
/-- MODE_EFF.LOCKSTEP. -/
def MODE_EFF.LOCKSTEP : Fld := ⟨0x104, 6, 1⟩
/-- MODE_EFF.TWIN. -/
def MODE_EFF.TWIN : Fld := ⟨0x104, 5, 1⟩
/-- MODE_EFF.SCRAMBLE. -/
def MODE_EFF.SCRAMBLE : Fld := ⟨0x104, 4, 1⟩
/-- MODE_EFF.SEAL. -/
def MODE_EFF.SEAL : Fld := ⟨0x104, 3, 1⟩
/-- MODE_EFF.RING. -/
def MODE_EFF.RING : Fld := ⟨0x104, 2, 1⟩
/-- MODE_EFF.STREAM. -/
def MODE_EFF.STREAM : Fld := ⟨0x104, 1, 1⟩
/-- MODE_EFF.WINDOW. -/
def MODE_EFF.WINDOW : Fld := ⟨0x104, 0, 1⟩
/-- MODE_WHY.LAYOUT_KEPT. -/
def MODE_WHY.LAYOUT_KEPT : Fld := ⟨0x108, 4, 1⟩
/-- MODE_WHY.SURVEY_HOVE. -/
def MODE_WHY.SURVEY_HOVE : Fld := ⟨0x108, 3, 1⟩
/-- MODE_WHY.LOGLINE_NOSTREAM. -/
def MODE_WHY.LOGLINE_NOSTREAM : Fld := ⟨0x108, 2, 1⟩
/-- MODE_WHY.COLD_AUTO. -/
def MODE_WHY.COLD_AUTO : Fld := ⟨0x108, 1, 1⟩
/-- MODE_WHY.HOLDUP_BANK. -/
def MODE_WHY.HOLDUP_BANK : Fld := ⟨0x108, 0, 1⟩
/-- MODE_STAT.CHANGES. -/
def MODE_STAT.CHANGES : Fld := ⟨0x10c, 16, 16⟩
/-- MODE_STAT.AUTO. -/
def MODE_STAT.AUTO : Fld := ⟨0x10c, 1, 1⟩
/-- MODE_STAT.PENDING. -/
def MODE_STAT.PENDING : Fld := ⟨0x10c, 0, 1⟩
/-- MODE_POINT.CSN. -/
def MODE_POINT.CSN : Fld := ⟨0x110, 0, 64⟩
/-- MODE_PTIME.TIME. -/
def MODE_PTIME.TIME : Fld := ⟨0x118, 0, 64⟩
/-- PWR_CTL.BANKTEST. -/
def PWR_CTL.BANKTEST : Fld := ⟨0x200, 1, 1⟩
/-- PWR_CTL.OFF. -/
def PWR_CTL.OFF : Fld := ⟨0x200, 0, 1⟩
/-- PWR_THR.VCOMMIT. -/
def PWR_THR.VCOMMIT : Fld := ⟨0x204, 16, 8⟩
/-- PWR_THR.VHOLD. -/
def PWR_THR.VHOLD : Fld := ⟨0x204, 8, 8⟩
/-- PWR_THR.VBO. -/
def PWR_THR.VBO : Fld := ⟨0x204, 0, 8⟩
/-- PWR_STAT.STAGE. -/
def PWR_STAT.STAGE : Fld := ⟨0x208, 28, 4⟩
/-- PWR_STAT.STEP. -/
def PWR_STAT.STEP : Fld := ⟨0x208, 25, 3⟩
/-- PWR_STAT.OFF_LATCH. -/
def PWR_STAT.OFF_LATCH : Fld := ⟨0x208, 24, 1⟩
/-- PWR_STAT.ON_LATCH. -/
def PWR_STAT.ON_LATCH : Fld := ⟨0x208, 23, 1⟩
/-- PWR_STAT.OV. -/
def PWR_STAT.OV : Fld := ⟨0x208, 22, 1⟩
/-- PWR_STAT.PG. -/
def PWR_STAT.PG : Fld := ⟨0x208, 16, 6⟩
/-- PWR_RAIL[i].VS. -/
def PWR_RAIL.VS (i : Nat) : Fld := ⟨0x210 + 4 * i, 16, 16⟩
/-- PWR_RAIL[i].WIN. -/
def PWR_RAIL.WIN (i : Nat) : Fld := ⟨0x210 + 4 * i, 3, 1⟩
/-- PWR_RAIL[i].DIS_TO. -/
def PWR_RAIL.DIS_TO (i : Nat) : Fld := ⟨0x210 + 4 * i, 2, 1⟩
/-- PWR_RAIL[i].PG_TO. -/
def PWR_RAIL.PG_TO (i : Nat) : Fld := ⟨0x210 + 4 * i, 1, 1⟩
/-- PWR_RAIL[i].ON. -/
def PWR_RAIL.ON (i : Nat) : Fld := ⟨0x210 + 4 * i, 0, 1⟩
/-- PWR_BANK.CAP. -/
def PWR_BANK.CAP : Fld := ⟨0x230, 48, 16⟩
/-- PWR_BANK.ENERGY. -/
def PWR_BANK.ENERGY : Fld := ⟨0x230, 32, 16⟩
/-- PWR_BANK.AGE. -/
def PWR_BANK.AGE : Fld := ⟨0x230, 16, 16⟩
/-- PWR_BANK.RUNNING. -/
def PWR_BANK.RUNNING : Fld := ⟨0x230, 1, 1⟩
/-- PWR_BANK.PASS. -/
def PWR_BANK.PASS : Fld := ⟨0x230, 0, 1⟩
/-- PWR_VOLT.VIN. -/
def PWR_VOLT.VIN : Fld := ⟨0x238, 48, 16⟩
/-- PWR_VOLT.VSYS. -/
def PWR_VOLT.VSYS : Fld := ⟨0x238, 32, 16⟩
/-- PWR_VOLT.BANK. -/
def PWR_VOLT.BANK : Fld := ⟨0x238, 16, 16⟩
/-- PWR_VOLT.WCAP. -/
def PWR_VOLT.WCAP : Fld := ⟨0x238, 0, 16⟩
/-- PWR_CNT.BROWNOUTS. -/
def PWR_CNT.BROWNOUTS : Fld := ⟨0x240, 48, 16⟩
/-- PWR_CNT.RETURNS. -/
def PWR_CNT.RETURNS : Fld := ⟨0x240, 32, 16⟩
/-- PWR_CNT.INCOMPLETE. -/
def PWR_CNT.INCOMPLETE : Fld := ⟨0x240, 16, 16⟩
/-- PWR_CNT.RAIL_FAULTS. -/
def PWR_CNT.RAIL_FAULTS : Fld := ⟨0x240, 8, 8⟩
/-- PWR_CNT.TORN. -/
def PWR_CNT.TORN : Fld := ⟨0x240, 0, 8⟩
/-- PWR_HBCFG.ICHG. -/
def PWR_HBCFG.ICHG : Fld := ⟨0x248, 16, 16⟩
/-- PWR_HBCFG.RT. -/
def PWR_HBCFG.RT : Fld := ⟨0x248, 0, 16⟩
/-- PWR_LOG.SEQ. -/
def PWR_LOG.SEQ : Fld := ⟨0x24c, 8, 24⟩
/-- PWR_LOG.NEXT. -/
def PWR_LOG.NEXT : Fld := ⟨0x24c, 0, 7⟩
/-- SEQ_CFG.MASTER. -/
def SEQ_CFG.MASTER : Fld := ⟨0x400, 4, 1⟩
/-- SEQ_CFG.ID. -/
def SEQ_CFG.ID : Fld := ⟨0x400, 0, 3⟩
/-- SEQ_STAT.PRESENT. -/
def SEQ_STAT.PRESENT : Fld := ⟨0x404, 24, 8⟩
/-- SEQ_STAT.FAILED. -/
def SEQ_STAT.FAILED : Fld := ⟨0x404, 16, 8⟩
/-- SEQ_STAT.ID_BAD. -/
def SEQ_STAT.ID_BAD : Fld := ⟨0x404, 4, 1⟩
/-- SEQ_STAT.LINE_FLUSH. -/
def SEQ_STAT.LINE_FLUSH : Fld := ⟨0x404, 3, 1⟩
/-- SEQ_STAT.ORPHAN. -/
def SEQ_STAT.ORPHAN : Fld := ⟨0x404, 2, 1⟩
/-- SEQ_STAT.CHART_DONE. -/
def SEQ_STAT.CHART_DONE : Fld := ⟨0x404, 1, 1⟩
/-- SEQ_STAT.BUSY. -/
def SEQ_STAT.BUSY : Fld := ⟨0x404, 0, 1⟩
/-- SEQ_CMD.ADDR. -/
def SEQ_CMD.ADDR : Fld := ⟨0x408, 24, 8⟩
/-- SEQ_CMD.CMD. -/
def SEQ_CMD.CMD : Fld := ⟨0x408, 16, 8⟩
/-- SEQ_CMD.ARG. -/
def SEQ_CMD.ARG : Fld := ⟨0x408, 0, 16⟩
/-- SEQ_RESP[i].VALID. -/
def SEQ_RESP.VALID (i : Nat) : Fld := ⟨0x410 + 4 * i, 31, 1⟩
/-- SEQ_RESP[i].NOACK. -/
def SEQ_RESP.NOACK (i : Nat) : Fld := ⟨0x410 + 4 * i, 16, 1⟩
/-- SEQ_RESP[i].STATUS. -/
def SEQ_RESP.STATUS (i : Nat) : Fld := ⟨0x410 + 4 * i, 0, 16⟩
/-- SEQ_ERR.CRC_ERR. -/
def SEQ_ERR.CRC_ERR : Fld := ⟨0x430, 48, 16⟩
/-- SEQ_ERR.NOACK. -/
def SEQ_ERR.NOACK : Fld := ⟨0x430, 32, 16⟩
/-- SEQ_ERR.RETRIES. -/
def SEQ_ERR.RETRIES : Fld := ⟨0x430, 16, 16⟩
/-- WCH_CAUSE.DETAIL. -/
def WCH_CAUSE.DETAIL : Fld := ⟨0x500, 8, 8⟩
/-- WCH_CAUSE.CODE. -/
def WCH_CAUSE.CODE : Fld := ⟨0x500, 0, 8⟩
/-- WCH_STAT.OPT_RESTARTS. -/
def WCH_STAT.OPT_RESTARTS : Fld := ⟨0x504, 8, 8⟩
/-- WCH_STAT.WARM. -/
def WCH_STAT.WARM : Fld := ⟨0x504, 3, 1⟩
/-- WCH_STAT.NOREF. -/
def WCH_STAT.NOREF : Fld := ⟨0x504, 2, 1⟩
/-- WCH_STAT.XTAL_FAIL. -/
def WCH_STAT.XTAL_FAIL : Fld := ⟨0x504, 1, 1⟩
/-- WCH_STAT.XTAL. -/
def WCH_STAT.XTAL : Fld := ⟨0x504, 0, 1⟩
/-- WCH_WAKECFG[i].DEB. -/
def WCH_WAKECFG.DEB (i : Nat) : Fld := ⟨0x508 + 4 * i, 8, 8⟩
/-- WCH_WAKECFG[i].OFFREQ. -/
def WCH_WAKECFG.OFFREQ (i : Nat) : Fld := ⟨0x508 + 4 * i, 3, 1⟩
/-- WCH_WAKECFG[i].POL. -/
def WCH_WAKECFG.POL (i : Nat) : Fld := ⟨0x508 + 4 * i, 2, 1⟩
/-- WCH_WAKECFG[i].LEVEL. -/
def WCH_WAKECFG.LEVEL (i : Nat) : Fld := ⟨0x508 + 4 * i, 1, 1⟩
/-- WCH_WAKECFG[i].EN. -/
def WCH_WAKECFG.EN (i : Nat) : Fld := ⟨0x508 + 4 * i, 0, 1⟩
/-- WCH_WAKESTAT.PEND. -/
def WCH_WAKESTAT.PEND : Fld := ⟨0x518, 0, 9⟩
/-- WCH_ALARM.EN. -/
def WCH_ALARM.EN : Fld := ⟨0x520, 63, 1⟩
/-- WCH_ALARM.TICK. -/
def WCH_ALARM.TICK : Fld := ⟨0x520, 0, 48⟩
/-- WCH_TICKS.COUNT. -/
def WCH_TICKS.COUNT : Fld := ⟨0x528, 0, 48⟩
/-- WCH_DORM.COUNT. -/
def WCH_DORM.COUNT : Fld := ⟨0x530, 0, 48⟩
/-- WCH_PADHOLD.MANUAL. -/
def WCH_PADHOLD.MANUAL : Fld := ⟨0x538, 2, 1⟩
/-- WCH_PADHOLD.RELEASE. -/
def WCH_PADHOLD.RELEASE : Fld := ⟨0x538, 1, 1⟩
/-- WCH_PADHOLD.HELD. -/
def WCH_PADHOLD.HELD : Fld := ⟨0x538, 0, 1⟩
/-- WCH_DOZECFG.IDLE. -/
def WCH_DOZECFG.IDLE : Fld := ⟨0x53c, 8, 8⟩
/-- WCH_DOZECFG.EN. -/
def WCH_DOZECFG.EN : Fld := ⟨0x53c, 0, 1⟩
/-- CLK_CFG.XF_PRESENT. -/
def CLK_CFG.XF_PRESENT : Fld := ⟨0x600, 2, 1⟩
/-- CLK_CFG.CLKMODE. -/
def CLK_CFG.CLKMODE : Fld := ⟨0x600, 0, 2⟩
/-- CLK_STAT.UNLOCKS. -/
def CLK_STAT.UNLOCKS : Fld := ⟨0x604, 16, 16⟩
/-- CLK_STAT.REF_FALLBACK. -/
def CLK_STAT.REF_FALLBACK : Fld := ⟨0x604, 3, 1⟩
/-- CLK_STAT.MED_LOCK. -/
def CLK_STAT.MED_LOCK : Fld := ⟨0x604, 2, 1⟩
/-- CLK_STAT.ENG_LOCK. -/
def CLK_STAT.ENG_LOCK : Fld := ⟨0x604, 1, 1⟩
/-- CLK_STAT.FAB_LOCK. -/
def CLK_STAT.FAB_LOCK : Fld := ⟨0x604, 0, 1⟩
/-- RST_CTL.KEY. -/
def RST_CTL.KEY : Fld := ⟨0x700, 16, 16⟩
/-- RST_CTL.DEVICE. -/
def RST_CTL.DEVICE : Fld := ⟨0x700, 0, 1⟩
/-- RST_STAT.RESETS. -/
def RST_STAT.RESETS : Fld := ⟨0x704, 16, 16⟩
/-- RST_STAT.LAST_STAGE. -/
def RST_STAT.LAST_STAGE : Fld := ⟨0x704, 0, 4⟩
/-- RST_WDOG.KICK. -/
def RST_WDOG.KICK : Fld := ⟨0x708, 0, 32⟩
/-- SAF_STAT.DETECTS. -/
def SAF_STAT.DETECTS : Fld := ⟨0xc00, 16, 16⟩
/-- SAF_STAT.SAFEN_RB. -/
def SAF_STAT.SAFEN_RB : Fld := ⟨0xc00, 3, 1⟩
/-- SAF_STAT.ESCALATED. -/
def SAF_STAT.ESCALATED : Fld := ⟨0xc00, 2, 1⟩
/-- SAF_STAT.SAFEN. -/
def SAF_STAT.SAFEN : Fld := ⟨0xc00, 1, 1⟩
/-- SAF_STAT.HOVE. -/
def SAF_STAT.HOVE : Fld := ⟨0xc00, 0, 1⟩
/-- SAF_SCOPE.HOMES. -/
def SAF_SCOPE.HOMES : Fld := ⟨0xc04, 0, 16⟩
/-- SAF_FIRST.CSN. -/
def SAF_FIRST.CSN : Fld := ⟨0xc08, 0, 64⟩
/-- SAF_FTIME.TIME. -/
def SAF_FTIME.TIME : Fld := ⟨0xc10, 12, 52⟩
/-- SAF_FTIME.CODE. -/
def SAF_FTIME.CODE : Fld := ⟨0xc10, 0, 12⟩
/-- SAF_LFT.FAIL. -/
def SAF_LFT.FAIL : Fld := ⟨0xc18, 0, 26⟩
/-- SAF_INJ.MECH. -/
def SAF_INJ.MECH : Fld := ⟨0xc20, 16, 8⟩
/-- SAF_INJ.INST. -/
def SAF_INJ.INST : Fld := ⟨0xc20, 0, 16⟩
/-- SAF_LFTOPS.LAST_OPSEC. -/
def SAF_LFTOPS.LAST_OPSEC : Fld := ⟨0xc28, 0, 40⟩
/-- FIX_CTL.HOLDOFF. -/
def FIX_CTL.HOLDOFF : Fld := ⟨0x1000, 8, 8⟩
/-- FIX_CTL.DRIVE. -/
def FIX_CTL.DRIVE : Fld := ⟨0x1000, 1, 1⟩
/-- FIX_CTL.TRIGGER. -/
def FIX_CTL.TRIGGER : Fld := ⟨0x1000, 0, 1⟩
/-- FIX_NUM.NUMBER. -/
def FIX_NUM.NUMBER : Fld := ⟨0x1004, 0, 32⟩
/-- FIX_TIME.TIME. -/
def FIX_TIME.TIME : Fld := ⟨0x1008, 0, 64⟩
/-- FIX_CSN.CSN. -/
def FIX_CSN.CSN : Fld := ⟨0x1010, 0, 64⟩
/-- FIX_SRC.SEQARG. -/
def FIX_SRC.SEQARG : Fld := ⟨0x1018, 16, 16⟩
/-- FIX_SRC.SOURCES. -/
def FIX_SRC.SOURCES : Fld := ⟨0x1018, 0, 8⟩
/-- FIX_CHIP[i].VALUE. -/
def FIX_CHIP.VALUE (i : Nat) : Fld := ⟨0x1100 + 8 * i, 0, 64⟩
/-- FIX_PNT[i].VALUE. -/
def FIX_PNT.VALUE (i : Nat) : Fld := ⟨0x1800 + 8 * i, 0, 64⟩
/-- QDR_SNAP[i].VALUE. -/
def QDR_SNAP.VALUE (i : Nat) : Fld := ⟨0xe00 + 8 * i, 0, 64⟩
/-- DECK_CFG.PERIOD. -/
def DECK_CFG.PERIOD : Fld := ⟨0x2000, 16, 8⟩
/-- DECK_CFG.SRC. -/
def DECK_CFG.SRC : Fld := ⟨0x2000, 0, 8⟩
/-- DECK_STAT.DROPPED. -/
def DECK_STAT.DROPPED : Fld := ⟨0x2008, 48, 16⟩
/-- DECK_STAT.BUFFERED. -/
def DECK_STAT.BUFFERED : Fld := ⟨0x2008, 32, 16⟩
/-- DECK_STAT.FULL. -/
def DECK_STAT.FULL : Fld := ⟨0x2008, 31, 1⟩
/-- DECK_STAT.PTR. -/
def DECK_STAT.PTR : Fld := ⟨0x2008, 0, 15⟩
/-- DECK_SEL[i].SNAP_HI. -/
def DECK_SEL.SNAP_HI (i : Nat) : Fld := ⟨0x2040 + 4 * i, 16, 9⟩
/-- DECK_SEL[i].SNAP_LO. -/
def DECK_SEL.SNAP_LO (i : Nat) : Fld := ⟨0x2040 + 4 * i, 0, 9⟩
/-- TAL_CFG.PERIOD. -/
def TAL_CFG.PERIOD : Fld := ⟨0x2400, 0, 14⟩
/-- TAL_STAT.DUMPS. -/
def TAL_STAT.DUMPS : Fld := ⟨0x2408, 32, 32⟩
/-- TAL_STAT.MISSED. -/
def TAL_STAT.MISSED : Fld := ⟨0x2408, 16, 16⟩
/-- TAL_STAT.OVF. -/
def TAL_STAT.OVF : Fld := ⟨0x2408, 0, 1⟩
/-- TAL_SEL.EVENT field `m`. -/
def TAL_SEL.EVENT (i : Nat) (m : Nat) : Fld := ⟨0x2440 + 4 * i, 8 * m, 8⟩
/-- TAL_CNT[i].COUNT. -/
def TAL_CNT.COUNT (i : Nat) : Fld := ⟨0x2500 + 8 * i, 0, 48⟩
/-- LBK_STAT.REFUSED. -/
def LBK_STAT.REFUSED : Fld := ⟨0x2c00, 16, 16⟩
/-- LBK_STAT.INTENTS. -/
def LBK_STAT.INTENTS : Fld := ⟨0x2c00, 8, 8⟩
/-- LBK_STAT.BUSY. -/
def LBK_STAT.BUSY : Fld := ⟨0x2c00, 1, 1⟩
/-- LBK_STAT.REG_LOCKED. -/
def LBK_STAT.REG_LOCKED : Fld := ⟨0x2c00, 0, 1⟩
/-- LBK_WRITES.PAGES. -/
def LBK_WRITES.PAGES : Fld := ⟨0x2c08, 0, 64⟩
/-- THM_CTL.COOL_S. -/
def THM_CTL.COOL_S : Fld := ⟨0x800, 8, 16⟩
/-- THM_CTL.CRIT_S. -/
def THM_CTL.CRIT_S : Fld := ⟨0x800, 0, 8⟩
/-- THM_STAT.FACTOR. -/
def THM_STAT.FACTOR : Fld := ⟨0x804, 16, 10⟩
/-- THM_STAT.THERMAL. -/
def THM_STAT.THERMAL : Fld := ⟨0x804, 5, 1⟩
/-- THM_STAT.CTRL_HOT. -/
def THM_STAT.CTRL_HOT : Fld := ⟨0x804, 4, 1⟩
/-- THM_STAT.COLDSTOP. -/
def THM_STAT.COLDSTOP : Fld := ⟨0x804, 3, 1⟩
/-- THM_STAT.CRIT. -/
def THM_STAT.CRIT : Fld := ⟨0x804, 2, 1⟩
/-- THM_STAT.THROTTLE. -/
def THM_STAT.THROTTLE : Fld := ⟨0x804, 1, 1⟩
/-- THM_STAT.ALL_LOST. -/
def THM_STAT.ALL_LOST : Fld := ⟨0x804, 0, 1⟩
/-- THM_HOT.CTRL. -/
def THM_HOT.CTRL : Fld := ⟨0x808, 32, 16⟩
/-- THM_HOT.POINT. -/
def THM_HOT.POINT : Fld := ⟨0x808, 16, 4⟩
/-- THM_HOT.T_HOT. -/
def THM_HOT.T_HOT : Fld := ⟨0x808, 0, 16⟩
/-- THM_EXCL.TH. -/
def THM_EXCL.TH : Fld := ⟨0x810, 28, 4⟩
/-- THM_EXCL.TD. -/
def THM_EXCL.TD : Fld := ⟨0x810, 24, 4⟩
/-- THM_EXCL.CTRL. -/
def THM_EXCL.CTRL : Fld := ⟨0x810, 16, 8⟩
/-- THM_EXCL.MEDIA. -/
def THM_EXCL.MEDIA : Fld := ⟨0x810, 0, 16⟩
/-- THM_MEDIA[i].EXCL. -/
def THM_MEDIA.EXCL (i : Nat) : Fld := ⟨0x840 + 4 * i, 31, 1⟩
/-- THM_MEDIA[i].CAUSE. -/
def THM_MEDIA.CAUSE (i : Nat) : Fld := ⟨0x840 + 4 * i, 29, 2⟩
/-- THM_MEDIA[i].VALUE. -/
def THM_MEDIA.VALUE (i : Nat) : Fld := ⟨0x840 + 4 * i, 0, 16⟩
/-- THM_CTRL[i].EXCL. -/
def THM_CTRL.EXCL (i : Nat) : Fld := ⟨0x880 + 4 * i, 31, 1⟩
/-- THM_CTRL[i].CAUSE. -/
def THM_CTRL.CAUSE (i : Nat) : Fld := ⟨0x880 + 4 * i, 29, 2⟩
/-- THM_CTRL[i].VALUE. -/
def THM_CTRL.VALUE (i : Nat) : Fld := ⟨0x880 + 4 * i, 0, 16⟩
/-- THM_AUX[i].HI. -/
def THM_AUX.HI (i : Nat) : Fld := ⟨0x8a0 + 8 * i, 48, 16⟩
/-- THM_AUX[i].LO. -/
def THM_AUX.LO (i : Nat) : Fld := ⟨0x8a0 + 8 * i, 32, 16⟩
/-- THM_AUX[i].EN. -/
def THM_AUX.EN (i : Nat) : Fld := ⟨0x8a0 + 8 * i, 31, 1⟩
/-- THM_AUX[i].CAUSE. -/
def THM_AUX.CAUSE (i : Nat) : Fld := ⟨0x8a0 + 8 * i, 29, 2⟩
/-- THM_AUX[i].EXCL. -/
def THM_AUX.EXCL (i : Nat) : Fld := ⟨0x8a0 + 8 * i, 28, 1⟩
/-- THM_AUX[i].VALUE. -/
def THM_AUX.VALUE (i : Nat) : Fld := ⟨0x8a0 + 8 * i, 0, 16⟩
/-- LLN_CTL.CLOSE. -/
def LLN_CTL.CLOSE : Fld := ⟨0xa00, 16, 8⟩
/-- LLN_CTL.STREAM. -/
def LLN_CTL.STREAM : Fld := ⟨0xa00, 0, 12⟩
/-- LLN_STAT.WIN. -/
def LLN_STAT.WIN : Fld := ⟨0xa04, 16, 8⟩
/-- LLN_STAT.ACTIVE. -/
def LLN_STAT.ACTIVE : Fld := ⟨0xa04, 8, 8⟩
/-- LLN_STAT.NOSTREAM. -/
def LLN_STAT.NOSTREAM : Fld := ⟨0xa04, 2, 1⟩
/-- LLN_STAT.OVERRUN. -/
def LLN_STAT.OVERRUN : Fld := ⟨0xa04, 1, 1⟩
/-- LLN_STAT.WRITING. -/
def LLN_STAT.WRITING : Fld := ⟨0xa04, 0, 1⟩
/-- LLN_DROP.EDGES. -/
def LLN_DROP.EDGES : Fld := ⟨0xa08, 32, 32⟩
/-- LLN_DROP.SAMPLES. -/
def LLN_DROP.SAMPLES : Fld := ⟨0xa08, 0, 32⟩
/-- LLN_CH[i].HYST. -/
def LLN_CH.HYST (i : Nat) : Fld := ⟨0xa40 + 8 * i, 52, 12⟩
/-- LLN_CH[i].THRESH. -/
def LLN_CH.THRESH (i : Nat) : Fld := ⟨0xa40 + 8 * i, 40, 12⟩
/-- LLN_CH[i].DEB. -/
def LLN_CH.DEB (i : Nat) : Fld := ⟨0xa40 + 8 * i, 32, 8⟩
/-- LLN_CH[i].EN. -/
def LLN_CH.EN (i : Nat) : Fld := ⟨0xa40 + 8 * i, 30, 1⟩
/-- LLN_CH[i].TRIG. -/
def LLN_CH.TRIG (i : Nat) : Fld := ⟨0xa40 + 8 * i, 29, 1⟩
/-- LLN_CH[i].WAKE_EDGE. -/
def LLN_CH.WAKE_EDGE (i : Nat) : Fld := ⟨0xa40 + 8 * i, 28, 1⟩
/-- LLN_CH[i].EDGE. -/
def LLN_CH.EDGE (i : Nat) : Fld := ⟨0xa40 + 8 * i, 26, 2⟩
/-- LLN_CH[i].SAMPLE. -/
def LLN_CH.SAMPLE (i : Nat) : Fld := ⟨0xa40 + 8 * i, 25, 1⟩
/-- LLN_CH[i].RANGE. -/
def LLN_CH.RANGE (i : Nat) : Fld := ⟨0xa40 + 8 * i, 24, 1⟩
/-- LLN_CH[i].PERIOD. -/
def LLN_CH.PERIOD (i : Nat) : Fld := ⟨0xa40 + 8 * i, 0, 16⟩
/-- LLN_WIN[i].HI. -/
def LLN_WIN.HI (i : Nat) : Fld := ⟨0xa80 + 4 * i, 16, 12⟩
/-- LLN_WIN[i].LO. -/
def LLN_WIN.LO (i : Nat) : Fld := ⟨0xa80 + 4 * i, 0, 12⟩
/-- LLN_VAL[i].LEVEL. -/
def LLN_VAL.LEVEL (i : Nat) : Fld := ⟨0xaa0 + 4 * i, 31, 1⟩
/-- LLN_VAL[i].CLIP. -/
def LLN_VAL.CLIP (i : Nat) : Fld := ⟨0xaa0 + 4 * i, 15, 1⟩
/-- LLN_VAL[i].CODE. -/
def LLN_VAL.CODE (i : Nat) : Fld := ⟨0xaa0 + 4 * i, 0, 12⟩
/-- WCH_LLWAKE.DEB. -/
def WCH_LLWAKE.DEB : Fld := ⟨0x540, 32, 8⟩
/-- WCH_LLWAKE.HIGHV. -/
def WCH_LLWAKE.HIGHV : Fld := ⟨0x540, 24, 8⟩
/-- WCH_LLWAKE.OFFREQ. -/
def WCH_LLWAKE.OFFREQ : Fld := ⟨0x540, 16, 8⟩
/-- WCH_LLWAKE.POL. -/
def WCH_LLWAKE.POL : Fld := ⟨0x540, 8, 8⟩
/-- WCH_LLWAKE.EN. -/
def WCH_LLWAKE.EN : Fld := ⟨0x540, 0, 8⟩

end Sys2Proof.Machine
end

