-- ==== Sys2Proof/Machine/State.lean ====
section
/-! DEFINITION. The state of the VM-5016 as plain data, the reasons a step can stop, and the state after reset.

Each field's comment reads: what it is | width | the file and rule that name it | value at reset. -/

namespace Sys2Proof.Machine

/-- Why a step faults. -/
inductive Fault where
  /-- Raised by every meaning, through `act`, on a command whose operands lie outside the ranges of its row (WellFormed):
  the hardware cannot receive such a command. Safe. -/
  | illFormed
  deriving DecidableEq, Repr

/-- Why a step is refused. -/
inductive Refusal where
  /-- Raised by a dispatch arm that has no meaning yet. Safe. -/
  | notModelled (mnemonic : String)
  deriving DecidableEq, Repr

/-! ### Records, messages -/

/-- An event record (Table 9.3, Table 17.5) with its severity: 0 informational, 1 warning, 2 failure, 3 fatal (R313); `facts` is what a
record carries at places of its detail that the manual does not give. (DESIGN CHOICE, log entry 39.) -/
structure Ev where
  code : Nat
  level : Nat := 255
  point : Nat := 255
  cell : Nat := 255
  flags : Nat := 0
  addr : Nat := 0
  csn : Nat := 0
  time : Nat := 0
  fix : Nat := 0
  opSec : Nat := 0
  cycle : Nat := 0
  detail : List (BitVec 8) := []
  sev : Nat := 0
  facts : List Int := []
  deriving DecidableEq, Repr

/-- A record of a CXL event log (R315): vendor-specific, General Media for a line, Memory Module for a cause: 1 life used, 2
temperature alert, 20h Dirty Shutdown Count, 62h to 65h the capacity transitions. -/
inductive CxlRec where
  | vendor (e : Ev) (stamp : Nat)
  | media (line : Nat) (stamp : Nat)
  | memModule (cause : Nat) (stamp : Nat)
  deriving DecidableEq, Repr

/-- A deck-log record (R608). -/
inductive DeckRec where
  | event (e : Ev)
  | fix (num src csn opSec cycle time : Nat) (snaps : List Nat)
  | lost (n opSec cycle time fix : Nat)
  deriving DecidableEq, Repr

/-- What the device sends: read data or poison, write completions, interrupts, mailbox replies, Helm-space read values,
I3C and SEQ frames, pulses. -/
inductive Msg where
  | rd (p tag : Nat) (data : Line)
  | rdPoison (p tag : Nat)
  | wrDone (p tag : Nat)
  | otherDone (p tag op : Nat)
  | gpfDone (p : Nat)
  | msix (p v : Nat)
  | msi (p : Nat)
  | ibi (v : Nat)
  | mbox (h op rc : Nat) (payload : List (BitVec 8))
  | helm (by_ v : Nat)
  | i3c (bytes : List (BitVec 8))
  | i3cNack
  | seq (bytes : List (BitVec 8))
  | decoderErr (p idx : Nat)
  | fixPulse
  deriving DecidableEq, Repr

/-- A CXL.mem request that waits before the commit sequencer (R71): quadrant, port 0, 1 or 2 for an engine, tag, ordering
tag when it was held (R295, R296), address, data and mask of a write, its poison bit, whether its line check fails at
admission, what the medium delivers to it, and the line check that a write carries (R259). -/
structure Req where
  quad : Nat
  port : Nat
  tag : Nat
  otag : Nat
  a : Nat
  wr : Option (BitVec 512 × BitVec 64)
  poison : Bool
  bad : Bool
  ev : RdEnv
  check : Nat := 0
  deriving DecidableEq, Repr

/-! ### Medium -/

/-- One entry of a placement log sector (Table 5.3), whether it records a TWIN second copy, the open segments of its Point that its
sector's header names (offset 20), and the ship's time at which it was added (R153). MODEL'S OWN: the lines that an overlay sector holds,
and the seal of a relocated sealed version, which replay needs and Table 5.3 has no place for.
(DESIGN CHOICE, log entry 21; DESIGN CHOICE, log entry 22.) -/
structure PEnt where
  kind : Nat
  seg : Nat
  first : Nat
  target : Nat
  twin : Bool := false
  mask : Nat := 15
  sealNo : Nat := 0
  opens : List Nat := []
  added : Nat := 0
  deriving DecidableEq, Repr

/-- One line of a line log sector or of a flush: CSN, line number, byte mask and data (Table 5.4, Table 7.7), the ship's time of the
write (R43), the line check it carries (R259), and whether a merge read completed it (R158). -/
structure LogLine where
  csn : Nat
  line : Nat
  mask : BitVec 64
  data : BitVec 512
  time : Nat := 0
  check : Nat := 0
  merged : Bool := false
  deriving DecidableEq, Repr

/-- The body of a metadata record by kind (Table 7.4). MODEL'S OWN: `lines` of POISON, the lines that the record poisons, and `csn` of
DISCARD, below which it supersedes writes. (DESIGN CHOICE, log entry 163.) -/
inductive MBody where
  | clear (seg count : Nat)
  | groupOpen (kind num : Nat) (segs : List (Option Nat))
  | groupState (num st : Nat)
  | mapPage (home mp first second : Nat)
  | cut (gen group : Nat)
  | watermark (home w : Nat)
  | poison (pg mask : Nat) (lines : List Nat)
  | discard (start len step csn : Nat)
  | home (map : Nat) (states : List Nat)
  | pool (seg pool : Nat)
  | start (csn : Nat) (survey : List Int)
  | flush (segs : List (Option Nat))
  deriving DecidableEq, Repr

/-- What a sector of kinds 4 to 6 records; the bytes stand in the sector's data. -/
inductive Body where
  | raw
  | plog (point : Nat) (time csn : Nat) (twin : Bool) (ents : List PEnt)
  | llog (time csn : Nat) (lines : List LogLine)
  | mrec (csn : Nat) (b : MBody)
  | sealRec (num : Nat) (bytes : List (BitVec 8))
  | pages (num : Nat) (psas : List Nat)
  | fidx (home cycle first : Nat) (ents : List LogLine)
  | fline (home first : Nat) (lines : List LogLine)
  | deck (cycle seq : Nat) (recs : List DeckRec)
  | tail (stream pos : Nat)
  deriving DecidableEq, Repr

/-- A programmed sector row (Table 8.3): its 256 data bytes as programmed, its metadata (Table 8.4), the reserved
bytes, whether its program failed verify, and what it records. -/
structure Sector where
  data : BitVec 2048
  md : BitVec 128
  tail : BitVec 64
  failed : Bool
  body : Body
  deriving DecidableEq, Repr

/-- The segment header of the last clear (Table 3.2). -/
structure SegHdr where
  count : Nat
  cycle : Nat
  csn : Nat
  time : Nat
  opSec : Nat
  deriving DecidableEq, Repr

/-- A segment state entry: drift fields (Table 4.3), life-cycle block (R172), placement fields (Table 6.2), clear-count
shadow (R191), retired slices, header, and ship's time at which it entered its state. Before the first sweep MARGIN holds 592, the 37 codes of
a fresh level. (DESIGN CHOICE, log entry 169; DESIGN CHOICE, log entry 194.) -/
structure Seg where
  clrClk : Nat := 0
  birth : Nat := 0xFFFFFFFFFFFF
  refreshDue : Bool := false
  lowMargin : Bool := false
  margin : Int := 592
  state : Nat := 2
  kind : Nat := 0
  live : Nat := 0
  group : Nat := 0
  dfilter : Nat := 0
  pool : Nat := 0
  uncertain : Bool := false
  half0Off : Bool := false
  half1Off : Bool := false
  berthLoan : Bool := false
  count : Nat := 1
  fatal : Bool := false
  retired : Nat := 0
  hdr : SegHdr := ⟨1, 0, 0, 0, 0⟩
  stAt : Nat := 0
  deriving DecidableEq, Repr

/-- A node of the wear tree (Table 6.4): greatest and least leaf, sum and number of the leaves that are not RETIRED, leaves with
WEAR_UNCERTAIN. A node of 64 factory-fresh segments holds the values given. -/
structure WNode where
  max : Nat := 1
  min : Nat := 1
  sum : Nat := 64
  count : Nat := 64
  unc : Nat := 0
  deriving DecidableEq, Repr

/-- The state of one stripe row: time of its first program, closed (R165), the member masks that the sectors of its parity page cover
(one for each sector position, zero where the parity sector failed verify), and the newest partial-parity sector of each sector position
`j` that passed verify: position, address and member mask (R156, R157); and its parity member, chosen at its first program (R162). -/
structure Row where
  r : Nat
  first : Nat
  closed : Bool := false
  parity : Option (List Nat) := none
  pps : List (Nat × Nat × Nat) := []
  member : Option (Nat × Nat) := none
  deriving DecidableEq, Repr

/-- A stripe group (R161): kind, state 0 open, 1 closed, 2 released, members by Point, rows, closure time, sectors still
to verify. -/
structure Group where
  num : Nat
  kind : Nat
  st : Nat
  members : List (Nat × Nat)
  rows : List Row
  closedAt : Nat
  toVerify : List Nat
  deriving DecidableEq, Repr

/-- A segment group's drift correction (R114, R125): φ in 8.8, reads since the last sample, time of the last sample,
next segment and cell to sample. -/
structure Phi where
  phi : Nat := 0x100
  reads : Nat := 0
  last : Nat := 0
  nextSeg : Nat := 0
  nextCell : Nat := 0
  deriving DecidableEq, Repr

/-- A page slot or sector slot of a placement queue (R187): segment, slot, the sectors it offers, whole. -/
structure Slot where
  seg : Nat
  slot : Nat
  secs : List Nat
  whole : Bool
  deriving DecidableEq, Repr

/-- A placement queue of one kind (R67, R188). -/
structure PQueue where
  slots : List Slot := []
  cur : Option Slot := none
  next : Nat := 0
  deriving DecidableEq, Repr

/-- A background task (R64): kind, argument, ahead of others (R174), and the ship's time at which it was queued. Kinds: 0 fold, 1 collect,
2 refresh, 3 verify, 4 clear, 5 lodestone sample, 6 map flush, 7 recovery of a page, 8 resume of a secure discard, 9 resume of a REKEY. -/
structure Task where
  kind : Nat
  arg : Nat
  urgent : Bool := false
  since : Nat := 0
  deriving DecidableEq, Repr

/-- A Point's arbiter (R59, R62): the grants of the frame so far by class (host writes, stream spill, fold, clear, refresh, verify, scrub)
and the weights in force in it; of no grants made, no weights have been loaded yet. -/
structure Arb where
  used : List Nat := List.replicate 7 0
  wts : List Nat := [24, 12, 10, 8, 4, 4, 2]
  deriving DecidableEq, Repr

/-- What belongs to one Point and its die: its placement queues and tasks, what Table 2.5 counts, its open placement log sector, the last
die-link command word, uncorrectable sector and BCH count, its metadata and flush segments; then its arbiter, the rows in the program
buffers of its cells (R87), the row whose burst last crossed its link (R99 to R101), and the cause
of a quick retrain that is decided and has not begun (R104). While homes' banks stand at OVL_MARK.HIGH
(`raisers`), `arbSaved` keeps the weights that return afterwards (R174). -/
structure Point where
  queues : List PQueue := [{}, {}, {}, {}]
  tasks : List Task := []
  unc : List Nat := []
  failedCells : List Nat := []
  sliceFails : List (Nat × Nat) := []
  retrains : List Nat := []
  trainFails : Nat := 0
  plog : List PEnt := []
  lastCmd : Nat := 0
  lastUnc : Nat := 0
  lastBch : Nat := 0
  metaNext : Nat := 0
  flushSeg : Option Nat := none
  flushNext : Nat := 0
  exchanged : Option Nat := none
  staticSeg : Option Nat := none
  arbSaved : Option Nat := none
  raisers : List Nat := []
  arb : Arb := {}
  progBuf : List (Nat × Nat) := []
  burst : Option Nat := none
  retrainDue : Option Nat := none
  deriving DecidableEq, Repr

/-! ### Write path and map -/

/-- State of a Binnacle entry (R135). -/
inductive BState where
  | pending
  | taken
  | committed
  deriving DecidableEq, Repr

/-- What a Binnacle entry held when a write above the CSN of a dispatched order merged into it (R462): CSN, bytes, mask and check, and the
bytes written since. -/
structure BPast where
  csn : Nat
  data : BitVec 512
  mask : BitVec 64
  check : Nat
  newer : BitVec 64
  deriving DecidableEq, Repr

/-- A Binnacle line entry (R135): line number, bytes, byte mask, CSN of the newest write, state, ship's time of the first
pending write, the line check it carries (R259), the CSN of its oldest write that has not reached media commit (R19), whether a full write of
the line stands in it (R41), and its earlier contents that an order still asks for (R462), oldest first.
(DEDUCED, log entry 189.) -/
structure BEntry where
  line : Nat
  data : BitVec 512
  mask : BitVec 64
  csn : Nat
  st : BState
  since : Nat
  check : Nat := 0
  first : Nat := 0
  whole : Bool := false
  was : List BPast := []
  deriving DecidableEq, Repr

/-- An overlay index entry (Table 5.2): PINNED, MASK, PHYS, EPOCH and, for TWIN, the second copy's address; `shared` where that copy is the
sector of the page slot whose program passed, which the page counts as live (R150). -/
structure Ovl where
  pinned : Bool
  mask : Nat
  phys : Nat
  epoch : Nat
  twin : Option Nat
  shared : Bool := false
  deriving DecidableEq, Repr

/-- A way of a map-cache bank (R224): home, slot, entry (bit 63 MAPPED, PHYS), dirty, recency stamp, changed since taken. -/
structure MapWay where
  home : Nat
  slot : Nat
  entry : Nat
  dirty : Bool
  stamp : Nat
  deriving DecidableEq, Repr

/-- A Pilot cache line (R139): data, dirty mark, and the line check it carries (R259). -/
structure PilotLine where
  data : BitVec 512
  dirty : Bool
  check : Nat
  deriving DecidableEq, Repr

/-- One sector of an image being programmed: logical sector, lines held, data before scrambling, the line checks its lines carry
(R259), Binnacle entries consumed (line, CSN), addresses (first copy, TWIN copy), which copies passed verify and which were relocated
after a verify failure, and whether the sector has been installed. -/
structure ImgSec where
  l : Nat
  mask : Nat
  data : BitVec 2048
  checks : List Nat
  used : List (Nat × Nat) := []
  psa : Option Nat := none
  psb : Option Nat := none
  okA : Bool := false
  okB : Bool := false
  relA : Bool := false
  relB : Bool := false
  installed : Bool := false
  deriving DecidableEq, Repr

/-- A page or sector image on its way to media: page, kind of open segment, whole page, reason (0 remap, 1 overlay,
2 fold, 3 relocation of a page, 4 relocation of a sector, 5 relocation of a sealed version, 6 stream page), its sectors,
whether lines are still to be merged, whether its placement log entries were made, TWIN, first sectors of its page slots,
the logical sector high parts of its sectors, the physical addresses it relocates, the seal of a sealed version, the ship's time at
which its sectors were placed, and whether it is refresh work (R59, R121). -/
structure Img where
  pg : Nat
  kind : Nat
  whole : Bool
  why : Nat
  secs : List ImgSec
  merging : Bool
  logged : Bool
  twin : Bool
  baseA : Nat
  baseB : Nat
  high : List Nat
  old : List Nat
  sealNo : Nat
  since : Nat := 0
  refresh : Bool := false
  deriving DecidableEq, Repr

/-- A closed line log on its way to media commit (R158): home, lines, the completions that wait for it, and the address of its sector once
that has passed verify; its partial-parity sector is programmed after it. -/
structure LineLogJob where
  home : Nat
  lines : List LogLine
  acks : List (Nat × Nat × Nat)
  psa : Option Nat := none
  deriving DecidableEq, Repr

/-- What belongs to one nominal home: placement rotation last used per kind, newest CSN accepted, lines of the open line
log with their completions, the programmed watermark, CSNs of lines logged above it, overlay install count, map-cache
recency counter, write credits withheld (R138), pages whose fold R151 has asked for, sectors that R151 has deferred, and the CSNs of the lines accepted above the
watermark while HOLDUP is not effective (R231). (DEDUCED, log entry 187.) -/
structure Home where
  rot : List Nat := [15, 15, 15, 15]
  newest : Nat := 0
  llog : List LogLine := []
  llAcks : List (Nat × Nat × Nat) := []
  wm : Nat := 0
  wmDue : Bool := false
  above : List Nat := []
  installs : Nat := 0
  stamp : Nat := 0
  withheld : Bool := false
  setFull : List Nat := []
  deferred : List Nat := []
  accepted : List Nat := []
  deriving DecidableEq, Repr

/-! ### Seals, keys, checkpoints -/

/-- A seal that stands (R286 to R288): number, target (0 WINDOW, 1 frames), stream, start, length, digest, CSN, and the
physical addresses of its sealed versions in order. -/
structure Seal where
  num : Nat
  target : Nat
  stream : Nat
  start : Nat
  len : Nat
  csn : Nat
  digest : Nat
  psas : List Nat
  deriving DecidableEq, Repr

/-- A secure discard in progress or waiting (R210 to R213). -/
structure SDisc where
  order : Nat
  start : Nat
  len : Nat
  csn : Nat
  step : Nat
  cands : List Nat
  deriving DecidableEq, Repr

/-- A REKEY in progress (R281). -/
structure Rekey where
  order : Nat
  slot : Nat
  step : Nat
  cands : List Nat
  deriving DecidableEq, Repr

/-- A stream's anchor record in the checkpoint and a notification; positions are stream bytes (R351). -/
structure Anchor where
  end_ : Nat
  rel : Nat
  limit : Nat
  nexthdr : Nat
  deriving DecidableEq, Repr

/-- A checkpoint locator as the Logbook holds it (Table 7.6). -/
structure Locator where
  gen : Nat
  copy : Nat
  cycle : Nat
  csn : Nat
  time : Nat
  opSec : Nat
  digest : BitVec 32
  deriving DecidableEq, Repr

/-! ### Host ports, logs, orders -/

/-- One CXL event log of a head (R314): records, overflow count, first and last overflow time stamps. -/
structure CxlLog where
  recs : List (Nat × CxlRec) := []
  overflow : Nat := 0
  firstOv : Nat := 0
  lastOv : Nat := 0
  nextHandle : Nat := 1
  deriving DecidableEq, Repr

/-- A committed HDM decoder (R305). (DESIGN CHOICE, log entry 157.) -/
structure Decoder where
  base : Nat
  size : Nat
  dpa : Nat
  ways : Nat
  gran : Nat
  deriving DecidableEq, Repr

/-- What belongs to one head: decoders, D3hot, MSI-X enabled, mask and pending bits, messages held for a link not
in L0, event interrupt policy, background command (opcode and order), last background status (opcode, return code,
vendor status), result of the last order the mailbox ran, the event logs, the second of the last unbacked access, and
the CXL.mem credits that the port holds of all requests and of writes (R71, R138), and whether its PHY reference is usable (R550).
(DEDUCED, log entry 15; DESIGN CHOICE, log entry 157.) -/
structure Head where
  decoders : List (Nat × Decoder) := []
  d3hot : Bool := false
  msix : Bool := true
  mask : Nat := 0xFF
  pend : Nat := 0
  heldMsgs : Nat := 0
  heldMsi : Bool := false
  policy : List Nat := [0, 0, 0, 0]
  bg : Option (Nat × Nat) := none
  bgStatus : Nat × Nat × Nat := (0, 0, 0)
  lastOrder : List (BitVec 8) := []
  logs : List CxlLog := [{}, {}, {}, {}]
  unbackedAt : Option Nat := none
  credits : Nat × Nat := (64, 32)
  phyRef : Bool := true
  deriving DecidableEq, Repr

/-- A running or queued order (R461, R320): id, source (0 to 2 the rings, 3 start-up, 4 and 5 the mailboxes), index in the
source, program, its 64 B entry, CSN, engine, and its outcome once ended (code, Data 0, Data 1). -/
structure Order where
  id : Nat
  src : Nat
  idx : Nat
  prog : Nat
  entry : List (BitVec 8)
  csn : Nat
  engine : Nat
  fence : Bool
  done : Option (Nat × Nat × Nat)
  deriving DecidableEq, Repr

/-- The order machinery (R458 to R468): submission and completion rings of Port W, Port E and I3C, running orders, the
start-up orders still to run, next order id, rings that a port reset clears once their running orders end, and MODE_EFF before and after the
point of the mode change under way, with MODE_WHY after it (R496). -/
structure Orders where
  sq : List (List (BitVec 8)) := List.replicate 48 []
  cq : List (List (BitVec 8)) := List.replicate 48 []
  run : List Order := []
  startup : List (List (BitVec 8)) := []
  startupIdx : Nat := 0
  nextId : Nat := 1
  ringReset : List Nat := []
  modeFrom : Nat × Nat × Nat := (0, 0, 0)
  deriving DecidableEq, Repr

/-- The I3C target (R337 to R345). -/
structure I3c where
  addr : Option Nat := none
  ibiOn : Bool := false
  mrl : Option Nat := none
  mwl : Option Nat := none
  rstact : Nat := 0
  resp : Option (List (BitVec 8)) := none
  lastWrite : Nat := 0
  ibiHeld : Bool := false
  deriving DecidableEq, Repr

/-- Power states and the phases of start and shut-down (R542, R570). -/
inductive Phase where
  | watchOff
  | dormant
  | optLoad
  | powerUp
  | clocks
  | selfTest
  | mediaInit
  | recovery
  | chart
  | linkTrain
  | becalmed
  | active
  | dozeEntry
  | doze
  | shutdown
  | resetFlush
  | flush
  | commit
  | railsDown
  deriving DecidableEq, Repr

/-! ### Streams -/

/-- A line of a stream's tail: its bytes, the bytes that have arrived, its newest CSN, and poisoned (R360); the completions that wait
for it, the line check it carries at its stream address (R259, R264), and the CSN of its oldest write that no line log holds (R19, R363). -/
structure TailLine where
  data : BitVec 512 := 0
  mask : BitVec 64 := 0
  csn : Nat := 0
  poison : Bool := false
  acks : List (Nat × Nat × Nat) := []
  check : Nat := 0
  first : Nat := 0
  deriving DecidableEq, Repr

/-- A frame of a stream (R367): start, end, stamp, broken. -/
structure Frame where
  start : Nat
  end_ : Nat
  stamp : Nat
  broken : Bool
  deriving DecidableEq, Repr

/-- A protect window (R389 to R395): start and end times, PSTART, PEND once closed, raised to FLOOR, seal number once its
record is written. -/
structure Window where
  t0 : Nat
  t1 : Nat
  pstart : Nat
  pend : Option Nat
  raised : Bool
  sealNo : Option Nat
  viaLine : Bool
  deriving DecidableEq, Repr

/-- The duplicated positions of a stream (R383). -/
structure Pos where
  end_ : Nat := 0
  rel : Nat := 0
  rpos : Nat := 0
  mark : Option Nat := none
  limit : Nat := 0
  avail : Nat := 0
  nexthdr : Nat := 0
  deriving DecidableEq, Repr

/-- A stream context (R350 to R400): region, positions, the second copy of the positions as complements with bytes in
reverse order (R383), the anchor record and whether its CRC holds (R384), tail lines by position line, frames
known, boundary records, windows, reservations held, counters, flags, the last operation, last event seconds, the
frame start from which a start walks the headers on media again, and the control register as it is in force (R352). -/
structure Stream where
  lbase : Nat := 0
  depth : Nat := 0
  valid : Bool := false
  pos : Pos := {}
  dup : List Nat := []
  anchor : Anchor := ⟨0, 0, 0, 0⟩
  anchorOk : Bool := true
  tail : List (Nat × TailLine) := []
  frames : List Frame := []
  head : List Nat := []
  bounds : List (Nat × Nat) := []
  windows : List Window := []
  resv : List Nat := []
  resets : Nat := 0
  violations : Nat := 0
  reclaimed : Nat := 0
  overrun : Bool := false
  frameErr : Bool := false
  failed : Bool := false
  full : Bool := false
  protFull : Bool := false
  opCode : Nat := 0
  opRes : Nat := 0
  opCount : Nat := 0
  opPos : List Nat := [0, 0, 0xFFFFFFFFFFFFFFFF]
  lastTrig : Nat × Nat := (0xFFFFFFFFFFFFFFFF, 0)
  evAt : List (Nat × Nat) := []
  frameFrom : Option Nat := none
  ctl : Nat := 0
  deriving DecidableEq, Repr

/-- The content of a checkpoint (Table 7.5). (DESIGN CHOICE, log entry 161; DESIGN CHOICE, log entry 193.) -/
structure Snap where
  gen : Nat := 0
  csn : Nat := 0
  time : Nat := 0
  opSec : Nat := 0
  cycle : Nat := 0
  eclk : List Nat := []
  homemap : Nat := 0xFEDCBA9876543210
  states : List Nat := []
  place : List Nat := []
  occupied : Nat := 0
  capState : Nat := 0
  sdisc : Option SDisc := none
  rekey : Option Rekey := none
  groups : List Group := []
  nextGroup : Nat := 1
  flushSegs : List (Option Nat) := []
  overlay : List (Nat × Ovl) := []
  mapDirty : List MapWay := []
  dir : List (Nat × Nat × Nat) := []
  segs : List (Nat × Seg) := []
  phis : List (Nat × Phi) := []
  poison : List (Nat × Nat) := []
  seals : List Seal := []
  sealHead : Nat := 0
  ranges : List Nat := []
  anchors : List (Nat × Anchor) := []
  cutGroup : Nat := 0
  layout : Nat := 0
  winGib : Nat := 0
  ctx : List (Nat × Stream) := []
  cells : List (List Nat) := []
  wnodes : List (Nat × WNode) := []
  deriving DecidableEq, Repr

/-- The stream machinery: contexts that differ from the default, notification queues and overflow flags, rotation of
reservations per home, the last boundary recorded. -/
structure Streams where
  ctx : List (Nat × Stream) := []
  note : List (List Nat) := [[], []]
  noteOvf : List Bool := [false, false]
  rot : List Nat := List.replicate 16 0
  lastBound : Nat := 0
  deriving DecidableEq, Repr

/-- Fix, deck log and Tally (chapter 17): the deck buffer, the LOST record owed, flush times, the time and CSN of the last latch, ship's
time of the last write to TAL_CFG, dump times passed since, dumps missed since the previous dump and whether a counter wrapped since,
the two survey buffers, the snapshots of the newest Fix. -/
structure Deck where
  buf : List DeckRec := []
  owed : Nat := 0
  lastFlush : Nat := 0
  flushDue : Bool := false
  latchAt : Option Nat := none
  latchCsn : Nat := 0
  tallyFrom : Nat := 0
  tallyLast : Nat := 0
  tallyMiss : Nat := 0
  tallyWrap : Bool := false
  survey : List (List (BitVec 8)) := [[], []]
  snaps : List Nat := []
  deriving DecidableEq, Repr

/-! ### Engines -/

/-- What the completion of a media operation waits for: nothing more; media commit of the sector programmed (R431); the clear of a
segment with the slices that fail in it (R432); a fold or relocation (R434): mode, page or logical sector or seal, place in the seal's
page list, what its reads meet, and whether its image has been started. -/
inductive TicketWait where
  | now
  | commit (psa : Nat)
  | clear (sg retired : Nat)
  | fold (mode target place : Nat) (refresh : Bool) (ev : RdEnv) (started : Bool)
  deriving DecidableEq, Repr

/-- A media ticket (R427): its number, its status word once complete (Table 11.10), the status word it will have, the local address
and the bytes that are written at completion, and what completion waits for. -/
structure Ticket where
  num : Nat
  status : Option Nat := none
  pend : Nat
  buf : Nat := 0
  bytes : List (BitVec 8) := []
  waits : TicketWait := .now
  deriving DecidableEq, Repr

/-- A line of an engine's write merge or of a quadrant's forwarding buffer (R411, R450): number of the 64 B line of engine addresses,
bytes, mask, time of its first store, engine, and of device memory the line check made at its entry (R259). -/
structure MLine where
  line : Nat
  data : BitVec 512
  mask : BitVec 64
  since : Nat
  eng : Nat
  check : Nat := 0
  deriving DecidableEq, Repr

/-- What an engine is doing (Table 17.3, register 7). -/
inductive EState where
  | running
  | asleep
  | halted
  | retired
  deriving DecidableEq, Repr

/-- One engine (R402 to R446): general registers, pc, system registers of Table 11.4 (`budgetFrom` is when deck was entered; `rsv` is the
reserved 256 B granule of engine addresses), local memory, tickets, write merge, barrier in progress (`waiting`, since `barAt`), pending
events and what a sleep waits for, resident deck program (its CODE section) and its order, last watchdog kick (at deck: the time run),
last fault, self-test under way, the task taken. (DESIGN CHOICE, log entry 11; PRESUMED, log entry 67.) -/
structure Engine where
  g : List (BitVec 64) := List.replicate 32 0
  pc : BitVec 64 := 0x02000000
  priv : Nat := 0
  prev : Nat := 0
  epc : BitVec 64 := 0
  causeCode : Nat := 0
  causeDetail : Nat := 0
  badaddr : BitVec 64 := 0
  ehandler : BitVec 64 := 0x0000000002000100
  lastcsn : Nat := 0
  resetAt : Nat := 0
  bstatAddr : Nat := 0
  draining : Nat := 0
  bfault : Bool := false
  barAt : Nat := 0
  mrefs : Nat := 0x3E76AA
  qbase : Nat := 0
  qpages : Nat := 0
  budget : Nat := 0
  budgetFrom : Nat := 0
  wakeStream : Nat := 0
  wakeEn : Nat := 0
  rsv : Option Nat := none
  loc : List Host.Cell := []
  tickets : List Ticket := []
  merge : List MLine := []
  state : EState := .running
  events : Nat := 0
  sleepD : Nat := 0
  sleepUntil : Option Nat := none
  waiting : Bool := false
  deck : Option Nat := none
  deckOrder : Nat := 0
  kickAt : Nat := 0
  faultAt : Option Nat := none
  resetting : Bool := false
  curTask : Option Task := none
  deriving DecidableEq, Repr

/-- One quadrant (R63, R71, R407, R450): shared memory, forwarding buffer, hold-buffer peak, crossbar self-check counts,
hashed bytes. -/
structure Quad where
  shared : List Host.Cell := []
  fwd : List MLine := []
  checks : Nat := 0
  checkFails : Nat := 0
  hashed : Nat := 0
  deriving DecidableEq, Repr

/-! ### Chart, power, clocks, safety, sensing -/

/-- The Chart in force and the choice of the start (R473 to R485): slot and source; the start-up orders that the Chart names;
the checkpoint that this start loaded is of generation 1 or later (R482); slots written since the last option-load phase. -/
structure ChartSt where
  slot : Option Nat := none
  source : Nat := 0
  pendingOrders : List (List (BitVec 8)) := []
  loaded : Bool := false
  written : List Bool := [false, false]
  deriving DecidableEq, Repr

/-- Supply and hold-up (chapter 14): voltages of VIN, VSYS, the bank and WCAP in mV; enables; ID_GATE closed, HB_DIS closed,
converter running, HB_TST on; the power-up step under way with the ship's time of its enable; consecutive failed attempts;
held in Dormant by R519; last bank test and whether one is due or has run in this start; the brownout watch; what was detected
(VIN in 10 mV, origin of Table 14.11, ship's time at the start of Flush); MODE_EFF and bank voltage at the start of Flush;
outcome of the Flush; committed positions; supply returned; tick at which the minimum off time ends; the first failing rail
since Active (rail, cause, VS); rail events counted (failed steps, window faults, discharge timeouts by rail); operating
seconds of the last rail-fault shut-down; why the rails go down (0 orderly, 1 brownout, 2 rail fault, 3 device reset, 4 failed
step); next power-log sequence; events kept until they can be posted; step of the orderly shut-down; whether the bus asked for
the shut-down; whether the last shut-down wrote an ORDERLY record; a power-down of R528 that waits for its step; the phase of
Table 14.11 that a Commit ends. (DESIGN CHOICE, log entry 10; DESIGN CHOICE, log entry 157.) -/
structure Power where
  vin : Nat := 13500
  vsys : Nat := 13500
  bank : Nat := 0
  wcap : Nat := 3450
  enables : Nat := 0
  idGate : Bool := true
  hbDis : Bool := false
  hbGate : Bool := false
  hbTst : Bool := false
  ramp : Option (Nat × Nat) := none
  attempts : Nat := 0
  locked : Bool := false
  bankTestAt : Nat := 0
  bankDue : Bool := false
  bankDone : Bool := false
  watch : Bool := false
  detected : Option (Nat × Nat × Nat) := none
  effAtFlush : Nat := 0
  bankAtFlush : Nat := 0
  outcome : Nat := 0
  committed : List Nat := List.replicate 16 (2 ^ 32 - 1)
  returned : Bool := false
  minOffEnd : Nat := 0
  faultRail : Option (Nat × Nat × Nat) := none
  railCounts : List Nat := List.replicate 18 0
  lastRailOp : Option Nat := none
  down : Nat := 0
  plNext : Nat := 0
  deferred : List Ev := []
  offStep : Nat := 0
  viaSeq : Bool := false
  orderly : Bool := false
  downAfterStep : Bool := false
  leftPhase : Nat := 5
  deriving DecidableEq, Repr

/-- The SEQ bus (R529 to R536): the step that the group admits, a frame not yet acknowledged with its tries, tick of the last
frame, the orphan start of R534, slaves that await a Chart with the next block, a frame heard since option load, the tick at
which option load ended, and CHART_ERR of Table 14.9. -/
structure SeqBus where
  step : Nat := 0
  heard : Bool := false
  optEnd : Nat := 0
  chartErr : Bool := false
  pending : Option (Nat × Nat × Nat) := none
  tries : Nat := 0
  lastFrame : Nat := 0
  orphaned : Bool := false
  chartNext : List (Nat × Nat) := []
  deriving DecidableEq, Repr

/-- The Watch domain, clocks and resets (chapter 15): ticks since Watch power-on; tick at which Dormant was reached; the crystal
is tried no more; the tick E of the pad hold; straps (BOOT, CLKMODE, SEQROLE, SEQ_ID); RESET_N low; ship's time of the last
request, and of the last request, L1 entry or end of an order (R348); tick at which Doze was reached; a maintenance wake is under
way; clocks gated by QUIET; ship's time of the
last helm kick, and the time run while the watchdog is paused; start kind (Table 9.11); a full option-load phase has run since
Watch power-on; effective seconds held apart until the restore, and those of Dormant alone; the Logbook's CSN is that of the
cycle before; seconds of this power cycle whose clock update (R110) and whose operating second (R625) have been made; ship's time at
which this start began; a PLL reference is usable; ship's time at which link training began; a
device reset that was accepted and has not acted yet; tick and WCH_WAKESTAT bit of the wake that made the on request
(R561); ship's time at which the newest Doze was reached and left (R629). -/
structure Watch where
  ticks : Nat := 0
  dormFrom : Nat := 0
  crystalDone : Bool := false
  entryTick : Nat := 0
  straps : List Nat := [0, 0, 1, 0]
  resetPin : Bool := false
  idleFrom : Nat := 0
  eligFrom : Nat := 0
  dozeFrom : Nat := 0
  maint : Bool := false
  gated : Bool := false
  wdogAt : Nat := 0
  wdogHeld : Option Nat := none
  startKind : Nat := 0
  fullLoaded : Bool := false
  eclkApart : List Nat := List.replicate 16 0
  dormAdd : List Nat := List.replicate 16 0
  eclkSecs : Nat := 0
  opSecs : Nat := 0
  prevCycleCsnOk : Bool := false
  startAt : Nat := 0
  pllRef : Bool := false
  linkWaitFrom : Nat := 0
  resetCode : Nat := 0
  wakeBy : Nat × Nat := (0, 0)
  dozeSpan : Nat × Nat := (0, 0)
  deriving DecidableEq, Repr

/-- Functional safety (chapter 16): SAFE_N released, injected faults, lines whose loss under Hove-to has been announced, an
hourly latent-fault run is due (R597).
(DEDUCED, log entry 86; DEDUCED, log entry 100; DEDUCED, log entry 147; DESIGN CHOICE, log entry 157.) -/
structure Safety where
  safeN : Bool := true
  inj : List (Nat × Nat) := []
  hoveLines : List Nat := []
  lftDue : Bool := false
  deriving DecidableEq, Repr

/-- One temperature sensor (chapter 18): last reading in 0.01 degree; read at this start; exclusion cause; since when it deviates
(R632); sum and number of its readings since the last evaluation (R634); outside its auxiliary limits (R641); sum and number of its
readings in the present second (R110); its last reading before the newest Doze and the first after it (R629). -/
structure Sensor where
  value : Int := 0
  read : Bool := false
  excl : Nat := 0
  devFrom : Option Nat := none
  sum : Int := 0
  cnt : Nat := 0
  out : Bool := false
  secSum : Int := 0
  secCnt : Nat := 0
  before : Option Int := none
  after : Option Int := none
  deriving DecidableEq, Repr

/-- Sensing and thermal management (chapter 18): the sensors, since when media critical lasts, ship's time of the last evaluation
(R634). -/
structure Therm where
  media : List Sensor := List.replicate 16 {}
  ctrl : List Sensor := List.replicate 8 {}
  aux : List Sensor := List.replicate 8 {}
  critFrom : Option Nat := none
  evalAt : Nat := 0
  deriving DecidableEq, Repr

/-- Log-line (chapter 18): the records of the frame under construction and the ship's time of its first; the frames that wait for the
stream; the samples of each channel's open SAMPLE record and the time of its first; samples in a row outside the window, and channels
whose excursion has been announced (R642); the channels, the number and the start of what was lost since room ran out (R646); a stream
check is due (R644); the channel registers that the frame under construction goes by, none where they are the present ones (R650); edges
found in Doze: channel, level, stamp and code (R648). -/
structure LogL where
  recs : List (List (BitVec 8)) := []
  frameFrom : Nat := 0
  queue : List (List (BitVec 8)) := []
  smp : List (List Nat × Nat) := List.replicate 8 ([], 0)
  winCnt : List Nat := List.replicate 8 0
  winOut : List Bool := List.replicate 8 false
  gapMask : Nat := 0
  gapLost : Nat := 0
  gapFrom : Nat := 0
  checkDue : Bool := false
  cfg : List Nat := []
  dozeEdges : List (Nat × Bool × Nat × Nat) := []
  deriving DecidableEq, Repr

/-- The device: everything but the queue of commands. (DESIGN CHOICE, log entry 6.) (DESIGN CHOICE, log entry 7.)
(DESIGN CHOICE, log entry 9.) (DESIGN CHOICE, log entry 55.) -/
structure Dev where
  /-- ship's time, ticks in [63:16] and fraction in [15:0] | 64 | 00 Terms (before R667) | 0 -/
  time : Nat := 0
  /-- operating seconds of this power cycle's records | 40 | 17 R625, 00 Terms | 0 (Logbook as the factory leaves it) -/
  opSec : Nat := 0
  /-- power-cycle count | 32 | 00 Terms, 15 R571 | 0 (Logbook as the factory leaves it) -/
  cycle : Nat := 0
  /-- next CSN of the commit sequencer | 64 | 01 R30, 07 R250 | 0 -/
  nextCsn : Nat := 0
  /-- second counter of the duplicated sequencer | 64 | 16 R591 | 0 -/
  nextCsn2 : Nat := 0
  /-- the commit sequencer has resumed (R667) | 1 | 00 R667 | false -/
  seqOn : Bool := false
  /-- power state or phase | - | 15 R542 | optLoad -/
  phase : Phase := .optLoad
  /-- the Helm-space registers that differ from their reset value, by offset | 64 each | 09 R328 | none -/
  regs : List (Nat × BitVec 64) := []
  /-- fields of access RWL that a write has locked until power-on, by register offset | 1 each | 00 Table 0.3 | none -/
  locked : List Nat := []
  /-- high halves latched for each requester (requester, offset, value) | 32 each | 09 R331 | none -/
  halves : List (Nat × Nat × Nat) := []
  /-- MODEL'S OWN: how many free values have been drawn | - | this model | 0 (DESIGN CHOICE) -/
  freeCtr : Nat := 0
  /-- MODEL'S OWN: what the device has sent, newest first | - | this model | none (DESIGN CHOICE) -/
  out : List Msg := []
  /-- programmed rows of the medium by physical sector address | 2432 each | 03 R78, R88 | none -/
  sectors : List (Nat × Sector) := []
  /-- segment state entries that differ from the factory entry, by segment name | 384 each | 04 R114, 05 R172, 06 R185 | none -/
  segs : List (Nat × Seg) := []
  /-- nodes of the wear tree that differ from a fresh one, by 128 n + j | 128 each | 06 R193 | none -/
  wnodes : List (Nat × WNode) := []
  /-- stripe groups | - | 05 R161 | none -/
  groups : List Group := []
  /-- metadata records that wait for an open metadata segment: issuing Point and body | - | 05 R161 | none -/
  waitRecs : List (Nat × Body) := []
  /-- next stripe group number | 32 | 05 R172 | 1 (DESIGN CHOICE) -/
  nextGroup : Nat := 1
  /-- group corrections by 128 n + j | 16 each | 04 R114 | none, so 0x0100 -/
  phis : List (Nat × Phi) := []
  /-- the sixteen Points | - | 02 Table 2.1 | each empty -/
  points : List Point := List.replicate 16 {}
  /-- the sixteen nominal homes | - | 02 R50 | each empty -/
  homes : List Home := List.replicate 16 {}
  /-- Binnacle entries of all slices | 64 B and marks each | 05 R135 | none -/
  binn : List BEntry := []
  /-- logical sectors ready to route | - | 05 R141 | none -/
  ready : List Nat := []
  /-- images being programmed | - | 05 R142, R145 | none -/
  imgs : List Img := []
  /-- line logs on their way to media commit | - | 05 R158 | none -/
  lljobs : List LineLogJob := []
  /-- the overlay index by logical sector | 64 each | 05 R147 | none -/
  overlay : List (Nat × Ovl) := []
  /-- the map-cache banks | 64 each | 07 R224 | none -/
  mapc : List MapWay := []
  /-- the map directory, valid entries by 16384 h + page: both copies' page addresses | 64 each | 07 R222 | none -/
  dir : List (Nat × Nat × Nat) := []
  /-- the poison list: line mask by logical page | 128 each | 07 R218 | none -/
  poison : List (Nat × Nat) := []
  /-- source of each poisoned line: 0 external, 1 injected, 2 internal | 2 each | 09 R310 | none -/
  poisonSrc : List (Nat × Nat) := []
  /-- lines with a record in this power cycle | - | 01 R40 | none -/
  announced : List Nat := []
  /-- the Pilot caches by line | 64 B each | 05 R139 | none -/
  pilot : List (Nat × PilotLine) := []
  /-- sectors corrected by BCH since power-on (Get Health Info) | 32 | 09 Table 9.4 | 0 -/
  corrected : Nat := 0
  /-- requests in the quadrant hold buffers, in arrival order | - | 02 R71 | none -/
  hold : List Req := []
  /-- requests of the ports that wait in the front ends for a sector whose die link retrains, with its address, in arrival order | - | 02 R58, 03 R676 | none -/
  fe : List (Nat × Req) := []
  /-- completions of the writes that a POISON record supersedes, each with the page of the record, which they wait for | - | 09 R309 | none -/
  recAcks : List (Nat × Nat × Nat × Nat) := []
  /-- MODEL'S OWN: the sector for whose die's retrain the command that runs waits | 31 | this model | none, as between any two commands (DESIGN CHOICE) -/
  blocked : Option Nat := none
  /-- lines lost because their only copy lay on a dead die, with that die, until the record of their contiguous range | - | 02 R74 | none -/
  deadLost : List (Nat × Nat) := []
  /-- Global Persistent Flushes that wait (R19): port and the CSN below which every write must be persistent | - | 01 R19 | none -/
  gpf : List (Nat × Nat) := []
  /-- pages whose writes hold units of their home's allowance (R202) | - | 06 R202 | none -/
  allowPages : List Nat := []
  /-- occupied page slots O | 32 | 06 R199 | 0 -/
  occupied : Nat := 0
  /-- a recomputation of S by helm is due | 1 | 06 R199 | false -/
  capDue : Bool := false
  /-- secure discards, the running one first | - | 06 R211 | none -/
  sdisc : List SDisc := []
  /-- the REKEY in progress | - | 08 R281 | none -/
  rekey : Option Rekey := none
  /-- a Sanitize or Secure Erase: head, step done, secure | - | 09 R323 | none -/
  sanitize : Option (Nat × Nat × Bool) := none
  /-- scrambler keys by 2 slot + generation | 128 each | 08 R278 | none, so the factory's (Config.freshKey) -/
  keys : List (Nat × BitVec 128) := []
  /-- current-generation bit of each key slot, in the key pages | 8 | 08 R278 | 0 (DESIGN CHOICE) -/
  keyCur : Nat := 0
  /-- generations whose key store copy differs from its complement | - | 08 R279 | none -/
  badKeys : List Nat := []
  /-- seals that stand | - | 08 R287 | none -/
  seals : List Seal := []
  /-- seal-chain records on media by number | 128 B each | 08 R289 | none: GENESIS, record 0, is computed -/
  chain : List (Nat × List (BitVec 8)) := []
  /-- number of the seal-chain head | 64 | 08 R290 | 0 -/
  sealHead : Nat := 0
  /-- the content of the checkpoint being saved | - | 07 R234 | none -/
  saving : Option Snap := none
  /-- the two newest checkpoints on media, newest first | - | 07 R235 | generation 0 of an empty device (R238) -/
  ckpts : List Snap := [{}]
  /-- a checkpoint has been requested by an order or by recovery | 1 | 07 R232, Table 7.8 | false -/
  ckptReq : Bool := false
  /-- ship's time of the last cut | 64 | 07 R232 | 0 -/
  cutAt : Nat := 0
  /-- the Commit stage's DRF_ECLK values | 64 each | 04 R113 | none -/
  commitEclk : Option (List Nat) := none
  /-- checkpoint locators by 2 (generation mod 2) + copy | 256 B each | 07 R236 | generation 0, copies A and B -/
  locs : List (Nat × Locator) := [(0, ⟨0, 0, 0, 0, 0, 0, Config.ckptDigest 0⟩), (1, ⟨0, 1, 0, 0, 0, 0, Config.ckptDigest 0⟩)]
  /-- the Logbook's bytes that are not zero, by byte address | 8 each | 17 R618 | none -/
  lbk : List Host.Cell := []
  /-- the registry page's lock fuse | 1 | 17 R621 | false -/
  fuse : Bool := false
  /-- the two heads | - | 09 R298 | each empty -/
  heads : List Head := [{}, {}]
  /-- host time pair: host time in ns and ship's time of receipt | 64, 64 | 09 R317 | none -/
  stamp : Option (Nat × Nat) := none
  /-- alert configuration: enables, life-used and over-temperature warning thresholds | 8, 8, 16 | 09 Table 9.4 | zero (DESIGN CHOICE) -/
  alertCfg : Nat × Nat × Nat := (0, 0, 0)
  /-- helm patch slot selected for the next start | 1 | 09 Table 9.4 | false -/
  patchNext : Bool := false
  /-- helm patch in force | 1 | 09 Table 9.4 | false -/
  patchOn : Bool := false
  /-- the I3C target | - | 09 R337 | no dynamic address, IBIs off -/
  i3c : I3c := {}
  /-- orders | - | 12 R458 | none -/
  ord : Orders := {}
  /-- streams | - | 10 R350 | none -/
  str : Streams := {}
  /-- Fix, deck log, Tally | - | 17 R601, R609, R616 | empty -/
  deck : Deck := {}
  /-- the sixteen engines | - | 11 R402 | as an engine reset leaves them -/
  engines : List Engine := List.replicate 16 {}
  /-- the four quadrants | - | 02 Table 2.1 | each empty -/
  quads : List Quad := List.replicate 4 {}
  /-- the Chart | - | 12 R473 | none -/
  chart : ChartSt := {}
  /-- supply and hold-up | - | 14 R507 | rails off; VIN 13.5 V (DESIGN CHOICE, log entry 10) -/
  pwr : Power := {}
  /-- SEQ bus | - | 14 R529 | idle -/
  seqb : SeqBus := {}
  /-- Watch domain, clocks, resets | - | 15 R543 | at Watch power-on -/
  wch : Watch := {}
  /-- functional safety | - | 16 R580 | no Hove-to; SAFE_N released -/
  saf : Safety := {}
  /-- sensing and thermal management | - | 18 R627 | no reading -/
  thm : Therm := {}
  /-- log-line | - | 18 R641 | idle -/
  ll : LogL := {}
  deriving DecidableEq, Repr

/-- The state: the commands that wait, first in first out, and the device. (DESIGN CHOICE, log entry 1.) -/
structure State where
  /-- MODEL'S OWN: commands waiting, first in first out | - | this model | none -/
  pending : List Instr
  /-- the device | - | 00 to 19 | right after Watch power-on -/
  dev : Dev
  deriving DecidableEq, Repr

/-- The machine right after reset: the Watch domain has just powered on, the option-load phase begins, the Logbook and the
medium are as the factory leaves them, and no command waits. (DEDUCED, log entry 14.) -/
def State.reset : State := ⟨[], {}⟩

end Sys2Proof.Machine
end

