-- ==== Sys2Proof/WellFormed.lean ====
section
/-! DEFINITION. Well-formed commands: each operand within the range its row admits. A command outside these ranges is not
one the hardware can receive, and no meaning runs it. -/

namespace Sys2Proof

/-- A table word exists. -/
def TableUe.wf : TableUe → Bool
  | .overlay h | .mapDir h | .poison h => decide (h < 16)
  | .mapWay h slot => decide (h < 16) && decide (slot < 2 ^ 24)
  | .wearNode n j => decide (n < 16) && decide (j < 120)
  | .wearRoot n => decide (n < 16)
  | .wearLeaf sg fails => decide (sg < 2 ^ 17) && decide (sg % 8192 < 7680) && decide (fails < 2 ^ 32)
  | .segCopy sg _ => decide (sg < 2 ^ 17) && decide (sg % 8192 < 7680)

/-- A mailbox input fits the 4,096 B payload of R318 and names a head. -/
def OrdReq.wf : OrdReq → Bool
  | .run _ => true
  | .mbox h inp => decide (h < 2) && decide (inp.length ≤ 4096)

/-- The effect of a running order: programs that no mailbox command of Table 9.5 carries are named only by orders. -/
def OrdReq.isRun : OrdReq → Bool
  | .run _ => true
  | .mbox .. => false

/-- Operand ranges of MEM_RD. -/
def okMemRd (p : Nat) (tag : Nat) (a : Nat) (_ev : RdEnv) : Bool := decide (p < 2) && decide (tag < 65536) && decide (a < 2 ^ 48)

/-- Operand ranges of MEM_RD_DATA. -/
def okMemRdData (p : Nat) (tag : Nat) (a : Nat) (_ev : RdEnv) : Bool := decide (p < 2) && decide (tag < 65536) && decide (a < 2 ^ 48)

/-- Operand ranges of MEM_WR. -/
def okMemWr (p : Nat) (tag : Nat) (a : Nat) (_data : Line) (_poison : Bool) (_bad : Bool) : Bool := decide (p < 2) && decide (tag < 65536) && decide (a < 2 ^ 48)

/-- Operand ranges of MEM_WR_PTL. -/
def okMemWrPtl (p : Nat) (tag : Nat) (a : Nat) (_data : Line) (_mask : Mask) (_poison : Bool) (_bad : Bool) (_ev : RdEnv) : Bool := decide (p < 2) && decide (tag < 65536) && decide (a < 2 ^ 48)

/-- Operand ranges of UNSUPPORTED_M2S_OPCODE. -/
def okUnsupportedM2sOpcode (p : Nat) (tag : Nat) (op : Nat) (a : Nat) : Bool := decide (p < 2) && decide (tag < 65536) && decide (op < 16) && decide (a < 2 ^ 48)

/-- Operand ranges of GLOBAL_PERSISTENT_FLUSH. -/
def okGlobalPersistentFlush (p : Nat) : Bool := decide (p < 2)

/-- Operand ranges of PERST. -/
def okPerst (p : Nat) (cause : Nat) : Bool := decide (p < 2) && decide (cause < 2)

/-- Operand ranges of LINK_TRAINING. -/
def okLinkTraining (p : Nat) (rate : Nat) (width : Nat) (_flit256 : Bool) (_ref : Bool) : Bool := decide (p < 2) && decide (rate ≤ 5) && decide (width ≤ 4)

/-- Operand ranges of L1_ENTRY. -/
def okL1Entry (p : Nat) : Bool := decide (p < 2)

/-- Operand ranges of L1_EXIT. -/
def okL1Exit (p : Nat) : Bool := decide (p < 2)

/-- Operand ranges of D3HOT_ENTRY. -/
def okD3hotEntry (p : Nat) : Bool := decide (p < 2)

/-- Operand ranges of DECODER_COMMIT. -/
def okDecoderCommit (p : Nat) (idx : Nat) (base : Nat) (size : Nat) (dpa : Nat) (ways : Nat) (gran : Nat) : Bool := decide (p < 2) && decide (idx < 4) && decide (base < 2 ^ 52) && decide (size < 2 ^ 52) && decide (dpa < 2 ^ 52) && [1, 2, 4, 8].contains ways && [256, 512, 1024, 2048, 4096, 8192, 16384].contains gran

/-- Operand ranges of MSIX_UNMASK. -/
def okMsixUnmask (p : Nat) (v : Nat) : Bool := decide (p < 2) && decide (v < 8)

/-- Operand ranges of IDENTIFY. -/
def okIdentify (h : Nat) : Bool := decide (h < 2)

/-- Operand ranges of GET_EVENT_RECORDS. -/
def okGetEventRecords (h : Nat) (log : Nat) : Bool := decide (h < 2) && decide (log < 4)

/-- Operand ranges of CLEAR_EVENT_RECORDS. -/
def okClearEventRecords (h : Nat) (log : Nat) (all : Bool) (handles : List Nat) : Bool := decide (h < 2) && decide (log < 4) && handles.all (fun x => decide (x < 65536))

/-- Operand ranges of GET_EVENT_INTERRUPT_POLICY. -/
def okGetEventInterruptPolicy (h : Nat) : Bool := decide (h < 2)

/-- Operand ranges of SET_EVENT_INTERRUPT_POLICY. -/
def okSetEventInterruptPolicy (h : Nat) (policy : List Nat) : Bool := decide (h < 2) && decide (policy.length = 4) && policy.all (fun x => decide (x < 4))

/-- Operand ranges of GET_FW_INFO. -/
def okGetFwInfo (h : Nat) : Bool := decide (h < 2)

/-- Operand ranges of TRANSFER_FW. -/
def okTransferFw (h : Nat) (slot : Nat) (off : Nat) (data : List Byte) : Bool := decide (h < 2) && decide (slot < 256) && decide (off < 2 ^ 32) && decide (data.length ≤ 4096)

/-- Operand ranges of ACTIVATE_FW. -/
def okActivateFw (h : Nat) (action : Nat) (slot : Nat) : Bool := decide (h < 2) && decide (action < 256) && decide (slot < 256)

/-- Operand ranges of GET_TIMESTAMP. -/
def okGetTimestamp (h : Nat) : Bool := decide (h < 2)

/-- Operand ranges of SET_TIMESTAMP. -/
def okSetTimestamp (h : Nat) (ns : Nat) : Bool := decide (h < 2) && decide (ns < 2 ^ 64)

/-- Operand ranges of GET_SUPPORTED_LOGS. -/
def okGetSupportedLogs (h : Nat) : Bool := decide (h < 2)

/-- Operand ranges of GET_LOG. -/
def okGetLog (h : Nat) (off : Nat) (len : Nat) : Bool := decide (h < 2) && decide (off < 2 ^ 32) && decide (len < 2 ^ 32)

/-- Operand ranges of IDENTIFY_MEMORY_DEVICE. -/
def okIdentifyMemoryDevice (h : Nat) : Bool := decide (h < 2)

/-- Operand ranges of GET_PARTITION_INFO. -/
def okGetPartitionInfo (h : Nat) : Bool := decide (h < 2)

/-- Operand ranges of SET_PARTITION_INFO. -/
def okSetPartitionInfo (h : Nat) (inp : List Byte) : Bool := decide (h < 2) && decide (inp.length ≤ 4096)

/-- Operand ranges of GET_LSA. -/
def okGetLsa (h : Nat) (off : Nat) (len : Nat) : Bool := decide (h < 2) && decide (off < 2 ^ 32) && decide (len < 2 ^ 32)

/-- Operand ranges of SET_LSA. -/
def okSetLsa (h : Nat) (off : Nat) (data : List Byte) : Bool := decide (h < 2) && decide (off < 2 ^ 32) && decide (data.length ≤ 4096)

/-- Operand ranges of GET_HEALTH_INFO. -/
def okGetHealthInfo (h : Nat) : Bool := decide (h < 2)

/-- Operand ranges of GET_ALERT_CONFIGURATION. -/
def okGetAlertConfiguration (h : Nat) : Bool := decide (h < 2)

/-- Operand ranges of SET_ALERT_CONFIGURATION. -/
def okSetAlertConfiguration (h : Nat) (valid : Nat) (enable : Nat) (life : Nat) (temp : Nat) : Bool := decide (h < 2) && decide (valid < 256) && decide (enable < 256) && decide (life < 256) && decide (temp < 65536)

/-- Operand ranges of GET_SHUTDOWN_STATE. -/
def okGetShutdownState (h : Nat) : Bool := decide (h < 2)

/-- Operand ranges of SET_SHUTDOWN_STATE. -/
def okSetShutdownState (h : Nat) (v : Nat) : Bool := decide (h < 2) && decide (v < 256)

/-- Operand ranges of GET_POISON_LIST. -/
def okGetPoisonList (h : Nat) (start : Nat) (len : Nat) : Bool := decide (h < 2) && decide (start < 2 ^ 64) && decide (len < 2 ^ 64)

/-- Operand ranges of INJECT_POISON. -/
def okInjectPoison (h : Nat) (dpa : Nat) : Bool := decide (h < 2) && decide (dpa < 2 ^ 64)

/-- Operand ranges of CLEAR_POISON. -/
def okClearPoison (h : Nat) (dpa : Nat) (_data : Line) : Bool := decide (h < 2) && decide (dpa < 2 ^ 64)

/-- Operand ranges of SCAN_MEDIA. -/
def okScanMedia (h : Nat) (op : Nat) : Bool := decide (h < 2) && decide (0x4303 ≤ op) && decide (op ≤ 0x4305)

/-- Operand ranges of PERSISTENT_MEMORY_SECURITY. -/
def okPersistentMemorySecurity (h : Nat) (op : Nat) : Bool := decide (h < 2) && decide (0x4500 ≤ op) && decide (op ≤ 0x45FF)

/-- Operand ranges of SANITIZE. -/
def okSanitize (h : Nat) (st : Nat) (_rngOk : Bool) (fails : List (Nat × Nat)) : Bool := decide (h < 2) && decide (st ≤ 5) && fails.all (fun x => decide (x.1 < 2 ^ 17) && decide (x.2 < 2 ^ 32))

/-- Operand ranges of SECURE_ERASE. -/
def okSecureErase (h : Nat) (st : Nat) (_rngOk : Bool) (fails : List (Nat × Nat)) : Bool := decide (h < 2) && decide (st ≤ 5) && fails.all (fun x => decide (x.1 < 2 ^ 17) && decide (x.2 < 2 ^ 32))

/-- Operand ranges of GET_DEVICE_IDENTITY. -/
def okGetDeviceIdentity (h : Nat) (inp : List Byte) : Bool := decide (h < 2) && decide (inp.length ≤ 4096)

/-- Operand ranges of GET_MODE. -/
def okGetMode (h : Nat) (inp : List Byte) : Bool := decide (h < 2) && decide (inp.length ≤ 4096)

/-- Operand ranges of GET_CHART_SLOTS. -/
def okGetChartSlots (h : Nat) (inp : List Byte) : Bool := decide (h < 2) && decide (inp.length ≤ 4096)

/-- Operand ranges of WRITE_CHART_CHUNK. -/
def okWriteChartChunk (h : Nat) (inp : List Byte) : Bool := decide (h < 2) && decide (inp.length ≤ 4096)

/-- Operand ranges of RUN_ORDER. -/
def okRunOrder (h : Nat) (inp : List Byte) : Bool := decide (h < 2) && decide (inp.length ≤ 4096)

/-- Operand ranges of GET_ORDER_RESULT. -/
def okGetOrderResult (h : Nat) (inp : List Byte) : Bool := decide (h < 2) && decide (inp.length ≤ 4096)

/-- Operand ranges of READ_SEAL_RECORD. -/
def okReadSealRecord (h : Nat) (inp : List Byte) : Bool := decide (h < 2) && decide (inp.length ≤ 4096)

/-- Operand ranges of READ_DECK_LOG. -/
def okReadDeckLog (h : Nat) (inp : List Byte) : Bool := decide (h < 2) && decide (inp.length ≤ 4096)

/-- Operand ranges of READ_POWER_LOG. -/
def okReadPowerLog (h : Nat) (inp : List Byte) : Bool := decide (h < 2) && decide (inp.length ≤ 4096)

/-- Operand ranges of READ_LOGBOOK_PAGE. -/
def okReadLogbookPage (h : Nat) (inp : List Byte) : Bool := decide (h < 2) && decide (inp.length ≤ 4096)

/-- Operand ranges of WRITE_REGISTRY_PAGE. -/
def okWriteRegistryPage (h : Nat) (inp : List Byte) : Bool := decide (h < 2) && decide (inp.length ≤ 4096)

/-- Operand ranges of LOCK_REGISTRY_PAGE. -/
def okLockRegistryPage (h : Nat) (inp : List Byte) : Bool := decide (h < 2) && decide (inp.length ≤ 4096)

/-- Operand ranges of GET_CAPACITY. -/
def okGetCapacity (h : Nat) (inp : List Byte) : Bool := decide (h < 2) && decide (inp.length ≤ 4096)

/-- Operand ranges of RESET. -/
def okReset (h : Nat) (inp : List Byte) : Bool := decide (h < 2) && decide (inp.length ≤ 4096)

/-- Operand ranges of SQ_TAIL_WRITE. -/
def okSqTailWrite (by_ : Nat) (r : Nat) (v : Nat) : Bool := decide (by_ < 4) && decide (r < 3) && decide (v < 2 ^ 32)

/-- Operand ranges of CQ_HEAD_WRITE. -/
def okCqHeadWrite (by_ : Nat) (r : Nat) (v : Nat) : Bool := decide (by_ < 4) && decide (r < 3) && decide (v < 2 ^ 32)

/-- Operand ranges of ORDER_DISPATCH. -/
def okOrderDispatch (r : Nat) : Bool := decide (r < 4)

/-- Operand ranges of ORDER_COMPLETION. -/
def okOrderCompletion (id : Nat) : Bool := decide (id < 2 ^ 64)

/-- Operand ranges of MODE_CHANGE. -/
def okModeChange (o : OrdReq) : Bool := o.wf

/-- Operand ranges of CHECKPOINT. -/
def okCheckpoint (o : OrdReq) : Bool := o.wf

/-- Operand ranges of DISCARD. -/
def okDiscard (o : OrdReq) : Bool := o.wf

/-- Operand ranges of SECURE_DISCARD. -/
def okSecureDiscard (o : OrdReq) (st : Nat) : Bool := o.wf && decide (1 ≤ st) && decide (st ≤ 7)

/-- Operand ranges of SEAL_RANGE. -/
def okSealRange (o : OrdReq) (_ev : RdEnv) : Bool := o.wf

/-- Operand ranges of UNSEAL. -/
def okUnseal (o : OrdReq) : Bool := o.wf

/-- Operand ranges of SEAL_VERIFY. -/
def okSealVerify (o : OrdReq) (_ev : RdEnv) : Bool := o.isRun

/-- Operand ranges of SEAL_EXPORT. -/
def okSealExport (o : OrdReq) (_ev : RdEnv) : Bool := o.isRun

/-- Operand ranges of TRIGGER. -/
def okTrigger (o : OrdReq) : Bool := o.isRun

/-- Operand ranges of STREAM_RESET. -/
def okStreamReset (o : OrdReq) : Bool := o.isRun

/-- Operand ranges of REKEY. -/
def okRekey (o : OrdReq) (st : Nat) (_rngOk : Bool) : Bool := o.wf && decide (1 ≤ st) && decide (st ≤ 5)

/-- Operand ranges of FIX. -/
def okFix (o : OrdReq) : Bool := o.wf

/-- Operand ranges of DECK_CLEAR. -/
def okDeckClear (o : OrdReq) : Bool := o.wf

/-- Operand ranges of DECK_RUN. -/
def okDeckRun (o : OrdReq) : Bool := o.isRun

/-- Operand ranges of DECK_STOP. -/
def okDeckStop (o : OrdReq) : Bool := o.isRun

/-- Operand ranges of CHART_CHECK. -/
def okChartCheck (o : OrdReq) : Bool := o.wf

/-- Operand ranges of HELM_SPACE_WRITE. -/
def okHelmSpaceWrite (by_ : Nat) (off : Nat) (width : Nat) (_v : Word) : Bool := decide (by_ < 4) && decide (off < 65536) && decide (width ≤ 64)

/-- Operand ranges of HALF_READ_LATCH. -/
def okHalfReadLatch (by_ : Nat) (off : Nat) : Bool := decide (by_ < 4) && decide (off < 65536)

/-- Operand ranges of PNT_ARB_WRITE. -/
def okPntArbWrite (by_ : Nat) (n : Nat) (half : Nat) (_v : Word) : Bool := decide (by_ < 4) && decide (n < 16) && decide (half < 3)

/-- Operand ranges of PNT_RETIRE_WRITE. -/
def okPntRetireWrite (by_ : Nat) (half : Nat) (_v : Word) : Bool := decide (by_ < 4) && decide (half < 3)

/-- Operand ranges of WLV_PLACE_WRITE. -/
def okWlvPlaceWrite (by_ : Nat) (h : Nat) (half : Nat) (_v : Word) : Bool := decide (by_ < 4) && decide (h < 16) && decide (half < 3)

/-- Operand ranges of STR_CTL_WRITE. -/
def okStrCtlWrite (by_ : Nat) (s : Nat) (half : Nat) (_v : Word) : Bool := decide (by_ < 4) && decide (s < 4096) && decide (half < 3)

/-- Operand ranges of STR_ACT_TRIGGER. -/
def okStrActTrigger (by_ : Nat) (s : Nat) : Bool := decide (by_ < 4) && decide (s < 4096)

/-- Operand ranges of STR_ACT_QUEUE_RESET. -/
def okStrActQueueReset (by_ : Nat) (s : Nat) : Bool := decide (by_ < 4) && decide (s < 4096)

/-- Operand ranges of STR_NOTE_READ. -/
def okStrNoteRead (by_ : Nat) (p : Nat) : Bool := decide (by_ < 4) && decide (p < 2)

/-- Operand ranges of PWR_CTL_OFF. -/
def okPwrCtlOff (by_ : Nat) : Bool := decide (by_ < 4)

/-- Operand ranges of PWR_CTL_BANKTEST. -/
def okPwrCtlBanktest (by_ : Nat) : Bool := decide (by_ < 4)

/-- Operand ranges of PWR_THR_WRITE. -/
def okPwrThrWrite (by_ : Nat) (_v : Word) : Bool := decide (by_ < 4)

/-- Operand ranges of FIX_CTL_TRIGGER. -/
def okFixCtlTrigger (by_ : Nat) (_v : Word) : Bool := decide (by_ < 4)

/-- Operand ranges of SEQ_CMD_FIX. -/
def okSeqCmdFix (by_ : Nat) (addr : Nat) (arg : Nat) : Bool := decide (by_ < 4) && decide (addr < 256) && decide (arg < 65536)

/-- Operand ranges of SEQ_CMD_STATUS. -/
def okSeqCmdStatus (by_ : Nat) (addr : Nat) (resp : Option Nat) : Bool := decide (by_ < 4) && decide (addr < 256) && (match resp with | some x => decide (x < 65536) | none => true)

/-- Operand ranges of RST_CTL_DEVICE. -/
def okRstCtlDevice (by_ : Nat) (key : Nat) : Bool := decide (by_ < 4) && decide (key < 2 ^ 32)

/-- Operand ranges of RST_WDOG_KICK. -/
def okRstWdogKick (by_ : Nat) (_v : Word) : Bool := decide (by_ < 4)

/-- Operand ranges of PADHOLD_RELEASE. -/
def okPadholdRelease (by_ : Nat) (_v : Word) : Bool := decide (by_ < 4)

/-- Operand ranges of TAL_SEL_WRITE. -/
def okTalSelWrite (by_ : Nat) (j : Nat) (_v : Word) : Bool := decide (by_ < 4) && decide (j < 44)

/-- Operand ranges of TAL_CFG_WRITE. -/
def okTalCfgWrite (by_ : Nat) (_v : Word) : Bool := decide (by_ < 4)

/-- Operand ranges of SAF_INJ_WRITE. -/
def okSafInjWrite (by_ : Nat) (_v : Word) : Bool := decide (by_ < 4)

/-- Operand ranges of LLN_CH_WRITE. -/
def okLlnChWrite (by_ : Nat) (i : Nat) (half : Nat) (_v : Word) : Bool := decide (by_ < 4) && decide (i < 8) && decide (half < 3)

/-- Operand ranges of I3C_READ. -/
def okI3cRead (frame : List Byte) : Bool := decide (frame.length ≤ 264)

/-- Operand ranges of I3C_WRITE. -/
def okI3cWrite (frame : List Byte) : Bool := decide (frame.length ≤ 264)

/-- Operand ranges of I3C_STATUS. -/
def okI3cStatus (frame : List Byte) : Bool := decide (frame.length ≤ 264)

/-- Operand ranges of I3C_RESPONSE. -/
def okI3cResponse (_ready : Bool) : Bool := true

/-- Operand ranges of ENTDAA. -/
def okEntdaa (addr : Nat) : Bool := decide (addr < 128)

/-- Operand ranges of SETDASA. -/
def okSetdasa (addr : Nat) : Bool := decide (addr < 128)

/-- Operand ranges of RSTDAA. -/
def okRstdaa : Bool := true

/-- Operand ranges of ENEC. -/
def okEnec (b : Nat) : Bool := decide (b < 256)

/-- Operand ranges of DISEC. -/
def okDisec (b : Nat) : Bool := decide (b < 256)

/-- Operand ranges of GETPID. -/
def okGetpid : Bool := true

/-- Operand ranges of GETBCR. -/
def okGetbcr : Bool := true

/-- Operand ranges of GETDCR. -/
def okGetdcr : Bool := true

/-- Operand ranges of GETSTATUS. -/
def okGetstatus : Bool := true

/-- Operand ranges of GETMRL. -/
def okGetmrl : Bool := true

/-- Operand ranges of SETMRL. -/
def okSetmrl (n : Nat) : Bool := decide (n < 65536)

/-- Operand ranges of GETMWL. -/
def okGetmwl : Bool := true

/-- Operand ranges of SETMWL. -/
def okSetmwl (n : Nat) : Bool := decide (n < 65536)

/-- Operand ranges of RSTACT. -/
def okRstact (v : Nat) : Bool := decide (v < 256)

/-- Operand ranges of IBI_RETRY. -/
def okIbiRetry (_nacked : Bool) : Bool := true

/-- Operand ranges of I3C_ADDRESS_IN_DOZE. -/
def okI3cAddressInDoze : Bool := true

/-- Operand ranges of PRODUCER_WRITE. -/
def okProducerWrite (p : Nat) (tag : Nat) (a : Nat) (_data : Line) (_mask : Mask) (_poison : Bool) : Bool := decide (p < 2) && decide (tag < 65536) && decide (a < 2 ^ 48)

/-- Operand ranges of CREDIT_RAISE. -/
def okCreditRaise (s : Nat) : Bool := decide (s < 4096)

/-- Operand ranges of STREAM_PAGE_SPILL. -/
def okStreamPageSpill (s : Nat) (slot : Nat) (_ev : RdEnv) : Bool := decide (s < 4096) && decide (slot < 2 ^ 52)

/-- Operand ranges of HEAD_REFILL. -/
def okHeadRefill (s : Nat) : Bool := decide (s < 4096)

/-- Operand ranges of CONSUMER_READ. -/
def okConsumerRead (p : Nat) (tag : Nat) (a : Nat) (_ev : RdEnv) : Bool := decide (p < 2) && decide (tag < 65536) && decide (a < 2 ^ 48)

/-- Operand ranges of PRODUCER_WINDOW_READ. -/
def okProducerWindowRead (p : Nat) (tag : Nat) (a : Nat) : Bool := decide (p < 2) && decide (tag < 65536) && decide (a < 2 ^ 48)

/-- Operand ranges of TRIGGER_LINE_WRITE. -/
def okTriggerLineWrite (p : Nat) (tag : Nat) (s : Nat) (t : Nat) : Bool := decide (p < 2) && decide (tag < 65536) && decide (s < 4096) && decide (t < 2 ^ 64)

/-- Operand ranges of READ. -/
def okRead (p : Nat) (s : Nat) (n : Nat) : Bool := decide (p < 3) && decide (s < 4096) && decide (n < 2 ^ 64)

/-- Operand ranges of MARK. -/
def okMark (p : Nat) (s : Nat) : Bool := decide (p < 3) && decide (s < 4096)

/-- Operand ranges of REWIND. -/
def okRewind (p : Nat) (s : Nat) : Bool := decide (p < 3) && decide (s < 4096)

/-- Operand ranges of RELEASE. -/
def okRelease (p : Nat) (s : Nat) (t : Nat) : Bool := decide (p < 3) && decide (s < 4096) && decide (t < 2 ^ 64)

/-- Operand ranges of DROP. -/
def okDrop (p : Nat) (s : Nat) : Bool := decide (p < 3) && decide (s < 4096)

/-- Operand ranges of OP_RESET. -/
def okOpReset (p : Nat) (s : Nat) : Bool := decide (p < 3) && decide (s < 4096)

/-- Operand ranges of OP_INVALID. -/
def okOpInvalid (p : Nat) (s : Nat) (code : Nat) (full : Bool) : Bool := decide (p < 3) && decide (s < 4096) && decide (code < 256) && !([1, 2, 3, 4, 5, 6].contains code && full)

/-- Operand ranges of QUEUE_RESET. -/
def okQueueReset (s : Nat) (cause : Nat) : Bool := decide (s < 4096) && decide (cause < 4)

/-- Operand ranges of RING_RECLAIM. -/
def okRingReclaim (s : Nat) : Bool := decide (s < 4096)

/-- Operand ranges of BOUNDARY_RECORD. -/
def okBoundaryRecord : Bool := true

/-- Operand ranges of WINDOW_CLOSE. -/
def okWindowClose (s : Nat) : Bool := decide (s < 4096)

/-- Operand ranges of WINDOW_RECORD. -/
def okWindowRecord (s : Nat) : Bool := decide (s < 4096)

/-- Operand ranges of ADD. -/
def okAdd (e : Nat) (d : Nat) (a : Nat) (b : Nat) : Bool := decide (e < 16) && decide (d < 32) && decide (a < 32) && decide (b < 32)

/-- Operand ranges of SUB. -/
def okSub (e : Nat) (d : Nat) (a : Nat) (b : Nat) : Bool := decide (e < 16) && decide (d < 32) && decide (a < 32) && decide (b < 32)

/-- Operand ranges of AND. -/
def okAnd (e : Nat) (d : Nat) (a : Nat) (b : Nat) : Bool := decide (e < 16) && decide (d < 32) && decide (a < 32) && decide (b < 32)

/-- Operand ranges of OR. -/
def okOr (e : Nat) (d : Nat) (a : Nat) (b : Nat) : Bool := decide (e < 16) && decide (d < 32) && decide (a < 32) && decide (b < 32)

/-- Operand ranges of XOR. -/
def okXor (e : Nat) (d : Nat) (a : Nat) (b : Nat) : Bool := decide (e < 16) && decide (d < 32) && decide (a < 32) && decide (b < 32)

/-- Operand ranges of SHL. -/
def okShl (e : Nat) (d : Nat) (a : Nat) (b : Nat) : Bool := decide (e < 16) && decide (d < 32) && decide (a < 32) && decide (b < 32)

/-- Operand ranges of SHR. -/
def okShr (e : Nat) (d : Nat) (a : Nat) (b : Nat) : Bool := decide (e < 16) && decide (d < 32) && decide (a < 32) && decide (b < 32)

/-- Operand ranges of SAR. -/
def okSar (e : Nat) (d : Nat) (a : Nat) (b : Nat) : Bool := decide (e < 16) && decide (d < 32) && decide (a < 32) && decide (b < 32)

/-- Operand ranges of MUL. -/
def okMul (e : Nat) (d : Nat) (a : Nat) (b : Nat) : Bool := decide (e < 16) && decide (d < 32) && decide (a < 32) && decide (b < 32)

/-- Operand ranges of MULH. -/
def okMulh (e : Nat) (d : Nat) (a : Nat) (b : Nat) : Bool := decide (e < 16) && decide (d < 32) && decide (a < 32) && decide (b < 32)

/-- Operand ranges of DIV. -/
def okDiv (e : Nat) (d : Nat) (a : Nat) (b : Nat) : Bool := decide (e < 16) && decide (d < 32) && decide (a < 32) && decide (b < 32)

/-- Operand ranges of REM. -/
def okRem (e : Nat) (d : Nat) (a : Nat) (b : Nat) : Bool := decide (e < 16) && decide (d < 32) && decide (a < 32) && decide (b < 32)

/-- Operand ranges of ADDI. -/
def okAddi (e : Nat) (d : Nat) (a : Nat) (imm : Nat) : Bool := decide (e < 16) && decide (d < 32) && decide (a < 32) && decide (imm < 65536)

/-- Operand ranges of ANDI. -/
def okAndi (e : Nat) (d : Nat) (a : Nat) (imm : Nat) : Bool := decide (e < 16) && decide (d < 32) && decide (a < 32) && decide (imm < 65536)

/-- Operand ranges of ORI. -/
def okOri (e : Nat) (d : Nat) (a : Nat) (imm : Nat) : Bool := decide (e < 16) && decide (d < 32) && decide (a < 32) && decide (imm < 65536)

/-- Operand ranges of XORI. -/
def okXori (e : Nat) (d : Nat) (a : Nat) (imm : Nat) : Bool := decide (e < 16) && decide (d < 32) && decide (a < 32) && decide (imm < 65536)

/-- Operand ranges of LHI. -/
def okLhi (e : Nat) (d : Nat) (imm : Nat) (rs : Nat) : Bool := decide (e < 16) && decide (d < 32) && decide (imm < 65536) && decide (rs < 2 ^ 26)

/-- Operand ranges of BEQ. -/
def okBeq (e : Nat) (b : Nat) (a : Nat) (imm : Nat) : Bool := decide (e < 16) && decide (b < 32) && decide (a < 32) && decide (imm < 65536)

/-- Operand ranges of BNE. -/
def okBne (e : Nat) (b : Nat) (a : Nat) (imm : Nat) : Bool := decide (e < 16) && decide (b < 32) && decide (a < 32) && decide (imm < 65536)

/-- Operand ranges of BLT. -/
def okBlt (e : Nat) (b : Nat) (a : Nat) (imm : Nat) : Bool := decide (e < 16) && decide (b < 32) && decide (a < 32) && decide (imm < 65536)

/-- Operand ranges of BGE. -/
def okBge (e : Nat) (b : Nat) (a : Nat) (imm : Nat) : Bool := decide (e < 16) && decide (b < 32) && decide (a < 32) && decide (imm < 65536)

/-- Operand ranges of BLTU. -/
def okBltu (e : Nat) (b : Nat) (a : Nat) (imm : Nat) : Bool := decide (e < 16) && decide (b < 32) && decide (a < 32) && decide (imm < 65536)

/-- Operand ranges of BGEU. -/
def okBgeu (e : Nat) (b : Nat) (a : Nat) (imm : Nat) : Bool := decide (e < 16) && decide (b < 32) && decide (a < 32) && decide (imm < 65536)

/-- Operand ranges of JAL. -/
def okJal (e : Nat) (d : Nat) (off : Nat) : Bool := decide (e < 16) && decide (d < 32) && decide (off < 2 ^ 21)

/-- Operand ranges of JR. -/
def okJr (e : Nat) (d : Nat) (a : Nat) (imm : Nat) : Bool := decide (e < 16) && decide (d < 32) && decide (a < 32) && decide (imm < 65536)

/-- Operand ranges of LD8. -/
def okLd8 (e : Nat) (d : Nat) (a : Nat) (imm : Nat) (_ev : RdEnv) : Bool := decide (e < 16) && decide (d < 32) && decide (a < 32) && decide (imm < 65536)

/-- Operand ranges of LD16. -/
def okLd16 (e : Nat) (d : Nat) (a : Nat) (imm : Nat) (_ev : RdEnv) : Bool := decide (e < 16) && decide (d < 32) && decide (a < 32) && decide (imm < 65536)

/-- Operand ranges of LD32. -/
def okLd32 (e : Nat) (d : Nat) (a : Nat) (imm : Nat) (_ev : RdEnv) : Bool := decide (e < 16) && decide (d < 32) && decide (a < 32) && decide (imm < 65536)

/-- Operand ranges of LD64. -/
def okLd64 (e : Nat) (d : Nat) (a : Nat) (imm : Nat) (_ev : RdEnv) : Bool := decide (e < 16) && decide (d < 32) && decide (a < 32) && decide (imm < 65536)

/-- Operand ranges of LD8U. -/
def okLd8u (e : Nat) (d : Nat) (a : Nat) (imm : Nat) (_ev : RdEnv) : Bool := decide (e < 16) && decide (d < 32) && decide (a < 32) && decide (imm < 65536)

/-- Operand ranges of LD16U. -/
def okLd16u (e : Nat) (d : Nat) (a : Nat) (imm : Nat) (_ev : RdEnv) : Bool := decide (e < 16) && decide (d < 32) && decide (a < 32) && decide (imm < 65536)

/-- Operand ranges of LD32U. -/
def okLd32u (e : Nat) (d : Nat) (a : Nat) (imm : Nat) (_ev : RdEnv) : Bool := decide (e < 16) && decide (d < 32) && decide (a < 32) && decide (imm < 65536)

/-- Operand ranges of ST8. -/
def okSt8 (e : Nat) (b : Nat) (a : Nat) (imm : Nat) : Bool := decide (e < 16) && decide (b < 32) && decide (a < 32) && decide (imm < 65536)

/-- Operand ranges of ST16. -/
def okSt16 (e : Nat) (b : Nat) (a : Nat) (imm : Nat) : Bool := decide (e < 16) && decide (b < 32) && decide (a < 32) && decide (imm < 65536)

/-- Operand ranges of ST32. -/
def okSt32 (e : Nat) (b : Nat) (a : Nat) (imm : Nat) : Bool := decide (e < 16) && decide (b < 32) && decide (a < 32) && decide (imm < 65536)

/-- Operand ranges of ST64. -/
def okSt64 (e : Nat) (b : Nat) (a : Nat) (imm : Nat) : Bool := decide (e < 16) && decide (b < 32) && decide (a < 32) && decide (imm < 65536)

/-- Operand ranges of LD_RSV. -/
def okLdRsv (e : Nat) (d : Nat) (a : Nat) (imm : Nat) (_ev : RdEnv) : Bool := decide (e < 16) && decide (d < 32) && decide (a < 32) && decide (imm < 65536)

/-- Operand ranges of ST_CND. -/
def okStCnd (e : Nat) (d : Nat) (a : Nat) (b : Nat) : Bool := decide (e < 16) && decide (d < 32) && decide (a < 32) && decide (b < 32)

/-- Operand ranges of BAR_CORE. -/
def okBarCore (e : Nat) (rs : Nat) : Bool := decide (e < 16) && decide (rs < 2 ^ 26)

/-- Operand ranges of BAR_QUAD. -/
def okBarQuad (e : Nat) (rs : Nat) : Bool := decide (e < 16) && decide (rs < 2 ^ 26)

/-- Operand ranges of BAR_CHIP. -/
def okBarChip (e : Nat) (rs : Nat) : Bool := decide (e < 16) && decide (rs < 2 ^ 26)

/-- Operand ranges of MREAD. -/
def okMread (e : Nat) (d : Nat) (a : Nat) (b : Nat) (c : Nat) (fn : Nat) (_ev : RdEnv) : Bool := decide (e < 16) && decide (d < 32) && decide (a < 32) && decide (b < 32) && decide (c < 32) && decide (fn < 2 ^ 6)

/-- Operand ranges of MWRITE. -/
def okMwrite (e : Nat) (d : Nat) (a : Nat) (b : Nat) (fn : Nat) (rs : Nat) (_ok : Bool) : Bool := decide (e < 16) && decide (d < 32) && decide (a < 32) && decide (b < 32) && decide (fn < 2 ^ 6) && decide (rs < 2 ^ 26)

/-- Operand ranges of MCLEAR. -/
def okMclear (e : Nat) (d : Nat) (a : Nat) (b : Nat) (rs : Nat) (retired : Nat) : Bool := decide (e < 16) && decide (d < 32) && decide (a < 32) && decide (b < 32) && decide (rs < 2 ^ 26) && decide (retired < 2 ^ 32)

/-- Operand ranges of MVERIFY. -/
def okMverify (e : Nat) (d : Nat) (a : Nat) (rs : Nat) (_ev : RdEnv) : Bool := decide (e < 16) && decide (d < 32) && decide (a < 32) && decide (rs < 2 ^ 26)

/-- Operand ranges of MFOLD_PAGE. -/
def okMfoldPage (e : Nat) (d : Nat) (a : Nat) (rs : Nat) (_ev : RdEnv) : Bool := decide (e < 16) && decide (d < 32) && decide (a < 32) && decide (rs < 2 ^ 26)

/-- Operand ranges of MFOLD_SECTOR. -/
def okMfoldSector (e : Nat) (d : Nat) (a : Nat) (rs : Nat) (_ev : RdEnv) : Bool := decide (e < 16) && decide (d < 32) && decide (a < 32) && decide (rs < 2 ^ 26)

/-- Operand ranges of MFOLD_SEALED. -/
def okMfoldSealed (e : Nat) (d : Nat) (a : Nat) (rs : Nat) (_ev : RdEnv) : Bool := decide (e < 16) && decide (d < 32) && decide (a < 32) && decide (rs < 2 ^ 26)

/-- Operand ranges of MREF. -/
def okMref (e : Nat) (d : Nat) (a : Nat) (fn : Nat) (rs : Nat) : Bool := decide (e < 16) && decide (d < 32) && decide (a < 32) && decide (fn < 2 ^ 6) && decide (rs < 2 ^ 26)

/-- Operand ranges of MSENSE. -/
def okMsense (e : Nat) (d : Nat) (a : Nat) (b : Nat) (rs : Nat) (els : List Nat) : Bool := decide (e < 16) && decide (d < 32) && decide (a < 32) && decide (b < 32) && decide (rs < 2 ^ 26) && decide (els.length = 512) && els.all (fun x => decide (x ≤ 256))

/-- Operand ranges of MEDIA_TICKET_COMPLETE. -/
def okMediaTicketComplete (e : Nat) (t : Nat) : Bool := decide (e < 16) && decide (t < 32)

/-- Operand ranges of QPEEK. -/
def okQpeek (e : Nat) (d : Nat) (a : Nat) (b : Nat) (c : Nat) (fn : Nat) (_ev : RdEnv) : Bool := decide (e < 16) && decide (d < 32) && decide (a < 32) && decide (b < 32) && decide (c < 32) && decide (fn < 2 ^ 6)

/-- Operand ranges of QTAKE. -/
def okQtake (e : Nat) (d : Nat) (a : Nat) (b : Nat) (c : Nat) (fn : Nat) (_ev : RdEnv) : Bool := decide (e < 16) && decide (d < 32) && decide (a < 32) && decide (b < 32) && decide (c < 32) && decide (fn < 2 ^ 6)

/-- Operand ranges of QMARK. -/
def okQmark (e : Nat) (d : Nat) (a : Nat) (b : Nat) (rs : Nat) : Bool := decide (e < 16) && decide (d < 32) && decide (a < 32) && decide (b < 32) && decide (rs < 2 ^ 26)

/-- Operand ranges of QREWIND. -/
def okQrewind (e : Nat) (d : Nat) (a : Nat) (b : Nat) (rs : Nat) : Bool := decide (e < 16) && decide (d < 32) && decide (a < 32) && decide (b < 32) && decide (rs < 2 ^ 26)

/-- Operand ranges of QRELEASE. -/
def okQrelease (e : Nat) (d : Nat) (a : Nat) (b : Nat) (rs : Nat) : Bool := decide (e < 16) && decide (d < 32) && decide (a < 32) && decide (b < 32) && decide (rs < 2 ^ 26)

/-- Operand ranges of QDROP. -/
def okQdrop (e : Nat) (d : Nat) (a : Nat) (b : Nat) (rs : Nat) : Bool := decide (e < 16) && decide (d < 32) && decide (a < 32) && decide (b < 32) && decide (rs < 2 ^ 26)

/-- Operand ranges of QCREDIT. -/
def okQcredit (e : Nat) (d : Nat) (a : Nat) (fn : Nat) (rs : Nat) : Bool := decide (e < 16) && decide (d < 32) && decide (a < 32) && decide (fn < 2 ^ 6) && decide (rs < 2 ^ 26)

/-- Operand ranges of FIX_INSTRUCTION. -/
def okFixInstruction (e : Nat) (d : Nat) (rs : Nat) : Bool := decide (e < 16) && decide (d < 32) && decide (rs < 2 ^ 26)

/-- Operand ranges of WAIT. -/
def okWait (e : Nat) (d : Nat) (a : Nat) (b : Nat) (_timeout : Bool) : Bool := decide (e < 16) && decide (d < 32) && decide (a < 32) && decide (b < 32)

/-- Operand ranges of SLEEP. -/
def okSleep (e : Nat) (d : Nat) (a : Nat) (rs : Nat) : Bool := decide (e < 16) && decide (d < 32) && decide (a < 32) && decide (rs < 2 ^ 26)

/-- Operand ranges of SLEEP_END. -/
def okSleepEnd (e : Nat) : Bool := decide (e < 16)

/-- Operand ranges of TRAP. -/
def okTrap (e : Nat) (code : Nat) (rs : Nat) : Bool := decide (e < 16) && decide (code < 65536) && decide (rs < 2 ^ 26)

/-- Operand ranges of EXIT. -/
def okExit (e : Nat) : Bool := decide (e < 16)

/-- Operand ranges of EVENT. -/
def okEvent (e : Nat) : Bool := decide (e < 16)

/-- Operand ranges of YIELD. -/
def okYield (e : Nat) : Bool := decide (e < 16)

/-- Operand ranges of ERET. -/
def okEret (e : Nat) (rs : Nat) : Bool := decide (e < 16) && decide (rs < 2 ^ 26)

/-- Operand ranges of GETSYS. -/
def okGetsys (e : Nat) (d : Nat) (n : Nat) (rs : Nat) (_ev : RdEnv) : Bool := decide (e < 16) && decide (d < 32) && decide (n < 65536) && decide (rs < 2 ^ 26)

/-- Operand ranges of PUTSYS. -/
def okPutsys (e : Nat) (a : Nat) (n : Nat) (rs : Nat) : Bool := decide (e < 16) && decide (a < 32) && decide (n < 65536) && decide (rs < 2 ^ 26)

/-- Operand ranges of TASK_TAKE. -/
def okTaskTake (e : Nat) (d : Nat) (_ev : RdEnv) : Bool := decide (e < 16) && decide (d < 32)

/-- Operand ranges of WDOG_KICK. -/
def okWdogKick (e : Nat) (a : Nat) : Bool := decide (e < 16) && decide (a < 32)

/-- Operand ranges of BUDGET. -/
def okBudget (e : Nat) : Bool := decide (e < 16)

/-- Operand ranges of ENGINE_WATCHDOG. -/
def okEngineWatchdog (e : Nat) : Bool := decide (e < 16)

/-- Operand ranges of LOCKSTEP_MISMATCH. -/
def okLockstepMismatch (e : Nat) : Bool := decide (e < 16)

/-- Operand ranges of ENGINE_FAULT. -/
def okEngineFault (e : Nat) : Bool := decide (e < 16)

/-- Operand ranges of ENGINE_SELF_TEST_DONE. -/
def okEngineSelfTestDone (e : Nat) (_pass : Bool) : Bool := decide (e < 16)

/-- Operand ranges of WRITE_MERGE_DRAIN. -/
def okWriteMergeDrain (e : Nat) (line : Nat) : Bool := decide (e < 16) && decide (line < 2 ^ 42)

/-- Operand ranges of FORWARDING_BUFFER_DRAIN. -/
def okForwardingBufferDrain (q : Nat) : Bool := decide (q < 4)

/-- Operand ranges of BARRIER_DRAIN_TIMEOUT. -/
def okBarrierDrainTimeout (e : Nat) : Bool := decide (e < 16)

/-- Operand ranges of SECTOR_READY. -/
def okSectorReady (l : Nat) (cause : Nat) : Bool := decide (l < 2 ^ 31) && decide (cause < 3)

/-- Operand ranges of PAGE_ROUTE. -/
def okPageRoute (pg : Nat) : Bool := decide (pg < 2 ^ 27)

/-- Operand ranges of MERGE_READ_DONE. -/
def okMergeReadDone (pg : Nat) (_ev : RdEnv) : Bool := decide (pg < 2 ^ 27)

/-- Operand ranges of SECTOR_PROGRAM_DONE. -/
def okSectorProgramDone (psa : Nat) (_ok : Bool) : Bool := decide (psa < 2 ^ 31)

/-- Operand ranges of OVERLAY_INSTALL. -/
def okOverlayInstall (l : Nat) : Bool := decide (l < 2 ^ 31)

/-- Operand ranges of PAGE_INSTALL. -/
def okPageInstall (pg : Nat) : Bool := decide (pg < 2 ^ 27)

/-- Operand ranges of PLACEMENT_LOG_CLOSE. -/
def okPlacementLogClose (n : Nat) (_ok : Bool) : Bool := decide (n < 16)

/-- Operand ranges of LINE_LOG_CLOSE. -/
def okLineLogClose (h : Nat) (cause : Nat) : Bool := decide (h < 16) && decide (cause < 3)

/-- Operand ranges of LINE_LOG_COMMIT. -/
def okLineLogCommit (h : Nat) (_okA : Bool) (_okB : Bool) : Bool := decide (h < 16)

/-- Operand ranges of WATERMARK. -/
def okWatermark (h : Nat) : Bool := decide (h < 16)

/-- Operand ranges of ROW_COMPLETE. -/
def okRowComplete (g : Nat) (r : Nat) (fails : Nat) : Bool := decide (g < 2 ^ 32) && decide (r < 1024) && decide (fails < 65536)

/-- Operand ranges of ROW_TIMEOUT. -/
def okRowTimeout (g : Nat) (r : Nat) (fails : Nat) : Bool := decide (g < 2 ^ 32) && decide (r < 1024) && decide (fails < 65536)

/-- Operand ranges of GROUP_CLOSE. -/
def okGroupClose (g : Nat) (cause : Nat) : Bool := decide (g < 2 ^ 32) && decide (cause < 4)

/-- Operand ranges of GROUP_OPEN. -/
def okGroupOpen (kind : Nat) : Bool := decide (kind < 4)

/-- Operand ranges of SEGMENT_AGE_CLOSE. -/
def okSegmentAgeClose (sg : Nat) : Bool := decide (sg < 2 ^ 17)

/-- Operand ranges of SETTLE_END. -/
def okSettleEnd (g : Nat) : Bool := decide (g < 2 ^ 32)

/-- Operand ranges of VERIFY_READ_DONE. -/
def okVerifyReadDone (psa : Nat) (_ev : RdEnv) : Bool := decide (psa < 2 ^ 31)

/-- Operand ranges of PARITY_RELEASE. -/
def okParityRelease (g : Nat) : Bool := decide (g < 2 ^ 32)

/-- Operand ranges of CLEAR_SCHEDULE. -/
def okClearSchedule (n : Nat) : Bool := decide (n < 16)

/-- Operand ranges of SEGMENT_CLEAR_DONE. -/
def okSegmentClearDone (sg : Nat) (retired : Nat) : Bool := decide (sg < 2 ^ 17) && decide (retired < 2 ^ 32)

/-- Operand ranges of COLLECTION_START. -/
def okCollectionStart (n : Nat) : Bool := decide (n < 16)

/-- Operand ranges of FOLD_QUEUE. -/
def okFoldQueue (pg : Nat) (cause : Nat) : Bool := decide (pg < 2 ^ 27) && decide (cause < 3)

/-- Operand ranges of MAP_FLUSH. -/
def okMapFlush (h : Nat) (mp : Nat) : Bool := decide (h < 16) && decide (mp < 16384)

/-- Operand ranges of CHECKPOINT_START. -/
def okCheckpointStart (cause : Nat) : Bool := decide (cause < 3)

/-- Operand ranges of CHECKPOINT_COMPLETE. -/
def okCheckpointComplete : Bool := true

/-- Operand ranges of SPARE_RECOMPUTE. -/
def okSpareRecompute : Bool := true

/-- Operand ranges of BERTH_LOW. -/
def okBerthLow : Bool := true

/-- Operand ranges of METADATA_POOL_TOPUP. -/
def okMetadataPoolTopup (n : Nat) : Bool := decide (n < 16)

/-- Operand ranges of STATIC_LEVELLING. -/
def okStaticLevelling (n : Nat) : Bool := decide (n < 16)

/-- Operand ranges of POOL_WEAR_EXCHANGE. -/
def okPoolWearExchange (n : Nat) : Bool := decide (n < 16)

/-- Operand ranges of MARGIN_SWEEP. -/
def okMarginSweep : Bool := true

/-- Operand ranges of REFRESH_QUEUE. -/
def okRefreshQueue (sg : Nat) : Bool := decide (sg < 2 ^ 17)

/-- Operand ranges of LODESTONE_SAMPLE. -/
def okLodestoneSample (n : Nat) (g : Nat) (els : List Nat) : Bool := decide (n < 16) && decide (g < 120) && decide (els.length = 512) && els.all (fun x => decide (x ≤ 256))

/-- Operand ranges of ECLK_UPDATE. -/
def okEclkUpdate : Bool := true

/-- Operand ranges of SCRUB_PASS. -/
def okScrubPass (ce : Nat) (ues : List TableUe) : Bool := decide (ce < 2 ^ 32) && ues.all TableUe.wf

/-- Operand ranges of KEY_SWEEP. -/
def okKeySweep (_bad : Bool) : Bool := true

/-- Operand ranges of BURST_CRC_FAIL. -/
def okBurstCrcFail (n : Nat) (_read_ : Bool) (resend : Nat) : Bool := decide (n < 16) && decide (1 ≤ resend) && decide (resend ≤ 4)

/-- Operand ranges of ACK_TIMEOUT. -/
def okAckTimeout (n : Nat) (resend : Nat) : Bool := decide (n < 16) && decide (1 ≤ resend) && decide (resend ≤ 4)

/-- Operand ranges of QUICK_RETRAIN. -/
def okQuickRetrain (n : Nat) (cause : Nat) : Bool := decide (n < 16) && decide (cause < 16)

/-- Operand ranges of QUICK_RETRAIN_DONE. -/
def okQuickRetrainDone (n : Nat) (_ok : Bool) : Bool := decide (n < 16)

/-- Operand ranges of FULL_TRAINING_DONE. -/
def okFullTrainingDone (n : Nat) (_ok : Bool) : Bool := decide (n < 16)

/-- Operand ranges of DIE_FATAL_STATUS. -/
def okDieFatalStatus (n : Nat) : Bool := decide (n < 16)

/-- Operand ranges of STUCK_CELL. -/
def okStuckCell (n : Nat) (c : Nat) : Bool := decide (n < 16) && decide (c < 32)

/-- Operand ranges of POINT_DEATH. -/
def okPointDeath (n : Nat) (cause : Nat) : Bool := decide (n < 16) && decide (cause < 16)

/-- Operand ranges of REHOMING_COMPLETE. -/
def okRehomingComplete (n : Nat) (_selfTestOk : Bool) : Bool := decide (n < 16)

/-- Operand ranges of DEAD_DIE_RECOVERY. -/
def okDeadDieRecovery (n : Nat) (pg : Nat) (_ev : RdEnv) : Bool := decide (n < 16) && decide (pg < 2 ^ 27)

/-- Operand ranges of CROSSBAR_SELF_CHECK. -/
def okCrossbarSelfCheck (q : Nat) (_ok : Bool) : Bool := decide (q < 4)

/-- Operand ranges of SECURE_DISCARD_RESUME. -/
def okSecureDiscardResume : Bool := true

/-- Operand ranges of REKEY_RESUME. -/
def okRekeyResume : Bool := true

/-- Operand ranges of BANK_TEST. -/
def okBankTest (v1 : Nat) (t : Nat) : Bool := decide (2000 ≤ v1) && decide (v1 < 65536) && decide (t < 2 ^ 32)

/-- Operand ranges of BANK_TEST_DUE. -/
def okBankTestDue (cause : Nat) : Bool := decide (cause < 8)

/-- Operand ranges of BANK_VOLTAGE_LOW. -/
def okBankVoltageLow : Bool := true

/-- Operand ranges of AUTOMATIC_MODE_CHANGE. -/
def okAutomaticModeChange : Bool := true

/-- Operand ranges of BROWNOUT. -/
def okBrownout : Bool := true

/-- Operand ranges of FLUSH_END. -/
def okFlushEnd (_cut : Bool) (pos : List Nat) : Bool := decide (pos.length = 16) && pos.all (fun x => decide (x < 2 ^ 32))

/-- Operand ranges of COMMIT_END. -/
def okCommitEnd : Bool := true

/-- Operand ranges of SUPPLY_RETURN. -/
def okSupplyReturn : Bool := true

/-- Operand ranges of VIN_OVERVOLTAGE. -/
def okVinOvervoltage : Bool := true

/-- Operand ranges of RAIL_STEP. -/
def okRailStep (k : Nat) : Bool := decide (k < 6)

/-- Operand ranges of RAIL_STEP_DONE. -/
def okRailStepDone (k : Nat) (vs : Nat) : Bool := decide (k < 6) && decide (vs < 65536)

/-- Operand ranges of RAIL_STEP_FAIL. -/
def okRailStepFail (k : Nat) (cause : Nat) : Bool := decide (k < 6) && decide (cause < 8)

/-- Operand ranges of RAIL_FAULT. -/
def okRailFault (k : Nat) (cause : Nat) (vs : Nat) : Bool := decide (k < 6) && decide (cause < 8) && decide (vs < 65536)

/-- Operand ranges of RAIL_DISCHARGED. -/
def okRailDischarged (k : Nat) (_timeout : Bool) : Bool := decide (k < 6)

/-- Operand ranges of RAILS_DOWN_COMPLETE. -/
def okRailsDownComplete : Bool := true

/-- Operand ranges of MINIMUM_OFF_TIME_END. -/
def okMinimumOffTimeEnd : Bool := true

/-- Operand ranges of ORDERLY_SHUTDOWN. -/
def okOrderlyShutdown (st : Nat) : Bool := decide (st < 16)

/-- Operand ranges of STEP. -/
def okStep (k : Nat) : Bool := decide (k < 65536)

/-- Operand ranges of DOWN. -/
def okDown : Bool := true

/-- Operand ranges of FLUSH. -/
def okFlush : Bool := true

/-- Operand ranges of SEQ_FIX. -/
def okSeqFix (arg : Nat) : Bool := decide (arg < 65536)

/-- Operand ranges of STATUS. -/
def okStatus : Bool := true

/-- Operand ranges of CHART. -/
def okChart (blk : Nat) (data : List Byte) (crc : Nat) : Bool := decide (blk < 65536) && decide (data.length = 256) && decide (crc < 2 ^ 32)

/-- Operand ranges of SEQ_NOACK. -/
def okSeqNoack (addr : Nat) (cmd : Nat) : Bool := decide (addr < 8) && decide (cmd < 256)

/-- Operand ranges of LINE_FLUSH. -/
def okLineFlush : Bool := true

/-- Operand ranges of SEQ_ORPHAN. -/
def okSeqOrphan : Bool := true

/-- Operand ranges of SEQ_DISCOVERY. -/
def okSeqDiscovery (resp : List (Option Nat)) : Bool := decide (resp.length = 7) && resp.all (fun r => match r with | some x => decide (x < 65536) | none => true)

/-- Operand ranges of SEQ_GROUP_POLL. -/
def okSeqGroupPoll (resp : List (Option Nat)) : Bool := decide (resp.length = 7) && resp.all (fun r => match r with | some x => decide (x < 65536) | none => true)

/-- Operand ranges of WATCH_POWER_ON. -/
def okWatchPowerOn : Bool := true

/-- Operand ranges of WATCH_STOP. -/
def okWatchStop : Bool := true

/-- Operand ranges of CRYSTAL_SWITCH. -/
def okCrystalSwitch : Bool := true

/-- Operand ranges of CRYSTAL_FAIL. -/
def okCrystalFail (cause : Nat) : Bool := decide (cause < 2)

/-- Operand ranges of WAKE_EDGE. -/
def okWakeEdge (i : Nat) (since : Nat) : Bool := decide (i < 4) && decide (since < 2 ^ 64)

/-- Operand ranges of WAKE_LEVEL. -/
def okWakeLevel (i : Nat) (since : Nat) : Bool := decide (i < 4) && decide (since < 2 ^ 64)

/-- Operand ranges of WAKE_RELEASE_OFF. -/
def okWakeReleaseOff (i : Nat) (since : Nat) : Bool := decide (i < 4) && decide (since < 2 ^ 64)

/-- Operand ranges of WCH_ALARM. -/
def okWchAlarm : Bool := true

/-- Operand ranges of RESET_N. -/
def okResetN : Bool := true

/-- Operand ranges of DEVICE_RESET. -/
def okDeviceReset (code : Nat) : Bool := decide (code < 256)

/-- Operand ranges of RESET_FLUSH_END. -/
def okResetFlushEnd (_cut : Bool) (pos : List Nat) : Bool := decide (pos.length = 16) && pos.all (fun x => decide (x < 2 ^ 32))

/-- Operand ranges of CHIP_WATCHDOG. -/
def okChipWatchdog : Bool := true

/-- Operand ranges of DOZE_ENTRY. -/
def okDozeEntry : Bool := true

/-- Operand ranges of DOZE_REACHED. -/
def okDozeReached : Bool := true

/-- Operand ranges of PAD_HOLD_LATCH. -/
def okPadHoldLatch : Bool := true

/-- Operand ranges of MAINTENANCE_WAKE. -/
def okMaintenanceWake : Bool := true

/-- Operand ranges of DOZE_WAKE. -/
def okDozeWake (src : Nat) : Bool := decide (src < 8)

/-- Operand ranges of OPTION_LOAD. -/
def okOptionLoad (straps : List Nat) : Bool := decide (straps.length = 4) && (straps.zip [4, 4, 2, 8]).all (fun x => decide (x.1 < x.2))

/-- Operand ranges of REFERENCE_CHECK. -/
def okReferenceCheck (_usable : Bool) (_present : Bool) : Bool := true

/-- Operand ranges of PLL_LOCK. -/
def okPllLock : Bool := true

/-- Operand ranges of MEDIA_INITIALISATION. -/
def okMediaInitialisation : Bool := true

/-- Operand ranges of RECOVERY. -/
def okRecovery (ev : RecEnv) : Bool := decide (ev.survey.length = 16)

/-- Operand ranges of CHART_APPLY. -/
def okChartApply : Bool := true

/-- Operand ranges of ACTIVE_REACHED. -/
def okActiveReached (p : Nat) : Bool := decide (p < 2)

/-- Operand ranges of NO_LINK_TIMEOUT. -/
def okNoLinkTimeout : Bool := true

/-- Operand ranges of HEARTBEAT_TIMEOUT. -/
def okHeartbeatTimeout : Bool := true

/-- Operand ranges of PLL_UNLOCK. -/
def okPllUnlock (which : Nat) : Bool := decide (which < 3)

/-- Operand ranges of CLOCK_DEVIATION. -/
def okClockDeviation : Bool := true

/-- Operand ranges of SEQUENCER_MISMATCH. -/
def okSequencerMismatch : Bool := true

/-- Operand ranges of SAFE_N_READBACK. -/
def okSafeNReadback : Bool := true

/-- Operand ranges of LATENT_FAULT_TEST. -/
def okLatentFaultTest (fails : Nat) : Bool := decide (fails < 2 ^ 52)

/-- Operand ranges of FIX_N_EDGE. -/
def okFixNEdge : Bool := true

/-- Operand ranges of DECK_LOG_FLUSH. -/
def okDeckLogFlush (cause : Nat) : Bool := decide (cause < 4)

/-- Operand ranges of TALLY_DUMP. -/
def okTallyDump : Bool := true

/-- Operand ranges of LOGBOOK_SEGMENT_WRITE. -/
def okLogbookSegmentWrite (addr : Nat) (data : List Byte) : Bool := decide (addr < 2 ^ 20) && decide (data.length ≤ 256)

/-- Operand ranges of OPERATING_SECOND. -/
def okOperatingSecond : Bool := true

/-- Operand ranges of SENSOR_READ. -/
def okSensorRead (kind : Nat) (i : Nat) (v : Option Nat) : Bool := decide (kind < 3) && decide (i < if kind = 0 then 16 else 8) && (match v with | some x => decide (x < 65536) | none => true)

/-- Operand ranges of THERMAL_EVALUATION. -/
def okThermalEvaluation : Bool := true

/-- Operand ranges of CRITICAL_TIMEOUT. -/
def okCriticalTimeout : Bool := true

/-- Operand ranges of COOL_DOWN_END. -/
def okCoolDownEnd : Bool := true

/-- Operand ranges of LL_WINDOW_EXCURSION. -/
def okLlWindowExcursion (i : Nat) : Bool := decide (i < 8)

/-- Operand ranges of LL_SAMPLE. -/
def okLlSample (i : Nat) (code : Nat) (_clip : Bool) : Bool := decide (i < 8) && decide (code < 4096)

/-- Operand ranges of LL_EDGE. -/
def okLlEdge (i : Nat) (_level : Bool) (since : Nat) : Bool := decide (i < 8) && decide (since < 2 ^ 64)

/-- Operand ranges of LL_FRAME_CLOSE. -/
def okLlFrameClose : Bool := true

/-- Operand ranges of LL_LEVEL_WAKE. -/
def okLlLevelWake (i : Nat) (_active : Bool) (since : Nat) : Bool := decide (i < 8) && decide (since < 2 ^ 64)

/-- Operand ranges of LL_STREAM_CHECK. -/
def okLlStreamCheck : Bool := true

/-- Operand ranges of BUILT_IN_SELF_TEST. -/
def okBuiltInSelfTest (fails : Nat) : Bool := decide (fails < 2 ^ 52)

/-- Operand ranges of QUIET_CLOCK_GATE. -/
def okQuietClockGate : Bool := true

/-- Operand ranges of SANITIZE_RESTART. -/
def okSanitizeRestart : Bool := true

/-- Operand ranges of BROWNOUT_WATCH. -/
def okBrownoutWatch (vin : Nat) : Bool := decide (vin < 65536)

/-- Operand ranges of RESET_N_RELEASE. -/
def okResetNRelease : Bool := true

/-- Operand ranges of PLACEMENT_QUEUE_REFILL. -/
def okPlacementQueueRefill (n : Nat) (kind : Nat) : Bool := decide (n < 16) && decide (kind < 4)

/-- Whether every operand of a command lies in its range. -/
def Instr.wf (i : Instr) : Bool :=
  match i with
  | .memRd p tag a ev => okMemRd p tag a ev
  | .memRdData p tag a ev => okMemRdData p tag a ev
  | .memWr p tag a data poison bad => okMemWr p tag a data poison bad
  | .memWrPtl p tag a data mask poison bad ev => okMemWrPtl p tag a data mask poison bad ev
  | .unsupportedM2sOpcode p tag op a => okUnsupportedM2sOpcode p tag op a
  | .globalPersistentFlush p => okGlobalPersistentFlush p
  | .perst p cause => okPerst p cause
  | .linkTraining p rate width flit256 ref => okLinkTraining p rate width flit256 ref
  | .l1Entry p => okL1Entry p
  | .l1Exit p => okL1Exit p
  | .d3hotEntry p => okD3hotEntry p
  | .decoderCommit p idx base size dpa ways gran => okDecoderCommit p idx base size dpa ways gran
  | .msixUnmask p v => okMsixUnmask p v
  | .identify h => okIdentify h
  | .getEventRecords h log => okGetEventRecords h log
  | .clearEventRecords h log all handles => okClearEventRecords h log all handles
  | .getEventInterruptPolicy h => okGetEventInterruptPolicy h
  | .setEventInterruptPolicy h policy => okSetEventInterruptPolicy h policy
  | .getFwInfo h => okGetFwInfo h
  | .transferFw h slot off data => okTransferFw h slot off data
  | .activateFw h action slot => okActivateFw h action slot
  | .getTimestamp h => okGetTimestamp h
  | .setTimestamp h ns => okSetTimestamp h ns
  | .getSupportedLogs h => okGetSupportedLogs h
  | .getLog h off len => okGetLog h off len
  | .identifyMemoryDevice h => okIdentifyMemoryDevice h
  | .getPartitionInfo h => okGetPartitionInfo h
  | .setPartitionInfo h inp => okSetPartitionInfo h inp
  | .getLsa h off len => okGetLsa h off len
  | .setLsa h off data => okSetLsa h off data
  | .getHealthInfo h => okGetHealthInfo h
  | .getAlertConfiguration h => okGetAlertConfiguration h
  | .setAlertConfiguration h valid enable life temp => okSetAlertConfiguration h valid enable life temp
  | .getShutdownState h => okGetShutdownState h
  | .setShutdownState h v => okSetShutdownState h v
  | .getPoisonList h start len => okGetPoisonList h start len
  | .injectPoison h dpa => okInjectPoison h dpa
  | .clearPoison h dpa data => okClearPoison h dpa data
  | .scanMedia h op => okScanMedia h op
  | .persistentMemorySecurity h op => okPersistentMemorySecurity h op
  | .sanitize h st rngOk fails => okSanitize h st rngOk fails
  | .secureErase h st rngOk fails => okSecureErase h st rngOk fails
  | .getDeviceIdentity h inp => okGetDeviceIdentity h inp
  | .getMode h inp => okGetMode h inp
  | .getChartSlots h inp => okGetChartSlots h inp
  | .writeChartChunk h inp => okWriteChartChunk h inp
  | .runOrder h inp => okRunOrder h inp
  | .getOrderResult h inp => okGetOrderResult h inp
  | .readSealRecord h inp => okReadSealRecord h inp
  | .readDeckLog h inp => okReadDeckLog h inp
  | .readPowerLog h inp => okReadPowerLog h inp
  | .readLogbookPage h inp => okReadLogbookPage h inp
  | .writeRegistryPage h inp => okWriteRegistryPage h inp
  | .lockRegistryPage h inp => okLockRegistryPage h inp
  | .getCapacity h inp => okGetCapacity h inp
  | .reset h inp => okReset h inp
  | .sqTailWrite by_ r v => okSqTailWrite by_ r v
  | .cqHeadWrite by_ r v => okCqHeadWrite by_ r v
  | .orderDispatch r => okOrderDispatch r
  | .orderCompletion id => okOrderCompletion id
  | .modeChange o => okModeChange o
  | .checkpoint o => okCheckpoint o
  | .discard o => okDiscard o
  | .secureDiscard o st => okSecureDiscard o st
  | .sealRange o ev => okSealRange o ev
  | .unseal o => okUnseal o
  | .sealVerify o ev => okSealVerify o ev
  | .sealExport o ev => okSealExport o ev
  | .trigger o => okTrigger o
  | .streamReset o => okStreamReset o
  | .rekey o st rngOk => okRekey o st rngOk
  | .fix o => okFix o
  | .deckClear o => okDeckClear o
  | .deckRun o => okDeckRun o
  | .deckStop o => okDeckStop o
  | .chartCheck o => okChartCheck o
  | .helmSpaceWrite by_ off width v => okHelmSpaceWrite by_ off width v
  | .halfReadLatch by_ off => okHalfReadLatch by_ off
  | .pntArbWrite by_ n half v => okPntArbWrite by_ n half v
  | .pntRetireWrite by_ half v => okPntRetireWrite by_ half v
  | .wlvPlaceWrite by_ h half v => okWlvPlaceWrite by_ h half v
  | .strCtlWrite by_ s half v => okStrCtlWrite by_ s half v
  | .strActTrigger by_ s => okStrActTrigger by_ s
  | .strActQueueReset by_ s => okStrActQueueReset by_ s
  | .strNoteRead by_ p => okStrNoteRead by_ p
  | .pwrCtlOff by_ => okPwrCtlOff by_
  | .pwrCtlBanktest by_ => okPwrCtlBanktest by_
  | .pwrThrWrite by_ v => okPwrThrWrite by_ v
  | .fixCtlTrigger by_ v => okFixCtlTrigger by_ v
  | .seqCmdFix by_ addr arg => okSeqCmdFix by_ addr arg
  | .seqCmdStatus by_ addr resp => okSeqCmdStatus by_ addr resp
  | .rstCtlDevice by_ key => okRstCtlDevice by_ key
  | .rstWdogKick by_ v => okRstWdogKick by_ v
  | .padholdRelease by_ v => okPadholdRelease by_ v
  | .talSelWrite by_ j v => okTalSelWrite by_ j v
  | .talCfgWrite by_ v => okTalCfgWrite by_ v
  | .safInjWrite by_ v => okSafInjWrite by_ v
  | .llnChWrite by_ i half v => okLlnChWrite by_ i half v
  | .i3cRead frame => okI3cRead frame
  | .i3cWrite frame => okI3cWrite frame
  | .i3cStatus frame => okI3cStatus frame
  | .i3cResponse ready => okI3cResponse ready
  | .entdaa addr => okEntdaa addr
  | .setdasa addr => okSetdasa addr
  | .rstdaa => okRstdaa
  | .enec b => okEnec b
  | .disec b => okDisec b
  | .getpid => okGetpid
  | .getbcr => okGetbcr
  | .getdcr => okGetdcr
  | .getstatus => okGetstatus
  | .getmrl => okGetmrl
  | .setmrl n => okSetmrl n
  | .getmwl => okGetmwl
  | .setmwl n => okSetmwl n
  | .rstact v => okRstact v
  | .ibiRetry nacked => okIbiRetry nacked
  | .i3cAddressInDoze => okI3cAddressInDoze
  | .producerWrite p tag a data mask poison => okProducerWrite p tag a data mask poison
  | .creditRaise s => okCreditRaise s
  | .streamPageSpill s slot ev => okStreamPageSpill s slot ev
  | .headRefill s => okHeadRefill s
  | .consumerRead p tag a ev => okConsumerRead p tag a ev
  | .producerWindowRead p tag a => okProducerWindowRead p tag a
  | .triggerLineWrite p tag s t => okTriggerLineWrite p tag s t
  | .read p s n => okRead p s n
  | .mark p s => okMark p s
  | .rewind p s => okRewind p s
  | .release p s t => okRelease p s t
  | .drop p s => okDrop p s
  | .opReset p s => okOpReset p s
  | .opInvalid p s code full => okOpInvalid p s code full
  | .queueReset s cause => okQueueReset s cause
  | .ringReclaim s => okRingReclaim s
  | .boundaryRecord => okBoundaryRecord
  | .windowClose s => okWindowClose s
  | .windowRecord s => okWindowRecord s
  | .add e d a b => okAdd e d a b
  | .sub e d a b => okSub e d a b
  | .and e d a b => okAnd e d a b
  | .or e d a b => okOr e d a b
  | .xor e d a b => okXor e d a b
  | .shl e d a b => okShl e d a b
  | .shr e d a b => okShr e d a b
  | .sar e d a b => okSar e d a b
  | .mul e d a b => okMul e d a b
  | .mulh e d a b => okMulh e d a b
  | .div e d a b => okDiv e d a b
  | .rem e d a b => okRem e d a b
  | .addi e d a imm => okAddi e d a imm
  | .andi e d a imm => okAndi e d a imm
  | .ori e d a imm => okOri e d a imm
  | .xori e d a imm => okXori e d a imm
  | .lhi e d imm rs => okLhi e d imm rs
  | .beq e b a imm => okBeq e b a imm
  | .bne e b a imm => okBne e b a imm
  | .blt e b a imm => okBlt e b a imm
  | .bge e b a imm => okBge e b a imm
  | .bltu e b a imm => okBltu e b a imm
  | .bgeu e b a imm => okBgeu e b a imm
  | .jal e d off => okJal e d off
  | .jr e d a imm => okJr e d a imm
  | .ld8 e d a imm ev => okLd8 e d a imm ev
  | .ld16 e d a imm ev => okLd16 e d a imm ev
  | .ld32 e d a imm ev => okLd32 e d a imm ev
  | .ld64 e d a imm ev => okLd64 e d a imm ev
  | .ld8u e d a imm ev => okLd8u e d a imm ev
  | .ld16u e d a imm ev => okLd16u e d a imm ev
  | .ld32u e d a imm ev => okLd32u e d a imm ev
  | .st8 e b a imm => okSt8 e b a imm
  | .st16 e b a imm => okSt16 e b a imm
  | .st32 e b a imm => okSt32 e b a imm
  | .st64 e b a imm => okSt64 e b a imm
  | .ldRsv e d a imm ev => okLdRsv e d a imm ev
  | .stCnd e d a b => okStCnd e d a b
  | .barCore e rs => okBarCore e rs
  | .barQuad e rs => okBarQuad e rs
  | .barChip e rs => okBarChip e rs
  | .mread e d a b c fn ev => okMread e d a b c fn ev
  | .mwrite e d a b fn rs ok => okMwrite e d a b fn rs ok
  | .mclear e d a b rs retired => okMclear e d a b rs retired
  | .mverify e d a rs ev => okMverify e d a rs ev
  | .mfoldPage e d a rs ev => okMfoldPage e d a rs ev
  | .mfoldSector e d a rs ev => okMfoldSector e d a rs ev
  | .mfoldSealed e d a rs ev => okMfoldSealed e d a rs ev
  | .mref e d a fn rs => okMref e d a fn rs
  | .msense e d a b rs els => okMsense e d a b rs els
  | .mediaTicketComplete e t => okMediaTicketComplete e t
  | .qpeek e d a b c fn ev => okQpeek e d a b c fn ev
  | .qtake e d a b c fn ev => okQtake e d a b c fn ev
  | .qmark e d a b rs => okQmark e d a b rs
  | .qrewind e d a b rs => okQrewind e d a b rs
  | .qrelease e d a b rs => okQrelease e d a b rs
  | .qdrop e d a b rs => okQdrop e d a b rs
  | .qcredit e d a fn rs => okQcredit e d a fn rs
  | .fixInstruction e d rs => okFixInstruction e d rs
  | .wait e d a b timeout => okWait e d a b timeout
  | .sleep e d a rs => okSleep e d a rs
  | .sleepEnd e => okSleepEnd e
  | .trap e code rs => okTrap e code rs
  | .exit e => okExit e
  | .event e => okEvent e
  | .yield e => okYield e
  | .eret e rs => okEret e rs
  | .getsys e d n rs ev => okGetsys e d n rs ev
  | .putsys e a n rs => okPutsys e a n rs
  | .taskTake e d ev => okTaskTake e d ev
  | .wdogKick e a => okWdogKick e a
  | .budget e => okBudget e
  | .engineWatchdog e => okEngineWatchdog e
  | .lockstepMismatch e => okLockstepMismatch e
  | .engineFault e => okEngineFault e
  | .engineSelfTestDone e pass => okEngineSelfTestDone e pass
  | .writeMergeDrain e line => okWriteMergeDrain e line
  | .forwardingBufferDrain q => okForwardingBufferDrain q
  | .barrierDrainTimeout e => okBarrierDrainTimeout e
  | .sectorReady l cause => okSectorReady l cause
  | .pageRoute pg => okPageRoute pg
  | .mergeReadDone pg ev => okMergeReadDone pg ev
  | .sectorProgramDone psa ok => okSectorProgramDone psa ok
  | .overlayInstall l => okOverlayInstall l
  | .pageInstall pg => okPageInstall pg
  | .placementLogClose n ok => okPlacementLogClose n ok
  | .lineLogClose h cause => okLineLogClose h cause
  | .lineLogCommit h okA okB => okLineLogCommit h okA okB
  | .watermark h => okWatermark h
  | .rowComplete g r fails => okRowComplete g r fails
  | .rowTimeout g r fails => okRowTimeout g r fails
  | .groupClose g cause => okGroupClose g cause
  | .groupOpen kind => okGroupOpen kind
  | .segmentAgeClose sg => okSegmentAgeClose sg
  | .settleEnd g => okSettleEnd g
  | .verifyReadDone psa ev => okVerifyReadDone psa ev
  | .parityRelease g => okParityRelease g
  | .clearSchedule n => okClearSchedule n
  | .segmentClearDone sg retired => okSegmentClearDone sg retired
  | .collectionStart n => okCollectionStart n
  | .foldQueue pg cause => okFoldQueue pg cause
  | .mapFlush h mp => okMapFlush h mp
  | .checkpointStart cause => okCheckpointStart cause
  | .checkpointComplete => okCheckpointComplete
  | .spareRecompute => okSpareRecompute
  | .berthLow => okBerthLow
  | .metadataPoolTopup n => okMetadataPoolTopup n
  | .staticLevelling n => okStaticLevelling n
  | .poolWearExchange n => okPoolWearExchange n
  | .marginSweep => okMarginSweep
  | .refreshQueue sg => okRefreshQueue sg
  | .lodestoneSample n g els => okLodestoneSample n g els
  | .eclkUpdate => okEclkUpdate
  | .scrubPass ce ues => okScrubPass ce ues
  | .keySweep bad => okKeySweep bad
  | .burstCrcFail n read_ resend => okBurstCrcFail n read_ resend
  | .ackTimeout n resend => okAckTimeout n resend
  | .quickRetrain n cause => okQuickRetrain n cause
  | .quickRetrainDone n ok => okQuickRetrainDone n ok
  | .fullTrainingDone n ok => okFullTrainingDone n ok
  | .dieFatalStatus n => okDieFatalStatus n
  | .stuckCell n c => okStuckCell n c
  | .pointDeath n cause => okPointDeath n cause
  | .rehomingComplete n selfTestOk => okRehomingComplete n selfTestOk
  | .deadDieRecovery n pg ev => okDeadDieRecovery n pg ev
  | .crossbarSelfCheck q ok => okCrossbarSelfCheck q ok
  | .secureDiscardResume => okSecureDiscardResume
  | .rekeyResume => okRekeyResume
  | .bankTest v1 t => okBankTest v1 t
  | .bankTestDue cause => okBankTestDue cause
  | .bankVoltageLow => okBankVoltageLow
  | .automaticModeChange => okAutomaticModeChange
  | .brownout => okBrownout
  | .flushEnd cut pos => okFlushEnd cut pos
  | .commitEnd => okCommitEnd
  | .supplyReturn => okSupplyReturn
  | .vinOvervoltage => okVinOvervoltage
  | .railStep k => okRailStep k
  | .railStepDone k vs => okRailStepDone k vs
  | .railStepFail k cause => okRailStepFail k cause
  | .railFault k cause vs => okRailFault k cause vs
  | .railDischarged k timeout => okRailDischarged k timeout
  | .railsDownComplete => okRailsDownComplete
  | .minimumOffTimeEnd => okMinimumOffTimeEnd
  | .orderlyShutdown st => okOrderlyShutdown st
  | .step k => okStep k
  | .down => okDown
  | .flush => okFlush
  | .seqFix arg => okSeqFix arg
  | .status => okStatus
  | .chart blk data crc => okChart blk data crc
  | .seqNoack addr cmd => okSeqNoack addr cmd
  | .lineFlush => okLineFlush
  | .seqOrphan => okSeqOrphan
  | .seqDiscovery resp => okSeqDiscovery resp
  | .seqGroupPoll resp => okSeqGroupPoll resp
  | .watchPowerOn => okWatchPowerOn
  | .watchStop => okWatchStop
  | .crystalSwitch => okCrystalSwitch
  | .crystalFail cause => okCrystalFail cause
  | .wakeEdge i since => okWakeEdge i since
  | .wakeLevel i since => okWakeLevel i since
  | .wakeReleaseOff i since => okWakeReleaseOff i since
  | .wchAlarm => okWchAlarm
  | .resetN => okResetN
  | .deviceReset code => okDeviceReset code
  | .resetFlushEnd cut pos => okResetFlushEnd cut pos
  | .chipWatchdog => okChipWatchdog
  | .dozeEntry => okDozeEntry
  | .dozeReached => okDozeReached
  | .padHoldLatch => okPadHoldLatch
  | .maintenanceWake => okMaintenanceWake
  | .dozeWake src => okDozeWake src
  | .optionLoad straps => okOptionLoad straps
  | .referenceCheck usable present => okReferenceCheck usable present
  | .pllLock => okPllLock
  | .mediaInitialisation => okMediaInitialisation
  | .recovery ev => okRecovery ev
  | .chartApply => okChartApply
  | .activeReached p => okActiveReached p
  | .noLinkTimeout => okNoLinkTimeout
  | .heartbeatTimeout => okHeartbeatTimeout
  | .pllUnlock which => okPllUnlock which
  | .clockDeviation => okClockDeviation
  | .sequencerMismatch => okSequencerMismatch
  | .safeNReadback => okSafeNReadback
  | .latentFaultTest fails => okLatentFaultTest fails
  | .fixNEdge => okFixNEdge
  | .deckLogFlush cause => okDeckLogFlush cause
  | .tallyDump => okTallyDump
  | .logbookSegmentWrite addr data => okLogbookSegmentWrite addr data
  | .operatingSecond => okOperatingSecond
  | .sensorRead kind i v => okSensorRead kind i v
  | .thermalEvaluation => okThermalEvaluation
  | .criticalTimeout => okCriticalTimeout
  | .coolDownEnd => okCoolDownEnd
  | .llWindowExcursion i => okLlWindowExcursion i
  | .llSample i code clip => okLlSample i code clip
  | .llEdge i level since => okLlEdge i level since
  | .llFrameClose => okLlFrameClose
  | .llLevelWake i active since => okLlLevelWake i active since
  | .llStreamCheck => okLlStreamCheck
  | .builtInSelfTest fails => okBuiltInSelfTest fails
  | .quietClockGate => okQuietClockGate
  | .sanitizeRestart => okSanitizeRestart
  | .brownoutWatch vin => okBrownoutWatch vin
  | .resetNRelease => okResetNRelease
  | .placementQueueRefill n kind => okPlacementQueueRefill n kind

end Sys2Proof
end

