-- ==== Sys2Proof/Machine/Ops.lean ====
section
/-! DEFINITION. The named operations over the state that every family of commands shares: the register file, ship's time,
the commit sequencer, interrupts, the Logbook, plain records. -/

namespace Sys2Proof.Machine

/-! ### Registers (R2 to R6) -/

/-- Whether a row of the register map covers an offset. -/
def RegRow.hit (r : RegRow) (off : Nat) : Bool :=
  r.base ≤ off &&
    (if r.stride = 0 then off < r.base + r.width / 8
     else decide ((off - r.base) / r.stride < r.count) && decide ((off - r.base) % r.stride < r.width / 8))

/-- The row that covers an offset, none for an unassigned or reserved offset (R330). -/
def regRow? (off : Nat) : Option RegRow := regRows.find? (·.hit off)

/-- First offset of the register that covers `off`. -/
def RegRow.at (r : RegRow) (off : Nat) : Nat :=
  if r.stride = 0 then r.base else r.base + r.stride * ((off - r.base) / r.stride)

/-- The value of WLV_PLACE[h] after reset: slot `i` names Point `(h + i) mod 16` (Table 6.10). -/
def placeReset (h : Nat) : Nat := (List.range 16).foldr (fun i acc => acc + ((h + i) % 16) * 16 ^ i) 0

/-- The power-on reset value of the register at an offset (R6). -/
def resetVal (off : Nat) : Nat :=
  if off = 0x3000 then 0xFEDCBA9876543210
  else if 0x4080 ≤ off && off < 0x4100 then placeReset ((off - 0x4080) / 8)
  else match regRow? off with
    | some r => r.reset
    | none => 0

/-- The stored value of the register whose first offset is `off`. -/
def Dev.reg (d : Dev) (off : Nat) : Nat :=
  match assocGet off d.regs with
  | some v => v.toNat
  | none => resetVal off

/-- Store a register's value, keeping the list canonical: a register at its reset value is not listed. -/
def Dev.setReg (d : Dev) (off v : Nat) : Dev :=
  if BitVec.ofNat 64 v = BitVec.ofNat 64 (resetVal off) then { d with regs := assocDel off d.regs }
  else { d with regs := assocSet off (BitVec.ofNat 64 v) d.regs }

/-- The value of a register field. -/
def Dev.f (d : Dev) (F : Fld) : Nat := bits (d.reg F.off) F.lo F.w

/-- Set a register field by hardware. -/
def Dev.setF (d : Dev) (F : Fld) (v : Nat) : Dev := d.setReg F.off (setBits (d.reg F.off) F.lo F.w v)

/-- A one-bit field as a Bool. -/
def Dev.on (d : Dev) (F : Fld) : Bool := d.f F != 0

/-- Advance a saturating counter (R106, R134, R179, R214, R256, R291, R401, R626). -/
def Dev.cnt (d : Dev) (F : Fld) (n : Nat := 1) : Dev := d.setF F (satAdd F.w (d.f F) n)

/-- Set bits of a field. -/
def Dev.orF (d : Dev) (F : Fld) (v : Nat) : Dev := d.setF F (d.f F ||| v)

/-! ### Time (R8, R667) -/

/-- Ship's time units in `us` microseconds, rounded up: one unit is 2^-16 of a Watch tick, 2^31 units a second. -/
def usUnits (us : Nat) : Nat := (us * 2147483648 + 999999) / 1000000

/-- Ship's time units in `ms` milliseconds, rounded up. -/
def msUnits (ms : Nat) : Nat := usUnits (1000 * ms)

/-- Ship's time units in `n` seconds. -/
def secUnits (n : Nat) : Nat := n * 2147483648

/-- Watch ticks of ship's time. -/
def Dev.ticks (d : Dev) : Nat := d.time / 65536

/-- The current CSN of R667: one less than the next, and zero until the commit sequencer resumes. -/
def Dev.csn (d : Dev) : Nat := if d.seqOn then d.nextCsn - 1 else 0

/-- Draw a free value. -/
def Dev.draw (d : Dev) : BitVec 64 × Dev := (Config.freeValue d.freeCtr, { d with freeCtr := d.freeCtr + 1 })

/-- Send a message. -/
def Dev.send (d : Dev) (m : Msg) : Dev := { d with out := m :: d.out }

/-! ### Modes (Table 13.3) -/

/-- Bits of MODE_EFF, by mode. -/
def Dev.mode (d : Dev) (b : Nat) : Bool := (d.reg 0x104).testBit b

/-- MODE_EFF.WINDOW. -/
def Dev.mWindow (d : Dev) : Bool := d.mode 0
/-- MODE_EFF.STREAM. -/
def Dev.mStream (d : Dev) : Bool := d.mode 1
/-- MODE_EFF.RING. -/
def Dev.mRing (d : Dev) : Bool := d.mode 2
/-- MODE_EFF.SEAL. -/
def Dev.mSeal (d : Dev) : Bool := d.mode 3
/-- MODE_EFF.SCRAMBLE. -/
def Dev.mScramble (d : Dev) : Bool := d.mode 4
/-- MODE_EFF.TWIN. -/
def Dev.mTwin (d : Dev) : Bool := d.mode 5
/-- MODE_EFF.LOCKSTEP. -/
def Dev.mLockstep (d : Dev) : Bool := d.mode 6
/-- MODE_EFF.HOLDUP. -/
def Dev.mHoldup (d : Dev) : Bool := d.mode 7
/-- MODE_EFF.COLD. -/
def Dev.mCold (d : Dev) : Bool := d.mode 8
/-- MODE_EFF.LOGLINE. -/
def Dev.mLogline (d : Dev) : Bool := d.mode 9
/-- MODE_EFF.SURVEY. -/
def Dev.mSurvey (d : Dev) : Bool := d.mode 10
/-- MODE_EFF.QUIET. -/
def Dev.mQuiet (d : Dev) : Bool := d.mode 11

/-! ### Points, homes, segments, heads as lists -/

/-- Point `n`. -/
def Dev.pt (d : Dev) (n : Nat) : Point := d.points.getD n {}
/-- Change Point `n`. -/
def Dev.modPt (d : Dev) (n : Nat) (f : Point → Point) : Dev := { d with points := listMod d.points n f }
/-- Home `h`. -/
def Dev.hm (d : Dev) (h : Nat) : Home := d.homes.getD h {}
/-- Change home `h`. -/
def Dev.modHm (d : Dev) (h : Nat) (f : Home → Home) : Dev := { d with homes := listMod d.homes h f }
/-- Head `p`. -/
def Dev.head (d : Dev) (p : Nat) : Head := d.heads.getD p {}
/-- Change head `p`. -/
def Dev.modHead (d : Dev) (p : Nat) (f : Head → Head) : Dev := { d with heads := listMod d.heads p f }
/-- Engine `e`. -/
def Dev.eng (d : Dev) (e : Nat) : Engine := d.engines.getD e {}
/-- Change engine `e`. -/
def Dev.modEng (d : Dev) (e : Nat) (f : Engine → Engine) : Dev := { d with engines := listMod d.engines e f }
/-- Quadrant `q`. -/
def Dev.quad (d : Dev) (q : Nat) : Quad := d.quads.getD q {}
/-- Change quadrant `q`. -/
def Dev.modQuad (d : Dev) (q : Nat) (f : Quad → Quad) : Dev := { d with quads := listMod d.quads q f }
/-- Stream context `s`. -/
def Dev.stm (d : Dev) (s : Nat) : Stream := (assocGet s d.str.ctx).getD {}
/-- Replace stream context `s`. -/
def Dev.setStm (d : Dev) (s : Nat) (x : Stream) : Dev := { d with str := { d.str with ctx := assocSet s x d.str.ctx } }
/-- Change stream context `s`. -/
def Dev.modStm (d : Dev) (s : Nat) (f : Stream → Stream) : Dev := d.setStm s (f (d.stm s))

/-- The factory entry of a segment: CLEARED once, in the metadata pool for the first 256 segments of a Point (Table 6.1).
(DEDUCED, log entry 12.) -/
def factorySeg (sg : Nat) : Seg := { pool := if sg % 8192 < 256 then 1 else 0 }
/-- The state entry of a segment by name (Point in [16:13], segment in [12:0]). -/
def Dev.seg (d : Dev) (sg : Nat) : Seg :=
  (assocGet sg d.segs).getD (if d.f (PNT_STAT.STATE (sg / 8192)) == 2 then { factorySeg sg with state := 9 } else factorySeg sg)
/-- Replace a segment's state entry; an entry equal to the factory's is not listed. -/
def Dev.setSeg (d : Dev) (sg : Nat) (x : Seg) : Dev :=
  if x = factorySeg sg then { d with segs := assocDel sg d.segs } else { d with segs := assocSet sg x d.segs }
/-- Change a segment's state entry. -/
def Dev.modSeg (d : Dev) (sg : Nat) (f : Seg → Seg) : Dev := d.setSeg sg (f (d.seg sg))
/-- Segments of a Point. -/
def segsOf (n : Nat) : List Nat := (List.range 7680).map (8192 * n + ·)
/-- The entries of a Point's segments that are listed, by name. -/
def Dev.listedSegs (d : Dev) (n : Nat) : List (Nat × Seg) := d.segs.filter (fun x => x.1 / 8192 = n)
/-- How many segments of a Point satisfy `q`: those listed, and the unlisted factory entries. -/
def Dev.countSegs (d : Dev) (n : Nat) (q : Nat → Seg → Bool) : Nat :=
  ((List.range 7680).map (8192 * n + ·)).countP (fun sg => q sg (d.seg sg))

/-! ### Homes and the home map (R50 to R52) -/

/-- XOR of the 4-bit nibbles of a number, over `k` nibbles. -/
def xorFold : Nat → Nat → Nat
  | 0, _ => 0
  | k + 1, x => Nat.xor (x % 16) (xorFold k (x / 16))

/-- The nominal home of a device address (R50): the XOR-fold of the nine nibbles of its page index. -/
def homeOf (a : Nat) : Nat := xorFold 9 (bits a 12 36)

/-- The home of a logical page. -/
def homeOfPage (pg : Nat) : Nat := xorFold 9 pg

/-- The home of a stream context (R52). -/
def homeOfStream (s : Nat) : Nat := xorFold 3 s

/-- The serving Point of a nominal home (R51). -/
def Dev.serving (d : Dev) (h : Nat) : Nat := d.f (PNT_HOMEMAP.HOME h)

/-- Whether a Point's state is DEAD. -/
def Dev.dead (d : Dev) (n : Nat) : Bool := d.f (PNT_STAT.STATE n) == 2
/-- Whether a Point is alive: neither DYING nor DEAD. -/
def Dev.live (d : Dev) (n : Nat) : Bool := d.f (PNT_STAT.STATE n) == 0
/-- The live Points in ascending order. -/
def Dev.livePts (d : Dev) : List Nat := (List.range 16).filter d.live
/-- Whether a die link can carry traffic: it is up, and no quick retrain has been decided (Table 3.8). -/
def Dev.linkUp (d : Dev) (n : Nat) : Bool := d.f (PNT_LINK.STATE n) == 2 && (d.pt n).retrainDue.isNone

/-! ### Interrupts (R343 to R346) -/

/-- Whether a port's link is in L0: trained, not in L1, PERST released. -/
def Dev.inL0 (d : Dev) (p : Nat) : Bool :=
  d.f (DEV_PORTSTAT.RATE p) != 0 && !d.on (DEV_PORTSTAT.L1 p) && !d.on (DEV_PORTSTAT.PERST p)

/-- Send a head's MSI-X message, or hold it for a link not in L0 or a masked vector (R343). (DESIGN CHOICE, log entry 159.) -/
def Dev.sendVec (d : Dev) (p v : Nat) : Dev :=
  if (d.head p).mask.testBit v then d.modHead p (fun h => { h with pend := h.pend ||| 2 ^ v })
  else if d.inL0 p then d.send (.msix p v)
  else d.modHead p (fun h => { h with heldMsgs := h.heldMsgs ||| 2 ^ v })

/-- A cause of vector `v` arises for requester `p` (R343 to R345). -/
def Dev.raise (d : Dev) (p v : Nat) : Dev :=
  let old := d.f (DEV_INTSTAT.PEND p)
  let d' := d.orF (DEV_INTSTAT.PEND p) (2 ^ v)
  if old.testBit v then d'
  else if p = 2 then
    (if d.i3c.ibiOn && d.i3c.addr.isSome then { d'.send (.ibi (d'.reg 0x30)) with i3c := { d'.i3c with ibiHeld := true } }
     else d')
  else if (d.head p).msix then d'.sendVec p v
  else if old = 0 then
    (if d.inL0 p then d'.send (.msi p) else d'.modHead p (fun h => { h with heldMsi := true }))
  else d'

/-- A cause of vector `v` arises for every requester. -/
def Dev.raiseAll (d : Dev) (v : Nat) : Dev := ((d.raise 0 v).raise 1 v).raise 2 v

/-- Assert ALERT_N in a class of Table 9.9: set the DEV_ALERT bit; a bit that becomes set raises vector 3 (R346). -/
def Dev.alert (d : Dev) (b : Nat) : Dev :=
  if (d.f DEV_ALERT.CAUSE).testBit b then d else (d.orF DEV_ALERT.CAUSE (2 ^ b)).raiseAll 3

/-- ALERT_N is driven low (R346). -/
def Dev.alertN (d : Dev) : Bool := Nat.land (d.f DEV_ALERT.CAUSE) (d.f DEV_ALERTEN.EN) != 0

/-! ### Sparse byte memories: the Logbook, engine local and quadrant shared memory -/

/-- A byte of a sparse memory whose unlisted bytes read zero. -/
def memGet (m : List Host.Cell) (a : Nat) : BitVec 8 := (assocGet a m).getD 0
/-- Write a byte, keeping the canonical form: addresses rising, no listed zero. -/
def memSet (m : List Host.Cell) (a : Nat) (b : BitVec 8) : List Host.Cell :=
  if b = 0 then assocDel a m else assocSet a b m
/-- Read consecutive bytes. -/
def memRead (m : List Host.Cell) (a n : Nat) : List (BitVec 8) := (List.range n).map (fun i => memGet m (a + i))
/-- Write consecutive bytes. -/
def memWrite : List Host.Cell → Nat → List (BitVec 8) → List Host.Cell
  | m, _, [] => m
  | m, a, b :: bs => memWrite (memSet m a b) (a + 1) bs
/-- The canonical form of a sparse memory, above a bound: addresses rise strictly and no byte listed is zero. -/
def memWfFrom : Option Nat → List Host.Cell → Bool
  | _, [] => true
  | lo, (a, b) :: t => (match lo with | none => true | some l => decide (l < a)) && b != 0 && memWfFrom (some a) t
/-- The canonical form of a sparse memory. -/
def Memory.wf (m : List Host.Cell) : Bool := memWfFrom none m

/-! ### Timestamps of records (R317) -/

/-- The host time of R317 now: the recorded host time advanced by the ship's time elapsed, zero before Set Timestamp. -/
def Dev.hostTime (d : Dev) : Nat :=
  match d.stamp with
  | none => 0
  | some (ns, t0) => (ns + (d.time - t0) * 1000000000 / 2147483648) % 2 ^ 64

/-! ### Deck-log buffer (R608, R609) -/

/-- Bytes a deck-log record takes: header 32, body, CRC 4, padded to 16 (R608). -/
def DeckRec.size : DeckRec → Nat
  | .event _ => 128
  | .fix _ _ _ _ _ _ snaps => (32 + 8 + 8 * snaps.length + 4 + 15) / 16 * 16
  | .lost .. => 48

/-- Bytes held in the deck-log buffer. -/
def bufBytes (l : List DeckRec) : Nat := (l.map DeckRec.size).foldr (· + ·) 0

/-- A record enters the 64 KiB deck-log buffer, or is dropped and counted (R609, R611). -/
def Dev.deckPush (d : Dev) (r : DeckRec) : Dev :=
  let lost : List DeckRec := if d.deck.owed = 0 then [] else [.lost d.deck.owed d.opSec d.cycle d.time (d.f FIX_NUM.NUMBER)]
  if d.on DECK_STAT.FULL then d.cnt DECK_STAT.DROPPED
  else if bufBytes (d.deck.buf ++ lost ++ [r]) ≤ 65536 then
    { d with deck := { d.deck with buf := d.deck.buf ++ lost ++ [r], owed := 0 } }
  else { d.cnt DECK_STAT.DROPPED with deck := { d.deck with owed := d.deck.owed + 1 } }

/-- Count an event of the Tally (R614): every counter of a level that selects the code advances. `unit` is the Point, the
quadrant, or 0 for the chip. -/
def Dev.tally (d : Dev) (code unit_ n : Nat) : Dev :=
  let base := if code < 0x40 then 8 * unit_ else if code < 0x80 then 128 + 8 * unit_ else 160
  let cnt := if code < 0x80 then 8 else 16
  (List.range cnt).foldl (fun d c =>
    let i := base + c
    if d.f (TAL_SEL.EVENT (i / 4) (i % 4)) = code then
      let v := d.f (TAL_CNT.COUNT i) + n
      let d := d.setF (TAL_CNT.COUNT i) v
      if v ≥ 2 ^ 48 then { d.setF TAL_STAT.OVF 1 with deck := { d.deck with tallyWrap := true } } else d
    else d) d

/-- Tally codes that count cycles, issue slots or flits (R615, Table 17.7). -/
def timeCodes : List Nat := [1, 2, 3, 4, 5, 6, 7, 8, 0x40, 0x41, 0x44, 0x80, 0x82, 0x83, 0x84, 0x85, 0x86, 0x87]

/-- The live value of Tally counter `i` (TAL_CNT): of a code that counts time or traffic, a free value. (DESIGN CHOICE, log entry 102.) -/
def Dev.talCount (d : Dev) (i : Nat) : Nat :=
  if timeCodes.contains (d.f (TAL_SEL.EVENT (i / 4) (i % 4))) then (Config.tallyShare (256 * d.time + i)).toNat else d.f (TAL_CNT.COUNT i)

/-- Assign a CSN (R30): both counters of the duplicated sequencer advance (R591), and the Tally counts it (0x81). (DEDUCED, log entry 185.) -/
def Dev.takeCsn (d : Dev) : Dev := { d.tally 0x81 0 1 with nextCsn := d.nextCsn + 1, nextCsn2 := d.nextCsn2 + 1 }

/-- Place a record in one CXL event log of a head (R314) and interrupt by its policy (vector 1). -/
def Dev.logTo (d : Dev) (p log : Nat) (r : CxlRec) : Dev :=
  let l := (d.head p).logs.getD log {}
  let l' : CxlLog :=
    if l.recs.length ≥ 256 then
      { l with overflow := satAdd 16 l.overflow 1, firstOv := if l.overflow = 0 then d.hostTime else l.firstOv, lastOv := d.hostTime }
    else { l with recs := l.recs ++ [(l.nextHandle, r)], nextHandle := l.nextHandle % 65535 + 1 }
  let d' := d.modHead p (fun h => { h with logs := listSet h.logs log l' })
  if l.recs.length < 256 && (d.head p).policy.getD log 0 = 1 then d'.raise p 1 else d'

/-- Place a record in the same CXL event log of both heads. -/
def Dev.logBoth (d : Dev) (log : Nat) (r : CxlRec) : Dev := (d.logTo 0 log r).logTo 1 log r

/-- Carry an event record with its facts filled in to the deck log and to the CXL log of its severity on both heads (R313,
R315). -/
def Dev.postAs (d : Dev) (e : Ev) : Dev :=
  let e : Ev := { e with detail := padTo 28 e.detail }
  let d := ((d.deckPush (.event e)).logBoth e.sev (.vendor e d.hostTime)).tally 0x89 0 1
  if e.sev ≥ 2 then { d with deck := { d.deck with flushDue := true } } else d

/-- Post an event record now (R313), with the facts of detection filled in; `alert` is the ALERT_N class it asserts. No Fix is
raised here. -/
def Dev.postRaw (d : Dev) (e : Ev) (fix : Nat) (alert : Option Nat := none) : Dev :=
  let d := match alert with | some b => d.alert b | none => d
  d.postAs { e with
    flags := e.flags ||| b2n alert.isSome, csn := d.csn, time := d.time, fix := fix, opSec := d.opSec, cycle := d.cycle,
    sev := Nat.max e.sev (b2n alert.isSome) }

/-- The fabric clock runs, so that ship's time counts its fraction (R8, R546, Table 15.2). -/
def Dev.fabricOn (d : Dev) : Bool :=
  match d.phase with
  | .watchOff | .dormant | .optLoad | .clocks | .doze | .railsDown => false
  | .powerUp => d.wch.startKind == 2
  | _ => !d.wch.gated || d.mLogline

/-- One Watch tick passes: WCH_TICKS counts, and ship's time wherever it is kept (R543, R546, Table 15.2). -/
def Dev.watchTick (d : Dev) : Dev :=
  { d with
    wch := { d.wch with ticks := (d.wch.ticks + 1) % 2 ^ 48 }
    time := if d.phase == .dormant then d.time else (d.time / 65536 + 1) * 65536 }

/-- Time passes while no command waits (R8): one unit of ship's time while the fabric clock runs, else one Watch tick; nothing
while the Watch domain is stopped (R510). (DESIGN CHOICE, log entry 2.) -/
def Dev.idle (d : Dev) : Dev :=
  if d.phase == .watchOff then d
  else if d.fabricOn && (d.time + 1) % 65536 != 0 then { d with time := d.time + 1 }
  else d.watchTick

/-- A command's outcome: a command outside its row's operand ranges faults, and every other command changes the device and
leaves the queue as it stands. (DESIGN CHOICE, log entry 3.) -/
def act (ok : Bool) (s : State) (f : Dev → Dev) : Host.Outcome State Fault Refusal :=
  if ok then .next { s with dev := f s.dev } else .fault .illFormed

end Sys2Proof.Machine
end

