-- ==== Sys2Proof/Machine/Codes.lean ====
section
/-! DEFINITION. The codes of the manual: CRCs, BCH parity, the scrambler, SHA-256 and record encodings built on them. -/

namespace Sys2Proof.Machine

/-! ### CRCs -/

/-- One bit of a most-significant-bit-first CRC of width `w`. -/
def crcBit (w poly crc : Nat) (b : Bool) : Nat :=
  let top := Bool.xor (crc.testBit (w - 1)) b
  let s := (2 * crc) % 2 ^ w
  if top then Nat.xor s poly else s

/-- One byte of a most-significant-bit-first CRC. -/
def crcByte (w poly crc : Nat) (b : BitVec 8) : Nat :=
  [7, 6, 5, 4, 3, 2, 1, 0].foldl (fun c i => crcBit w poly c (b.getLsbD i)) crc

/-- A most-significant-bit-first CRC over bytes. -/
def crcMsb (w poly init : Nat) (bs : List (BitVec 8)) : Nat := bs.foldl (crcByte w poly) init

/-- The die-link CRC-16 (R99): x^16 + x^12 + x^5 + 1, initial value 0xFFFF. -/
def crc16Link (bs : List (BitVec 8)) : Nat := crcMsb 16 0x1021 0xFFFF bs

/-- The line-check CRC-16 (R257), whose polynomial is 0x8BB7 below x^16, as x^15, x^11, x^9, x^8, x^7, x^5, x^4, x^2, x, 1. -/
def crc16Line (init : Nat) (bs : List (BitVec 8)) : Nat := crcMsb 16 0x8BB7 init bs

/-- The I3C and SEQ frame CRC-8 (R338): x^8 + x^2 + x + 1, initial value 0xFF. -/
def crc8 (bs : List (BitVec 8)) : BitVec 8 := BitVec.ofNat 8 (crcMsb 8 0x07 0xFF bs)

/-- One byte of CRC-32C, reflected. -/
def crc32cByte (crc : Nat) (b : BitVec 8) : Nat :=
  [0, 1, 2, 3, 4, 5, 6, 7].foldl (fun c _ => if c.testBit 0 then Nat.xor (c / 2) 0x82F63B78 else c / 2) (Nat.xor crc b.toNat)

/-- CRC-32C (Castagnoli): reflected, initial value and final inversion all ones. -/
def crc32c (bs : List (BitVec 8)) : Nat := Nat.xor (bs.foldl crc32cByte 0xFFFFFFFF) 0xFFFFFFFF

/-! ### The line check (R257, R258) -/

/-- The line check of a line at an address term. -/
def lineCheck (d : Line) (term : Nat) : Nat := crc16Line 0xFFFF (lineBytes d ++ leBytes 8 term)

/-- Address term of a line of device memory (R258). -/
def termDev (line : Nat) : Nat := line % 2 ^ 42
/-- Address term of a quarter that holds no device line (R258). -/
def termPhys (psa quarter : Nat) : Nat := psa % 2 ^ 31 + quarter * 2 ^ 32 + 2 ^ 63
/-- Address term of a stream line at a logical line address (R379). -/
def termStream (line : Nat) : Nat := line % 2 ^ 42 + 2 ^ 62

/-- The line check of the same line with the bytes of `a` replaced by those of `b`, at an unchanged address term (R258, R259). -/
def checkMove (check : Nat) (a b : Line) : Nat := Nat.xor check (crc16Line 0 (lineBytes (a ^^^ b) ++ leBytes 8 0))

/-- The line check of the same line at another address term (R259). -/
def termMove (check t u : Nat) : Nat := Nat.xor check (crc16Line 0 (lineBytes 0 ++ leBytes 8 (Nat.xor t u)))

/-! ### Sector metadata (Table 8.4) -/

/-- Build the metadata of a sector: four line checks, clear count, logical sector high part, flags. -/
def mkMeta (checks : List Nat) (count high : Nat) (scrambled : Bool) (slot gen kind : Nat) : BitVec 128 :=
  BitVec.ofNat 128 (
    (checks.getD 0 0 % 65536) + (checks.getD 1 0 % 65536) * 2 ^ 16 + (checks.getD 2 0 % 65536) * 2 ^ 32 +
    (checks.getD 3 0 % 65536) * 2 ^ 48 + (count % 2 ^ 32) * 2 ^ 64 + (high % 2 ^ 24) * 2 ^ 96 +
    (kind % 8 + (gen % 2) * 8 + (slot % 8) * 16 + b2n scrambled * 128) * 2 ^ 120)

/-- Line check of quarter `q` in a sector's metadata. -/
def metaCheck (m : BitVec 128) (q : Nat) : Nat := bits m.toNat (16 * q) 16
/-- Clear count in a sector's metadata. -/
def metaCount (m : BitVec 128) : Nat := bits m.toNat 64 32
/-- Logical sector high part. -/
def metaHigh (m : BitVec 128) : Nat := bits m.toNat 96 24
/-- KIND. -/
def metaKind (m : BitVec 128) : Nat := bits m.toNat 120 3
/-- KEYGEN. -/
def metaGen (m : BitVec 128) : Nat := bits m.toNat 123 1
/-- KEYSLOT. -/
def metaSlot (m : BitVec 128) : Nat := bits m.toNat 124 3
/-- SCRAMBLED. -/
def metaScr (m : BitVec 128) : Bool := m.getLsbD 127

/-! ### The scrambler (R276) -/

/-- Rotate a 32-bit number left. -/
def rotl32 (x n : Nat) : Nat := (x * 2 ^ n) % 2 ^ 32 + x / 2 ^ (32 - n)

/-- The four round words of the tweak (R276). -/
def tweak (key : BitVec 128) (psa c u : Nat) : List Nat :=
  [ Nat.xor (bits key.toNat 0 32) psa,
    Nat.xor (bits key.toNat 32 32) c,
    Nat.xor (bits key.toNat 64 32) ((u * 0x9E3779B9) % 2 ^ 32),
    Nat.xor (Nat.xor (bits key.toNat 96 32) (rotl32 psa 16)) (rotl32 c 8) ]

/-- One scrambling round on the four words. -/
def scrRound (t r : Nat) : Nat × Nat × Nat × Nat → Nat × Nat × Nat × Nat
  | (w0, w1, w2, w3) =>
    let w0 := (w0 + Nat.xor t ((r * 0x01010101) % 2 ^ 32)) % 2 ^ 32
    let w1 := Nat.xor w1 (rotl32 w0 7)
    let w2 := (w2 + w1) % 2 ^ 32
    let w3 := Nat.xor w3 (rotl32 w2 13)
    let w0 := (w0 + w3) % 2 ^ 32
    (w1, w2, w3, w0)

/-- The inverse of a scrambling round. -/
def scrUnround (t r : Nat) : Nat × Nat × Nat × Nat → Nat × Nat × Nat × Nat
  | (w1, w2, w3, w0) =>
    let w0 := (w0 + 2 ^ 32 - w3) % 2 ^ 32
    let w3 := Nat.xor w3 (rotl32 w2 13)
    let w2 := (w2 + 2 ^ 32 - w1) % 2 ^ 32
    let w1 := Nat.xor w1 (rotl32 w0 7)
    let w0 := (w0 + 2 ^ 32 - Nat.xor t ((r * 0x01010101) % 2 ^ 32)) % 2 ^ 32
    (w0, w1, w2, w3)

/-- The four words of a 16 B unit. -/
def wordsOf (x : Nat) : Nat × Nat × Nat × Nat := (bits x 0 32, bits x 32 32, bits x 64 32, bits x 96 32)
/-- A 16 B unit from its four words. -/
def ofWords : Nat × Nat × Nat × Nat → Nat
  | (a, b, c, e) => a + b * 2 ^ 32 + c * 2 ^ 64 + e * 2 ^ 96

/-- Scramble or descramble unit `u`. -/
def scrUnit (inv : Bool) (key : BitVec 128) (psa c u x : Nat) : Nat :=
  let t := tweak key psa c u
  if inv then
    ofWords (scrUnround (t.getD 0 0) 0 (scrUnround (t.getD 1 0) 1 (scrUnround (t.getD 2 0) 2 (scrUnround (t.getD 3 0) 3 (wordsOf x)))))
  else
    ofWords (scrRound (t.getD 3 0) 3 (scrRound (t.getD 2 0) 2 (scrRound (t.getD 1 0) 1 (scrRound (t.getD 0 0) 0 (wordsOf x)))))

/-- Scramble (or with `inv` descramble) the 256 data bytes of a sector (R276). -/
def scramble (inv : Bool) (key : BitVec 128) (psa c : Nat) (d : SecData) : SecData :=
  BitVec.ofNat 2048 ((List.range 16).foldr (fun u acc => acc + scrUnit inv key psa c u (bits d.toNat (128 * u) 128) * 2 ^ (128 * u)) 0)

/-! ### BCH parity (R267) -/

/-- Multiply in GF(2^12) with x^12 + x^6 + x^4 + x + 1: `n` steps over the bits of `b`. -/
def gfMulAux : Nat → Nat → Nat → Nat → Nat
  | 0, _, _, acc => acc
  | n + 1, a, b, acc =>
    let acc := if b.testBit 0 then Nat.xor acc a else acc
    let a := if a.testBit 11 then Nat.xor ((2 * a) % 4096) 0x053 else 2 * a
    gfMulAux n a (b / 2) acc

/-- Multiplication in GF(2^12). -/
def gfMul (a b : Nat) : Nat := gfMulAux 12 a b 0

/-- α to a power. -/
def gfPow : Nat → Nat
  | 0 => 1
  | n + 1 => gfMul (gfPow n) 2

/-- Multiply a polynomial over GF(2^12), lowest coefficient first, by x + root. -/
def polyMulRoot (p : List Nat) (root : Nat) : List Nat :=
  let shifted := 0 :: p
  let scaled := p.map (gfMul root) ++ [0]
  (shifted.zip scaled).map (fun x => Nat.xor x.1 x.2)

/-- The exponents of the conjugates of α^i: i, 2i, 4i and so on modulo 4095. -/
def conjugates (i : Nat) : List Nat := ((List.range 12).map (fun k => (i * 2 ^ k) % 4095)).eraseDups

/-- The exponents of the generator's roots: the conjugates of α^1 to α^32. -/
def bchRoots : List Nat := (((List.range 32).map (fun i => conjugates (i + 1))).flatten).eraseDups

/-- The generator polynomial of degree 192, as a number whose bit k is the coefficient of x^k (R267). -/
def bchGen : Nat :=
  let p := bchRoots.foldl (fun p e => polyMulRoot p (gfPow e)) [1]
  (p.zipIdx).foldl (fun acc x => acc + (x.1 % 2) * 2 ^ x.2) 0

/-- Remainder of a message of bits, highest first, times x^192 by the generator. -/
def bchRem (gen : Nat) (bitsMsb : List Bool) : Nat :=
  bitsMsb.foldl (fun r b =>
    let top := Bool.xor (r.testBit 191) b
    let s := (2 * r) % 2 ^ 192
    if top then Nat.xor s (gen % 2 ^ 192) else s) 0

/-- The bits of bytes, most significant of each byte first. -/
def msbBits (bs : List (BitVec 8)) : List Bool := (bs.map (fun b => [7, 6, 5, 4, 3, 2, 1, 0].map b.getLsbD)).flatten

/-- The 24 bytes of BCH parity over the 272 bytes of data and metadata (R267). -/
def bchParity (bs : List (BitVec 8)) : List (BitVec 8) := (leBytes 24 (bchRem bchGen (msbBits bs))).reverse

/-- The 304 B row image of a sector (Table 8.3). -/
def Sector.image (s : Sector) : List (BitVec 8) :=
  let body := leBytes 256 s.data.toNat ++ leBytes 16 s.md.toNat
  body ++ bchParity body ++ leBytes 8 s.tail.toNat

/-! ### SHA-256 (R285) -/

/-- The first 64 prime numbers, from whose roots SHA-256 takes its constants. -/
def shaPrimes : List Nat :=
  (List.range 312).filter (fun p => decide (2 ≤ p) && (List.range p).all (fun k => decide (k < 2) || p % k != 0))

/-- The first 32 fractional bits of the `k`th root of a number below 2^12: the root's 38 bits, decided from the highest down. -/
def fracRoot (k p : Nat) : Nat :=
  (List.range 38).foldl (fun r i => if (r + 2 ^ (37 - i)) ^ k ≤ p * 2 ^ (32 * k) then r + 2 ^ (37 - i) else r) 0 % 2 ^ 32

/-- A 32-bit word rotated right by each number of a list, the copies added bit by bit. -/
def rotSum (x : Nat) (ns : List Nat) : Nat := ns.foldl (fun acc n => Nat.xor acc (rotl32 x (32 - n))) 0

/-- The word of the message schedule that follows the sixteen given, newest first. -/
def shaNext (w : List Nat) : Nat :=
  let far := w.getD 14 0
  let near := w.getD 1 0
  (w.getD 15 0 + Nat.xor (rotSum far [7, 18]) (far / 8) + w.getD 6 0 + Nat.xor (rotSum near [17, 19]) (near / 1024)) % 2 ^ 32

/-- The chaining value while a block is hashed: what its two shift registers of four words hold, newest first. -/
structure ShaRegs where
  upper : List Nat
  lower : List Nat

/-- One round with the sum of its constant and its message word: both registers shift by one word. -/
def ShaRegs.round (s : ShaRegs) (kw : Nat) : ShaRegs :=
  let u (i : Nat) : Nat := s.upper.getD i 0
  let l (i : Nat) : Nat := s.lower.getD i 0
  let choose := Nat.xor (l 2) (Nat.land (l 0) (Nat.xor (l 1) (l 2)))
  let majority := Nat.lor (Nat.land (u 0) (u 1)) (Nat.land (u 2) (Nat.lor (u 0) (u 1)))
  let t := l 3 + rotSum (l 0) [6, 11, 25] + choose + kw
  ⟨((t + rotSum (u 0) [2, 13, 22] + majority) % 2 ^ 32) :: s.upper.take 3, ((u 3 + t) % 2 ^ 32) :: s.lower.take 3⟩

/-- A number from bytes, most significant first. -/
def ofBe (bs : List (BitVec 8)) : Nat := bs.foldl (fun a b => a * 256 + b.toNat) 0

/-- The rounds of one block: constants still to use, schedule window with the word of this round first among its last sixteen. -/
def shaRounds : List Nat → List Nat → ShaRegs → ShaRegs
  | [], _, s => s
  | k :: ks, w, s => shaRounds ks (shaNext w :: w.take 15) (s.round (k + w.getD 15 0))

/-- One 64 B block on the eight words of the hash value. -/
def shaBlock (ks h : List Nat) (blk : List (BitVec 8)) : List Nat :=
  let w := ((List.range 16).map (fun i => ofBe ((blk.drop (4 * i)).take 4))).reverse
  let s := shaRounds ks w ⟨h.take 4, h.drop 4⟩
  (h.zip (s.upper ++ s.lower)).map (fun x => (x.1 + x.2) % 2 ^ 32)

/-- Hash `n` blocks. -/
def shaBlocks (ks : List Nat) : Nat → List Nat → List (BitVec 8) → List Nat
  | 0, h, _ => h
  | n + 1, h, bs => shaBlocks ks n (shaBlock ks h (bs.take 64)) (bs.drop 64)

/-- SHA-256 of bytes, as 32 bytes: its constants are fractions of the cube roots of 64 primes, its initial value of the square roots of
the first eight. -/
def sha256 (bs : List (BitVec 8)) : List (BitVec 8) :=
  let l := bs.length
  let m := bs ++ [0x80#8] ++ List.replicate ((119 - l % 64) % 64) 0#8 ++ (leBytes 8 (8 * l)).reverse
  ((shaBlocks (shaPrimes.map (fracRoot 3)) (m.length / 64) ((shaPrimes.take 8).map (fracRoot 2)) m).map (fun x => (leBytes 4 x).reverse)).flatten

/-- The digests of an extent's 65,536 B chunks, concatenated. -/
def chunkDigests : Nat → List (BitVec 8) → List (BitVec 8)
  | 0, _ => []
  | n + 1, bs => sha256 (bs.take 65536) ++ chunkDigests n (bs.drop 65536)

/-- The digest of an extent (R285). -/
def extentDigest (bs : List (BitVec 8)) : List (BitVec 8) := sha256 (chunkDigests ((bs.length + 65535) / 65536) bs)

end Sys2Proof.Machine
end

