-- ==== Sys2Proof/Machine/Media.lean ====
section
/-! DEFINITION. The medium: physical addresses, segments, stripe groups, rows and parity, programs, the records' layouts. -/

namespace Sys2Proof.Machine

/-! ### Physical sector addresses (R78, R79) -/

/-- Segment name of a physical sector address: Point in [16:13], segment in [12:0]. -/
def psaSeg (psa : Nat) : Nat := psa / 16384
/-- Sector within the segment. -/
def psaSec (psa : Nat) : Nat := psa % 16384
/-- Point that stores a physical sector address. -/
def psaPoint (psa : Nat) : Nat := psa / 2 ^ 27
/-- Physical sector address from a segment name and a sector. -/
def mkPsa (sg s : Nat) : Nat := sg * 16384 + s
/-- Cell of a physical sector address (R78). -/
def psaCell (psa : Nat) : Nat := psaSec psa % 32
/-- Whether an address is valid: 31 bits, segment field below 7,680 (R79). -/
def psaValid (psa : Nat) : Bool := decide (psa < 2 ^ 31) && decide (psaSeg psa % 8192 < 7680)

/-- The slice of a sector is retired or its cell has failed (R91). -/
def Dev.badSlice (d : Dev) (psa : Nat) : Bool :=
  (d.seg (psaSeg psa)).retired.testBit (psaCell psa) || (d.pt (psaPoint psa)).failedCells.contains (psaCell psa)

/-- A sector is skipped when its slice is retired or its cell has failed (R91), and where its segment is fatal, which is never programmed again
(R284). -/
def Dev.skipped (d : Dev) (psa : Nat) : Bool := d.badSlice psa || (d.seg (psaSeg psa)).fatal

/-- A row to which a program sub-pulse has been applied since its slice was cleared (R88). -/
def Dev.programmed (d : Dev) (psa : Nat) : Bool := (assocGet psa d.sectors).isSome

/-- At most `k` bits of a number are ones. -/
def fewBits : Nat → Nat → Bool
  | 0, x => x == 0
  | k + 1, x => x == 0 || fewBits k (Nat.land x (x - 1))

/-- The image of a row differs from all ones in at most 16 bits (R86). -/
def Sector.blank (s : Sector) : Bool :=
  fewBits 16 (2 ^ 2048 - 1 - s.data.toNat) && fewBits 16 (2 ^ 128 - 1 - s.md.toNat) &&
    fewBits 16 (2 ^ 2432 - 1 - ofLe s.image)

/-- The row as a read finds it: none where its image reads as blank, and where its program never passed verify (R86). -/
def Dev.row (d : Dev) (psa : Nat) : Option Sector :=
  match assocGet psa d.sectors with
  | some s => if s.failed || s.blank then none else some s
  | none => none

/-! ### Effective clocks, references and margin (R107 to R119) -/

/-- Effective clock of a die, in 2^-16 s. -/
def Dev.eclk (d : Dev) (n : Nat) : Nat := d.reg (0x3880 + 8 * n)

/-- The group correction φ of a segment's group (R114). -/
def Dev.phi (d : Dev) (sg : Nat) : Phi := (assocGet (sg / 8192 * 128 + sg % 8192 / 64) d.phis).getD {}

/-- Replace the correction entry of a segment's group. -/
def Dev.setPhi (d : Dev) (sg : Nat) (x : Phi) : Dev :=
  { d with phis := assocSet (sg / 8192 * 128 + sg % 8192 / 64) x d.phis }

/-- Data age φ × (ECLK − BIRTH) of a segment in 2^-24 s (R115); zero while it holds no data. -/
def Dev.dataAge (d : Dev) (sg : Nat) : Nat :=
  (d.phi sg).phi * (d.eclk (sg / 8192) - (d.seg sg).birth * 65536)

/-- Lodestone age φ × (ECLK − CLR_CLK) of a segment in 2^-24 s (R115). -/
def Dev.loadAge (d : Dev) (sg : Nat) : Nat :=
  (d.phi sg).phi * (d.eclk (sg / 8192) - (d.seg sg).clrClk * 65536)

/-- The drift variable x = log2(1 + a/τ) in units of 2^-16, rounded down, of an age in units of 2^-24 s, with τ = 4,096 s (R107).
(DESIGN CHOICE, log entry 186.) -/
def driftX (age : Nat) : Nat := log2Fix (68719476736 + age) 68719476736

/-- 2^(2^-k) in 2^-64, for k from 1 to 16. -/
def root2 : List Nat :=
  [26087635650665564424, 21936999301089678046, 20116317054877281741, 19263451207323153961,
   18850675170876015534, 18647615946650685158, 18546908069882975960, 18496758270674070881,
   18471734244850835105, 18459234930309000272, 18452988445124272033, 18449865995240371898,
   18448304968436414829, 18447524504564044945, 18447134285009651015, 18446939178327825412]

/-- 2^x in 2^-32, of x in 2^-16, not below 0. -/
def exp2Fix (x : Nat) : Nat :=
  let frac := (List.range 16).foldl (fun acc i => if (x % 65536).testBit (15 - i) then acc * root2.getD i 0 / 2 ^ 64 else acc) (2 ^ 64)
  frac * 2 ^ (x / 65536) / 2 ^ 32

/-- τ(2^x − 1) in 2^-24 s of an x in 2^-16 not below -16 (R107, R124, R127). (DESIGN CHOICE, log entry 186.) -/
def ageAt (x : Int) : Int := ((exp2Fix (x + 2 ^ 20).toNat / 2 ^ 16 : Nat) - 2 ^ 32 : Int) * 16

/-- Centre of level k at x, in units of 1/6,553,600 code (R107, Table 4.1). -/
def centre (k : Nat) (x : Int) : Int :=
  ([20230, 14672, 8984, 3200].getD k 0 : Int) * 65536 - ([64, 160, 256, 352].getD k 0 : Int) * x

/-- A reference of R117 between level `k` (upper) and `k + 1` (lower) with weight `w`/256: halves round upwards, bounded
to 0 to 255. -/
def refCode (k w : Nat) (x : Int) : Nat :=
  let lo := centre (k + 1) x
  let hi := centre k x
  let v := 256 * lo + w * (hi - lo)
  let unit : Int := 6553600 * 256
  let r := (2 * v + unit) / (2 * unit)
  if r < 0 then 0 else if r > 255 then 255 else r.toNat

/-- References A, B and C at a drift variable, with the weights of DRF_WEIGHT. -/
def Dev.refs (d : Dev) (x : Int) : Nat × Nat × Nat :=
  (refCode 0 (d.f DRF_WEIGHT.W_A) x, refCode 1 (d.f DRF_WEIGHT.W_B) x, refCode 2 (d.f DRF_WEIGHT.W_C) x)

/-- The predicted margin of R119 at x, in 1/16 code, rounded down. (DESIGN CHOICE, log entry 186.) -/
def marginAt (x : Nat) : Int :=
  let m (a b : Int) : Int := (16 * (a * 65536 * 100 - b * (x : Int))) / 6553600
  min (m 37 16) (min (m 38 112) (m 39 208))

/-- A die-link command word (Table 3.7), with even parity in bit 0. (DESIGN CHOICE, log entry 103.) -/
def linkWord (op cell row a b c tag : Nat) : Nat :=
  let w := op % 16 * 2 ^ 60 + cell % 32 * 2 ^ 55 + row % 2 ^ 22 * 2 ^ 33 + a % 256 * 2 ^ 25 + b % 256 * 2 ^ 17 + c % 256 * 2 ^ 9 +
    tag % 32 * 16
  w + ((List.range 64).countP (fun i => w.testBit i)) % 2

/-- Row of a sector within its cell: slice × 513 + row (Table 3.7). -/
def linkRow (psa : Nat) : Nat := (psaSeg psa % 8192) * 513 + psaSec psa / 32

/-- The die takes a command word: its parity bit makes bits [63:0] even (R98). One that it does not take is answered by a NAK on ALERT
and counts as a failed burst, as BURST_CRC_FAIL reports. -/
def linkTakes (w : Nat) : Bool := decide ((List.range 64).countP (fun i => w.testBit i) % 2 = 0)

/-- Send a command word over the link of die `n` (R98). -/
def Dev.linkSend (d : Dev) (n op cell row a b c : Nat) : Dev :=
  d.modPt n (fun p => { p with lastCmd := linkWord op cell row a b c (Config.linkTag d.time).toNat })

/-- A data burst on DQ (R99): a preamble of 2 UI, the payload in units of 16 bits, and one UI with the CRC-16 of the payload. -/
def dieBurst (payload : List (BitVec 8)) : List (BitVec 16) :=
  [0, 0] ++ (List.range ((payload.length + 1) / 2)).map (fun i => BitVec.ofNat 16 (fieldLe payload (2 * i) 2)) ++
    [BitVec.ofNat 16 (crc16Link payload)]

/-- A burst passes its CRC at the receiver (R99). -/
def burstPasses (payload : List (BitVec 8)) (b : List (BitVec 16)) : Bool := b.getLast? == some (BitVec.ofNat 16 (crc16Link payload))

/-- The burst that the buffers of die `n`'s link hold for a re-send (R100, R101): that of the row which crossed it last. -/
def Dev.lastBurst (d : Dev) (n : Nat) : List (BitVec 16) :=
  match (d.pt n).burst.bind (fun psa => assocGet psa d.sectors) with
  | some s => dieBurst s.image
  | none => []

/-! ### Segment counts and life cycle (R172) -/

/-- How many listed entries of a Point satisfy a predicate. -/
def Dev.countListed (d : Dev) (n : Nat) (q : Nat → Seg → Bool) : Nat :=
  d.segs.countP (fun x => decide (x.1 / 8192 = n) && q x.1 x.2)

/-- CLEARED data-pool segments of a Point: the clear pool. -/
def Dev.clearedData (d : Dev) (n : Nat) : Nat :=
  if d.dead n then 0
  else (7424 - d.countListed n (fun sg _ => decide (256 ≤ sg % 8192))) + d.countListed n (fun _ x => x.state == 2 && x.pool == 0)

/-- CLEARED metadata-pool segments of a Point. -/
def Dev.clearedMeta (d : Dev) (n : Nat) : Nat :=
  if d.dead n then 0
  else (256 - d.countListed n (fun sg _ => decide (sg % 8192 < 256))) + d.countListed n (fun _ x => x.state == 2 && x.pool == 1)

/-- DIRTY and CLEARING segments of a Point. -/
def Dev.awaiting (d : Dev) (n : Nat) : Nat := d.countListed n (fun _ x => x.state == 0 || x.state == 1)

/-- Metadata-pool segments of a Point in any state but RETIRED and LOST; a lent one still counts (R205). -/
def Dev.metaPool (d : Dev) (n : Nat) : Nat :=
  if d.dead n then 0
  else (256 - d.countListed n (fun sg _ => decide (sg % 8192 < 256))) +
    d.countListed n (fun _ x => (x.pool == 1 || x.berthLoan) && x.state != 8 && x.state != 9)

/-- A share of a chip-wide count among the live Points (R182). -/
def Dev.share (d : Dev) (total n : Nat) : Nat :=
  let l := d.livePts
  if l.contains n then total / l.length + (if (l.takeWhile (· != n)).length < total % l.length then 1 else 0) else 0

/-- CLEARED segments in the last-berth share of a Point (R184): the flush segment stands outside it. -/
def Dev.berthOf (d : Dev) (n : Nat) : Nat :=
  Nat.min (d.share 256 n) (d.clearedMeta n - (if (d.pt n).flushSeg.isSome then 1 else 0))

/-- The last berth: CLEARED segments in all shares (WLV_FREE.BERTH). -/
def Dev.berth (d : Dev) : Nat := ((List.range 16).map d.berthOf).foldr (· + ·) 0

/-- PNT_STAT[n].CLR_FLOOR_ACT: the clear floor of R61 acts while the clear pool is below its target (R178). (DEDUCED, log entry 184.) -/
def Dev.floorReg (d : Dev) (n : Nat) : Dev :=
  d.setF (PNT_STAT.CLR_FLOOR_ACT n) (b2n (decide (d.clearedData n < d.f (PNT_CLRPOOL.TARGET n))))

/-- Bring PNT_CLRPOOL[n], the clear floor and WLV_FREE.BERTH up to date with the segment states; CLEARED stands at its greatest value
where the count does not fit its 12 bits. (DEDUCED, log entry 184.) -/
def Dev.poolRegs (d : Dev) (n : Nat) : Dev :=
  let d := (d.setF (PNT_CLRPOOL.AWAIT n) (Nat.min 4095 (d.awaiting n))).setF (PNT_CLRPOOL.CLEARED n) (Nat.min 4095 (d.clearedData n))
  (d.floorReg n).setF WLV_FREE.BERTH d.berth

/-- A segment that is cleared, retired or lost is a candidate of the running secure discard no longer, and one that holds no
live data is none of the running REKEY (R210, R281). -/
def Dev.candGone (d : Dev) (sg st : Nat) : Dev :=
  let d : Dev := match d.rekey with
    | some r => if r.cands.contains sg && [0, 1, 2, 8, 9].contains st then { d with rekey := some { r with cands := r.cands.erase sg } } else d
    | none => d
  match d.sdisc with
  | x :: t =>
    if x.cands.contains sg && [2, 8, 9].contains st then
      ({ d with sdisc := { x with cands := x.cands.erase sg } :: t } : Dev).setF WLV_SDISC.REMAIN (x.cands.length - 1)
    else d
  | [] => d

/-! ### Segment headers and the wear tree (R81, R191 to R195) -/

/-- The segment header of a segment (Table 3.2). -/
def Dev.segHeader (d : Dev) (sg : Nat) : List (BitVec 8) :=
  let h := (d.seg sg).hdr
  let b := [0x53#8, 0x47#8, 0x48#8, 0x44#8] ++ leBytes 4 sg ++ leBytes 4 h.count ++ leBytes 4 h.cycle ++ leBytes 8 h.csn ++ leBytes 8 h.time ++
    leBytes 5 h.opSec ++ List.replicate 23 0
  b ++ leBytes 4 (crc32c b)

/-- A header copy as read: none where its check fails or it names another segment (R81). -/
def hdrIn (sg : Nat) (b : List (BitVec 8)) : Option SegHdr :=
  if b.length = 64 && fieldLe b 0 4 = 0x44484753 && fieldLe b 4 4 = sg && fieldLe b 60 4 = crc32c (b.take 60) then
    some ⟨fieldLe b 8 4, fieldLe b 12 4, fieldLe b 16 8, fieldLe b 24 8, fieldLe b 32 5⟩
  else none

/-- The 32 copies of a segment's header, one in each service row: none in a slice that is retired or in a failed cell; those of the slices of
`fails` come with a bit wrong. -/
def Dev.hdrCopies (d : Dev) (sg fails : Nat) : List (List (BitVec 8)) :=
  ((List.range 32).filter (fun c => !d.badSlice (mkPsa sg c))).map (fun c =>
    if fails.testBit c then (d.segHeader sg).map (fun b => ~~~b) else d.segHeader sg)

/-- The header as the device reads it (R81): of the copies that pass, the one with the highest clear count. (DEDUCED, log entry 26.) -/
def Dev.readHeader (d : Dev) (sg fails : Nat) : Option SegHdr :=
  ((d.hdrCopies sg fails).filterMap (hdrIn sg)).foldl (fun (m : Option SegHdr) h =>
    match m with | some x => if x.count < h.count then some h else some x | none => some h) none

/-- A leaf's value (R191): the greater of the shadow's clear count and the header's. -/
def Seg.leaf (x : Seg) : Nat := Nat.max x.count x.hdr.count

/-- Least element of a list, 0 of the empty one. -/
def leastOf : List Nat → Nat
  | [] => 0
  | a :: l => l.foldl Nat.min a

/-- The leaves of node `i`, the 64 segments of one group of a Point. -/
def Dev.nodeSegs (d : Dev) (i : Nat) : List Seg := (List.range 64).map (fun k => d.seg (i * 64 + k))

/-- A node as its 64 leaves make it (R193): MIN, SUM and COUNT without the RETIRED ones. -/
def nodeOf (l : List Seg) : WNode :=
  let v := (l.filter (fun x => x.state != 8)).map Seg.leaf
  ⟨(l.map Seg.leaf).foldl Nat.max 0, leastOf v, v.foldr (· + ·) 0, v.length, l.countP (·.uncertain)⟩

/-- The node entry `i`. -/
def Dev.wnode (d : Dev) (i : Nat) : WNode := (assocGet i d.wnodes).getD {}

/-- Node `i` from its leaves (R194, R195). (DEDUCED, log entry 26.) -/
def Dev.rebuildNode (d : Dev) (i : Nat) : Dev := { d with wnodes := assocSet i (nodeOf (d.nodeSegs i)) d.wnodes }

/-- The root of Point `n` from its 120 nodes (R193, R195), as WLV_ROOT[n] and WLV_SUM[n] hold it; nodes without a leaf that counts give no
MIN. -/
def Dev.rebuildRoot (d : Dev) (n : Nat) : Dev :=
  let l := (List.range 120).map (fun j => d.wnode (128 * n + j))
  let d := (d.setF (WLV_ROOT.MAX n) ((l.map (·.max)).foldl Nat.max 0)).setF (WLV_ROOT.MIN n) (leastOf ((l.filter (·.count != 0)).map (·.min)))
  (d.setF (WLV_SUM.SUM n) ((l.map (·.sum)).foldr (· + ·) 0)).setF (WLV_SUM.COUNT n) ((l.map (·.count)).foldr (· + ·) 0)

/-- A changed leaf reaches its node and then its root (R194), and WLV_STAT.UNCERTAIN counts the uncertain segments. -/
def Dev.wearSeg (d : Dev) (sg : Nat) : Dev :=
  let d := (d.rebuildNode (sg / 64)).rebuildRoot (sg / 8192)
  d.setF WLV_STAT.UNCERTAIN (Nat.min 65535 (d.segs.countP (fun x => x.2.uncertain)))

/-- Every node and the root of a Point from the leaves, as a start makes them (R194). -/
def Dev.wearPoint (d : Dev) (n : Nat) : Dev :=
  let d := { d with wnodes := d.wnodes.filter (fun x => x.1 / 128 != n) }
  let d := ((d.listedSegs n).map (fun x => x.1 / 64)).eraseDups.foldl Dev.rebuildNode d
  (d.rebuildRoot n).setF WLV_STAT.UNCERTAIN (Nat.min 65535 (d.segs.countP (fun x => x.2.uncertain)))

/-- Effective clear count of a segment (R192): its leaf, or the MAX of its node where it is uncertain. -/
def Dev.effCount (d : Dev) (sg : Nat) : Nat := if (d.seg sg).uncertain then (d.wnode (sg / 64)).max else (d.seg sg).leaf

/-- Move a segment to a life-cycle state (Table 5.6). A RETIRED one is uncertain no longer, leaves its node's MIN, SUM and COUNT, and lowers C
(R193, R195, R199). -/
def Dev.setState (d : Dev) (sg st : Nat) : Dev :=
  let gone := decide (st = 8) && (d.seg sg).state != 8
  let d := (d.modSeg sg (fun x => { x with state := st, stAt := d.time, uncertain := x.uncertain && st != 8 })).poolRegs (sg / 8192)
  let d := if gone then ({ d with capDue := true } : Dev).wearSeg sg else d
  d.candGone sg st

/-- A segment whose live count has reached 0 leaves STABLE or COLLECTING: to DIRTY, or to RETIRED where its count ran out
(R172, R284). -/
def Dev.dropEmpty (d : Dev) (sg : Nat) : Dev :=
  let x := d.seg sg
  if x.live = 0 && (x.state = 6 || x.state = 7) then d.setState sg (if x.fatal then 8 else 0) else d

/-- `n` sectors of a segment become live. -/
def Dev.addLive (d : Dev) (psa n : Nat) : Dev := d.modSeg (psaSeg psa) (fun x => { x with live := x.live + n })

/-- `n` sectors of a segment become dead. -/
def Dev.subLive (d : Dev) (psa n : Nat) : Dev :=
  (d.modSeg (psaSeg psa) (fun x => { x with live := x.live - n })).dropEmpty (psaSeg psa)

/-- HALF0_OFF and HALF1_OFF of a segment (Table 6.2, R198): a retired slice of its own, or a failed cell of its die, in cells
0 to 15 or 16 to 31. -/
def Dev.halfOff (d : Dev) (sg : Nat) : Bool × Bool :=
  let x := d.seg sg
  let f := (d.pt (sg / 8192)).failedCells
  (x.half0Off || f.any (fun c => c < 16), x.half1Off || f.any (fun c => 16 ≤ c))

/-- Page capacity of a segment (R198). -/
def Dev.pcap (d : Dev) (sg : Nat) : Nat :=
  let x := d.seg sg
  if x.state = 8 || x.state = 9 then 0 else 480 * (b2n (!(d.halfOff sg).1) + b2n (!(d.halfOff sg).2))

/-! ### Stripe groups (R160 to R167) -/

/-- The open group of a kind. -/
def Dev.openGroup (d : Dev) (kind : Nat) : Option Group := d.groups.find? (fun g => g.kind = kind && g.st = 0)

/-- The group by number. -/
def Dev.group (d : Dev) (num : Nat) : Option Group := d.groups.find? (fun g => g.num = num)

/-- Change a group. -/
def Dev.modGroup (d : Dev) (num : Nat) (f : Group → Group) : Dev :=
  { d with groups := d.groups.map (fun g => if g.num = num then f g else g) }

/-- The open segment of a kind on a Point, by name. -/
def Dev.openSeg (d : Dev) (kind n : Nat) : Option Nat :=
  match d.openGroup kind with
  | some g => (g.members.find? (fun m => m.1 = n)).map (fun m => 8192 * n + m.2)
  | none => none

/-- The group, not yet released, that a segment belongs to. -/
def Dev.groupOf (d : Dev) (sg : Nat) : Option Group :=
  d.groups.find? (fun g => g.st != 2 && g.members.contains (sg / 8192, sg % 8192))

/-- Whether page slot `r` of a segment holds a skipped sector. -/
def Dev.slotSkips (d : Dev) (sg r : Nat) : Bool := (List.range 16).any (fun j => d.skipped (mkPsa sg (16 * r + j)))

/-- First element of a list, in rotation from index `i`, that satisfies a predicate. -/
def rotFind (l : List (Nat × Nat)) (i : Nat) (q : Nat × Nat → Bool) : Option (Nat × Nat) :=
  ((l.drop i) ++ (l.take i)).find? q

/-- The state entry of a row, if any program has touched it. -/
def Group.row (g : Group) (r : Nat) : Option Row := g.rows.find? (fun x => x.r = r)

/-- The parity member of row `r` of a group (R162): live Point number (r + 4k) mod L, past members whose slot skips; as it was at the row's
first program. -/
def Dev.parityMember (d : Dev) (g : Group) (r : Nat) : Option (Nat × Nat) :=
  match (g.row r).bind (·.member) with
  | some m => some m
  | none =>
    if g.members.isEmpty then none
    else
      let i := (r + 4 * g.kind) % g.members.length
      match rotFind g.members i (fun m => !d.slotSkips (8192 * m.1 + m.2) r) with
      | some m => some m
      | none => g.members[i]?

/-- The data members of row `r`: all but the parity member. -/
def Dev.dataMembers (d : Dev) (g : Group) (r : Nat) : List (Nat × Nat) :=
  match d.parityMember g r with
  | some p => g.members.filter (· != p)
  | none => g.members

/-- Whether a slot of a row is fully programmed; skipped sectors count as programmed (R188). -/
def Dev.slotFull (d : Dev) (sg r : Nat) : Bool :=
  (List.range 16).all (fun j => d.programmed (mkPsa sg (16 * r + j)) || d.skipped (mkPsa sg (16 * r + j)))

/-- Whether a slot of a row has a programmed sector. -/
def Dev.slotUsed (d : Dev) (sg r : Nat) : Bool := (List.range 16).any (fun j => d.programmed (mkPsa sg (16 * r + j)))

/-- A row is complete when every data slot has been fully programmed (R164). -/
def Dev.rowFull (d : Dev) (g : Group) (r : Nat) : Bool := (d.dataMembers g r).all (fun m => d.slotFull (8192 * m.1 + m.2) r)

/-- Whether a row has been closed (R165). -/
def Group.rowClosed (g : Group) (r : Nat) : Bool := match g.row r with | some x => x.closed | none => false

/-- Change a row's entry, made at its first program. -/
def Dev.modRow (d : Dev) (num r : Nat) (f : Row → Row) : Dev :=
  d.modGroup num (fun g =>
    if (g.row r).isSome then { g with rows := g.rows.map (fun x => if x.r = r then f x else x) }
    else { g with rows := g.rows ++ [f { r := r, first := d.time, member := d.parityMember g r }] })

/-- The row window of R164: row `r` may take programs while every row below r − 31 is complete or closed. -/
def Dev.rowOpen (d : Dev) (g : Group) (r : Nat) : Bool :=
  (List.range (r - 31)).all (fun q => g.rowClosed q || d.rowFull g q)

/-! ### The Point arbiter (R59 to R62) -/

/-- The weights of PNT_ARB[n] as they are in force for a frame (R61): where the clear floor acts, CLEAR rises to CLR_FLOOR (at most 42),
its grants taken from SCRUB, then REFRESH, then FOLD, then STREAM, none below 1. (DESIGN CHOICE, log entry 116.) -/
def Dev.arbWeights (d : Dev) (n : Nat) : List Nat :=
  let take (want w : Nat) : Nat := Nat.min want (w - 1)
  let c := d.f (PNT_ARB.CLEAR n)
  let want := if d.on (PNT_STAT.CLR_FLOOR_ACT n) then Nat.min 42 (d.f (PNT_ARB.CLR_FLOOR n)) - c else 0
  let sc := take want (d.f (PNT_ARB.SCRUB n))
  let re := take (want - sc) (d.f (PNT_ARB.REFRESH n))
  let fo := take (want - sc - re) (d.f (PNT_ARB.FOLD n))
  let st := take (want - sc - re - fo) (d.f (PNT_ARB.STREAM n))
  [d.f (PNT_ARB.HOST n), d.f (PNT_ARB.STREAM n) - st, d.f (PNT_ARB.FOLD n) - fo, c + (sc + re + fo + st), d.f (PNT_ARB.REFRESH n) - re,
    d.f (PNT_ARB.VERIFY n), d.f (PNT_ARB.SCRUB n) - sc]

/-- An image is a refresh: it relocates a page of a segment that is due for one (R121), or an mfold's REFRESH flag grades it so (Table 11.9). -/
def Dev.isRefresh (d : Dev) (x : Img) : Bool := x.refresh || x.why == 3 && x.old.any (fun p => (d.seg (psaSeg p)).refreshDue)

/-- The arbitration class of an image's programs: 0 host, 1 stream spill, 2 fold, 4 refresh. -/
def Dev.imgClass (d : Dev) (x : Img) : Nat := if d.isRefresh x then 4 else if x.kind = 1 then 2 else if x.kind = 2 then 1 else 0

/-- The sectors of an image that are to be programmed. -/
def Img.todo (x : Img) : List Nat :=
  x.secs.flatMap (fun s => (if s.okA then [] else s.psa.toList) ++ (if s.okB then [] else s.psb.toList))

/-- A class of Point `n`'s arbiter has work pending (R59). -/
def Dev.classPending (d : Dev) (n c : Nat) : Bool :=
  match c with
  | 3 => d.segs.any (fun x => x.1 / 8192 == n && x.2.state == 1)
  | 5 => d.groups.any (fun g => g.st == 1 && g.toVerify.any (fun p => psaPoint p == n && (d.seg (psaSeg p)).state == 5))
  | 6 => false
  | _ => d.imgs.any (fun x => d.imgClass x == c && x.todo.any (fun p => psaPoint p == n))

/-- The grants of a frame that a class gets (R59): its weight, and those that the classes without work cannot use where it is the first
class with work. (DESIGN CHOICE, log entry 116.) -/
def Dev.quota (d : Dev) (n c : Nat) (wts : List Nat) : Nat :=
  let others := (List.range 7).filter (fun k => k != c && d.classPending n k)
  let left := 64 - (others.map (wts.getD · 0)).foldr (· + ·) 0 - wts.getD c 0
  wts.getD c 0 + (if others.all (c < ·) then left else 0)

/-- Point `n`'s arbiter makes `k` grants to a class (R59): a frame ends once every class with work has had its grants, and the weights of
the next are those that PNT_ARB then holds (R62). (DESIGN CHOICE, log entry 116.) -/
def Dev.grant (d : Dev) (n c k : Nat) : Dev :=
  let a := (d.pt n).arb
  let u := a.used.getD c 0 + k
  let q := d.quota n c a.wts
  let w := d.arbWeights n
  let q2 := Nat.max 1 (d.quota n c w)
  d.modPt n (fun p => { p with
    arb := if u < q then { a with used := listSet a.used c u } else ⟨listSet (List.replicate 7 0) c ((u - q) % q2), w⟩ })

/-- The class whose weight the programs of a segment's kind take; log and record sectors and their parity count as host writes.
(DESIGN CHOICE, log entry 116.) -/
def kindClass (k : Nat) : Nat := if k = 1 then 2 else if k = 2 then 1 else 0

/-! ### Programs (R87, R88) -/

/-- Most sub-pulses of a sector program (R87). -/
def Dev.pulseLimit (d : Dev) : Nat := if d.mCold then 16 else 8

/-- Sub-pulses that the program of a sector takes (R87): where verify passes a free number within the limit, else the limit.
(DESIGN CHOICE, log entry 104.) -/
def Dev.subPulses (d : Dev) (psa : Nat) (ok : Bool) : Nat :=
  if ok then 1 + (Config.pulses (psa + 2 ^ 31 * (d.seg (psaSeg psa)).count)).toNat % d.pulseLimit else d.pulseLimit

/-- The load of R87: the row image crosses the die link into the program buffer of the cell. -/
def Dev.loadRow (d : Dev) (psa : Nat) : Dev :=
  (d.linkSend (psaPoint psa) 2 (psaCell psa) (linkRow psa) 0 0 0).modPt (psaPoint psa) (fun p => { p with
    progBuf := assocSet (psaCell psa) psa p.progBuf, burst := some psa })

/-- DFILTER bits of logical pages (Table 6.2). -/
def dfBits (pgs : List Nat) : Nat := pgs.foldl (fun acc p => acc ||| 2 ^ (p / 2 ^ 18 % 64)) 0

/-- Program one row: refused with REPROG_REJ where a sub-pulse was already applied (R88); else it is loaded, the sub-pulses of class `c`
are granted until verify passes or the limit is reached (R87), the row holds the sector, and the segment's BIRTH and DFILTER and the row
of its group are brought up to date. -/
def Dev.programAs (d : Dev) (c psa : Nat) (s : Sector) (df : Nat) : Dev :=
  if d.programmed psa then d.setF (PNT_MEDSTAT.REPROG_REJ (psaPoint psa)) 1
  else
    let sg := psaSeg psa
    let n := psaPoint psa
    let d := ((d.loadRow psa).linkSend n 3 (psaCell psa) (linkRow psa) 0 0 0).grant n c (d.subPulses psa (!s.failed))
    let d := { d with sectors := assocSet psa s d.sectors }
    let d := d.modSeg sg (fun x => { x with
      dfilter := x.dfilter ||| df, birth := if x.birth = 0xFFFFFFFFFFFF then d.eclk n / 65536 else x.birth })
    let d := d.tally 0x0F n 1
    match d.groupOf sg with
    | some g => d.modRow g.num (psaSec psa / 16) id
    | none => d

/-- Program one row in the class of its segment's kind. -/
def Dev.program (d : Dev) (psa : Nat) (s : Sector) (df : Nat) : Dev := d.programAs (kindClass (d.seg (psaSeg psa)).kind) psa s df

/-- XOR of row images as 304 B numbers. -/
def xorImages (l : List Sector) : Nat × Nat × Nat :=
  l.foldl (fun acc s => (Nat.xor acc.1 s.data.toNat, Nat.xor acc.2.1 s.md.toNat, Nat.xor acc.2.2 s.tail.toNat)) (0, 0, 0)

/-- The parity sector of the sectors given: XOR of their images (R163, R157). BCH is linear, so its parity bytes agree. -/
def paritySector (l : List Sector) : Sector :=
  let x := xorImages l
  ⟨BitVec.ofNat 2048 x.1, BitVec.ofNat 128 x.2.1, BitVec.ofNat 64 x.2.2, false, .raw⟩

/-- Member mask of Points. -/
def memberMask (l : List (Nat × Nat)) : Nat := l.foldl (fun acc m => acc ||| 2 ^ m.1) 0

/-- The data members whose sector `j` of row `r` has been programmed, and those sectors. -/
def Dev.covered (d : Dev) (g : Group) (r j : Nat) : List ((Nat × Nat) × Sector) :=
  (d.dataMembers g r).filterMap (fun m => (d.row (mkPsa (8192 * m.1 + m.2) (16 * r + j))).map (fun s => (m, s)))

/-- DFILTER of a row's parity: all the bits of the members it is computed from (R186). -/
def Dev.rowFilter (d : Dev) (g : Group) : Nat := g.members.foldl (fun acc m => acc ||| (d.seg (8192 * m.1 + m.2)).dfilter) 0

/-- R156: the parity of a group covers a sector when its parity sector in the parity page of its row, or a partial-parity sector whose
mask includes its member, has been programmed and has passed verify. -/
def Dev.parityCovers (d : Dev) (psa : Nat) : Bool :=
  match d.groupOf (psaSeg psa) with
  | none => true
  | some g =>
    match g.row (psaSec psa / 16) with
    | none => false
    | some x =>
      (match x.parity with | some m => (m.getD (psaSec psa % 16) 0).testBit (psaPoint psa) | none => false) ||
        x.pps.any (fun p => p.1 = psaSec psa % 16 && p.2.2.testBit (psaPoint psa))

/-! ### Placement queues (R187, R188) -/

/-- The placement queue of a kind on a Point. -/
def Dev.queue (d : Dev) (kind n : Nat) : PQueue := (d.pt n).queues.getD kind {}

/-- Change the placement queue of a kind on a Point. -/
def Dev.modQueue (d : Dev) (kind n : Nat) (f : PQueue → PQueue) : Dev :=
  d.modPt n (fun p => { p with queues := listMod p.queues kind f })

/-- Sector addresses a queue holds (R67, R187). -/
def PQueue.count (q : PQueue) : Nat :=
  ((q.slots ++ q.cur.toList).map (fun s => s.secs.length)).foldr (· + ·) 0

/-- Whether a queue holds a whole page slot. -/
def PQueue.hasWhole (q : PQueue) : Bool := q.slots.any (·.whole)

/-- Take the first whole page slot of a queue (R188). -/
def PQueue.takeWhole (q : PQueue) : Option (Slot × PQueue) :=
  match q.slots.find? (·.whole) with
  | some s => some (s, { q with slots := q.slots.erase s })
  | none => none

/-- Take the next free sector: of the current sector slot, else of the first slot of the queue, which becomes the current
sector slot (R188). -/
def PQueue.takeSector (q : PQueue) : Option ((Nat × Nat) × PQueue) :=
  match q.cur with
  | some ⟨sg, sl, s :: rest, w⟩ => some ((sg, s), { q with cur := if rest.isEmpty then none else some ⟨sg, sl, rest, w⟩ })
  | _ =>
    match q.slots with
    | ⟨sg, sl, s :: rest, w⟩ :: t => some ((sg, s), { q with slots := t, cur := if rest.isEmpty then none else some ⟨sg, sl, rest, w⟩ })
    | _ => none

/-- The Point of slot `i` of the placement rotation of a home. -/
def Dev.placeSlot (d : Dev) (h i : Nat) : Nat := d.f (WLV_PLACE.SLOT h (i % 16))

/-- The row window of R164 admits row `r` of a segment. -/
def Dev.rowAdmits (d : Dev) (sg r : Nat) : Bool :=
  match d.groupOf sg with
  | some g => d.rowOpen g r
  | none => false

/-- Whether a Point can take a piece of the type needed from its queue of a kind (Table 6.3, R103, R164). -/
def Dev.canTake (d : Dev) (kind n : Nat) (whole : Bool) : Bool :=
  d.live n && d.linkUp n &&
    (let q := d.queue kind n
     if whole then (match q.takeWhole with | some (s, _) => d.rowAdmits s.seg s.slot | none => false)
     else (match q.takeSector with | some ((sg, s), _) => d.rowAdmits sg (s / 16) | none => false))

/-- The rotation slot after the one last used whose Point can take the piece (Table 6.3), outside the quadrant `av` of the image's other
TWIN copy (R146); none: R66 applies. (DEDUCED, log entry 187.) -/
def Dev.choosePoint (d : Dev) (h kind : Nat) (whole : Bool) (av : Option Nat := none) : Option Nat :=
  let last := (d.hm h).rot.getD kind 15
  ((List.range 16).map (fun i => (last + 1 + i) % 16)).find? (fun i =>
    d.canTake kind (d.placeSlot h i) whole && av != some (d.placeSlot h i / 4))

/-- Take a whole page slot for home `h` and a kind: address of its first sector, and the device after (R188, Table 6.3). -/
def Dev.takePage (d : Dev) (h kind : Nat) : Option (Nat × Dev) :=
  match d.choosePoint h kind true with
  | none => none
  | some i =>
    let n := d.placeSlot h i
    match (d.queue kind n).takeWhole with
    | none => none
    | some (s, q) =>
      some (mkPsa s.seg (16 * s.slot), (d.modQueue kind n (fun _ => q)).modHm h (fun x => { x with rot := listSet x.rot kind i }))

/-- Take one sector for home `h` and a kind. -/
def Dev.takeSec (d : Dev) (h kind : Nat) (av : Option Nat := none) : Option (Nat × Dev) :=
  match d.choosePoint h kind false av with
  | none => none
  | some i =>
    let n := d.placeSlot h i
    match (d.queue kind n).takeSector with
    | none => none
    | some ((sg, s), q) =>
      some (mkPsa sg s, (d.modQueue kind n (fun _ => q)).modHm h (fun x => { x with rot := listSet x.rot kind i }))

/-- The Point of the second TWIN copy of Point `p` (Table 6.3). -/
def Dev.twinPoint (d : Dev) (p kind : Nat) (whole : Bool) : Option Nat :=
  [(p + 8) % 16, (p + 4) % 16, (p + 12) % 16].find? (fun n => d.canTake kind n whole)

/-- Take a page or a sector for the second TWIN copy of Point `p`. -/
def Dev.takeTwin (d : Dev) (p kind : Nat) (whole : Bool) : Option (Nat × Dev) :=
  match d.twinPoint p kind whole with
  | none => none
  | some n =>
    if whole then
      match (d.queue kind n).takeWhole with
      | some (s, q) => some (mkPsa s.seg (16 * s.slot), d.modQueue kind n (fun _ => q))
      | none => none
    else
      match (d.queue kind n).takeSector with
      | some ((sg, s), q) => some (mkPsa sg s, d.modQueue kind n (fun _ => q))
      | none => none

/-- Next free sector of an open metadata segment from `s` on, past parity slots, skipped and programmed sectors; none while the row window
of R164 keeps the member out of its row. -/
def Dev.metaScan (d : Dev) (g : Group) (sg : Nat) : Nat → Nat → Option Nat
  | 0, _ => none
  | fuel + 1, s =>
    if s ≥ 16384 then none
    else if d.parityMember g (s / 16) = some (sg / 8192, sg % 8192) then d.metaScan g sg fuel (s / 16 * 16 + 16)
    else if d.skipped (mkPsa sg s) || d.programmed (mkPsa sg s) || g.rowClosed (s / 16) then d.metaScan g sg fuel (s + 1)
    else if d.rowOpen g (s / 16) then some s
    else none

/-- The next sector of the metadata open segment of a Point (R160, R230). -/
def Dev.metaSector (d : Dev) (n : Nat) : Option Nat :=
  match d.openGroup 3, d.openSeg 3 n with
  | some g, some sg => if d.live n && d.linkUp n then (d.metaScan g sg 4096 (d.pt n).metaNext).map (mkPsa sg) else none
  | _, _ => none

/-- The Point that takes a log or record sector of Point `n`: itself, or the first able one in the placement rotation of
its home (R103). -/
def Dev.metaPoint (d : Dev) (n : Nat) : Option Nat :=
  (n :: (List.range 16).map (d.placeSlot n)).find? (fun m => (d.metaSector m).isSome)

/-! ### Record layouts -/

/-- Bytes of a placement log entry (Table 5.3). -/
def PEnt.word (e : PEnt) : Nat :=
  e.kind % 8 * 2 ^ 61 + e.seg % 4 * 2 ^ 59 + e.first % 16384 * 2 ^ 45 + e.target % 2 ^ 32

/-- The 256 bytes of a placement log sector (Table 5.3). -/
def plogBytes (time csn : Nat) (twin : Bool) (segs : List Nat) (ents : List PEnt) : List (BitVec 8) :=
  padTo 256 ([0x50#8, 0x4C#8] ++ leBytes 1 ents.length ++ leBytes 1 (b2n twin) ++ leBytes 8 time ++ leBytes 8 csn ++
    (segs.map (leBytes 2)).flatten ++ List.replicate 4 0 ++ (ents.map (fun e => leBytes 8 e.word)).flatten)

/-- The 256 bytes of a line log sector (Table 5.4). -/
def llogBytes (time csn : Nat) (ls : List LogLine) : List (BitVec 8) :=
  padTo 64 ([0x4C#8, 0x53#8] ++ leBytes 1 ls.length ++ [0#8] ++ leBytes 8 time ++ leBytes 8 csn ++
    (ls.map (fun l => leBytes 8 ((csn - l.csn) % 2 ^ 24 * 2 ^ 40 + l.line % 2 ^ 40))).flatten) ++
  padTo 192 ((ls.map (fun l => lineBytes l.data)).flatten)

/-- Two bytes of an optional segment number, 0xFFFF for none (Table 7.4). -/
def optSeg (o : Option Nat) : List (BitVec 8) := leBytes 2 (o.getD 0xFFFF)

/-- Kind number of a metadata record (Table 7.4). -/
def MBody.kind : MBody → Nat
  | .clear .. => 1 | .groupOpen .. => 2 | .groupState .. => 3 | .mapPage .. => 4 | .cut .. => 5 | .watermark .. => 6
  | .poison .. => 7 | .discard .. => 8 | .home .. => 9 | .pool .. => 10 | .start .. => 11 | .flush .. => 12

/-- A map directory entry (R222): VALID and both copies' page addresses. -/
def dirWord (first second : Nat) : Nat := 2 ^ 63 + first % 2 ^ 27 * 2 ^ 36 + second % 2 ^ 27 * 2 ^ 9

/-- The body of a metadata record (Table 7.4). -/
def MBody.bytes : MBody → List (BitVec 8)
  | .clear sg c => leBytes 4 sg ++ leBytes 4 c
  | .groupOpen k n segs => leBytes 1 k ++ leBytes 4 n ++ (segs.map optSeg).flatten
  | .groupState n st => leBytes 4 n ++ leBytes 1 st
  | .mapPage h mp a b => leBytes 1 h ++ leBytes 2 mp ++ leBytes 8 (dirWord a b)
  | .cut g grp => leBytes 8 g ++ leBytes 4 grp
  | .watermark h w => leBytes 1 h ++ leBytes 8 w
  | .poison pg m _ => leBytes 4 pg ++ leBytes 8 m
  | .discard a l st _ => leBytes 8 a ++ leBytes 8 l ++ leBytes 1 st
  | .home m sts => leBytes 8 m ++ leBytes 4 (sts.zipIdx.foldl (fun acc x => acc + x.1 % 4 * 4 ^ x.2) 0)
  | .pool sg p => leBytes 4 sg ++ leBytes 1 p
  | .start c us => leBytes 8 c ++ (us.map (fun u => leBytes 8 (ofSigned 64 u))).flatten
  | .flush segs => (segs.map optSeg).flatten

/-- The 256 bytes of a metadata record sector (Table 7.3). -/
def mrecBytes (time csn cycle : Nat) (b : MBody) : List (BitVec 8) :=
  padTo 256 ([0x4D#8, 0x52#8] ++ leBytes 1 b.kind ++ [0#8] ++ leBytes 8 time ++ leBytes 8 csn ++ leBytes 4 cycle ++ b.bytes)

/-- The 256 bytes of a flush index sector (Table 7.7). -/
def fidxBytes (home cycle first : Nat) (ls : List LogLine) : List (BitVec 8) :=
  padTo 256 ([0x46#8, 0x58#8] ++ leBytes 1 ls.length ++ leBytes 1 (home % 16) ++ leBytes 4 first ++ leBytes 4 cycle ++
    List.replicate 4 0 ++
    (ls.map (fun l => leBytes 8 l.csn ++ leBytes 8 l.mask.toNat ++ leBytes 8 (l.line % 2 ^ 40))).flatten)

/-- A sector of a kind without device lines: its four checks at the physical term (R265), unscrambled. -/
def physSector (d : Dev) (psa kind : Nat) (data : SecData) (body : Body) : Sector :=
  ⟨data, mkMeta ((List.range 4).map (fun q => lineCheck (secLine data q) (termPhys psa q))) (d.seg (psaSeg psa)).count 0 false 0 0 kind,
    BitVec.ofNat 64 (2 ^ 64 - 1), false, body⟩

/-- Count a log or record sector that closed (R232). -/
def Dev.countLog (d : Dev) : Dev := (d.cnt MAP_LOGS.SINCE_CUT).cnt MAP_LOGS.SINCE_DONE

/-- Cold stop is in force: no program but commit programs and those of Flush, Commit and a reset flush (R640). (DEDUCED, log entry 146.) -/
def Dev.coldStop (d : Dev) : Bool := d.on THM_STAT.COLDSTOP

/-- Media critical or cold stop is in force: no clear sub-pulse, and of the programs only those that R637 or R640 leaves. -/
def Dev.noClear (d : Dev) : Bool := d.on THM_STAT.CRIT || d.coldStop

/-- Program a sector of a metadata kind on Point `n`'s metadata open segment; none where no Point can take it, or in cold stop. -/
def Dev.programOn (d : Dev) (n kind : Nat) (data : List (BitVec 8)) (body : Body) (df : Nat) : Option (Nat × Dev) :=
  match (if d.coldStop then none else d.metaPoint n) with
  | none => none
  | some m =>
    match d.metaSector m with
    | none => none
    | some psa =>
      let d := d.program psa (physSector d psa kind (secOfBytes data) body) df
      some (psa, d.modPt m (fun p => { p with metaNext := psaSec psa + 1 }))

/-- Close and program a metadata record on the Point that issues it: it takes its own CSN (R229, R230). A record that no
open metadata segment can take waits for one (R161). -/
def Dev.record (d : Dev) (n : Nat) (b : MBody) : Dev :=
  let d' := d.takeCsn
  match d'.programOn n 4 (mrecBytes d.time d.nextCsn d.cycle b) (.mrec d.nextCsn b) 0 with
  | some (_, d'') => d''.countLog
  | none => { d with waitRecs := d.waitRecs ++ [(n, .mrec 0 b)] }

/-- The 256 bytes of a seal-chain record or of a part of a page list (R286, R289): the record, or 8 B for each page, then
zeros. -/
def bodyData : Body → List (BitVec 8)
  | .sealRec _ bs => padTo 256 bs
  | .pages _ l => padTo 256 (l.flatMap (leBytes 8))
  | _ => padTo 256 []

/-- Program a sector that records the seal chain on the metadata open segment of a Point, or keep it until one takes it. -/
def Dev.putBody (d : Dev) (n : Nat) (b : Body) : Dev :=
  match d.programOn n 4 (bodyData b) b 0 with
  | some (_, d') => d'.countLog
  | none => { d with waitRecs := d.waitRecs ++ [(n, b)] }

/-- Records that waited are programmed, in order. -/
def Dev.drainRecords (d : Dev) : Dev :=
  let l := d.waitRecs
  l.foldl (fun d x => match x.2 with | .mrec _ b => d.record x.1 b | b => d.putBody x.1 b) { d with waitRecs := [] }

end Sys2Proof.Machine
end

