-- ==== Sys2Proof/Machine/Events.lean ====
section
/-! DEFINITION. Protect-window triggers, Fix, posting of events, Hove-to, poison and loss. -/

namespace Sys2Proof.Machine

/-! ### Stream notifications and protect windows (R389 to R396, R400) -/

/-- A field of a stream's control register as it is in force: a write that takes effect at the stream's next join (R352) is not yet.
(DEDUCED, log entry 173.) -/
def Dev.inForce (d : Dev) (s : Nat) (g : Nat → Fld) : Nat := bits (d.stm s).ctl (g s).lo (g s).w

/-- Heads that a side of a stream names (R400): 0 any port, 1 Port W, 2 Port E, 3 an engine (none). -/
def sideHeads (v : Nat) : List Nat := if v = 0 then [0, 1] else if v = 1 then [0] else if v = 2 then [1] else []

/-- Place a notification entry for one head (R400). -/
def Dev.notifyHead (d : Dev) (p s cause : Nat) : Dev :=
  let q := d.str.note.getD p []
  if q.length ≥ 256 then { d with str := { d.str with noteOvf := listSet d.str.noteOvf p true } }
  else
    let d' := { d with str := { d.str with note := listSet d.str.note p (q ++ [2 ^ 31 + cause * 2 ^ 16 + s]) } }
    if q.isEmpty then d'.raise p 4 else d'

/-- A cause of Table 10.7 arises on stream `s`; `prod` and `cons` say which sides it goes to. -/
def Dev.notify (d : Dev) (s bitNo : Nat) (prod cons : Bool) : Dev :=
  if d.inForce s STR_CTL.NOTIFY = 1 then
    let hs := ((if prod then sideHeads (d.inForce s STR_CTL.PROD) else []) ++ (if cons then sideHeads (d.inForce s STR_CTL.CONS) else [])).eraseDups
    hs.foldl (fun d p => d.notifyHead p s (2 ^ bitNo)) d
  else d

/-- The value that stands for no mark and no seal. -/
def allOnes64 : Nat := 2 ^ 64 - 1

/-- Detail of a stream event: the stream number, then positions from byte 4 (Table 10.12, closing text). -/
def strDetail (s : Nat) (ps : List Nat) : List (BitVec 8) := leBytes 4 s ++ (ps.map (leBytes 8)).flatten

/-- FLOOR: the lower of REL and the PSTART of every open or standing window (chapter 10, Positions). -/
def Stream.floor (x : Stream) : Nat := x.windows.foldl (fun m w => Nat.min m w.pstart) x.pos.rel

/-- Start of the newest frame that began below END. -/
def Stream.newestFrame (x : Stream) : Nat :=
  (x.frames.filter (fun f => f.start < x.pos.end_)).foldl (fun m f => Nat.max m f.start) 0

/-- Open and standing protect windows of the device. -/
def Dev.windowCount (d : Dev) : Nat := (d.str.ctx.map (fun x => x.2.windows.length)).foldr (· + ·) 0

/-- Extents that count towards the limit of 4,096 (R286, R396). -/
def Dev.sealCount (d : Dev) : Nat := d.seals.countP (fun x => x.target = 0) + d.windowCount

/-- Trigger a protect window on stream `s` at ship's time `t` (R389 to R392, R396): result 0 opened, 1 merged, 2 refused.
The window that a TRIGGER line triggered last is marked: the line shows its seal number once it has one. (DESIGN CHOICE, log entry 174.) -/
def Dev.trigger (d : Dev) (s t : Nat) (viaLine : Bool) : Nat × Dev :=
  let x := d.stm s
  let t := if t = 0 || t > d.time then d.time else t
  let t0 := t - msUnits (100 * d.inForce s STR_CTL.PRE)
  let t1 := t + msUnits (100 * d.inForce s STR_CTL.POST)
  let isOpen (w : Window) : Bool := w.pend.isNone && decide (d.time < w.t1) && decide (t0 ≤ w.t1)
  let setRes (r : Nat) (x : Stream) : Stream := if viaLine then { x with lastTrig := (if r = 2 then x.lastTrig.1 else allOnes64, r) } else x
  let older (w : Window) : Window := if viaLine then { w with viaLine := false } else w
  if x.windows.any isOpen then
    (1, d.setStm s (setRes 1 { x with windows := x.windows.map (fun w =>
      if isOpen w then { w with t1 := Nat.max w.t1 t1, viaLine := w.viaLine || viaLine } else older w) }))
  else if d.sealCount ≥ 4096 then
    let d := (d.setStm s (setRes 2 x)).setF STR_GSTAT.TRIG_REJ 1
    (2, (d.postRaw { code := 0x0A5, detail := strDetail s [] } (d.f FIX_NUM.NUMBER)).notify s 4 true true)
  else
    let h := if d.inForce s STR_CTL.PRE = 0 then x.newestFrame
      else (x.bounds.filter (fun b => b.1 ≤ t0)).foldl (fun acc b => if acc.1 ≤ b.1 then b else acc) (0, 0) |>.2
    let fl := x.floor
    let w : Window := ⟨t0, t1, Nat.max fl h, none, decide (h < fl), none, viaLine⟩
    let d := d.setStm s (setRes 0 { x with windows := x.windows.map older ++ [w] })
    (0, d.setF STR_GSTAT.WINDOWS d.windowCount)

/-! ### Snapshot registers (Tables 17.2 to 17.4) -/

/-- Cycles an engine has counted since its reset, at 1.2 GHz. -/
def Dev.engCycles (d : Dev) (e : Nat) : Nat := (d.time - (d.eng e).resetAt) * 1200000000 / 2147483648

/-- A segment number, zero for none. -/
def segNo (o : Option Nat) : Nat := (o.getD 0) % 8192

/-- The sectors that stand at the cells of a Point to be programmed, in the order in which they reached them (R54). -/
def Dev.cellProgs (d : Dev) (n : Nat) : List Nat :=
  (d.imgs.filter (!·.merging)).flatMap (fun x => x.todo.filter (fun p => psaPoint p == n))

/-- The cells of a Point within a sector program: the first 12 that have one (R57). -/
def Dev.progCells (d : Dev) (n : Nat) : List Nat := (((d.cellProgs n).map psaCell).eraseDups).take 12

/-- The cells of a Point within a slice clear: 16 of a clearing die at a time (R57, R90), which half of them is a free value.
(DESIGN CHOICE, log entry 136.) -/
def Dev.clearCells (d : Dev) (n : Nat) : Nat :=
  if d.countListed n (fun _ x => x.state == 1) = 0 then 0
  else if (Config.snapShare (512 * d.time + 16 * n + 4)).getLsbD 0 then 0xFFFF else 0xFFFF0000

/-- Cells of a Point with a program or clear under way, paused ones included (R57). -/
def Dev.cellsBusy (d : Dev) (n : Nat) : Nat := (d.progCells n).foldl (fun m c => m ||| 2 ^ c) (d.clearCells n)

/-- A host or stream read waits at a cell, so that a program or clear there is paused (R54, R56). -/
def Dev.readWaits (d : Dev) (n c : Nat) : Bool := d.fe.any (fun r => psaPoint r.1 == n && psaCell r.1 == c)

/-- The reads that the front end has admitted to a cell: the first two that wait for it (R58). -/
def Dev.admitted (d : Dev) (n c : Nat) : List Req :=
  ((d.fe.filter (fun r => psaPoint r.1 == n && psaCell r.1 == c)).map (·.2)).take 2

/-- Cells of a Point whose program or clear is paused for reads (R56). -/
def Dev.cellsPaused (d : Dev) (n : Nat) : Nat :=
  Nat.land (d.cellsBusy n) ((List.range 32).foldl (fun m c => if d.readWaits n c then m ||| 2 ^ c else m) 0)

/-- The cell starts a sub-pulse of the program of a sector now (R54 to R57): no read waits at the cell, the sector is the first that
reached it, and its die is within the limit of 12. -/
def Dev.cellStarts (d : Dev) (psa : Nat) : Bool :=
  let n := psaPoint psa
  !d.readWaits n (psaCell psa) && (d.progCells n).contains (psaCell psa) &&
    (d.cellProgs n).find? (fun p => psaCell p == psaCell psa) == some psa

/-- Engine state code of Table 17.3. -/
def EState.code : EState → Nat
  | .running => 0 | .asleep => 1 | .halted => 2 | .retired => 3

/-- PNT_STAT[n] as it reads: ENG_FAULT and ENG_RETIRED show the engine's state. -/
def Dev.pntStat (d : Dev) (n : Nat) : Nat :=
  setBits (setBits (d.reg (0x3040 + 4 * n)) 8 1 (b2n ((d.eng n).state == .halted))) 9 1 (b2n ((d.eng n).state == .retired))

/-- Snapshot register `j` of Point `n` (Table 17.2); a dead Point latches zero for values taken from its die (R607).
(DESIGN CHOICE, log entry 136.) -/
def Dev.snapPoint (d : Dev) (n j : Nat) : Nat :=
  let p := d.pt n
  let e := d.eng n
  let die (v : Nat) : Nat := if d.dead n then 0 else v
  match j with
  | 0 => d.pntStat n
  | 1 => (d.binn.countP (fun b => homeOf (64 * b.line) = n)) % 2 ^ 32 + d.f (OVL_OCC.COUNT n) * 2 ^ 32
  | 2 => (List.range 4).foldr (fun k acc => acc + Nat.min (d.queue k n).count 65535 * 2 ^ (16 * k)) 0
  | 3 => (List.range 4).foldr (fun k acc => acc + segNo (d.openSeg k n) * 2 ^ (16 * k)) 0
  | 4 => die (d.cellsBusy n + d.cellsPaused n * 2 ^ 32)
  | 5 => (List.range 7).foldr (fun k acc => acc + Nat.min (p.arb.used.getD k 0) 255 * 2 ^ (8 * k)) 0
  | 6 => die p.lastCmd
  | 7 => die (d.reg (0x3080 + 4 * n) + d.f (PNT_LINKERR.RESENDS n) * 2 ^ 32)
  | 8 => die (ofSigned 16 ((d.thm.media.getD n {}).value) + bits (d.eclk n) 16 48 * 2 ^ 16)
  | 9 => e.pc.toNat
  | 10 => e.causeCode % 256 + (e.causeDetail % 2 ^ 32) * 2 ^ 8 + (e.priv + 2 * e.prev) * 2 ^ 40
  | 11 => d.engCycles n % 2 ^ 64
  | 12 => die (p.lastUnc + p.lastBch * 2 ^ 32)
  | 13 => d.reg (0x3100 + 4 * n)
  | 14 => e.tickets.foldl (fun m t => m ||| 2 ^ t.num) 0 + Nat.min p.tasks.length 65535 * 2 ^ 32
  | 15 => (d.hm n).newest
  | _ => 0

/-- Snapshot register `j` of quadrant `q` (Table 17.3). Crossbar occupancy and transfer parity errors are free values: no command reports
them. (DESIGN CHOICE, log entry 136.) -/
def Dev.snapQuad (d : Dev) (q j : Nat) : Nat :=
  let x := d.quad q
  let mine (line : Nat) : Bool := decide (d.serving (homeOf (64 * line)) / 4 = q)
  match j with
  | 0 => (Config.snapShare (512 * d.time + 256 + 8 * q)).toNat % 2 ^ 48
  | 1 => x.fwd.length % 128
  | 2 => d.pilot.countP (fun l => mine l.1 && l.2.dirty) % 65536 + (d.pilot.countP (fun l => mine l.1)) % 65536 * 65536
  | 3 => (List.range 4).foldr (fun i acc => acc + Nat.min (d.pt (4 * q + i)).tasks.length 65535 * 2 ^ (16 * i)) 0
  | 4 => d.hold.countP (fun r => r.quad = q) % 8192
  | 5 => x.hashed % 2 ^ 48
  | 6 => x.checks % 2 ^ 32 + x.checkFails % 2 ^ 32 * 2 ^ 32
  | 7 => (List.range 4).foldr (fun i acc => acc + (d.eng (4 * q + i)).state.code * 2 ^ (4 * i)) 0 + b2n d.mLockstep * 65536
  | _ => 0

/-- Hottest read value of a list of sensors, in 0.01 degree, with its index. -/
def hottest (l : List Sensor) : Int × Nat :=
  (l.zipIdx.filter (fun x => x.1.read && x.1.excl == 0)).foldl (fun m x => if m.1 < x.1.value then (x.1.value, x.2) else m) (-30000, 0)

/-- The usable media die sensors with their numbers: neither excluded nor of a dead die (R631, R633). -/
def Dev.mediaUse (d : Dev) : List (Sensor × Nat) := d.thm.media.zipIdx.filter (fun x => x.1.excl == 0 && d.f (PNT_LINK.STATE x.2) != 4)

/-- The serving Point of a home is DYING. -/
def Dev.homeDying (d : Dev) (h : Nat) : Bool := d.f (PNT_STAT.STATE (d.serving h)) == 1

/-- Free entries of a home's Binnacle slice: of its 8,192 (R135), those neither in use nor reserved for a held write of the home (R71).
(DEDUCED, log entry 188.) -/
def Dev.sliceFree (d : Dev) (h : Nat) : Nat :=
  8192 - d.binn.countP (fun b => homeOf (64 * b.line) = h) - d.hold.countP (fun r => r.wr.isSome && homeOf r.a = h)

/-- Write credits are withheld: by R138, R231, R240, R637 or R640. -/
def Dev.writesWithheld (d : Dev) : Bool :=
  d.homes.any (fun h => h.withheld || (!d.mHoldup && decide (h.accepted.length ≥ 6144))) || decide (d.f MAP_LOGS.SINCE_DONE ≥ 98304) ||
    d.on THM_STAT.COLDSTOP || d.on THM_STAT.CRIT

/-- The credits of all requests are withheld: a hold buffer of 4,096 places has fewer than 128 free, or a home whose requests are held has no
entry to reserve beyond the margin of R138 (R71); a Sanitize; a flush or a shut-down (R18, R322, R523, R568). -/
def Dev.allWithheld (d : Dev) : Bool :=
  d.sanitize.isSome || (List.range 4).any (fun q => decide (d.hold.countP (fun r => r.quad = q) > 4096 - 128)) ||
    (List.range 16).any (fun h => d.homeDying h && decide (d.sliceFree h ≤ 128)) ||
    d.phase == .flush || d.phase == .commit || d.phase == .shutdown || d.phase == .resetFlush

/-- Which credits are withheld (Table 17.4, register 8): of each port those of writes and those of all requests. (DEDUCED, log entry 188.) -/
def Dev.withheld (d : Dev) : Nat := b2n d.writesWithheld * 5 + b2n d.allWithheld * 10

/-- PWR_STAT.STAGE (Table 14.12); zero in Dormant and in the option-load phase, to which the table gives no stage. -/
def Dev.stage (d : Dev) : Nat :=
  match d.phase with
  | .watchOff | .dormant | .optLoad => 0
  | .powerUp => 1
  | .clocks | .selfTest | .mediaInit | .recovery | .chart | .linkTrain => 2
  | .becalmed | .active | .dozeEntry | .doze => if d.pwr.watch then 5 else 3
  | .shutdown | .resetFlush => 4
  | .flush => 6
  | .commit => 7
  | .railsDown => 8

/-- PWR_STAT as it reads. -/
def Dev.pwrStat (d : Dev) : Nat := setBits (d.reg 0x208) 28 4 d.stage

/-- Chip snapshot register `j` (Table 17.4). -/
def Dev.snapChip (d : Dev) (j : Nat) : Nat :=
  match j with
  | 0 => d.nextCsn
  | 1 => d.time
  | 2 => d.reg 0x100 % 65536 + d.reg 0x104 % 65536 * 65536 + d.reg 0x108 % 256 * 2 ^ 32
  | 3 => d.reg 0x4008
  | 4 => d.reg 0x4010
  | 5 => d.pwrStat + d.f PWR_BANK.ENERGY * 2 ^ 32
  | 6 => d.reg 0x238
  | 7 => d.reg 0x10 + d.reg 0x14 * 2 ^ 32
  | 8 => d.withheld
  | 9 => d.reg 0x3000
  | 10 => ofSigned 16 (hottest d.thm.media).1 + (hottest d.thm.media).2 * 65536 + ofSigned 16 (hottest d.thm.ctrl).1 * 2 ^ 32
  | 11 => d.reg 0xC00 + d.reg 0xC04 % 65536 * 2 ^ 32
  | 12 => d.reg 0x3E08
  | 13 => d.reg 0x3E10
  | 14 => setBits (d.reg 0x2008) 32 16 (bufBytes d.deck.buf / 16)
  | 15 => (List.range 3).foldr (fun r acc => acc + d.f (ORD_STAT.RUNNING r) * 2 ^ (8 * r)) 0
  | 16 => d.f DEV_ALERT.CAUSE + d.f (DEV_INTSTAT.PEND 0) * 2 ^ 8 + d.f (DEV_INTSTAT.PEND 1) * 2 ^ 16 + d.f (DEV_INTSTAT.PEND 2) * 2 ^ 24
  | 17 => d.reg 0x4600
  | 18 => d.reg 0x4408
  | 19 => d.nextCsn - d.deck.latchCsn
  | 20 => d.opSec
  | 21 => d.cycle
  | _ => 0

/-- The 320 snapshot registers in the index space of DECK_SEL (R607). -/
def Dev.snapshots (d : Dev) : List Nat :=
  (List.range 256).map (fun i => d.snapPoint (i / 16) (i % 16)) ++
  (List.range 32).map (fun i => d.snapQuad (i / 8) (i % 8)) ++
  (List.range 32).map d.snapChip

/-- The snapshot indices that DECK_SEL names, by position; 320 and above name none. -/
def Dev.deckSel (d : Dev) : List Nat :=
  (((List.range 32).map (fun j => [d.f (DECK_SEL.SNAP_LO j), d.f (DECK_SEL.SNAP_HI j)])).flatten).filter (· < 320)

/-! ### Fix (R601 to R607) -/

/-- The chip is powered: its rails are up and no power-down has begun. -/
def Dev.powered (d : Dev) : Bool :=
  match d.phase with
  | .watchOff | .dormant | .optLoad | .powerUp | .railsDown | .commit | .flush | .resetFlush => false
  | _ => true

/-- Whether Fix sources act: not from Rails down until the end of the next option-load phase (R605). -/
def Dev.fixOn (d : Dev) : Bool :=
  match d.phase with
  | .watchOff | .dormant | .optLoad | .railsDown => false
  | _ => true

/-- The fast clocks run: no QUIET gating and no Doze (R602). -/
def Dev.clocksOn (d : Dev) : Bool :=
  match d.phase with
  | .doze => false
  | _ => !d.wch.gated

/-- Whether a source arrives within the hold-off of the newest latch (R604). -/
def Dev.inHoldoff (d : Dev) : Bool :=
  match d.deck.latchAt with
  | some t => decide ((d.time - t) * 1000000 < Nat.max (d.f FIX_CTL.HOLDOFF) 1 * 2147483648)
  | none => false

/-- Raise a Fix from a source bit of Table 17.1: latch, with the fast clocks stopped on the next tick edge, or join the newest Fix within its
hold-off (R602 to R606). (DEDUCED, log entry 196.) -/
def Dev.fix (d : Dev) (src : Nat) : Dev :=
  if !d.fixOn then d
  else if d.inHoldoff then d.orF FIX_SRC.SOURCES (2 ^ src)
  else
    let num := if d.f FIX_NUM.NUMBER = 0xFFFFFFFF then 1 else d.f FIX_NUM.NUMBER + 1
    let t := if d.clocksOn then d.time else (d.time / 65536 + 1) * 65536
    let snaps := ({ d with time := t } : Dev).snapshots
    let d := (((d.setF FIX_NUM.NUMBER num).setF FIX_TIME.TIME t).setF FIX_CSN.CSN d.csn).setF FIX_SRC.SOURCES (2 ^ src)
    let d := { d with deck := { d.deck with latchAt := some t, latchCsn := d.nextCsn, snaps := snaps } }
    let d := d.tally 0x8A 0 1
    let d := if d.on FIX_CTL.DRIVE && src != 0 && !d.on WCH_PADHOLD.HELD then d.send .fixPulse else d
    let d := d.raiseAll 5
    let d := (d.str.ctx.map (·.1)).foldl (fun d s =>
      if d.on (STR_CTL.EN s) && d.inForce s STR_CTL.FIXTRIG = 1 then (d.trigger s t false).2 else d) d
    if (d.f DECK_CFG.SRC).testBit src then
      d.deckPush (.fix num (2 ^ src) d.csn d.opSec d.cycle t (d.deckSel.map (fun i => snaps.getD i 0)))
    else d

/-! ### The chip watchdog (Table 15.5) -/

/-- The chip watchdog is paused outside Active and during maintenance wakes: what it has run is kept. (DEDUCED, log entry 91.) -/
def Dev.wdogPause (d : Dev) : Dev :=
  if d.wch.wdogHeld.isSome then d else { d with wch := { d.wch with wdogHeld := some (d.time - d.wch.wdogAt) } }

/-- The chip watchdog runs on. -/
def Dev.wdogRun (d : Dev) : Dev :=
  match d.wch.wdogHeld with
  | some n => { d with wch := { d.wch with wdogHeld := none, wdogAt := d.time - n } }
  | none => d

/-! ### Posting events (R313) -/

/-- Codes of the escalation ladder (Table 2.5). -/
def escCodes : List Nat := [0x011, 0x012, 0x013, 0x014, 0x021, 0x022, 0x023, 0x024, 0x031, 0x032, 0x033, 0x041, 0x042]

/-- Codes that report a detection by a mechanism of class D in Table 16.3 (SAF_STAT.DETECTS). (DEDUCED, log entry 29.) -/
def dangerCodes : List Nat :=
  [0x011, 0x023, 0x033, 0x081, 0x082, 0x083, 0x084, 0x088, 0x0A2, 0x0A8, 0x0E4, 0x102, 0x103, 0x104, 0x105, 0x106]

/-- Records can be posted: not in Flush, Commit, Rails down and Dormant (R541), nor before the rails of a start are up.
(DEDUCED, log entry 69.) -/
def Dev.canPost (d : Dev) : Bool :=
  match d.phase with
  | .watchOff | .dormant | .optLoad | .flush | .resetFlush | .commit | .railsDown => false
  | .powerUp => d.wch.startKind == 2
  | _ => true

/-- Post an event record: an escalation code raises a Fix of source 4 and a safety event one of source 5 (Table 17.1), and
the record carries the number of that Fix (R603). An event that cannot be posted is kept for the next start (R541) with the
current CSN at its detection (R667). (DEDUCED, log entry 30; DEDUCED, log entry 69.) -/
def Dev.post (d : Dev) (e : Ev) (alert : Option Nat := none) : Dev :=
  if !d.canPost then
    let d := match alert with | some b => d.alert b | none => d
    { d with pwr := { d.pwr with deferred := d.pwr.deferred ++ [{ e with
        csn := d.csn, cycle := d.cycle, sev := Nat.max e.sev (b2n alert.isSome), flags := e.flags ||| b2n alert.isSome }] } }
  else
    let d := if dangerCodes.contains e.code then d.cnt SAF_STAT.DETECTS else d
    let d := if escCodes.contains e.code then d.fix 4 else if 0x100 ≤ e.code && e.code ≤ 0x107 then d.fix 5 else d
    d.postRaw e (d.f FIX_NUM.NUMBER) alert

/-- Post an event that carries only its code. -/
def Dev.post0 (d : Dev) (code : Nat) : Dev := d.post { code := code }

/-! ### Hove-to (R583 to R586) -/

/-- The homes whose serving Point lies in quadrant `q` (R583). -/
def Dev.homesOfQuad (d : Dev) (q : Nat) : Nat :=
  (List.range 16).foldl (fun m h => if d.serving h / 4 = q then m ||| 2 ^ h else m) 0

/-- Whether a home lies in the range affected by Hove-to. -/
def Dev.hove (d : Dev) (h : Nat) : Bool := (d.f SAF_SCOPE.HOMES).testBit h

/-- The engine that runs the recovery program in Hove-to (R586): that of the lowest live Point with an unaffected home. -/
def Dev.recoveryEngine (d : Dev) : Option Nat := (List.range 16).find? (fun n => d.live n && !d.hove n)

/-- Every engine but the recovery engine halts, and the recovery program is to complete one checkpoint (R586). `was` is the engine that ran
it so far: where another takes over, it leaves its halt. -/
def Dev.haltForHove (d : Dev) (was : Option Nat) : Dev :=
  let keep := d.recoveryEngine
  let mine (e : Nat) (x : Engine) : Engine :=
    if was.isSome && was != some e && x.state == .halted && !x.resetting then { x with state := .running } else x
  { d with
    ckptReq := d.ckptReq || keep.isSome
    engines := d.engines.zipIdx.map (fun x =>
      if some x.2 = keep then mine x.2 x.1 else if x.1.state == .retired then x.1 else { x.1 with state := .halted }) }

/-- Severity of a record whose occurrence brings Hove-to to a mask of homes: fatal where it enters or widens it (R313). -/
def Dev.hoveSev (d : Dev) (homes : Nat) : Nat :=
  if d.on SAF_STAT.HOVE && Nat.land homes (d.f SAF_SCOPE.HOMES) == homes then 0 else 3

/-- What the end of SURVEY does (R504): injected faults are withdrawn and the mrefs override ends. -/
def Dev.surveyEnds (d : Dev) : Dev :=
  { d with saf := { d.saf with inj := [] }, engines := d.engines.map (fun x => { x with mrefs := 0x3E76AA }) }

/-- Enter or widen Hove-to for a cause and a mask of homes (R583 to R586): scope, first cause, event 0x100, ALERT_N class
5, vector 7, SAFE_N low; SURVEY is withdrawn (R587). (DEDUCED, log entry 20.) -/
def Dev.hoveCore (d : Dev) (code homes : Nat) : Dev :=
  let old := d.f SAF_SCOPE.HOMES
  let add := homes - Nat.land homes old
  let first := !d.on SAF_STAT.HOVE
  let was := if first then none else d.recoveryEngine
  let sev := d.hoveSev homes
  let d := if first then ((d.setF SAF_FIRST.CSN d.csn).setF SAF_FTIME.TIME (d.time / 4096)).setF SAF_FTIME.CODE code else d
  let d := ((d.setF SAF_STAT.HOVE 1).setF SAF_STAT.SAFEN 1).setF SAF_SCOPE.HOMES (old ||| homes)
  let d := { d with saf := { d.saf with safeN := false } }
  let w := (d.setF MODE_EFF.SURVEY 0).setF MODE_WHY.SURVEY_HOVE 1
  let d := if d.mSurvey then w.surveyEnds else d
  let d := d.haltForHove was
  let d := d.post { code := 0x100, level := 3, sev := sev, detail := leBytes 2 code ++ leBytes 2 (d.f SAF_SCOPE.HOMES) ++ leBytes 2 add } (some 5)
  d.raiseAll 7

/-! ### Poison and loss (R38 to R41, R218 to R220) -/

/-- Line mask of a logical page in the poison list. -/
def Dev.poisonMask (d : Dev) (pg : Nat) : Nat := (assocGet pg d.poison).getD 0

/-- Whether a line's poison-list bit is set. -/
def Dev.poisoned (d : Dev) (line : Nat) : Bool := (d.poisonMask (line / 64)).testBit (line % 64)

/-- Entries of a home's poison bank. -/
def Dev.poisonCount (d : Dev) (h : Nat) : Nat := d.poison.countP (fun x => homeOfPage x.1 = h)

/-- Set a page's line mask; an entry whose mask is zero is freed (R219). -/
def Dev.setPoisonMask (d : Dev) (pg m : Nat) : Dev :=
  let d := { d with poison := if m = 0 then assocDel pg d.poison else assocSet pg m d.poison }
  d.setF (MAP_CACHE.POISON (homeOfPage pg)) (d.poisonCount (homeOfPage pg))

/-- The record of R40: the first time in a power cycle that a line is poisoned, lost or returned as poison. -/
def Dev.announce (d : Dev) (line : Nat) : Dev :=
  if d.announced.contains line then d
  else { d.logBoth 2 (.media line d.hostTime) with announced := line :: d.announced }

/-- Set a line's poison bit with its POISON record (R219); the Bool says that the bank had no free entry (R220). A line whose bit is
set gets a further record where a write stands in the Binnacle that the poison supersedes (R309). -/
def Dev.poisonSet (d : Dev) (line src : Nat) : Bool × Dev :=
  let pg := line / 64
  let h := homeOfPage pg
  if d.poisoned line then
    let d := { d with poisonSrc := assocSet line src d.poisonSrc }
    (false, (if d.binn.any (fun b => b.line = line) then d.record (d.serving h) (.poison pg (d.poisonMask pg) [line]) else d).announce line)
  else if (assocGet pg d.poison).isNone && decide (d.poisonCount h ≥ 4096) then (true, d)
  else
    let m := d.poisonMask pg ||| 2 ^ (line % 64)
    let d := { d.setPoisonMask pg m with poisonSrc := assocSet line src d.poisonSrc }
    (false, (d.record (d.serving h) (.poison pg m [line])).announce line)

/-- Clear a line's poison bit with its POISON record, when the image of an event of R41 is installed (R219). -/
def Dev.poisonClear (d : Dev) (line : Nat) : Dev :=
  if d.poisoned line then
    let pg := line / 64
    let m := Nat.xor (d.poisonMask pg) (2 ^ (line % 64))
    let d := { d.setPoisonMask pg m with poisonSrc := assocDel line d.poisonSrc }
    d.record (d.serving (homeOfPage pg)) (.poison pg m [])
  else d

/-- First device address of the aperture of stream `s` (R353). -/
def apBase (s : Nat) : Nat := 0x6000000000 + s * 0x100000

/-- Device line number of the aperture line of a slot's line `i` (its producer page is 1 + q mod 127). -/
def apLine (s q i : Nat) : Nat := (apBase s + (1 + q % 127) * 4096 + 64 * i) / 64

/-- The line lies in an aperture: the line of its stream has no address in the poison list until its page is spilled. -/
def apertureLine (line : Nat) : Bool := decide (0x6000000000 ≤ 64 * line) && decide (64 * line < 0x6100000000)

/-- The nominal home of a device line: that of the stream for a line of an aperture (R50, R52). -/
def homeOfLine (line : Nat) : Nat :=
  if apertureLine line then homeOfStream ((64 * line - 0x6000000000) / 0x100000) else homeOf (64 * line)

/-- A write in a range affected by Hove-to is lost (R584): record 0x107 for the first in each line and power cycle, beside the General
Media Event record of R40. (DEDUCED, log entry 20.) -/
def Dev.loseHove (d : Dev) (line mask : Nat) : Dev :=
  let d := if apertureLine line then d.announce line else (d.poisonSet line 2).2
  if d.saf.hoveLines.contains line then d
  else { d.post { code := 0x107, addr := 64 * line, sev := 2, detail := leBytes 8 mask } with
         saf := { d.saf with hoveLines := line :: d.saf.hoveLines } }

/-- A partial write to a poisoned line completes on the link and leaves it poisoned, with event 0x08B for each such write (R42, R671). -/
def Dev.partialPoison (d : Dev) (line : Nat) (mask : BitVec 64) : Dev :=
  if d.poisoned line && !d.binn.any (fun b => b.line = line && b.whole) && mask != BitVec.ofNat 64 (2 ^ 64 - 1) then
    d.post { code := 0x08B, addr := 64 * line, detail := leBytes 8 mask.toNat }
  else d

/-- A read of a line affected by Hove-to returns poison (R38, R40): the line enters the poison list, and a line of an aperture gets its
record only. -/
def Dev.hovePoison (d : Dev) (line : Nat) : Dev :=
  let d := d.tally 0x88 0 1
  if apertureLine line || d.poisoned line then d.announce line else (d.poisonSet line 2).2

/-- Requests of affected homes that are not yet served (R584): held and waiting reads get poison, held and uncompleted writes complete
and are lost. -/
def Dev.settleHove (d : Dev) : Dev :=
  let mine (line : Nat) : Bool := d.hove (homeOfLine line)
  let held := (d.hold ++ d.fe.map (·.2)).filter (fun r => mine (r.a / 64))
  let logs := (d.homes.zipIdx.filter (fun x => d.hove x.2)).map (·.1)
  let jobs := d.lljobs.filter (fun j => d.hove j.home)
  let part := d.str.ctx.flatMap (fun x => if d.hove (homeOfStream x.1) then x.2.tail.filter (fun t => !t.2.acks.isEmpty) |>.map (x.1, ·) else [])
  let lost := (logs.flatMap (·.llog) ++ jobs.flatMap (·.lines)).map (fun l => (l.line, l.mask.toNat)) ++
    part.map (fun x => (apLine x.1 (x.2.1 / 64) (x.2.1 % 64), x.2.2.mask.toNat))
  let acks := logs.flatMap (·.llAcks) ++ jobs.flatMap (·.acks) ++ part.flatMap (·.2.2.acks)
  let gone (line : Nat) : Bool := lost.any (·.1 = line)
  let d := { d with
    hold := d.hold.filter (fun r => !mine (r.a / 64)), fe := d.fe.filter (fun r => !mine (r.2.a / 64))
    binn := d.binn.filter (fun b => !gone b.line), lljobs := d.lljobs.filter (fun j => !jobs.contains j)
    homes := d.homes.zipIdx.map (fun (x : Home × Nat) => if d.hove x.2 then { x.1 with llog := [], llAcks := [] } else x.1)
    str := { d.str with ctx := d.str.ctx.map (fun (x : Nat × Stream) =>
      if d.hove (homeOfStream x.1) then (x.1, { x.2 with tail := x.2.tail.map (fun (t : Nat × TailLine) => (t.1, { t.2 with acks := [] })) }) else x) }
    pilot := d.pilot.map (fun (x : Nat × PilotLine) => if gone x.1 then (x.1, { x.2 with dirty := false }) else x) }
  let d := held.foldl (fun d r =>
    match r.wr with
    | none => (if r.port < 2 then d.send (.rdPoison r.port r.tag) else d).hovePoison (r.a / 64)
    | some (_, m) => (((if r.port < 2 then d.send (.wrDone r.port r.tag) else d).partialPoison (r.a / 64) m).loseHove (r.a / 64) m.toNat)) d
  let d := acks.foldl (fun d x => if x.1 < 2 then d.send (.wrDone x.1 x.2.1) else d) d
  lost.foldl (fun d l => d.loseHove l.1 l.2) d

/-- Enter or widen Hove-to and settle the requests of the affected homes. -/
def Dev.hoveTo (d : Dev) (code homes : Nat) : Dev := (d.hoveCore code homes).settleHove

/-- A record whose occurrence is a cause of Hove-to, and Hove-to itself. -/
def Dev.hovePost (d : Dev) (e : Ev) (homes : Nat) : Dev :=
  (d.post { e with sev := Nat.max e.sev (d.hoveSev homes) }).hoveTo e.code homes

/-- Poison or lose a line (R219): where its home's bank is full, event 0x075 and Hove-to for that home (R220). -/
def Dev.markPoison (d : Dev) (line src : Nat) : Dev :=
  match d.poisonSet line src with
  | (false, d') => d'
  | (true, d') =>
    let h := homeOf (64 * line)
    if d'.hove h then d' else d'.hovePost { code := 0x075 } (2 ^ h)

/-- Poison is returned for a line (R40), counted in the Tally. -/
def Dev.poisonOut (d : Dev) (line : Nat) : Dev :=
  let d := d.tally 0x88 0 1
  if d.poisoned line then d.announce line else if d.hove (homeOf (64 * line)) then (d.poisonSet line 2).2 else d.markPoison line 2

/-- A security alarm (R262): event, ALERT_N, SCR_STAT.ALARM and ALARMS. -/
def Dev.secAlarm (d : Dev) (e : Ev) : Dev := ((d.setF SCR_STAT.ALARM 1).cnt SCR_STAT.ALARMS).post e (some 3)

end Sys2Proof.Machine
end

