-- ==== Sys2Proof/Machine/Map.lean ====
section
/-! DEFINITION. The overlay index, the map cache with its walker and directory, occupancy and capacity. -/

namespace Sys2Proof.Machine

/-! ### Overlay index (R147 to R152) -/

/-- The set of a logical sector in its bank (R147). -/
def ovlSet (l : Nat) : Nat := Nat.xor (l % 16384) (l / 16384 % 16384)

/-- Home of a logical sector. -/
def homeOfSec (l : Nat) : Nat := homeOfPage (l / 16)

/-- The valid entries of the set of `l` in its bank. -/
def Dev.ovlWays (d : Dev) (l : Nat) : List (Nat × Ovl) :=
  d.overlay.filter (fun x => homeOfSec x.1 = homeOfSec l && ovlSet x.1 = ovlSet l)

/-- The valid entries of a bank. -/
def Dev.ovlCount (d : Dev) (h : Nat) : Nat := d.overlay.countP (fun x => homeOfSec x.1 = h)

/-- The overlay entries of a page. -/
def Dev.ovlPage (d : Dev) (pg : Nat) : List (Nat × Ovl) := d.overlay.filter (fun x => x.1 / 16 = pg)

/-- Raise PNT_ARB.FOLD on a Point, from SCRUB and then STREAM; by how much is a free value, within the bounds of R60 (R174).
(DESIGN CHOICE, log entry 24.) -/
def Dev.raiseFold (d : Dev) (n : Nat) : Dev :=
  let sc := d.f (PNT_ARB.SCRUB n)
  let st := d.f (PNT_ARB.STREAM n)
  let avail := (sc - 1) + (st - 1)
  if avail = 0 then d
  else
    let (v, d') := d.draw
    let k := 1 + v.toNat % avail
    let a := Nat.min k (sc - 1)
    let b := Nat.min (k - a) (st - 1)
    let d' := d'.modPt n (fun p => { p with arbSaved := some (d.reg (0x3180 + 8 * n)) })
    ((d'.setF (PNT_ARB.SCRUB n) (sc - a)).setF (PNT_ARB.STREAM n) (st - b)).setF (PNT_ARB.FOLD n) (d.f (PNT_ARB.FOLD n) + a + b)

/-- The weights of a Point as they stood before they were raised return (R174). (DESIGN CHOICE, log entry 24.) -/
def Dev.lowerFold (d : Dev) (n : Nat) : Dev :=
  match (d.pt n).arbSaved with
  | some v => (d.setReg (0x3180 + 8 * n) v).modPt n (fun p => { p with arbSaved := none })
  | none => d

/-- A bank is at OVL_MARK.HIGH: its fold tasks go ahead of others (R174). -/
def Dev.bankHigh (d : Dev) (h : Nat) : Bool := decide (16 * d.f OVL_MARK.HIGH ≤ d.ovlCount h)

/-- The fold weight of a bank's Point is raised while the bank holds OVL_MARK.HIGH entries, and until it falls below OVL_MARK.LOW (R174). -/
def Dev.foldMarks (d : Dev) (h : Nat) : Dev :=
  let n := d.serving h
  let rs := (d.pt n).raisers
  if d.bankHigh h && !rs.contains h then
    (let e := d.modPt n (fun p => { p with raisers := p.raisers ++ [h] })
     if rs.isEmpty then e.raiseFold n else e)
  else if decide (d.ovlCount h < 16 * d.f OVL_MARK.LOW) && rs.contains h then
    (let e := d.modPt n (fun p => { p with raisers := p.raisers.erase h })
     if rs.length = 1 then e.lowerFold n else e)
  else d

/-- Bring OVL_OCC[h] up to date, and the weights that follow it. -/
def Dev.ovlReg (d : Dev) (h : Nat) : Dev :=
  let n := d.ovlCount h
  ((d.setF (OVL_OCC.COUNT h) n).setF (OVL_OCC.PEAK h) (Nat.max n (d.f (OVL_OCC.PEAK h)))).foldMarks h

/-- The age of an entry in modulo-1,024 order from the current install count: the oldest has the greatest (Table 5.2). -/
def Dev.ovlAge (d : Dev) (h : Nat) (e : Ovl) : Nat := ((d.hm h).installs / 65536 + 1024 - e.epoch) % 1024

/-- The oldest of a list of overlay entries. -/
def Dev.ovlOldest (d : Dev) (h : Nat) (l : List (Nat × Ovl)) : Option (Nat × Ovl) :=
  l.foldl (fun acc x => match acc with | none => some x | some y => if d.ovlAge h y.2 < d.ovlAge h x.2 then some x else acc) none

/-! ### Map slots, directory, cache (R216 to R228) -/

/-- The map slot of copy `c` of a page (R216). -/
def Dev.mapSlot (d : Dev) (pg c : Nat) : Nat := if d.mTwin then 2 * (pg / 16 % 2 ^ 23) + c else pg / 16 % 2 ^ 23

/-- The set of a slot in its map-cache bank (R224). -/
def mapSet (s : Nat) : Nat := Nat.xor (s % 4096) (s / 4096 % 2048)

/-- A map entry that locates a page slot: MAPPED and PHYS, with the map-cache tag (Table 7.1). -/
def mapWord (page s : Nat) : Nat := 2 ^ 63 + page % 2 ^ 27 * 2 ^ 36 + s / 4096 % 2048 * 2 ^ 25
/-- MAPPED. -/
def mapMapped (e : Nat) : Bool := e.testBit 63
/-- PHYS: the physical page address of the slot. -/
def mapPhys (e : Nat) : Nat := bits e 36 27

/-- The way that holds a slot. -/
def Dev.mapWay (d : Dev) (h s : Nat) : Option MapWay := d.mapc.find? (fun w => w.home = h && w.slot = s)

/-- Bring MAP_CACHE[h].DIRTY up to date. -/
def Dev.mapReg (d : Dev) (h : Nat) : Dev := d.setF (MAP_CACHE.DIRTY h) (d.mapc.countP (fun w => w.home = h && w.dirty))

/-- Place an entry in the map cache with its tag (Table 7.1): replacing the slot's own way, else the least recently used clean way of a full set
(R224). A set without a clean way takes no fill. -/
def Dev.mapPut (d : Dev) (h s e : Nat) (dirty : Bool) : Dev :=
  let st := (d.hm h).stamp + 1
  let d := d.modHm h (fun x => { x with stamp := st })
  let w : MapWay := ⟨h, s, setBits e 25 11 (s / 4096 % 2048), dirty, st⟩
  let rest := d.mapc.filter (fun x => !(x.home = h && x.slot = s))
  let set := rest.filter (fun x => x.home = h && mapSet x.slot = mapSet s)
  if set.length < 16 then { d with mapc := rest ++ [w] }.mapReg h
  else
    match (set.filter (!·.dirty)).foldl (fun (acc : Option MapWay) x =>
        match acc with | none => some x | some y => if x.stamp < y.stamp then some x else acc) none with
    | some v => { d with mapc := rest.filter (· != v) ++ [w] }.mapReg h
    | none => d

/-- Dirty ways of the set of a slot. -/
def Dev.mapDirtyWays (d : Dev) (h s : Nat) : Nat :=
  d.mapc.countP (fun x => x.home = h && mapSet x.slot = mapSet s && x.dirty)

/-- Whether an install of a slot must wait for clean ways (R225). -/
def Dev.mapWaits (d : Dev) (h s : Nat) : Bool :=
  match d.mapWay h s with
  | some w => !w.dirty && decide (d.mapDirtyWays h s ≥ d.f MAP_CTL.DIRTY_MAX)
  | none => decide (d.mapDirtyWays h s ≥ d.f MAP_CTL.DIRTY_MAX)

/-- The directory entry of a slot's map page (R222). -/
def Dev.dirOf (d : Dev) (h s : Nat) : Option (Nat × Nat) := assocGet (16384 * h + s / 512) d.dir

/-- The map entry of a slot in a map page copy, from the bytes of its sector. -/
def Dev.mapOnMedia (d : Dev) (page s : Nat) : Option Nat :=
  (d.row (16 * page + s / 32 % 16)).map (fun x => bits x.data.toNat (64 * (s % 32)) 64)

/-- Where a page's copy lies now, by tables alone: map cache, else the first copy of its map page, else the second. -/
def Dev.mapPeek (d : Dev) (h s : Nat) : Nat :=
  match d.mapWay h s with
  | some w => w.entry
  | none =>
    match d.dirOf h s with
    | none => 0
    | some (a, b) =>
      match d.mapOnMedia a s with
      | some e => e
      | none => (d.mapOnMedia b s).getD 0

/-- The physical page address of copy `c` of a page, if it is mapped. -/
def Dev.pageAt (d : Dev) (pg c : Nat) : Option Nat :=
  let e := d.mapPeek (homeOfPage pg) (d.mapSlot pg c)
  if mapMapped e then some (mapPhys e) else none

/-- Whether a page holds any live sector: mapped or with a valid overlay entry. -/
def Dev.occupies (d : Dev) (pg : Nat) : Bool := (d.pageAt pg 0).isSome || !(d.ovlPage pg).isEmpty

/-! ### Capacity (R198 to R207) -/

/-- Sum of PCAP over the data-pool segments of a Point, except those lent (R199). -/
def Dev.pointCap (d : Dev) (n : Nat) : Nat :=
  if !d.live n then 0
  else
    let half := b2n ((d.pt n).failedCells.all (fun c => c ≥ 16)) + b2n ((d.pt n).failedCells.all (fun c => c < 16))
    (7424 - d.countListed n (fun sg _ => decide (256 ≤ sg % 8192))) * (480 * half) +
      ((d.listedSegs n).map (fun x => if x.2.pool = 0 && !x.2.berthLoan then d.pcap x.1 else 0)).foldr (· + ·) 0

/-- C of R199. -/
def Dev.capC (d : Dev) : Nat := ((List.range 16).map d.pointCap).foldr (· + ·) 0
/-- W of R199. -/
def Dev.capW (d : Dev) : Nat := 245760 * d.livePts.length
/-- S of R199: the spare in segments, rounded towards minus infinity. -/
def Dev.capS (d : Dev) : Int := ((d.capC : Int) - d.capW - 100663296) / 960
/-- F of R199: the free page slots, not below 0. -/
def Dev.capF (d : Dev) : Nat := d.capC - d.capW - d.occupied

/-- Move the capacity state (Table 6.5) with its record and ALERT_N; a move to a lower-numbered state is informational. -/
def Dev.capMove (d : Dev) (st code : Nat) (lower : Bool) : Dev :=
  let d := d.setF WLV_CAP.STATE st
  let d := d.post { code := code, level := 3 } (if lower then none else some 2)
  d.logBoth (if lower then 0 else 1) (.memModule code d.hostTime)

/-- Set every WLV_ALLOW[h] (R201). -/
def Dev.setAllow (d : Dev) (v : Nat) : Dev := (List.range 16).foldl (fun d h => d.setF (WLV_ALLOW.ALLOW h) v) d

/-- F has changed: WLV_FREE.FREE follows, and ANCHORED is entered or left (R199 to R201, Table 6.5). -/
def Dev.freeChanged (d : Dev) : Dev :=
  let f := d.capF
  let d := d.setF WLV_FREE.FREE f
  let st := d.f WLV_CAP.STATE
  if st != 3 && f < 262144 then (d.setAllow ((f - 131072) / 16)).capMove 3 0x064 false
  else if st = 3 && f ≥ 524288 then
    let s := toSigned 32 (d.f WLV_CAP.SPARE)
    let d := d.setAllow 0
    if s < 0 then (d.capMove 2 0x065 true).capMove 2 0x063 false
    else if s ≤ 196 then (d.capMove 1 0x065 true).capMove 1 0x062 false
    else d.capMove 0 0x065 true
  else d

/-- O changes by page slots taken or freed. -/
def Dev.occupy (d : Dev) (taken freed : Nat) : Dev := { d with occupied := d.occupied + taken - freed }.freeChanged

/-- Helm recomputes S from C and L, corrects F, and the state follows S (R199, Table 6.5). -/
def Dev.recomputeSpare (d : Dev) : Dev :=
  let s := d.capS
  let pct := if s < 0 then 0 else Nat.min 100 (100 * s.toNat / 9830)
  let sums := ((d.livePts.map (fun n => d.f (WLV_SUM.SUM n))).foldr (· + ·) 0, (d.livePts.map (fun n => d.f (WLV_SUM.COUNT n))).foldr (· + ·) 0)
  let life := if sums.2 = 0 || d.f PNT_RETIRE.LIMIT = 0 then 0 else Nat.min 100 (100 * sums.1 / sums.2 / d.f PNT_RETIRE.LIMIT)
  let oldLife := d.f WLV_CAP.LIFE_USED
  let d := ((d.setF WLV_CAP.SPARE (ofSigned 32 s)).setF WLV_CAP.SPARE_PCT pct).setF WLV_CAP.LIFE_USED life
  let d := if d.alertCfg.1.testBit 0 && oldLife < d.alertCfg.2.1 && d.alertCfg.2.1 ≤ life then d.logBoth 1 (.memModule 1 d.hostTime) else d
  let st := d.f WLV_CAP.STATE
  let d := if st = 3 then d
    else if s < 0 then (if st < 2 then d.capMove 2 0x063 false else d)
    else if s ≤ 196 then (if st = 0 then d.capMove 1 0x062 false else d)
    else d
  { d with capDue := false }.freeChanged

/-- Capacity or the live Points have changed: a recompute falls due (R199). -/
def Dev.capChanged (d : Dev) : Dev := { d with capDue := true }

/-- A home's allowance gains units while ANCHORED (R204, R206). -/
def Dev.allowGain (d : Dev) (h n : Nat) : Dev :=
  if d.f WLV_CAP.STATE = 3 then d.setF (WLV_ALLOW.ALLOW h) (satAdd 24 (d.f (WLV_ALLOW.ALLOW h)) n) else d

/-- Copies of a page that placement makes. -/
def Dev.copies (d : Dev) : Nat := if d.mTwin then 2 else 1

/-! ### Map pages (R221 to R223) -/

/-- The next whole page slot of the metadata open segment of a Point, within the row window of R164. -/
def Dev.metaPage (d : Dev) (n : Nat) : Option Nat :=
  match d.openGroup 3, d.openSeg 3 n with
  | some g, some sg =>
    if !(d.live n && d.linkUp n) then none
    else
      let from_ := ((d.pt n).metaNext + 15) / 16
      ((List.range (1024 - from_)).map (from_ + ·)).find? (fun r =>
        d.parityMember g r != some (n, sg % 8192) && !d.slotSkips sg r && !d.slotUsed sg r && !g.rowClosed r)
        |>.bind (fun r => if d.rowOpen g r then some (mkPsa sg (16 * r)) else none)
  | _, _ => none

/-- Program a whole page of kind 5 in the metadata open segment of a Point. (DEDUCED, log entry 37.) -/
def Dev.programMetaPage (d : Dev) (n : Nat) (secs : List SecData) : Option (Nat × Dev) :=
  match d.metaPage n with
  | none => none
  | some base =>
    let d := secs.zipIdx.foldl (fun d x => d.program (base + x.2) (physSector d (base + x.2) 5 x.1 .raw) 0) d
    some (base, (d.modPt n (fun p => { p with metaNext := psaSec base + 16 })).addLive base 16)

/-- The image of a map page: its current copy, overlaid with its dirty map-cache entries (R223). -/
def Dev.mapImage (d : Dev) (h mp : Nat) : List SecData :=
  let cur := d.dirOf h (512 * mp)
  (List.range 16).map (fun j =>
    let old := match cur with
      | some (a, b) => (match d.row (16 * a + j) with | some s => s.data.toNat | none => (match d.row (16 * b + j) with | some s => s.data.toNat | none => 0))
      | none => 0
    let ws := d.mapc.filter (fun w => w.home = h && w.slot / 512 = mp && w.slot % 512 / 32 = j && w.dirty)
    BitVec.ofNat 2048 (ws.foldl (fun m w => setBits m (64 * (w.slot % 32)) 64 (setBits w.entry 25 11 0)) old))

/-- Program a map page (R221, R223): both copies, the MAP_PAGE record, the directory entry; the entries taken become clean. None where no
Point can take a copy. (DEDUCED, log entry 23.) -/
def Dev.writeMap (d : Dev) (h mp : Nat) : Option Dev :=
  let img := d.mapImage h mp
  let p := d.serving h
  let partner := ([(p + 8) % 16, (p + 4) % 16, (p + 12) % 16].find? d.live).getD p
  match d.programMetaPage p img with
  | none => none
  | some (a, d1) =>
    match d1.programMetaPage partner img with
    | none => none
    | some (b, d1) =>
      let d1 := d1.record p (.mapPage h mp (a / 16) (b / 16))
      let d1 := { d1 with dir := assocSet (16384 * h + mp) (a / 16, b / 16) d1.dir, mapc := d1.mapc.map (fun (w : MapWay) => if w.home = h && w.slot / 512 = mp then { w with dirty := false } else w) }
      some (d1.mapReg h)

/-- Flush a map page that has dirty map-cache entries (R223). (DEDUCED, log entry 23.) -/
def Dev.flushMap (d : Dev) (h mp : Nat) : Dev :=
  if d.mapc.any (fun w => w.home = h && w.slot / 512 = mp && w.dirty) then (d.writeMap h mp).getD d else d

/-- Make room in a map-cache set that has no clean way left: its map pages are flushed (R225, R249). -/
def Dev.mapRoom (d : Dev) (h s : Nat) : Dev :=
  if (d.mapWay h s).isSome || d.mapDirtyWays h s < 16 then d
  else ((d.mapc.filter (fun w => w.home = h && mapSet w.slot = mapSet s)).map (fun w => w.slot / 512)).eraseDups.foldl (fun d mp => d.flushMap h mp) d

/-! ### Unmapping a page -/

/-- The sectors that an overlay entry no longer serves are dead. -/
def Dev.ovlDead (d : Dev) (e : Ovl) : Dev :=
  let d := d.subLive e.phys 1
  match e.twin with
  | some t => if e.shared then d else d.subLive t 1
  | none => d

/-- Drop a page's overlay entries; their sectors become dead (R152, R209). -/
def Dev.dropOverlay (d : Dev) (pg : Nat) : Dev :=
  let es := d.ovlPage pg
  let d := { d with overlay := d.overlay.filter (fun x => x.1 / 16 != pg) }
  let d := es.foldl (fun d x => d.ovlDead x.2) d
  if es.isEmpty then d else d.ovlReg (homeOfPage pg)

/-- Whether a standing seal holds a page slot as a sealed version (R287). -/
def Dev.sealedAt (d : Dev) (page : Nat) : Bool := d.seals.any (fun s => s.target = 0 && s.psas.contains (16 * page))

/-- Sectors of a page slot that hold live data: those relocated after a verify failure died at the install (R150). -/
def Dev.slotLive (d : Dev) (page : Nat) : Nat :=
  16 - (List.range 16).countP (fun j => match assocGet (16 * page + j) d.sectors with | some s => s.failed | none => false)

/-- A page copy stops being the current image: its sectors die, unless a seal keeps them as a further copy of its page
(R287). -/
def Dev.killPage (d : Dev) (page : Nat) : Dev :=
  if d.sealedAt page then { d with occupied := d.occupied + 1 }.freeChanged else d.subLive (16 * page) (d.slotLive page)

/-- Unmap a page: its map entries become unmapped, dirty, and its copies dead (R209, R380). Map pages are flushed where a set has no room for
a dirty entry. -/
def Dev.unmapPage (d : Dev) (pg : Nat) : Dev :=
  let h := homeOfPage pg
  (List.range d.copies).foldl (fun d c =>
    let s := d.mapSlot pg c
    match d.pageAt pg c with
    | some p => ((d.mapRoom h s).mapPut h s 0 true).killPage p
    | none => d) d

end Sys2Proof.Machine
end

