-- ==== Sys2Proof/Machine/Reads.lean ====
section
/-! DEFINITION. The read path: decode with the drift fallback retry, parity and TWIN, descrambling, the walker, and the
order of places a line is read from. -/

namespace Sys2Proof.Machine

/-- Take the next decode outcome of a read; past the end a decode corrects no bit. -/
def popBch (ev : RdEnv) : Option Nat × RdEnv :=
  match ev.bch with
  | [] => (some 0, ev)
  | b :: t => (b, { ev with bch := t })

/-- The die of a Point cannot be read: dead, dying, or its link not up (R676). -/
def Dev.dieGone (d : Dev) (n : Nat) : Bool := !d.live n || !d.linkUp n

/-- A die's link is in a quick retrain, or one has been decided, and its Point lives (R676). -/
def Dev.retraining (d : Dev) (n : Nat) : Bool :=
  d.live n && (d.f (PNT_LINK.STATE n) == 3 || (d.f (PNT_LINK.STATE n) == 2 && (d.pt n).retrainDue.isSome))

/-- A task placed in a Point's queue is an event of its engine (Table 11.4, wake.TASK_EN). -/
def Dev.taskEvent (d : Dev) (n : Nat) : Dev := d.modEng n (fun e => { e with events := e.events ||| 2 })

/-- Queue a background task at a Point, unless the same one waits there (R64). -/
def Dev.queueTask (d : Dev) (n : Nat) (t : Task) : Dev :=
  if (d.pt n).tasks.any (fun u => u.kind == t.kind && u.arg == t.arg && u.urgent == t.urgent) then d
  else (d.modPt n (fun p => { p with tasks := p.tasks ++ [{ t with since := d.time }] })).taskEvent n

/-- A die is declared dead: its link state reads 4 with the cause (R105, R677). -/
def Dev.declareDead (d : Dev) (n cause : Nat) : Dev := (d.setF (PNT_LINK.STATE n) 4).setF (PNT_LINK.LAST_CAUSE n) cause

/-- Count an uncorrectable sector on a die; above PNT_DEADLIM within 1 s the die is declared dead (Table 2.5). -/
def Dev.countUnc (d : Dev) (n : Nat) : Dev :=
  let recent := ((d.pt n).unc.filter (fun t => decide (d.time - t < secUnits 1))) ++ [d.time]
  let d := d.modPt n (fun p => { p with unc := recent })
  if decide (recent.length > Nat.max 1 (d.f PNT_DEADLIM.UNC_LIMIT)) && d.f (PNT_LINK.STATE n) != 4 then d.declareDead n 8 else d

/-! ### One row: sensing, decode, the fallback retry (R117, R118, R127 to R131) -/

/-- Send the read command of a row with the references of a drift variable (R117, R118). -/
def Dev.senseRow (d : Dev) (psa row x : Nat) : Dev :=
  let r := d.refs x
  (d.linkSend (psaPoint psa) 1 (psaCell psa) row r.1 r.2.1 r.2.2).tally 0x0E (psaPoint psa) 1

/-- Sense a sector with the references of its data age: the read counts for its group (R125), and its burst is the last on the link. -/
def Dev.sense (d : Dev) (psa : Nat) : Dev :=
  let ph := d.phi (psaSeg psa)
  let d := d.setPhi (psaSeg psa) { ph with reads := ph.reads + 1 }
  (d.senseRow psa (linkRow psa) (driftX (d.dataAge (psaSeg psa)))).modPt (psaPoint psa) (fun p => { p with burst := some psa })

/-- A decode corrects `c` bits of a sector of die `n`. -/
def Dev.corrects (d : Dev) (n c : Nat) : Dev :=
  ({ d with corrected := if c = 0 then d.corrected else satAdd 32 d.corrected 1 }.modPt n (fun p => { p with lastBch := c })).tally 0x11 n c

/-- The shift of a reference in codes from the lodestones misread on its two sides (R127, step 3): a quarter of the difference, rounded to
the nearest code, halves upwards, and bounded to 24 either way. (DESIGN CHOICE, log entry 186.) -/
def shiftCodes (hi lo : Nat) : Int := max (-24) (min 24 ((4 - 2 * ((hi : Int) - lo)) / 8))

/-- The lodestones of a service row misread at each reference, a free number of the 128 of a level: of reference `k`, those of the upper
level below it in place `2k`, those of the lower level above it in place `2k + 1`. (DESIGN CHOICE, log entry 168.) -/
def Dev.lodeCount (d : Dev) (psa k : Nat) : Nat := bits (Config.lodestones (d.time * 2 ^ 31 + psa)).toNat (8 * k) 8 % 129

/-- The change of the lodestone drift variable that the shifts of the three references mean, in 2^-16 (R127, step 4).
(DESIGN CHOICE, log entry 186.) -/
def driftShift (sA sB sC : Int) : Int := -((119875 * sA + 208375 * sB + 302125 * sC) * 65536 / 1490700)

/-- The data age for the re-read of a sector, in 2^-24 s (R127, steps 2 to 6). -/
def Dev.retryAge (d : Dev) (psa : Nat) : Nat :=
  let sg := psaSeg psa
  let xL : Int := driftX (d.loadAge sg)
  let s (k : Nat) : Int := shiftCodes (d.lodeCount psa (2 * k)) (d.lodeCount psa (2 * k + 1))
  (max 0 ((d.dataAge sg : Int) + (ageAt (xL + driftShift (s 0) (s 1) (s 2)) - d.loadAge sg))).toNat

/-- The drift fallback retry of a sector (R127, R131): its service row is read at the lodestone age, the sector again at the corrected
age; the retry is counted, and a lodestone sample of its group is queued. -/
def Dev.fallback (d : Dev) (psa : Nat) : Dev :=
  let n := psaPoint psa
  let sg := psaSeg psa
  let d := d.senseRow psa (sg % 8192 * 513 + 512) (driftX (d.loadAge sg))
  let d := d.senseRow psa (linkRow psa) (driftX (d.retryAge psa))
  ((d.cnt (DRF_STAT.RETRIES n)).tally 0x12 n 1).queueTask n { kind := 5, arg := sg / 8192 * 128 + sg % 8192 / 64 }

/-- How the read of a sector ends: decoded; blank, at a failed cell or beyond BCH capability, with whether its fallback retry was made and
failed; on a die that is gone; or waiting for the retrain of its die's link. -/
inductive Sensed where
  | got (s : Sector)
  | bad (retried : Bool)
  | gone
  | waits

/-- The sector that a read gives. -/
def Sensed.sec : Sensed → Option Sector
  | .got s => some s
  | _ => none

/-- Read and decode one sector, with the one drift fallback retry of R127 where `retry` allows it. -/
def Dev.decode (d : Dev) (psa : Nat) (retry : Bool) (ev : RdEnv) : Sensed × Dev × RdEnv :=
  let n := psaPoint psa
  if d.retraining n then (.waits, d, ev)
  else if d.dieGone n then (.gone, d, ev)
  else if (d.pt n).failedCells.contains (psaCell psa) then (.bad false, d, ev)
  else
    let d := d.sense psa
    match d.row psa with
    | none => (.bad false, d, ev)
    | some s =>
      let (b, ev) := popBch ev
      match b with
      | some c => (.got s, d.corrects n c, ev)
      | none =>
        if !retry then (.bad false, d, ev)
        else
          let d := d.fallback psa
          let (b2, ev) := popBch ev
          match b2 with
          | some c => (.got s, d.corrects n c, ev)
          | none => (.bad true, d.cnt (DRF_STAT.RETRY_FAIL n), ev)

/-- The record of a physical sector: level, Point, cell, address with its flag. -/
def secEv (code level psa : Nat) (sev : Nat := 0) : Ev :=
  { code := code, level := level, point := psaPoint psa, cell := psaCell psa, flags := 2, addr := psa, sev := sev }

/-! ### Rebuilding a sector (R74, R102, R130, R157, R163, R676) -/

/-- The sectors whose XOR is a sector (R157, R163, R167): its parity sector and the other members that it covers and that are not blank; the
parity page's before the newest partial parity. None where no parity covers it. -/
def Dev.constituents (d : Dev) (psa : Nat) : Option (List Nat) :=
  match d.groupOf (psaSeg psa) with
  | none => none
  | some g =>
    let r := psaSec psa / 16
    let j := psaSec psa % 16
    let at_ (m : Nat × Nat) : Nat := mkPsa (8192 * m.1 + m.2) (psaSec psa)
    let others (mask : Nat) : List Nat := ((d.dataMembers g r).filter (fun m => mask.testBit m.1 && at_ m != psa && (d.row (at_ m)).isSome)).map at_
    match g.row r with
    | none => none
    | some x =>
      let full := (x.parity.getD []).getD j 0
      if full.testBit (psaPoint psa) then (d.parityMember g r).map (fun m => at_ m :: others full)
      else (x.pps.find? (fun p => p.1 == j && p.2.2.testBit (psaPoint psa))).map (fun p => p.2.1 :: others p.2.2)

/-- Read the sectors of a list, each with a retry of its own (R130): those that decode, and those that wait for a retrain. -/
def Dev.decodeAll (d : Dev) (l : List Nat) (ev : RdEnv) : List Sector × List Nat × Dev × RdEnv :=
  l.foldl (fun acc p =>
    let (s, d, ev) := acc.2.2.1.decode p true acc.2.2.2
    match s with
    | .got s => (acc.1 ++ [s], acc.2.1, d, ev)
    | .waits => (acc.1, acc.2.1 ++ [p], d, ev)
    | _ => (acc.1, acc.2.1, d, ev)) ([], [], d, ev)

/-- A sector's content from cross-die parity, and the sectors whose dies' retrains it waits for. -/
def Dev.fromParity (d : Dev) (psa : Nat) (ev : RdEnv) : Option Sector × List Nat × Dev × RdEnv :=
  match d.constituents psa with
  | none => (none, [], d, ev)
  | some l =>
    let (ss, waits, d, ev) := d.decodeAll l ev
    if ss.length = l.length then
      ((assocGet psa d.sectors).map (fun own => { paritySector ss with body := own.body }), waits, d, ev)
    else (none, waits, d, ev)

/-- A sector whose read ended as `s` is rebuilt from the parity of an unreleased group, else from the TWIN copy `alt` (Table 2.5, R74,
R102, R127, R130, R670, R676): records 0x011 and 0x021 of an uncorrectable sector, and its count towards PNT_DEADLIM. Where no source
gives it and one waits for a retrain, the read waits with it. -/
def Dev.rebuild (d : Dev) (psa : Nat) (alt : Option Nat) (s : Sensed) (ev : RdEnv) : Option Sector × Dev × RdEnv :=
  let n := psaPoint psa
  let d := match s with | .bad true => d.post (secEv 0x011 0 psa) | _ => d
  let d := match s with | .bad _ => d.modPt n (fun p => { p with lastUnc := psa }) | _ => d
  let (r, w1, d, ev) := d.fromParity psa ev
  let (r, w2, d, ev) := match r, alt with
    | none, some p =>
      (let (t, d, ev) := d.decode p true ev
       match t with
       | .got x => (some x, [], d, ev)
       | .waits => (none, [p], d, ev)
       | _ => (none, [], d, ev))
    | r, _ => (r, [], d, ev)
  let waits := (match s with | .waits => [psa] | _ => []) ++ w1 ++ w2
  if r.isNone && !waits.isEmpty then (none, { d with blocked := waits.head? }, ev)
  else
    let d := match s with
      | .bad _ => (d.post (secEv 0x021 1 psa (if r.isSome then 0 else 2))).countUnc n
      | _ => d
    (r, d, ev)

/-- SCR_KEYSTAT shows the current generations, and the slots whose keys have passed their check (Table 8.9). -/
def Dev.keyRegs (d : Dev) : Dev :=
  let ok := (List.range 8).foldl (fun m i => if d.badKeys.contains (2 * i) || d.badKeys.contains (2 * i + 1) then m else m + 2 ^ i) 0
  (d.setF SCR_KEYSTAT.KEYGEN d.keyCur).setF SCR_KEYSTAT.PRESENT ok

/-- The slot of the lowest-numbered enabled range of SCR_RANGE that holds a device address (R274). -/
def Dev.rangeSlot (d : Dev) (a : Nat) : Option Nat :=
  (List.range 8).find? (fun i => d.on (SCR_RANGE.EN i) && decide (d.f (SCR_RANGE.BASE i) ≤ a / 2 ^ 20) && decide (a / 2 ^ 20 < d.f (SCR_RANGE.LIMIT i)))

/-- The key of a slot and generation (R278): drawn at factory initialisation until another is drawn. -/
def Dev.key (d : Dev) (slot gen : Nat) : BitVec 128 := (assocGet (2 * slot + gen) d.keys).getD (Config.freshKey (2 * slot + gen))

/-- The stream whose region holds a logical page (R350). -/
def Dev.streamOfPage (d : Dev) (pg : Nat) : Option Nat :=
  (d.str.ctx.find? (fun x => 16 * x.2.lbase ≤ pg && pg < 16 * (x.2.lbase + x.2.depth))).map (·.1)

/-- The device address that SCR_RANGE is compared with for a logical sector: its own, or its stream's aperture (R274). -/
def Dev.secAddr (d : Dev) (l : Nat) (stream : Bool) : Nat :=
  if stream then (match d.streamOfPage (l / 16) with | some s => apBase s | none => 256 * l) else 256 * l

/-- The data of a sector in the clear. -/
def Dev.clearData (d : Dev) (psa : Nat) (s : Sector) : SecData :=
  if metaScr s.md then scramble true (d.key (metaSlot s.md) (metaGen s.md)) psa (metaCount s.md) s.data else s.data

/-- Whether a data sector's metadata fits the sector the read expects: high part and KIND (R264), clear count and KEYSLOT of
a scrambled one (R277). `l` is the logical sector, `stream` says that it holds stream data. -/
def Dev.metaFits (d : Dev) (psa : Nat) (s : Sector) (l : Nat) (stream : Bool) : Bool :=
  let high := if stream then decide (metaHigh s.md / 128 = l / 16384 % 2 ^ 17) else decide (metaHigh s.md = l / 128 % 2 ^ 24)
  let x := d.seg (psaSeg psa)
  high && decide (metaKind s.md = b2n stream) &&
    (!metaScr s.md || x.fatal || (decide (metaCount s.md = x.leaf) && d.rangeSlot (d.secAddr l stream) == some (metaSlot s.md)))

/-- A line with the line check that it carries (R259). -/
abbrev Carried := Line × Nat

/-- The zero line that a line never written reads as, with its implied check (R261). -/
def zeroLine (term : Nat) : Carried := (0, lineCheck 0 term)

/-- Line `q` of a decoded data sector, verified against the line check that it brings; none is a check failure (Table 8.2, R264, R277). -/
def Dev.lineOf (d : Dev) (psa : Nat) (s : Sector) (l q : Nat) (stream : Bool) : Option Carried :=
  let x := secLine (d.clearData psa s) q
  let term := if stream then termStream (4 * l + q) else termDev (4 * l + q)
  if d.metaFits psa s l stream && lineCheck x term = metaCheck s.md q then some (x, metaCheck s.md q) else none

/-- The map entry of a slot in a sector of its map page. -/
def mapEntryIn (x : Sector) (s : Nat) : Nat := bits x.data.toNat (64 * (s % 32)) 64

/-- The walker (R227, R228): the map entry of a slot, filled into the map cache on a miss. The second copy is read where the first's die
is gone or retrains, or its sector fails. The Bool says that the walker spent the request's drift retry. -/
def Dev.walk (d : Dev) (h s : Nat) (ev : RdEnv) : Option Nat × Bool × Dev × RdEnv :=
  match d.mapWay h s with
  | some w => (some w.entry, false, d.mapPut h s w.entry w.dirty, ev)
  | none =>
    match d.dirOf h s with
    | none => (some 0, false, d, ev)
    | some (a, b) =>
      let d := (d.cnt (MAP_CACHE.MISSES h)).tally 0x0D (d.serving h) 1
      let pa := 16 * a + s / 32 % 16
      let pb := 16 * b + s / 32 % 16
      let (r, d, ev') := d.decode pa true ev
      let spent := match r with
        | .bad b => b
        | .got _ => ev.bch.head? == some none
        | _ => false
      match r.sec with
      | some x => (some (mapEntryIn x s), spent, d.mapPut h s (mapEntryIn x s) false, ev')
      | none =>
        let (r2, d, ev') := d.decode pb (!spent) ev'
        let spent := spent || (match r2 with | .bad b => b | .got _ => ev'.bch.length + 1 < ev.bch.length | _ => false)
        match r2 with
        | .got x => (some (mapEntryIn x s), spent, d.mapPut h s (mapEntryIn x s) false, ev')
        | .waits => (none, spent, { d with blocked := some pb }, ev')
        | _ => (none, spent, match r with | .waits => { d with blocked := some pa } | _ => d, ev')

/-- The Binnacle's bytes of a line answer a read by themselves: every byte stands there, and where the line is poisoned, a full write of
it does (R41, R219). -/
def BEntry.serves (b : BEntry) (poisoned : Bool) : Bool := decide (b.mask = BitVec.ofNat 64 (2 ^ 64 - 1)) && (b.whole || !poisoned)

/-- The Binnacle holds a line whole. -/
def Dev.binnFull (d : Dev) (line : Nat) : Bool := d.binn.any (fun b => b.line = line && b.serves (d.poisoned line))

/-- Lines of logical sector `l` that a sector image served and that are now lost: of `mask`, those the Binnacle does not hold
whole (R39, R130). -/
def Dev.loseSector (d : Dev) (l mask : Nat) : Dev :=
  (List.range 4).foldl (fun d q => if mask.testBit q && !d.binnFull (4 * l + q) then d.markPoison (4 * l + q) 2 else d) d

/-- The contiguous runs of an ascending list: first element and length. -/
def runsOf (l : List Nat) : List (Nat × Nat) :=
  l.foldl (fun acc x => match acc.getLast? with
    | some (a, k) => if a + k = x then acc.dropLast ++ [(a, k + 1)] else acc ++ [(x, 1)]
    | none => [(x, 1)]) []

/-- The sectors of a page that lie on die `n`, with their other copy: logical sector, address, copy, lines served. -/
def Dev.pageOn (d : Dev) (n pg : Nat) : List (Nat × Nat × Option Nat × Nat) :=
  let ovl := (d.ovlPage pg).filterMap (fun x =>
    if psaPoint x.2.phys = n then some (x.1, x.2.phys, x.2.twin, x.2.mask)
    else match x.2.twin with | some t => if psaPoint t = n then some (x.1, t, some x.2.phys, x.2.mask) else none | none => none)
  let one (p q : Option Nat) : List (Nat × Nat × Option Nat × Nat) :=
    match p with
    | some a => if psaPoint (16 * a) = n then (List.range 16).map (fun j =>
        (16 * pg + j, 16 * a + j, q.map (16 * · + j), 15 - (match assocGet (16 * pg + j) d.overlay with | some e => e.mask | none => 0))) else []
    | none => []
  ovl ++ one (d.pageAt pg 0) (d.pageAt pg 1) ++ one (d.pageAt pg 1) (d.pageAt pg 0)

/-- A sector of a dead die can be recovered: from the parity of a group not yet released, or from its TWIN copy (R74). -/
def Dev.recoverable (d : Dev) (psa : Nat) (alt : Option Nat) : Bool :=
  (d.constituents psa).isSome || alt.any (fun p => !d.dieGone (psaPoint p) && d.programmed p)

/-- A line that is still to be lost with dead die `n`: so its contiguous range of lost lines is not complete. -/
def Dev.doomed (d : Dev) (n line : Nat) : Bool :=
  !d.poisoned line && !d.binnFull line &&
    (d.pageOn n (line / 64)).any (fun x => x.1 == line / 4 && x.2.2.2.testBit (line % 4) && !d.recoverable x.2.1 x.2.2.1)

/-- The records 0x035 of lines lost on dead die `n`: one for each contiguous range that no line still to be lost adjoins (R74, R671). -/
def Dev.deadRecords (d : Dev) (n : Nat) : Dev :=
  let mine := ((d.deadLost.filter (fun x => x.1 == n)).map (·.2)).insertionSort (· ≤ ·)
  let done := (runsOf mine).filter (fun r => !d.doomed n (r.1 + r.2) && !(decide (0 < r.1) && d.doomed n (r.1 - 1)))
  let d := done.foldl (fun d r => d.post { code := 0x035, level := 2, point := n, addr := 64 * r.1, sev := 2, detail := leBytes 8 (64 * r.2) ++ leBytes 1 n }) d
  { d with deadLost := d.deadLost.filter (fun x => !(x.1 == n && done.any (fun r => decide (r.1 ≤ x.2) && decide (x.2 < r.1 + r.2)))) }

/-- Lines of a sector are lost because no source gives them back (R39): where its die is gone, with the records of R74. -/
def Dev.loseOn (d : Dev) (psa : Nat) (s : Sensed) (l mask : Nat) : Dev :=
  match s with
  | .gone =>
    let n := psaPoint psa
    let lost := ((List.range 4).filter (fun q => mask.testBit q && !d.poisoned (4 * l + q) && !d.binnFull (4 * l + q))).map (fun q => (n, 4 * l + q))
    (({ d with deadLost := d.deadLost ++ lost } : Dev).loseSector l mask).deadRecords n
  | _ => d.loseSector l mask

/-- A segment goes to collection, with its task (R176, Table 5.6). -/
def Dev.toCollect (d : Dev) (sg : Nat) : Dev := (d.setState sg 7).queueTask (sg / 8192) { kind := 1, arg := sg }

/-- A clear count that reads back as all ones marks its segment fatal (R284): the security alarm 0x085; its placement queues end, and its live
data is collected. -/
def Dev.fence (d : Dev) (psa : Nat) : Dev :=
  let sg := psaSeg psa
  let keep (s : Slot) : Bool := s.seg != sg
  let d := (d.modSeg sg (fun x => { x with fatal := true })).secAlarm (secEv 0x085 1 psa)
  let d := d.modPt (sg / 8192) (fun p => { p with queues := p.queues.map (fun (q : PQueue) => { q with slots := q.slots.filter keep, cur := q.cur.filter keep }) })
  if (d.seg sg).state = 6 then d.toCollect sg else d

/-- The sector's clear count reads back as all ones, and its segment is not fatal yet (R284). -/
def Dev.runOut (d : Dev) (psa : Nat) (s : Sector) : Bool := metaCount s.md = 0xFFFFFFFF && !(d.seg (psaSeg psa)).fatal

/-- How a read of a line from media ends. -/
inductive Got where
  | data (x : Carried)
  | poison

/-- Read line `q` of logical sector `l` from the sector at `psa` that serves `mask` of it, falling back to parity and the copy `alt`. -/
def Dev.readAt (d : Dev) (psa : Nat) (alt : Option Nat) (l q mask : Nat) (stream retry : Bool) (ev : RdEnv) : Got × Dev × RdEnv :=
  let (t, d, ev) := d.decode psa retry ev
  let (r, d, ev) := match t with
    | .got s => (some s, d, ev)
    | t => d.rebuild psa alt t ev
  match r with
  | none => (.poison, if d.blocked.isSome then d else d.loseOn psa t l mask, ev)
  | some s =>
    if d.badKeys.contains (2 * metaSlot s.md + metaGen s.md) && metaScr s.md then
      (.poison, d.hovePost { code := 0x082 } 0xFFFF, ev)
    else
      let d := if d.runOut psa s then d.fence psa else d
      match d.lineOf psa s l q stream with
      | some x => (.data x, d, ev)
      | none =>
        let bad (d : Dev) : Dev := d.secAlarm { secEv 0x081 1 psa with sev := 2 }
        if metaCount s.md != 0xFFFFFFFF then (.poison, bad d, ev)
        else
          let (r, d, ev) := d.rebuild psa alt (.bad false) ev
          match r.bind (fun y => d.lineOf psa y l q stream) with
          | some x => (.data x, d, ev)
          | none => (.poison, if d.blocked.isSome then d else bad d, ev)

/-- Read the lines of `mask` of logical sector `l` from the sector at `psa` with one sensing, its retry where `retry` allows it, and a
rebuild where `full` allows it; a line that cannot be delivered is none, and is lost where the rebuild was allowed (R130, R144). -/
def Dev.readSec (d : Dev) (psa : Nat) (alt : Option Nat) (l mask : Nat) (stream full retry : Bool) (ev : RdEnv) :
    List (Option Carried) × Dev × RdEnv :=
  let (t, d, ev) := d.decode psa retry ev
  let (r, d, ev) := match t with
    | .got s => (some s, d, ev)
    | t => if full then d.rebuild psa alt t ev else (none, d, ev)
  match r with
  | none => (List.replicate 4 none, if full && d.blocked.isNone then d.loseOn psa t l mask else d, ev)
  | some s =>
    let d := if d.runOut psa s then d.fence psa else d
    let ls := (List.range 4).map (fun q => if mask.testBit q then d.lineOf psa s l q stream else none)
    if (List.range 4).any (fun q => mask.testBit q && (ls.getD q none).isNone) then (ls, d.secAlarm (secEv 0x081 1 psa), ev) else (ls, d, ev)

/-- Read a logical line from its medium location: the overlay sector where its MASK bit is set, else the page location, else
zero for a page never written (R143, R222). -/
def Dev.mediaLine (d : Dev) (line : Nat) (stream : Bool) (ev : RdEnv) : Got × Dev × RdEnv :=
  let l := line / 4
  let q := line % 4
  let h := homeOfSec l
  let o := assocGet l d.overlay
  match (match o with | some e => if e.mask.testBit q then some e else none | none => none) with
  | some e =>
    let d := d.tally 0x0C (d.serving h) 1
    d.readAt e.phys e.twin l q e.mask stream true ev
  | none =>
    let pg := l / 16
    let (w, spent, d, ev) := d.walk h (d.mapSlot pg 0) ev
    match w with
    | none => (.poison, if d.blocked.isSome then d else d.loseSector l 15, ev)
    | some e =>
      if !mapMapped e then (.data (zeroLine (if stream then termStream line else termDev line)), d, ev)
      else
        let alt := if d.mTwin then (d.pageAt pg 1).map (fun p => 16 * p + l % 16) else none
        let mask := 15 - (match o with | some e => e.mask | none => 0)
        d.readAt (16 * mapPhys e + l % 16) alt l q mask stream (!spent) ev

/-- A command whose reads must wait for the retrain of a die's link has no effect: it comes again once they can be made (R676).
(DEDUCED, log entry 183.) -/
def Dev.reading (d : Dev) (f : Dev → Dev) : Dev :=
  let e := f d
  if e.blocked.isSome then d else e

/-- The entry of a home's Binnacle slice for a line. -/
def Dev.binnAt (d : Dev) (line : Nat) : Option BEntry := d.binn.find? (fun b => b.line = line)

/-- Free the Binnacle entries that satisfy a predicate; the dirty marks of their lines in the Pilot caches are cleared (R139). -/
def Dev.binnDrop (d : Dev) (p : BEntry → Bool) : Dev :=
  let lines := (d.binn.filter p).map (·.line)
  { d with
    binn := d.binn.filter (fun b => !p b)
    pilot := d.pilot.map (fun (x : Nat × PilotLine) => if lines.contains x.1 then (x.1, { x.2 with dirty := false }) else x) }

/-- The merge source of a line (R143): the Pilot cache, else media. -/
def Dev.mergeSource (d : Dev) (line : Nat) (ev : RdEnv) : Got × Dev × RdEnv :=
  if d.poisoned line then (.poison, d, ev)
  else match assocGet line d.pilot with
    | some p => (.data (p.data, p.check), d, ev)
    | none => d.mediaLine line false ev

/-- Keep a line in the Pilot cache of its home quadrant where the environment says so (R53). -/
def Dev.pilotKeep (d : Dev) (line : Nat) (x : Carried) (ev : RdEnv) : Dev :=
  if ev.keep then { d with pilot := assocSet line ⟨x.1, false, x.2⟩ d.pilot } else d

/-- An uncorrectable byte of a line's SRAM copy (R270): a Binnacle entry is poisoned and freed, a Pilot line is dropped. -/
def Dev.sramUe (d : Dev) (line : Nat) : Dev :=
  match d.binnAt line with
  | some _ =>
    let d := d.binnDrop (fun b => b.line == line)
    ((d.cnt SCR_ECC.BYTE_UE).markPoison line 2).post { code := 0x088, addr := 64 * line, sev := 2 }
  | none =>
    if (assocGet line d.pilot).isSome then { d.cnt SCR_ECC.BYTE_UE with pilot := assocDel line d.pilot } else d

/-- Read a WINDOW line at its home (R32, R38, R143, R219): none is poison. The read returns the visible write of the highest
CSN, zero for a line never written, or poison, listed and announced (R40). -/
def Dev.readWindow (d : Dev) (line : Nat) (ev : RdEnv) : Option Line × Dev :=
  let h := homeOf (64 * line)
  let n := d.serving h
  if d.hove h then (none, d.hovePoison line)
  else
    let d := if ev.ue then d.sramUe line else d
    match d.binnAt line with
    | some b =>
      if b.serves (d.poisoned line) then (some b.data, d.tally 0x0B n 1)
      else
        let (g, d, _) := d.mergeSource line ev
        match g with
        | .data x => (some (mergeLine x.1 b.data b.mask), d)
        | .poison => (none, d.poisonOut line)
    | none =>
      if d.poisoned line then (none, d.poisonOut line)
      else match assocGet line d.pilot with
        | some p => (some p.data, d.tally 0x42 (n / 4) 1)
        | none =>
          let d := d.tally 0x43 (n / 4) 1
          let (g, d, _) := d.mediaLine line false ev
          match g with
          | .data x => (some x.1, d.pilotKeep line x ev)
          | .poison => (none, d.poisonOut line)

/-- The line check at delivery (Table 8.2): a mismatch gives poison, event 0x083 and EGRESS_FAIL. -/
def Dev.egress (d : Dev) (line : Nat) (x : Option Line) (bad : Bool) : Option Line × Dev :=
  match x with
  | some v => if bad then (none, ((d.cnt SCR_STAT.EGRESS_FAIL).post { code := 0x083, addr := 64 * line, sev := 2 }).poisonOut line) else (some v, d)
  | none => (none, d)

end Sys2Proof.Machine
end

