-- ==== Sys2Proof/Machine/StreamOps.lean ====
section
/-! DEFINITION. Streams: regions, positions, slots and joins, credits, frames, consumer operations, queue reset, RING. -/

namespace Sys2Proof.Machine

/-- All bytes of a line. -/
def fullMask : BitVec 64 := BitVec.ofNat 64 (2 ^ 64 - 1)

/-! ### Addresses (R350, R353) -/

/-- Logical page of a stream position (R350). -/
def Stream.page (x : Stream) (pos : Nat) : Nat := 16 * x.lbase + pos % (65536 * Nat.max x.depth 1) / 4096
/-- Logical line of a stream position. -/
def Stream.line (x : Stream) (pos : Nat) : Nat := 64 * x.page pos + pos % 4096 / 64

/-! ### Duplicated values and the anchor (R383, R384) -/

/-- The second copy of a value: the bitwise complement with its bytes in reverse order. -/
def dupVal (v : Nat) : Nat := ofLe (leBytes 8 (allOnes64 - v % 2 ^ 64)).reverse
/-- The values held twice: END, REL, RPOS, MARK, LIMIT, AVAIL, NEXTHDR and the arrival masks. -/
def Stream.dupVals (x : Stream) : List Nat :=
  [x.pos.end_, x.pos.rel, x.pos.rpos, x.pos.mark.getD allOnes64, x.pos.limit, x.pos.avail, x.pos.nexthdr] ++ x.tail.map (fun t => t.2.mask.toNat)
/-- Rewrite the second copy. -/
def Stream.sync (x : Stream) : Stream := { x with dup := x.dupVals.map dupVal }
/-- The two copies agree. -/
def Stream.agree (x : Stream) : Bool := x.dup.isEmpty || x.dup == x.dupVals.map dupVal
/-- Rewrite the anchor record (R384). -/
def Stream.fixAnchor (x : Stream) : Stream := { x with anchor := ⟨x.pos.end_, x.pos.rel, x.pos.limit, x.pos.nexthdr⟩ }

/-! ### Frames (R367 to R371) -/

/-- Round up to a multiple of 64. -/
def up64 (n : Nat) : Nat := (n + 63) / 64 * 64

/-- A tail line by position. -/
def Stream.tailAt (x : Stream) (pos : Nat) : Option TailLine := assocGet (pos / 64) x.tail
/-- A line has arrived: all its bytes were enabled (R360). -/
def Stream.arrived (x : Stream) (pos : Nat) : Bool := match x.tailAt pos with | some t => t.mask = fullMask | none => false
/-- LENGTH of a frame header in its line, none for a broken start (R369). -/
def hdrLen (t : TailLine) : Option Nat :=
  let b := lineBytes t.data
  let len := fieldLe b 4 4
  if t.poison || b.getD 0 0 != 0x46#8 || b.getD 1 0 != 0x48#8 || decide (len > 67108848) then none else some len

/-- Positions of frame starts at and above NEXTHDR whose header lines stand in the tail, with their ends; a broken start
reaches the next slot boundary. -/
def Stream.ahead (x : Stream) : Nat → Nat → List (Nat × Nat)
  | 0, _ => []
  | fuel + 1, p =>
    if x.arrived p then
      let e := match (x.tailAt p).bind hdrLen with
        | some len => p + up64 (16 + len)
        | none => (p / 4096 + 1) * 4096
      (p, e) :: x.ahead fuel e
    else []

/-- The frame that contains a position, as start and end, if its header has arrived. -/
def Stream.frameAt (x : Stream) (framed : Bool) (p : Nat) : Option (Nat × Nat) :=
  if !framed then some (p / 4096 * 4096, (p / 4096 + 1) * 4096)
  else
    let known := x.frames.map (fun f => (f.start, f.end_)) ++ x.ahead 8192 x.pos.nexthdr
    known.find? (fun f => f.1 ≤ p && p < f.2)

/-- The first position from `p` whose line has not arrived. -/
def Stream.contig (x : Stream) : Nat → Nat → Nat
  | 0, p => p
  | fuel + 1, p => if x.arrived p then x.contig fuel (p + 64) else p

/-- AVAIL (R371): END, or beyond it under cut-through. -/
def Stream.availOf (x : Stream) (framed : Bool) (cut : Nat) : Nat :=
  if !framed then x.pos.end_
  else
    let c := x.contig 8192 x.pos.end_
    let t := 256 * 2 ^ Nat.min cut 8
    let open_ := (x.frames.filter (fun f => f.start < x.pos.end_ && f.end_ > x.pos.end_)).map (fun f => (f.start, f.end_))
    let bad := (open_ ++ x.ahead 8192 x.pos.nexthdr).find? (fun f => f.1 < c && decide (c < f.1 + Nat.min t (f.2 - f.1)))
    Nat.max x.pos.end_ (match bad with | some f => Nat.min c f.1 | none => c)

/-- Record an event of a stream at most once in each second of ship's time (R357, R362, R388). -/
def Dev.oncePerSec (d : Dev) (s code : Nat) (ps : List Nat) : Dev :=
  let x := d.stm s
  let sec := d.time / 2147483648
  if assocGet code x.evAt = some sec then d
  else (d.setStm s { x with evAt := assocSet code sec x.evAt }).post { code := code, detail := strDetail s ps }

/-- Refresh AVAIL and the second copies; a rise of AVAIL while RPOS equalled its former value notifies DATA (Table 10.7). -/
def Dev.strSettle (d : Dev) (s : Nat) : Dev :=
  let x := d.stm s
  let old := x.pos.avail
  let av := x.availOf (d.on (STR_CTL.FRAMED s)) (d.inForce s STR_CTL.CUT)
  let d := d.setStm s { x with pos := { x.pos with avail := av } }.sync
  if old < av && x.pos.rpos = old then
    let d := { d with engines := d.engines.map (fun (e : Engine) => if e.wakeStream = s then { e with events := e.events ||| 1 } else e) }
    d.notify s 0 false true
  else d

/-- Take the frame starts of the slot that joins at END, stamping their headers (R368, R369). -/
def Dev.takeFrames (d : Dev) (s : Nat) : Nat → Dev
  | 0 => d
  | fuel + 1 =>
    let x := d.stm s
    let p := x.pos.nexthdr
    if p ≥ x.pos.end_ + 4096 then d
    else
      match x.tailAt p with
      | none => d
      | some t =>
        match hdrLen t with
        | some len =>
          let b := lineBytes t.data
          let line := lineOfBytes (b.take 8 ++ leBytes 8 d.time ++ b.drop 16)
          let t' : TailLine := { t with data := line, check := checkMove t.check t.data line }
          let e := p + up64 (16 + len)
          let x := { x with
            tail := assocSet (p / 64) t' x.tail, frames := x.frames ++ [⟨p, e, d.time, false⟩]
            pos := { x.pos with nexthdr := e } }
          (d.setStm s x).takeFrames s fuel
        | none =>
          let e := (p / 4096 + 1) * 4096
          let x := { x with frameErr := true, frames := x.frames ++ [⟨p, e, d.time, true⟩], pos := { x.pos with nexthdr := e } }
          let d := (d.setStm s x).post { code := 0x0A3, detail := strDetail s [p] }
          (d.notify s 6 false true).takeFrames s fuel

/-- Join complete slots strictly in order (R361); what was written to STR_CTL comes into force (R352). -/
def Dev.joinSlots (d : Dev) (s : Nat) : Nat → Dev
  | 0 => d
  | fuel + 1 =>
    let x := d.stm s
    let e := x.pos.end_
    if e / 4096 < x.pos.limit && (List.range 64).all (fun i => x.arrived (e + 64 * i)) then
      let d := if d.on (STR_CTL.FRAMED s) then d.takeFrames s 64
        else d.setStm s { x with frames := x.frames ++ [⟨e, e + 4096, d.time, false⟩] }
      let x := d.stm s
      let x := { x with pos := { x.pos with end_ := e + 4096 }, ctl := d.reg (0x8000 + 8 * s) }.fixAnchor
      ((d.setStm s x).tally 0x8D 0 1).joinSlots s fuel
    else d

/-! ### Credits (R364 to R366) -/

/-- Tail reservations held at a home. -/
def Dev.resvCount (d : Dev) (h : Nat) : Nat :=
  (d.str.ctx.map (fun x => if homeOfStream x.1 = h then x.2.resv.length else 0)).foldr (· + ·) 0

/-- The bound of R364 on LIMIT from the positions alone. -/
def Dev.limitBound (d : Dev) (s : Nat) : Nat :=
  let x := d.stm s
  Nat.min (x.pos.end_ / 4096 + Nat.min 127 (Nat.max 1 (d.inForce s STR_CTL.CREDMAX))) (x.floor / 4096 + 16 * x.depth)

/-- The open stream group was formed from last-berth segments (R205). (DEDUCED, log entry 113.) -/
def Dev.loanOpen (d : Dev) : Bool :=
  match d.openGroup 2 with
  | some g => g.members.any (fun m => (d.seg (8192 * m.1 + m.2)).berthLoan)
  | none => false

/-- The last berth can lend a segment of each live Point (R205): no share is empty, and BERTH_LOW keeps it to metadata no longer (R207). -/
def Dev.canLend (d : Dev) : Bool := !d.on WLV_CAP.BERTH_LOW && d.livePts.all (fun n => d.berthOf n != 0)

/-- A slot holds bytes of a protect window that is open or stands. -/
def Stream.protects (x : Stream) (q : Nat) : Bool :=
  x.windows.any (fun w => decide (w.pstart < 4096 * (q + 1)) && (match w.pend with | some e => decide (4096 * q < e) | none => true))

/-- The extent of a slot holds its units: a page of it is mapped, or on its way (R204). -/
def Dev.extentHeld (d : Dev) (x : Stream) (q : Nat) : Bool :=
  let pg := x.page (4096 * q)
  (List.range 16).any (fun i => d.occupies (pg / 16 * 16 + i) || d.imgs.any (fun y => y.why = 6 && y.pg = pg / 16 * 16 + i))

/-- The joined slots of a stream that stand whole in its tail. -/
def Stream.joined (x : Stream) : List Nat :=
  ((x.tail.map (fun t => t.1 / 64)).eraseDups).filter (fun q =>
    decide (4096 * (q + 1) ≤ x.pos.end_) && (List.range 64).all (fun i => (x.tailAt (4096 * q + 64 * i)).isSome))

/-- While ANCHORED, the allowance of a stream's home holds too little for an extent (R204). -/
def Dev.allowShort (d : Dev) (s : Nat) : Bool := d.f WLV_CAP.STATE == 3 && decide (d.f (WLV_ALLOW.ALLOW (homeOfStream s)) < 16 * d.copies)

/-- A spill of the stream waits in the queue tail (R204, R205): it can take no allowance, and its slot is not protected or the last berth can
lend nothing. -/
def Dev.spillWaits (d : Dev) (s : Nat) : Bool :=
  let x := d.stm s
  d.allowShort s && x.joined.any (fun q => !d.extentHeld x q && !(x.protects q && (d.loanOpen || d.canLend)))

/-- No rule withholds the stream's credits (R204, R207, FULL, PROTECT_FULL), and it is enabled and not FAILED. -/
def Dev.creditsOk (d : Dev) (s : Nat) : Bool :=
  let x := d.stm s
  d.mStream && d.on (STR_CTL.EN s) && x.valid && !x.failed && !x.protFull && !d.on WLV_CAP.BERTH_LOW && !d.spillWaits s

/-- LIMIT of a stream rises by one slot, taking a tail reservation (R364, R365). -/
def Dev.limitUp (d : Dev) (s : Nat) : Dev :=
  let x := d.stm s
  let credit := x.pos.limit - x.pos.end_ / 4096
  let x' := { x with resv := x.resv ++ [x.pos.limit], pos := { x.pos with limit := x.pos.limit + 1 } }.fixAnchor.sync
  let d := d.setStm s x'
  if credit = 0 then d.notify s 1 true false else d

/-- Streams of a home whose LIMIT may rise now, in rotation after `from_`. -/
def Dev.creditNext (d : Dev) (h from_ : Nat) : Option Nat :=
  let can (s : Nat) : Bool := homeOfStream s == h && d.creditsOk s && decide ((d.stm s).pos.limit < d.limitBound s)
  let l := d.str.ctx.map (·.1)
  match (l.filter (fun s => from_ < s)).find? can with
  | some s => some s
  | none => l.find? can

/-- Grant reservations at a home, one slot per stream per turn, while any is free (R365). -/
def Dev.raiseHome (d : Dev) (h : Nat) : Nat → Dev
  | 0 => d
  | fuel + 1 =>
    if d.resvCount h ≥ 64 then d
    else match d.creditNext h (d.str.rot.getD h 0) with
      | none => d
      | some s => ({ d with str := { d.str with rot := listSet d.str.rot h s } }.limitUp s).raiseHome h fuel

/-- FULL follows the depth term of R364 where RING does not reclaim (R388, last paragraph). -/
def Dev.setFull (d : Dev) (s : Nat) : Dev :=
  let x := d.stm s
  let stop := decide (x.pos.limit ≥ x.floor / 4096 + 16 * x.depth) && !(d.mRing && d.inForce s STR_CTL.RING = 1) && decide (0 < x.depth)
  let d := d.setStm s { x with full := stop }
  if stop && !x.full then d.notify s 5 true false else d

/-- CREDIT_RAISE: LIMIT rises to the greatest value that R364 allows. -/
def Dev.creditRaise (d : Dev) (s : Nat) : Dev := (d.raiseHome (homeOfStream s) 64).setFull s

/-! ### Freeing extents (R380) -/

/-- FLOOR has moved: extents it has passed are unmapped (R380), and frames below it forgotten. Pages in lent segments count in no
occupancy (R205). PROTECT_FULL ends (R387). -/
def Dev.floorMoved (d : Dev) (s old : Nat) : Dev :=
  let x := d.stm s
  let fl := x.floor
  let exts := (List.range (fl / 65536 - old / 65536)).map (fun i => old / 65536 + i)
  let d := exts.foldl (fun d e =>
    let pgs := (List.range 16).map (fun i => x.page (65536 * e + 4096 * i))
    let held := pgs.countP (fun p => match d.pageAt p 0 with | some b => !(d.seg (psaSeg (16 * b))).berthLoan | none => false)
    let d := pgs.foldl (fun d p => (d.unmapPage p).dropOverlay p) d
    if held = 0 then d
    else
      let d := d.occupy 0 (16 * d.copies)
      if d.mRing && d.inForce s STR_CTL.RING = 1 then d.allowGain (homeOfStream s) (16 * d.copies) else d) d
  d.modStm s (fun x => { x with frames := x.frames.filter (fun f => f.end_ > fl), protFull := x.protFull && decide (fl ≤ old) })

/-! ### Producer writes (R354 to R363) -/

/-- The slot that page `w` of the producer window addresses (R354). -/
def Stream.slotOf (x : Stream) (w : Nat) : Option Nat :=
  let e := x.pos.end_ / 4096
  let q := e + (127 + (w - 1) - e % 127) % 127
  if q < x.pos.limit then some q else none

/-- Whether agent `p` (0 W, 1 E, 2 engine or log-line) may produce on a stream (R357). -/
def Dev.mayProduce (d : Dev) (s p : Nat) : Bool :=
  let v := d.inForce s STR_CTL.PROD
  if p < 2 then v == 0 || v == p + 1 else v == 3

/-- Whether agent `p` may consume from a stream (R373). -/
def Dev.mayConsume (d : Dev) (s p : Nat) : Bool :=
  let v := d.inForce s STR_CTL.CONS
  if p < 2 then v == 0 || v == p + 1 else v == 3

/-- Complete a write on the link; an engine's needs no message. -/
def Dev.complete (d : Dev) (p tag : Nat) : Dev :=
  if p < 2 then d.send (.wrDone p tag)
  else if 4 ≤ p && p < 6 then (d.send (.mbox (p - 4) tag 0 [])).raise (p - 4) 0
  else d

/-- The 256 B granule of engine addresses at which device memory begins (Table 11.1). -/
def rsvDev : Nat := 0x100000000

/-- Clear the reservations that a write into a granule ends (R424). -/
def Dev.clearRsv (d : Dev) (line : Nat) : Dev :=
  { d with engines := d.engines.map (fun (e : Engine) => if e.rsv = some (rsvDev + line / 4) then { e with rsv := none } else e) }

/-- Gather a line into the open line log sector of a home with the completions that wait for it (R158, R363). -/
def Dev.gather (d : Dev) (h : Nat) (l : LogLine) (acks : List (Nat × Nat × Nat)) : Dev :=
  d.modHm h (fun x => { x with llog := x.llog ++ [l], llAcks := x.llAcks ++ acks })

/-- A line log holds a CSN of a home, or is on its way to media with it. -/
def Dev.logsCsn (d : Dev) (h csn : Nat) : Bool :=
  (d.hm h).llog.any (fun l => l.csn = csn) || d.lljobs.any (fun j => j.home = h && j.lines.any (fun l => l.csn = csn))

/-- Where HOLDUP has not covered them or covers them no longer, the lines of the tails that have arrived and that no line log holds go to the
line logs of their homes at their aperture addresses (R15, R363, R523). (DEDUCED, log entry 175.) -/
def Dev.logTails (d : Dev) : Dev :=
  d.str.ctx.foldl (fun d c => c.2.tail.foldl (fun d t =>
    let h := homeOfStream c.1
    let a := apLine c.1 (t.1 / 64) (t.1 % 64)
    if t.2.mask != fullMask || t.2.csn < t.2.first || d.logsCsn h t.2.csn then d
    else d.gather h ⟨t.2.csn, a, fullMask, t.2.data, d.time, termMove t.2.check (termStream (c.2.line (64 * t.1))) (termDev a), false⟩ []) d) d

/-- A producer write reaches its slot's line: bytes, arrival, joins, persistence (R360 to R363, R309); the line check of the tail line
follows its bytes at the line's stream term (R259, R264). -/
def Dev.tailWrite (d : Dev) (s q i p tag : Nat) (data : Line) (mask : Mask) (poison : Bool) : Dev :=
  let csn := d.nextCsn
  let d := if poison then d.markPoison ((d.stm s).line (4096 * q + 64 * i)) 0 else d
  let d := d.takeCsn.modHm (homeOfStream s) (fun h => { h with newest := csn, accepted := if d.mHoldup then h.accepted else h.accepted ++ [csn] })
  let pos := 4096 * q + 64 * i
  let x := d.stm s
  let term := termStream (x.line pos)
  let t := (x.tailAt pos).getD { check := lineCheck 0 term, first := csn }
  let m := t.mask ||| mask
  let v := if poison then t.data else mergeLine t.data data mask
  let t' : TailLine := { t with
    data := v, mask := m, csn := csn, poison := poison || (t.poison && mask != fullMask), check := checkMove t.check t.data v
    first := if t.csn < t.first then csn else t.first }
  let key := pos / 64
  let d := if d.mHoldup then (d.setStm s { x with tail := assocSet key t' x.tail }).complete p tag
    else if m = fullMask then
      let d := d.setStm s { x with tail := assocSet key { t' with acks := [] } x.tail }
      let l : LogLine := ⟨csn, apLine s q i, fullMask, t'.data, d.time, termMove t'.check term (termDev (apLine s q i)), false⟩
      d.gather (homeOfStream s) l (t.acks ++ [(p, tag, csn)])
    else d.setStm s { x with tail := assocSet key { t' with acks := t.acks ++ [(p, tag, csn)] } x.tail }
  ((d.clearRsv (apLine s q i)).joinSlots s 128).strSettle s

/-- A write to the producer window (R354, R357, R362, R386). -/
def Dev.producerWrite (d : Dev) (s w i p tag : Nat) (data : Line) (mask : Mask) (poison : Bool) : Dev :=
  let x := d.stm s
  if x.failed then d.complete p tag
  else if !d.mayProduce s p then (d.complete p tag).oncePerSec s 0x0A9 []
  else
    match x.slotOf w with
    | some q =>
      if (List.range 64).all (fun j => x.arrived (4096 * q + 64 * j)) then
        ((d.setStm s { x with violations := satAdd 32 x.violations 1 }).complete p tag).oncePerSec s 0x0A1 [x.pos.end_, x.pos.limit]
      else d.tailWrite s q i p tag data mask poison
    | none => ((d.setStm s { x with violations := satAdd 32 x.violations 1 }).complete p tag).oncePerSec s 0x0A1 [x.pos.end_, x.pos.limit]

/-! ### Queue reset (R385, R386, R399) -/

/-- The positions of a stream in the newest complete checkpoint. -/
def Dev.savedPos (d : Dev) (s : Nat) : Pos := ((d.ckpts.head?.bind (fun c => assocGet s c.ctx)).map (·.pos)).getD {}

/-- The positions whose lines the head holds: from RPOS up to RPOS + 1 KiB, below AVAIL (R376). -/
def Stream.refill (x : Stream) : Stream := { x with head := ((List.range 16).map (fun i => x.pos.rpos + 64 * i)).filter (· < x.pos.avail) }

/-- Rebuild AVAIL and the head, and report a queue reset that replaced the positions `old` (R385, steps 3 and 4). -/
def Dev.resetDone (d : Dev) (s : Nat) (old : Pos) : Dev :=
  let d := (d.strSettle s).modStm s Stream.refill
  (d.post { code := 0x0A2, detail := strDetail s [old.end_, old.rel, old.limit] }).notify s 2 true true

/-- END as R399 sets it: the first slot, at or above the checkpointed END, whose page is neither installed nor complete. -/
def Dev.restEnd (d : Dev) (x : Stream) : Nat → Nat → Nat
  | 0, e => e
  | fuel + 1, e =>
    if (d.pageAt (x.page e) 0).isSome || (List.range 64).all (fun i => x.arrived (e + 64 * i)) then d.restEnd x fuel (e + 4096) else e

/-- A queue reset of a stream (R385), or the restoring of a FAILED one from the checkpoint (R386). -/
def Dev.queueReset (d : Dev) (s : Nat) : Dev :=
  let x := d.stm s
  let old := x.pos
  if x.failed then
    let a := d.savedPos s
    let e := d.restEnd x (16 * x.depth + 128) a.end_
    let hdr := (x.frames.filter (fun f => f.start < e)).foldl (fun m f => Nat.max m f.end_) a.nexthdr
    let x' := { x with
      pos := { a with end_ := e, limit := Nat.max a.limit (e / 4096), avail := e, nexthdr := hdr }
      tail := x.tail.filter (fun t => decide (64 * t.1 < e)), failed := false, anchorOk := true, resets := satAdd 32 x.resets 1 }
    (d.setStm s x'.fixAnchor).resetDone s old
  else if !x.anchorOk then
    ((d.setStm s { x with failed := true }).post { code := 0x0A8, detail := strDetail s [] }).notify s 2 true true
  else
    let a := x.anchor
    let x' := { x with
      pos := { end_ := a.end_, rel := a.rel, rpos := a.rel, mark := none, limit := a.limit, avail := a.end_, nexthdr := a.nexthdr }
      tail := x.tail.filter (fun t => decide (64 * t.1 < a.end_)), resets := satAdd 32 x.resets 1
      windows := x.windows.map (fun w => { w with pend := w.pend.map (fun p => if w.sealNo.isNone then Nat.min p a.end_ else p) })
      frames := x.frames.filter (fun f => f.start < a.end_) }
    (d.setStm s x').resetDone s old

/-! ### Consumer operations (R372, R373) -/

/-- One operation of Table 10.5 on the positions: result code and new context. -/
def Stream.oper (x : Stream) (framed : Bool) (op arg : Nat) : Nat × Stream :=
  let p := x.pos
  if op = 1 then
    if arg % 64 != 0 then (1, x)
    else if arg = 0 then
      let e := match x.frameAt framed p.rpos with | some f => f.2 | none => p.avail
      (0, { x with pos := { p with rpos := Nat.min e p.avail } })
    else (0, { x with pos := { p with rpos := Nat.min (p.rpos + arg) p.avail } })
  else if op = 2 then (0, { x with pos := { p with mark := some p.rpos } })
  else if op = 3 then
    match p.mark with
    | none => (2, x)
    | some m => (0, { x with pos := { p with rpos := m } })
  else if op = 4 then
    let t := if arg = 0 then Nat.min p.rpos p.end_ else arg
    if arg % 64 != 0 || t > p.rpos || t > p.end_ then (1, x)
    else if p.rel < t then
      (0, { x with pos := { p with rel := t, mark := match p.mark with | some m => if m < t then none else some m | none => none } }.fixAnchor)
    else (0, x)
  else if op = 5 then
    if !framed then (5, x)
    else match x.frameAt true p.rpos with
      | none => (4, x)
      | some f => (0, { x with pos := { p with rpos := f.2 } })
  else (1, x)

/-- Perform an operation on a stream for agent `who` (0 W, 1 E, 2 engine): permission, disabled and FAILED streams, the
pointer comparison, the operation, its record in the OP line (R372, R373, R383). -/
def Dev.strOp (d : Dev) (s who op arg : Nat) : Nat × Dev :=
  let x := d.stm s
  let old := x.floor
  let (r, d) :=
    if !d.on (STR_CTL.EN s) then (6, d)
    else if !d.mayConsume s who then (3, d)
    else if x.failed && op != 6 then (6, d)
    else if !x.agree then (6, d.queueReset s)
    else if op = 6 then (0, d.queueReset s)
    else
      let (r, y) := x.oper (d.on (STR_CTL.FRAMED s)) op arg
      (r, (d.setStm s { y with overrun := false, frameErr := false }.sync).floorMoved s old)
  let d := d.modStm s (fun x => { x with
    opCode := op, opRes := r, opCount := satAdd 32 x.opCount (if r = 0 then 1 else 0), opPos := [x.pos.rpos, x.pos.rel, x.pos.mark.getD allOnes64] })
  (r, d)

/-! ### Reading stream bytes (R355, R356, R376, R382) -/

/-- An uncorrectable byte of a head or tail line of a stream (R270): the line is delivered as poison, with event 0x088. -/
def Dev.queueUe (d : Dev) (s pos : Nat) : Dev :=
  let x := d.stm s
  if (x.tailAt pos).isNone && !x.head.contains pos then d
  else
    let d := d.setStm s { x with
      head := x.head.filter (· != pos)
      tail := x.tail.map (fun (t : Nat × TailLine) => if t.1 = pos / 64 then (t.1, { t.2 with poison := true }) else t) }
    let d := (d.cnt SCR_ECC.BYTE_UE).post { code := 0x088, addr := 64 * apLine s (pos / 4096) (pos % 4096 / 64), sev := 2 }
    if (x.tailAt pos).isNone then d.markPoison (x.line pos) 2 else d

/-- Read the line of a stream at a position: from the tail, or from its spilled page. None is poison, listed and announced (R40). -/
def Dev.strLine (d : Dev) (s pos : Nat) (ev : RdEnv) : Option Line × Dev :=
  let x := d.stm s
  let d := if ev.ue then d.queueUe s pos else d
  match (d.stm s).tailAt pos with
  | some t => if t.poison then (none, d.poisonOut (x.line pos)) else (some t.data, d)
  | none =>
    if d.poisoned (x.line pos) then (none, d.poisonOut (x.line pos))
    else
      let (g, d, _) := d.mediaLine (x.line pos) true ev
      match g with
      | .data v => (some v.1, d)
      | .poison => (none, d.poisonOut (x.line pos))

/-- The consumer-window slot of page `w` (R355). -/
def Stream.readSlot (x : Stream) (w : Nat) : Nat :=
  let r := x.pos.rpos / 4096
  r + (127 + (w - 1) - r % 127) % 127

/-- The 64 bytes of the CREDIT line (Table 10.2). -/
def Dev.creditLine (d : Dev) (s : Nat) : List (BitVec 8) :=
  let x := d.stm s
  let q := x.pos.end_ / 4096
  let missing := (List.range 64).foldl (fun m i => if x.arrived (4096 * q + 64 * i) then m else m ||| 2 ^ i) 0
  padTo 64 (leBytes 8 x.pos.limit ++ leBytes 8 x.pos.end_ ++ leBytes 8 missing ++ leBytes 4 x.resets ++ leBytes 4 (x.pos.limit - q) ++
    leBytes 4 x.violations ++
    leBytes 1 (b2n x.full + 2 * b2n x.protFull + 4 * b2n (d.f WLV_CAP.STATE == 3) + 8 * b2n x.failed))

/-- The 64 bytes of the TRIGGER line (Table 10.2). -/
def Stream.trigLine (x : Stream) : List (BitVec 8) := padTo 64 (leBytes 8 x.lastTrig.1 ++ leBytes 1 x.lastTrig.2)

/-- The 64 bytes of the STATUS line (Table 10.3). -/
def Dev.statusLine (d : Dev) (s : Nat) : List (BitVec 8) :=
  let x := d.stm s
  let fs := match x.frameAt (d.on (STR_CTL.FRAMED s)) x.pos.rpos with | some f => f.1 | none => allOnes64
  padTo 64 (leBytes 8 x.pos.rel ++ leBytes 8 x.pos.rpos ++ leBytes 8 (x.pos.mark.getD allOnes64) ++ leBytes 8 x.pos.end_ ++
    leBytes 8 x.pos.avail ++ leBytes 8 fs ++ leBytes 8 x.reclaimed ++ leBytes 4 x.resets ++
    leBytes 1 (b2n x.overrun + 2 * b2n x.frameErr + 4 * b2n x.failed))

/-- The 64 bytes of the OP line (Table 10.3). -/
def Stream.opLine (x : Stream) : List (BitVec 8) :=
  padTo 64 (leBytes 1 x.opCode ++ leBytes 1 x.opRes ++ [0, 0] ++ leBytes 4 x.opCount ++ (x.opPos.map (leBytes 8)).flatten)

/-- A read inside the aperture of an enabled stream: none is poison without a poison-list entry (R355, R356). -/
def Dev.apRead (d : Dev) (s off : Nat) (ev : RdEnv) : Option Line × Dev :=
  let x := d.stm s
  let pg := off / 4096
  let i := off % 4096 / 64
  if pg = 0 then (some (lineOfBytes (if i = 0 then d.creditLine s else if i = 1 then x.trigLine else [])), d)
  else if pg < 128 then
    (match x.slotOf pg with
      | some q => (some (match x.tailAt (4096 * q + 64 * i) with | some t => t.data &&& BitVec.ofNat 512 (maskBits t.mask 64) | none => 0), d)
      | none => (some 0, d))
  else if pg = 128 then (some (lineOfBytes (if i = 0 then d.statusLine s else if i = 1 then x.opLine else [])), d)
  else
    let pos := 4096 * x.readSlot (pg - 128) + 64 * i
    if x.failed || pos ≥ x.pos.avail then (none, d.tally 0x88 0 1)
    else d.strLine s pos ev

/-- A write inside the aperture of an enabled stream by agent `p` (R354, R356, R357, R372, R389). Every write completes. Bytes of the trigger
time that a write does not enable count as zero. (DESIGN CHOICE, log entry 174.) -/
def Dev.apWrite (d : Dev) (s off p tag : Nat) (data : Line) (mask : Mask) (poison : Bool) : Dev :=
  let pg := off / 4096
  let i := off % 4096 / 64
  if pg = 0 then
    if i = 1 && !poison then
      if !d.mayProduce s p then (d.complete p tag).oncePerSec s 0x0A9 []
      else (d.takeCsn.trigger s (fieldLe (lineBytes (mergeLine 0 data mask)) 0 8) true).2.complete p tag
    else d.complete p tag
  else if pg < 128 then d.producerWrite s pg i p tag data mask poison
  else if pg = 128 && i = 1 && mask.toNat % 65536 = 65535 && !poison then
    ((d.takeCsn.strOp s p (fieldLe (lineBytes data) 0 1) (fieldLe (lineBytes data) 8 8)).2).complete p tag
  else d.complete p tag

/-- PEND of a window at its end `t`: the end of the newest frame stamped before it, or PSTART (R393). -/
def Stream.pendAt (x : Stream) (w : Window) : Nat :=
  (x.frames.filter (fun f => f.stamp < w.t1)).foldl (fun m f => Nat.max m f.end_) w.pstart

/-! ### RING (R387, R388) -/

/-- The start of the first frame above a position, from the frames known; the next slot where streams are unframed. -/
def Stream.nextFrame (x : Stream) (p : Nat) : Option Nat :=
  (x.frames.filter (fun f => f.start ≤ p && p < f.end_)).head?.map (·.end_)

/-- Advance REL over whole oldest unprotected frames while more slots are needed (R387). -/
def Stream.reclaim (x : Stream) (need : Nat) : Nat → Stream
  | 0 => x
  | fuel + 1 =>
    if x.floor / 4096 + 16 * x.depth ≥ need then x
    else
      match x.nextFrame x.pos.rel with
      | none => x
      | some e =>
        let stop := x.windows.any (fun w => x.pos.rel ≤ w.pstart && w.pstart < e)
        if e > x.pos.end_ || stop then x
        else ({ x with pos := { x.pos with rel := e } }).reclaim need fuel

/-- Whether RING reclaims on a stream now (R387): the depth term is within CREDMAX, or a spill waits for allowance. -/
def Dev.ringNeeds (d : Dev) (s : Nat) : Bool :=
  let x := d.stm s
  let cm := Nat.max 1 (d.inForce s STR_CTL.CREDMAX)
  d.mRing && d.inForce s STR_CTL.RING = 1 && d.on (STR_CTL.EN s) && !x.failed &&
    (decide (x.floor / 4096 + 16 * x.depth < x.pos.limit + cm) || d.spillWaits s)

/-- RING_RECLAIM (R387, R388): where it can free no slot it reclaims nothing. For a spill that waits, up to the next extent, whose page slots then go to its home's allowance (R204). -/
def Dev.ringReclaim (d : Dev) (s : Nat) : Dev :=
  if !d.ringNeeds s then d
  else
    let x := d.stm s
    let old := x.floor
    let need := x.pos.limit + Nat.max 1 (d.inForce s STR_CTL.CREDMAX)
    let need := if d.spillWaits s then Nat.max need (16 * (x.floor / 65536 + 1) + 16 * x.depth) else need
    let y := x.reclaim need 4096
    if y.floor / 4096 = old / 4096 then
      let d := d.setStm s { x with protFull := true }
      if x.protFull then d else d.notify s 5 true false
    else
      let passed := decide (y.pos.rpos < y.pos.rel)
      let z := if passed then
          { y with reclaimed := satAdd 64 y.reclaimed (y.pos.rel - y.pos.rpos), overrun := true,
                   pos := { y.pos with rpos := y.pos.rel, mark := match y.pos.mark with | some m => if m < y.pos.rel then none else some m | none => none } }
        else y
      let d := (d.setStm s { z with protFull := false }.fixAnchor.sync).floorMoved s old
      let d := if passed then (d.notify s 3 false true).oncePerSec s 0x0A4 [x.pos.rpos, y.pos.rel] else d
      d.creditRaise s

end Sys2Proof.Machine
end

