-- ==== Sys2Proof/Machine/LogFrames.lean ====
section
/-! DEFINITION. The log-line writer: its channels, records and frames (chapter 18). -/

namespace Sys2Proof.Machine

/-- The channel register that the frame under construction goes by (R650). -/
def Dev.llCh (d : Dev) (i : Nat) : Nat :=
  match d.ll.cfg with
  | [] => d.reg (0xA40 + 8 * i)
  | l => l.getD i 0

/-- A field of a channel's register in force. -/
def Dev.llF (d : Dev) (i : Nat) (x : Fld) : Nat := bits (d.llCh i) x.lo x.w

/-- A one-bit field of a channel's register in force. -/
def Dev.llOn (d : Dev) (i : Nat) (x : Fld) : Bool := d.llF i x != 0

/-- A write to LLN_CH while MODE_EFF.LOGLINE is 1 takes effect at the next frame (R650): the frame under construction keeps the values that
stood before; `old` is that of the register written. -/
def Dev.llKeep (d : Dev) (off old : Nat) : Dev :=
  if d.mLogline && d.ll.cfg.isEmpty && !(d.ll.recs.isEmpty && d.ll.smp.all (fun x => x.1.isEmpty)) then
    { d with ll := { d.ll with cfg := (List.range 8).map (fun j => if 0xA40 + 8 * j = off then old else d.reg (0xA40 + 8 * j)) } }
  else d

/-- The writer is recording (R644). -/
def Dev.llRecording (d : Dev) : Bool := d.mLogline && !d.on LLN_STAT.NOSTREAM && !d.ll.checkDue

/-- LLN_STAT.ACTIVE: the channels that record. -/
def Dev.llActive (d : Dev) : Nat :=
  if d.llRecording then
    (List.range 8).foldl (fun m i =>
      if d.llOn i (LLN_CH.EN 0) && (d.llOn i (LLN_CH.SAMPLE 0) || d.llOn i (LLN_CH.EDGE 0)) then m + 2 ^ i else m) 0
  else 0

/-- The 4,096 bytes of a frame (R645): header under R367 with Type 4Ch, LENGTH 4,080 and stamp zero, then 255 records, PAD where it was
closed by time, which bit 0 of Flags says. -/
def llFrame (recs : List (List (BitVec 8))) (timed : Bool) : List (BitVec 8) :=
  padTo 4096 ([0x46#8, 0x48#8, 0x4C#8] ++ leBytes 1 (b2n timed) ++ leBytes 4 4080 ++ leBytes 8 0 ++ recs.flatten)

/-- A SAMPLE record (Table 18.5) of up to four samples. -/
def sampleRec (i from_ : Nat) (smp : List Nat) : List (BitVec 8) :=
  [1#8] ++ leBytes 1 (i + if smp.length < 4 then 128 else 0) ++ leBytes 6 from_ ++ (List.range 4).flatMap (fun k => leBytes 2 (smp.getD k 0))

/-- An EDGE record (Table 18.5). -/
def edgeRec (i : Nat) (level trig : Bool) (code stamp : Nat) : List (BitVec 8) :=
  [2#8] ++ leBytes 1 i ++ leBytes 1 (b2n level) ++ leBytes 1 (b2n trig) ++ leBytes 2 code ++ leBytes 2 0 ++ leBytes 8 stamp

/-- A GAP record (Table 18.5). -/
def gapRec (mask n from_ : Nat) : List (BitVec 8) := [3#8] ++ leBytes 1 mask ++ leBytes 2 0 ++ leBytes 4 n ++ leBytes 8 from_

/-- The log-line stream takes a frame now: it is enabled for the writer, and has credit for its next slot. -/
def Dev.llCredit (d : Dev) : Bool :=
  let s := d.f LLN_CTL.STREAM
  let x := d.stm s
  d.on (STR_CTL.EN s) && !x.failed && d.mayProduce s 2 && decide (x.pos.end_ / 4096 < x.pos.limit)

/-- Write the frames that wait into the stream as producer, 64 lines each, while it has credit (R645, R646). (DEDUCED, log entry 149.) -/
def Dev.llSend (d : Dev) : Nat → Dev
  | 0 => d
  | fuel + 1 =>
    match d.ll.queue with
    | [] => d
    | f :: rest =>
      if !d.llCredit then d
      else
        let s := d.f LLN_CTL.STREAM
        let w := 1 + (d.stm s).pos.end_ / 4096 % 127
        let d : Dev := { d with ll := { d.ll with queue := rest } }
        ((List.range 64).foldl (fun d i => d.producerWrite s w i 2 0 (lineOfBytes ((f.drop (64 * i)).take 64)) fullMask false) d).llSend fuel

/-- A record has room (R646): in the frame under construction, or in one of the 16 frames held. -/
def Dev.llRoom (d : Dev) : Bool := !d.ll.recs.isEmpty || decide (d.ll.queue.length < 16)

/-- Close the frame under construction (R645) and write what the stream takes. -/
def Dev.llClose (d : Dev) (timed : Bool) : Dev :=
  ({ d with ll := { d.ll with queue := d.ll.queue ++ [llFrame d.ll.recs timed], recs := [], cfg := [] } } : Dev).llSend 16

/-- Place a record that has room; the 255th closes its frame. -/
def Dev.llPut (d : Dev) (r : List (BitVec 8)) : Dev :=
  let d : Dev := { d with ll := { d.ll with recs := d.ll.recs ++ [r], frameFrom := if d.ll.recs.isEmpty then d.time else d.ll.frameFrom } }
  if 255 ≤ d.ll.recs.length then d.llClose false else d

/-- When room has returned, one GAP record goes before any other, and OVERRUN is set (R646). -/
def Dev.llGap (d : Dev) : Dev :=
  if d.ll.gapLost = 0 || !d.llRoom then d
  else
    let r := gapRec d.ll.gapMask d.ll.gapLost d.ll.gapFrom
    (({ d with ll := { d.ll with gapMask := 0, gapLost := 0, gapFrom := 0 } } : Dev).llPut r).setF LLN_STAT.OVERRUN 1

/-- A record of channel `i` is complete: placed, or lost and counted where it has no room (R646). `n` samples, or an edge. -/
def Dev.llPlace (d : Dev) (i n : Nat) (edge : Bool) (r : List (BitVec 8)) : Dev :=
  let d := (d.llSend 16).llGap
  if d.llRoom then d.llPut r
  else
    let d := d.cnt (if edge then LLN_DROP.EDGES else LLN_DROP.SAMPLES) n
    { d with ll := { d.ll with
        gapFrom := if d.ll.gapLost = 0 then d.time else d.ll.gapFrom
        gapMask := Nat.lor d.ll.gapMask (2 ^ i), gapLost := d.ll.gapLost + n } }

/-- The frame under construction closes by time (R645): the SAMPLE records that are not full are placed in it. -/
def Dev.llTimeout (d : Dev) : Dev :=
  let open_ := ((d.ll.smp.zipIdx.filter (fun x => !x.1.1.isEmpty)).map (fun x => (x.2, x.1))).take (255 - d.ll.recs.length)
  let d : Dev := { d with ll := { d.ll with
    recs := d.ll.recs ++ open_.map (fun x => sampleRec x.1 x.2.2 x.2.1)
    smp := d.ll.smp.zipIdx.map (fun x => if open_.any (fun y => y.1 == x.2) then ([], 0) else x.1) } }
  d.llClose true

/-- An edge of channel `i` with its stamp is recorded (R643, R645), and triggers a window where TRIG is set (R647). -/
def Dev.llEdgeAt (d : Dev) (i : Nat) (level : Bool) (stamp code : Nat) : Dev :=
  if !d.llRecording then d
  else
    let trig := d.llOn i (LLN_CH.TRIG 0)
    let (res, d) := if trig then d.trigger (d.f LLN_CTL.STREAM) stamp false else (2, d)
    d.llPlace i 1 true (edgeRec i level (trig && res != 2) code stamp)

/-- The records of edges found in Doze are placed on the return to Active (R648). -/
def Dev.llReturn (d : Dev) : Dev :=
  d.ll.dozeEdges.foldl (fun d x => d.llEdgeAt x.1 x.2.1 x.2.2.1 x.2.2.2) { d with ll := { d.ll with dozeEdges := [] } }

end Sys2Proof.Machine
end

