-- ==== Sys2Proof/Machine/Logbook.lean ====
section
/-! DEFINITION. Writes to the Logbook, and the counters it keeps (chapter 17). -/

namespace Sys2Proof.Machine

/-- One past the last page of the Logbook area that holds a page (Table 17.10). -/
def lbkAreaEnd (page : Nat) : Nat :=
  ([512, 1024, 1536, 2560, 2688, 2704, 2720, 3744, 4095, 4096].find? (fun e => page < e)).getD 4096

/-- Page segments of a write of `n` bytes at `addr` (R619). (DEDUCED, log entry 31.) -/
def lbkSegments (addr n : Nat) : Nat := if n = 0 then 0 else (addr + n - 1) / 256 - addr / 256 + 1

/-- A write of consecutive Logbook bytes (R619, R620): refused with event 0x112 when VSYS is below 8.0 V or WCAP below 3.2 V,
and not started when it would pass the last page of its area. The Bool says that it was written.
(DESIGN CHOICE, log entry 145; DEDUCED, log entry 178.) -/
def Dev.lbkWrite (d : Dev) (addr : Nat) (bs : List (BitVec 8)) : Bool × Dev :=
  if addr + bs.length > 256 * lbkAreaEnd (addr / 256) then (false, d)
  else if d.pwr.vsys < 8000 || d.pwr.wcap < 3200 then (false, (d.cnt LBK_STAT.REFUSED).post0 0x112)
  else
    let n := lbkSegments addr bs.length
    (true, ({ d with lbk := memWrite d.lbk addr bs }.cnt LBK_WRITES.PAGES n).tally 0x8B 0 n)

/-- Byte address of the counters area (page 2,704). -/
def lbkCounters : Nat := 2704 * 256

/-- The value of a counter of the counters area (Table 17.11): its offset and number of cells. -/
def Dev.lbkCounter (d : Dev) (off n : Nat) : Nat := ofLe (memRead d.lbk (lbkCounters + off) n)

/-- The highest cell in which two values of `n` cells differ. -/
def topCell (old new : Nat) : Nat → Nat
  | 0 => 0
  | n + 1 => if old / 256 ^ n % 256 = new / 256 ^ n % 256 then topCell old new n else n

/-- The bytes of an intent cell before its state is cleared (R622). -/
def intentBytes (k v : Nat) : List (BitVec 8) :=
  let b := [0xA5#8] ++ leBytes 1 k
  b ++ leBytes 2 (crc16Link (b ++ leBytes 8 v)) ++ leBytes 8 v ++ List.replicate 4 0

/-- Complete a counter's intent before a use of the counter (R624). -/
def Dev.lbkIntent (d : Dev) (off n : Nat) : Dev :=
  let base := lbkCounters + off
  let b := memRead d.lbk (base + 16) 12
  let k := fieldLe b 1 1
  if b.getD 0 0 = 0xA5#8 && decide (k < n) && decide (crc16Link (b.take 2 ++ b.drop 4) = fieldLe b 2 2) then
    let (ok, d) := d.lbkWrite base (leBytes (k + 1) (fieldLe b 4 8))
    if !ok then d
    else
      let (ok, d) := d.lbkWrite (base + 16) [0#8]
      if ok then (d.cnt LBK_STAT.INTENTS).post0 0x113 else d
  else d

/-- Write a counter by the protocol of R623: cell 0 alone, or intent, lower cells, cell k, intent cleared. -/
def Dev.lbkSetCounter (d : Dev) (off n v : Nat) : Dev :=
  let d := d.lbkIntent off n
  let old := d.lbkCounter off n
  let base := lbkCounters + off
  let k := topCell old v n
  if k = 0 then (d.lbkWrite base (leBytes 1 v)).2
  else
    let (ok, d) := d.lbkWrite (base + 16) (intentBytes k v)
    if !ok then d
    else
      let (ok, d) := d.lbkWrite base (leBytes k v)
      if !ok then d
      else
        let (ok, d) := d.lbkWrite (base + k) (leBytes 1 (v / 256 ^ k))
        if !ok then d else (d.lbkWrite (base + 16) [0#8]).2

/-- The Dirty Shutdown Count rises by one (R17, R20, R307), with its Memory Module Event record (R315). -/
def Dev.dirtyShutdown (d : Dev) : Dev :=
  let n := (d.f DEV_DSC.COUNT + 1) % 2 ^ 32
  ((d.setF DEV_DSC.COUNT n).lbkSetCounter 64 4 n).logBoth 1 (.memModule 0x20 d.hostTime)

/-- Write the next CSN and the power-cycle count that R251 asks for (Table 17.11). -/
def Dev.lbkCsn (d : Dev) : Dev :=
  let b := leBytes 8 d.nextCsn ++ leBytes 4 d.cycle
  (d.lbkWrite (lbkCounters + 256) (b ++ leBytes 4 (crc32c b))).2

/-- The CSN of R251 that the Logbook holds, with its cycle and whether its CRC holds. -/
def Dev.lbkCsnRead (d : Dev) : Nat × Nat × Bool :=
  let b := memRead d.lbk (lbkCounters + 256) 16
  (fieldLe b 0 8, fieldLe b 8 4, decide (crc32c (b.take 12) = fieldLe b 12 4))

/-! ### The power log (R537 to R539) -/

/-- Byte address of the pair of a power-log sequence number: pages 2,560 to 2,687. -/
def powerAddr (seq : Nat) : Nat := (2560 + seq % 128) * 256

/-- A power-log record of 128 bytes (Table 14.10). -/
def Dev.powerRec (d : Dev) (kind seq : Nat) (body : List (BitVec 8)) : List (BitVec 8) :=
  let b := [0x50#8, 0x57#8] ++ leBytes 1 kind ++ [0#8] ++ leBytes 4 seq ++ leBytes 4 d.cycle ++ leBytes 5 d.opSec ++
    List.replicate 3 0 ++ leBytes 8 d.time ++ padTo 96 body
  b ++ leBytes 4 (crc32c b)

/-- A power-log record passes its check. -/
def powerOk (b : List (BitVec 8)) : Bool := decide (fieldLe b 0 2 = 0x5750) && decide (crc32c (b.take 124) = fieldLe b 124 4)

/-- A pair at read-out (R538): the record taken, or whether it is torn. -/
def Dev.powerPair (d : Dev) (i : Nat) : Option (List (BitVec 8)) × Bool :=
  let a := memRead d.lbk (powerAddr i) 128
  let b := memRead d.lbk (powerAddr i + 128) 128
  if powerOk a && powerOk b && a == b then (some a, false)
  else if powerOk a && !powerOk b then (some a, false)
  else if powerOk b && !powerOk a then (some b, false)
  else (none, !(a.all (· == 0) && b.all (· == 0)))

/-- The newest power-log record: the valid one with the highest sequence (R538). -/
def Dev.powerNewest (d : Dev) : Option (List (BitVec 8)) :=
  (List.range 128).foldl (fun (acc : Option (List (BitVec 8))) i =>
    match (d.powerPair i).1, acc with
    | some r, some a => if fieldLe a 4 4 < fieldLe r 4 4 then some r else acc
    | some r, none => some r
    | none, _ => acc) none

/-- Pairs that read-out finds torn. -/
def Dev.powerTorn (d : Dev) : Nat := (List.range 128).countP (fun i => (d.powerPair i).2)

/-- Write a power-log record as a pair (R537). -/
def Dev.powerWrite (d : Dev) (kind : Nat) (body : List (BitVec 8)) : Dev :=
  let r := d.powerRec kind d.pwr.plNext body
  let (ok, d) := d.lbkWrite (powerAddr d.pwr.plNext) (r ++ r)
  if ok then { d with pwr := { d.pwr with plNext := d.pwr.plNext + 1 } } else d

end Sys2Proof.Machine
end

