-- ==== Sys2Proof/Machine/Records.lean ====
section
/-! DEFINITION. The bytes of event records, deck-log records and CXL event records; the flush of the deck log (chapters 09
and 17). -/

namespace Sys2Proof.Machine

/-- The 80 bytes of an event record body (Table 9.3). -/
def Ev.bytes (e : Ev) : List (BitVec 8) :=
  leBytes 2 e.code ++ leBytes 1 e.level ++ leBytes 1 e.point ++ leBytes 1 e.cell ++ leBytes 1 e.flags ++ leBytes 2 0 ++ leBytes 8 e.addr ++
    leBytes 8 e.csn ++ leBytes 8 e.time ++ leBytes 8 e.fix ++ leBytes 5 e.opSec ++ leBytes 3 0 ++ leBytes 4 e.cycle ++ padTo 28 e.detail

/-- The bytes of a deck-log record (R608, Table 17.5). -/
def DeckRec.bytes (r : DeckRec) : List (BitVec 8) :=
  let hd (kind no cause snaps cycle opSec time : Nat) : List (BitVec 8) :=
    [0x44#8, 0x4C#8] ++ leBytes 1 kind ++ leBytes 1 (r.size / 16) ++ leBytes 4 no ++ leBytes 2 cause ++ leBytes 1 snaps ++ [0#8] ++
      leBytes 4 cycle ++ leBytes 5 opSec ++ leBytes 3 0 ++ leBytes 8 time
  let b := match r with
    | .event e => hd 1 e.fix e.code 0 e.cycle e.opSec e.time ++ e.bytes
    | .fix num src csn opSec cycle time snaps => hd 2 num src snaps.length cycle opSec time ++ leBytes 8 csn ++ snaps.flatMap (leBytes 8)
    | .lost n opSec cycle time no => hd 3 no 0 0 cycle opSec time ++ leBytes 4 n
  padTo r.size (b ++ leBytes 4 (crc32c b))

/-- Byte address of the deck-log area: pages 1,536 to 2,559. -/
def deckArea : Nat := 1536 * 256

/-- The leading records that end within `room` bytes, and the rest. -/
def fitRecs (room : Nat) : List DeckRec → List DeckRec × List DeckRec
  | [] => ([], [])
  | r :: t => if r.size ≤ room then (let (a, b) := fitRecs (room - r.size) t; (r :: a, b)) else ([], r :: t)

/-- The deck log is full (R611): FULL set, vector 6, event 0x110. -/
def Dev.deckFull (d : Dev) : Dev := ((d.setF DECK_STAT.FULL 1).raiseAll 6).post0 0x110

/-- Flush the deck-log buffer to the Logbook deck area (R610, R611). Records that PTR could not count stay for the next flush. -/
def Dev.deckFlush (d : Dev) : Dev :=
  if d.deck.buf.isEmpty || d.on DECK_STAT.FULL then d
  else
    let ptr := d.f DECK_STAT.PTR
    let (now, rest) := fitRecs (262144 - 16 * ptr) d.deck.buf
    let (ok, d) := if now.isEmpty then (true, d) else d.lbkWrite (deckArea + 16 * ptr) (now.flatMap DeckRec.bytes)
    if !ok then d
    else
      let n := ptr + bufBytes now / 16
      let d := if now.isEmpty then d else d.lbkSetCounter 160 2 n
      if !now.isEmpty && d.lbkCounter 160 2 != n then d
      else
        let d := if now.isEmpty then d
          else { d.setF DECK_STAT.PTR n with deck := { d.deck with
            buf := rest ++ d.deck.buf.drop (now.length + rest.length), lastFlush := d.time, flushDue := false } }.raiseAll 6
        if rest.isEmpty then d else d.deckFull

/-! ### CXL event records (R313 to R316) -/

/-- The UUID of the vendor-specific event record (R315). -/
def uuidVendor : List (BitVec 8) :=
  [0x3F, 0x9C, 0x61, 0xD2, 0x7A, 0x45, 0x4B, 0x0E, 0x9D, 0x8C, 0x51, 0xE2, 0xA0, 0x7B, 0x6C, 0x39]

/-- The UUID of the General Media Event record, as CXL 3.1 gives it. -/
def uuidMedia : List (BitVec 8) :=
  [0xFB, 0xCD, 0x0A, 0x77, 0xC2, 0x60, 0x41, 0x7F, 0x85, 0xA9, 0x08, 0x8B, 0x16, 0x21, 0xEB, 0xA6]

/-- The UUID of the Memory Module Event record, as CXL 3.1 gives it. -/
def uuidModule : List (BitVec 8) :=
  [0xFE, 0x92, 0x74, 0x75, 0xDD, 0x59, 0x43, 0x39, 0xA5, 0x86, 0x79, 0xBA, 0xB1, 0x13, 0xB7, 0x74]

/-- A 128 B CXL event record of a log: the common header of CXL 3.1 and the body. What CXL 3.1 puts into the standard bodies
beside the address and the cause is a free value. -/
def CxlRec.bytes (log : Nat) (x : Nat × CxlRec) : List (BitVec 8) :=
  let hd (uuid : List (BitVec 8)) (stamp : Nat) : List (BitVec 8) :=
    uuid ++ leBytes 1 128 ++ leBytes 3 log ++ leBytes 2 x.1 ++ leBytes 2 0 ++ leBytes 8 stamp ++ List.replicate 16 0
  match x.2 with
  | .vendor e stamp => hd uuidVendor stamp ++ e.bytes
  | .media line stamp => hd uuidMedia stamp ++ leBytes 8 (64 * line) ++ (List.range 72).map (fun i => Config.cxlByte (256 + i))
  | .memModule cause stamp => hd uuidModule stamp ++ leBytes 1 cause ++ (List.range 79).map (fun i => Config.cxlByte (512 + i))

end Sys2Proof.Machine
end

