-- ==== Sys2Proof/Machine/HostMemory.lean ====
section
/-! DEFINITION. CXL.mem requests at the ports and engine accesses to device memory: address regions, holding, acceptance in
the Binnacle, completion, Global Persistent Flush. -/

namespace Sys2Proof.Machine

/-! ### Regions of the device address space (R301, Table 9.2) -/

/-- What a device address names: a WINDOW line, an aperture of an enabled stream with the offset in it, the survey area,
or nothing. -/
inductive Region where
  | window
  | aperture (s off : Nat)
  | survey (off : Nat)
  | unbacked
  deriving DecidableEq, Repr

/-- W of R301 in bytes. -/
def Dev.winBytes (d : Dev) : Nat := if d.mWindow then d.f DEV_LAYOUT.WIN_GIB * 2 ^ 30 else 0

/-- The region of a device address (R301, R353, R487). (DEDUCED, log entry 5.) -/
def Dev.region (d : Dev) (a : Nat) : Region :=
  if a < d.winBytes then .window
  else if 0x6000000000 ≤ a && a < 0x6100000000 then
    (let s := (a - 0x6000000000) / 0x100000
     if d.mStream && d.on (STR_CTL.EN s) && (d.stm s).valid then .aperture s (a % 0x100000) else .unbacked)
  else if 0x6100000000 ≤ a && a < 0x6100100000 then .survey (a - 0x6100000000)
  else .unbacked

/-- The nominal home that serves an address (R50, R52). -/
def Dev.homeAt (d : Dev) (a : Nat) : Nat :=
  match d.region a with
  | .aperture s _ => homeOfStream s
  | _ => homeOf a

/-- CXL.mem requests are accepted: in Active, on the way to Doze, and while a flush or an orderly shut-down takes the
requests already received (R18). -/
def Dev.memOn (d : Dev) : Bool :=
  match d.phase with
  | .active | .dozeEntry | .flush | .resetFlush | .shutdown => true
  | _ => false

/-- A port can deliver a request: its link is in L0, and the memory is served. -/
def Dev.portReady (d : Dev) (p : Nat) : Bool := d.memOn && d.inL0 p

/-- A request arrives at a port on a credit (R26, R71, R138): while credits are withheld it uses one of those the port still holds, and
waits at the sender where there is none. (DEDUCED, log entry 188.) -/
def Dev.creditFor (d : Dev) (p : Nat) (wr : Bool) : Option Dev :=
  if !d.portReady p then none
  else
    let w := d.withheld
    let c := (d.head p).credits
    let all := if w.testBit (1 + 2 * p) then c.1 else 64
    let wrs := if w.testBit (2 * p) || w.testBit (1 + 2 * p) then c.2 else 32
    if all = 0 || (wr && decide (wrs = 0)) then none
    else some (d.modHead p (fun x => { x with credits := (all - 1, if wr then wrs - 1 else wrs) }))

/-- An access restores gated clocks and ends the idle time of a port (R501, R552). -/
def Dev.touch (d : Dev) : Dev := { d with wch := { d.wch with gated := false, idleFrom := d.time, eligFrom := d.time } }

/-- An access to an unbacked address: event 0x093 for the first from each port in each second of ship's time (R302). -/
def Dev.unbackedEv (d : Dev) (p : Nat) : Dev :=
  let sec := d.time / 2147483648
  if p ≥ 2 || (d.head p).unbackedAt = some sec then d
  else (d.modHead p (fun h => { h with unbackedAt := some sec })).post0 0x093

/-- The 64 bytes of the survey area at an offset: two buffers of 2 KiB, zero beyond them. -/
def Dev.surveyLine (d : Dev) (off : Nat) : Line :=
  let b := d.deck.survey.getD (off / 4096) []
  lineOfBytes (padTo 64 ((b.drop (off % 4096 / 64 * 64)).take 64))

/-! ### Holding before the commit sequencer (R71, R72, R210, R322) -/

/-- The ordering tag of a write (R295). -/
def Dev.ordTag (d : Dev) (p tag : Nat) : Nat :=
  let n := Nat.min 4 (d.f (DEV_PORTCFG.TAGBITS p))
  if p < 2 then tag / 2 ^ (16 - n) else tag

/-- The running secure discard holds an address. -/
def Dev.sdiscHolds (d : Dev) (a : Nat) : Bool :=
  match d.sdisc with
  | x :: _ => decide (0 < x.step) && decide (x.start ≤ a) && decide (a < x.start + x.len)
  | [] => false

/-- The write of a port that R34 orders before another of the same ordering tag and that waits: held, or in the front end. -/
def Dev.aheadOf (d : Dev) (p tag : Nat) : Option Req :=
  (d.hold ++ d.fe.map (·.2)).find? (fun r => r.wr.isSome && decide (p < 2) && r.port == p && r.otag == d.ordTag p tag)

/-- A request is held: its serving Point is DYING, a secure discard or a Sanitize holds it, or R34 orders it behind a held
write. -/
def Dev.mustHold (d : Dev) (p tag a : Nat) (wr : Bool) : Bool :=
  d.f (PNT_STAT.STATE (d.serving (d.homeAt a))) == 1 || d.sanitize.isSome ||
    (d.region a == .window && d.sdiscHolds a) || (wr && (d.aheadOf p tag).isSome)

/-- Place a request in the hold buffer of its quadrant; one that only R34 holds goes with the write that it follows (R72). -/
def Dev.holdReq (d : Dev) (p tag a : Nat) (wr : Option (BitVec 512 × BitVec 64)) (poison bad : Bool) (ev : RdEnv) (chk : Nat) : Dev :=
  let own := d.serving (d.homeAt a) / 4
  let q := if d.mustHold p tag a false then own else match d.aheadOf p tag with | some r => r.quad | none => own
  ({ d with hold := d.hold ++ [⟨q, p, tag, d.ordTag p tag, a, wr, poison, bad, ev, chk⟩] } : Dev).tally 0x47 q 1

/-! ### The Binnacle (R135 to R140) -/

/-- Entries of a home's slice. -/
def Dev.sliceCount (d : Dev) (h : Nat) : Nat := d.binn.countP (fun b => homeOf (64 * b.line) = h)

/-- Withhold or return write credits by the free entries of a slice (R138). -/
def Dev.credits (d : Dev) (h : Nat) : Dev :=
  let free := d.sliceFree h
  if free < 128 then d.modHm h (fun x => { x with withheld := true })
  else if free ≥ 256 then d.modHm h (fun x => { x with withheld := false })
  else d

/-- The line check made at entry over the bytes received, those not enabled taken as zero, and the line's address (Table 8.2).
(DEDUCED, log entry 195.) -/
def entryCheck (line : Nat) (data : Line) (mask : Mask) : Nat := lineCheck (mergeLine 0 data mask) (termDev line)

/-- Argument `i` of an order. -/
def Order.arg (o : Order) (i : Nat) : Nat := fieldLe o.entry (8 + 8 * i) 8

/-- CSNs of the orders, dispatched and not ended, whose effect on a page's content is that of their dispatch (R462): DISCARD, SECURE_DISCARD
and SEAL_RANGE. (DEDUCED, log entry 181.) -/
def Dev.rangeOrders (d : Dev) (pg : Nat) : List Nat :=
  (d.ord.run.filter (fun o => o.done.isNone && (o.prog == 0x20 || o.prog == 0x21 || o.prog == 0x30) &&
    decide (o.arg 0 ≤ 4096 * pg) && decide (4096 * pg < o.arg 0 + o.arg 1))).map (·.csn)

/-- The earlier contents that an entry keeps as a write with a byte mask merges into it, for the orders of the CSNs given.
(DEDUCED, log entry 181.) -/
def BEntry.past (b : BEntry) (orders : List Nat) (mask : Mask) : List BPast :=
  if orders.isEmpty then []
  else
    let l := if orders.any (b.csn < ·) then b.was ++ [⟨b.csn, b.data, b.mask, b.check, 0⟩] else b.was
    l.map (fun x => { x with newer := x.newer ||| mask })

/-- The newest content of an entry below a CSN. -/
def BEntry.before (b : BEntry) (csn : Nat) : Option BPast :=
  if b.csn < csn then some ⟨b.csn, b.data, b.mask, b.check, 0⟩ else (b.was.filter (fun x => decide (x.csn < csn))).getLast?

/-- What an entry keeps when the writes below a CSN are superseded (R209): nothing, or the bytes written since. -/
def BEntry.keep (b : BEntry) (csn : Nat) : Option BEntry :=
  match b.before csn with
  | none => some b
  | some x =>
    if b.csn < csn then none
    else
      let v := mergeLine 0 b.data x.newer
      some { b with data := v, mask := x.newer, check := checkMove b.check b.data v, first := Nat.max b.first csn, whole := x.newer == fullMask, was := [] }

/-- A write's bytes enter a Binnacle entry of the same line (R136): the entry is pending again, and its check follows the bytes that change. -/
def BEntry.write (b : BEntry) (csn now : Nat) (data : Line) (mask : Mask) (orders : List Nat) : BEntry :=
  let v := mergeLine b.data data mask
  { b with data := v, was := b.past orders mask, mask := b.mask ||| mask, csn := csn, since := if b.st = .pending then b.since else now, st := .pending
           check := checkMove b.check b.data v, first := if b.st = .committed || b.csn < b.first then csn else b.first
           whole := b.whole || mask == fullMask }

/-- Write bytes that carry a line check into the Binnacle slice of a line's home (R136). -/
def Dev.binnWrite (d : Dev) (line csn : Nat) (data : Line) (mask : Mask) (chk : Nat) : Dev :=
  match d.binnAt line with
  | some _ => { d with binn := d.binn.map (fun (b : BEntry) => if b.line = line then b.write csn d.time data mask (d.rangeOrders (line / 64)) else b) }
  | none =>
    ({ d with binn := d.binn ++ [{ line := line, data := mergeLine 0 data mask, mask := mask, csn := csn, st := .pending, since := d.time, check := chk, first := csn, whole := mask == fullMask }] } : Dev).credits
      (homeOf (64 * line))

/-- The line as its Binnacle entry and its merge source make it now; none where they do not give every byte, or only after a retrain.
(DEDUCED, log entry 191.) -/
def Dev.wholeLine (d : Dev) (line : Nat) (ev : RdEnv) : Option (Carried × Dev) :=
  match d.binnAt line with
  | none => none
  | some b =>
    if b.mask = fullMask then some ((b.data, b.check), d)
    else match d.mergeSource line ev with
      | (.data x, e, _) =>
        let v := mergeLine x.1 b.data b.mask
        some ((v, checkMove x.2 x.1 v), e)
      | (.poison, _, _) => none

/-- A write updates the Pilot line of a page that the Pilot cache holds, and marks it dirty (R139); a line not held yet is completed from
the Binnacle and its merge source. The write stands in the Binnacle. (DEDUCED, log entry 191.) -/
def Dev.pilotWrite (d : Dev) (line : Nat) (data : Line) (mask : Mask) (ev : RdEnv) : Dev :=
  match assocGet line d.pilot with
  | some x =>
    let v := mergeLine x.data data mask
    { d with pilot := assocSet line ⟨v, true, checkMove x.check x.data v⟩ d.pilot }
  | none =>
    if !d.pilot.any (fun x => x.1 / 64 = line / 64) then d
    else match d.wholeLine line ev with
      | some (x, e) => { e with pilot := assocSet line ⟨x.1, true, x.2⟩ e.pilot }
      | none => d

/-- Send the completions of a list (port, tag, CSN). -/
def Dev.completeAll (d : Dev) (l : List (Nat × Nat × Nat)) : Dev := l.foldl (fun d a => d.complete a.1 a.2.1) d

/-- Whether every write with a CSN at or below `c` is persistent (R9, R10, R15, R19): in the persistence domain while HOLDUP is effective;
else at media commit, in the image that holds it or in a line log, and so completed. (DEDUCED, log entry 189.) -/
def Dev.persistentTo (d : Dev) (c : Nat) : Bool :=
  d.mHoldup ||
    (d.binn.all (fun b => b.st == .committed || decide (c < b.first)) &&
     d.homes.all (fun h => h.llAcks.all (fun a => decide (c < a.2.2))) &&
     d.lljobs.all (fun j => j.acks.all (fun a => decide (c < a.2.2))) && d.recAcks.all (fun a => decide (c < a.2.2.2)) &&
     d.str.ctx.all (fun x => x.2.tail.all (fun t => decide (c < t.2.first) && t.2.acks.all (fun a => decide (c < a.2.2)))))

/-- Complete the Global Persistent Flushes whose writes are all persistent (R19). -/
def Dev.gpfSettle (d : Dev) : Dev :=
  let done := d.gpf.filter (fun g => d.persistentTo g.2)
  done.foldl (fun d g => d.send (.gpfDone g.1)) { d with gpf := d.gpf.filter (fun g => !d.persistentTo g.2) }

/-- The newest POISON record of a page has reached media commit: it waits for no segment, and its sector is covered. -/
def Dev.poisonCommitted (d : Dev) (pg : Nat) : Bool :=
  let csnOf (x : Nat × Sector) : Option (Nat × Nat) := match x.2.body with | .mrec c (.poison p _ _) => if p = pg then some (c, x.1) else none | _ => none
  let newest := (d.sectors.filterMap csnOf).foldl (fun (m : Nat × Option Nat) x => if m.1 ≤ x.1 then (x.1, some x.2) else m) (0, none)
  !d.waitRecs.any (fun x => match x.2 with | .mrec _ (.poison p _ _) => p == pg | _ => false) &&
    (match newest.2 with | some psa => d.parityCovers psa | none => true)

/-- Send the completions of superseded writes whose POISON record has reached media commit (R309). (DEDUCED, log entry 60.) -/
def Dev.recSettle (d : Dev) : Dev :=
  let done := d.recAcks.filter (fun a => d.poisonCommitted a.1)
  (({ d with recAcks := d.recAcks.filter (fun a => !done.contains a) } : Dev).completeAll (done.map (·.2))).gpfSettle

/-- Free the Binnacle entries of a line that its POISON record supersedes; their completions wait for that record's media commit (R309).
(DEDUCED, log entry 60.) -/
def Dev.supersede (d : Dev) (line : Nat) : Dev :=
  let d := d.binnDrop (fun b => b.line == line)
  let d : Dev := { d with
    imgs := d.imgs.map (fun (x : Img) => { x with secs := x.secs.map (fun (s : ImgSec) => { s with used := s.used.filter (fun u => u.1 != line) }) }) }
  let h := homeOf (64 * line)
  let own := ((d.hm h).llog.filter (fun l => l.line = line)).map (·.csn)
  let mine := (d.hm h).llAcks.filter (fun a => own.contains a.2.2)
  let d := d.modHm h (fun x => { x with
    llog := x.llog.filter (fun l => l.line != line), llAcks := x.llAcks.filter (fun a => !own.contains a.2.2) })
  ({ d.credits h with recAcks := d.recAcks ++ mine.map (line / 64, ·) } : Dev).recSettle

/-! ### Acceptance (R9, R10, R30, R42, R155, R202, R203, R309) -/

/-- A page is known mapped (R202). -/
def Dev.knownMapped (d : Dev) (pg : Nat) : Bool :=
  d.binn.any (fun b => b.line / 64 = pg) || d.pilot.any (fun x => x.1 / 64 = pg) || !(d.ovlPage pg).isEmpty ||
    (match d.mapWay (homeOfPage pg) (d.mapSlot pg 0) with | some w => mapMapped w.entry | none => false)

/-- Whether a write needs space it cannot obtain (R202, R207), taking units from its home's allowance otherwise. (DEDUCED, log entry 18.) -/
def Dev.needsSpace (d : Dev) (pg : Nat) : Bool × Dev :=
  let h := homeOfPage pg
  if d.on WLV_CAP.BERTH_LOW then (true, d)
  else if d.f WLV_CAP.STATE != 3 || d.knownMapped pg then (false, d)
  else if d.f (WLV_ALLOW.ALLOW h) < d.copies then (true, d)
  else
    (false, { d.setF (WLV_ALLOW.ALLOW h) (d.f (WLV_ALLOW.ALLOW h) - d.copies) with allowPages := d.allowPages ++ [pg] })

/-- The units of a page return to its home's allowance: the page is found mapped (R202). -/
def Dev.allowReturn (d : Dev) (pg : Nat) : Dev :=
  if d.allowPages.contains pg then
    ({ d with allowPages := d.allowPages.erase pg } : Dev).allowGain (homeOfPage pg) d.copies
  else d

/-- A write with HOLDUP not effective goes on to the open line log of its home (R155, R158): a line completed by a merge read enters it as
one that closes it at once; one whose merge source is poisoned or lost is completed without a line log. -/
def Dev.logLine (d : Dev) (line csn p tag : Nat) (ev : RdEnv) : Dev :=
  let h := homeOf (64 * line)
  match d.binnAt line with
  | none => d
  | some b =>
    if b.serves (d.poisoned line) then d.gather h ⟨csn, line, fullMask, b.data, d.time, b.check, false⟩ [(p, tag, csn)]
    else
      let (g, d, _) := d.mergeSource line ev
      match g with
      | .data x =>
        let v := mergeLine x.1 b.data b.mask
        let c := checkMove x.2 x.1 v
        let d := { d with binn := d.binn.map (fun (b : BEntry) => if b.line = line then { b with data := v, mask := fullMask, check := c } else b) }
        d.gather h ⟨csn, line, fullMask, v, d.time, c, true⟩ [(p, tag, csn)]
      | .poison => d.complete p tag

/-- Accept a write of a WINDOW line (R9, R10, R136): it takes its CSN, is refused space, lost, poisoned or entered in the
Binnacle slice of its home, and is completed or waits for media commit. (DEDUCED, log entry 19; DEDUCED, log entry 20.) -/
def Dev.acceptWrite (d : Dev) (p tag a : Nat) (data : Line) (mask : Mask) (poison bad : Bool) (ev : RdEnv) (chk : Nat) : Dev :=
  let line := a / 64
  let h := homeOf (64 * line)
  let csn := d.nextCsn
  let d := (d.takeCsn.modHm h (fun x => { x with newest := csn, accepted := if d.mHoldup then x.accepted else x.accepted ++ [csn] })).tally 0x0A (d.serving h) 1
  let d := (d.clearRsv line).partialPoison line mask
  if d.hove h then (d.complete p tag).loseHove line mask.toNat
  else if poison then ((d.markPoison line 0).supersede line).complete p tag
  else if bad then
    ((((d.cnt SCR_STAT.ADMIT_FAIL).markPoison line 2).supersede line).post { code := 0x083, addr := 64 * line, sev := 2 }).complete p tag
  else
    let (full, d) := d.needsSpace (line / 64)
    if full then
      let d := ((d.cnt WLV_STAT.LOST_WR).markPoison line 2).supersede line
      (d.post { code := 0x066, addr := 64 * line, sev := 2, detail := leBytes 8 mask.toNat ++ leBytes 8 csn }).complete p tag
    else
      let d := (d.binnWrite line csn data mask chk).pilotWrite line data mask ev
      if d.mHoldup then d.complete p tag else d.logLine line csn p tag ev

/-- A write from a port or an engine (R9, R10, R301 to R303, R354, R372). -/
def Dev.memWrite (d : Dev) (p tag a : Nat) (data : Line) (mask : Mask) (poison bad : Bool) (ev : RdEnv) (chk : Nat) : Dev :=
  if d.mustHold p tag a true then d.holdReq p tag a (some (data, mask)) poison bad ev chk
  else match d.region a with
    | .window =>
      let e := d.acceptWrite p tag a data mask poison bad ev chk
      match e.blocked with
      | some w => { d with fe := d.fe ++ [(w, ⟨d.serving (homeOf a) / 4, p, tag, d.ordTag p tag, a, some (data, mask), poison, bad, ev, chk⟩)] }
      | none => e
    | .aperture s off =>
      if d.hove (homeOfStream s) then (d.complete p tag).loseHove (a / 64) mask.toNat
      else (if bad then (d.cnt SCR_STAT.ADMIT_FAIL).post { code := 0x083, addr := a / 64 * 64, sev := 2 } else d).apWrite s off p tag data mask (poison || bad)
    | .survey _ => d.complete p tag
    | .unbacked => (d.complete p tag).unbackedEv p

/-- A read from a port or an engine, served at once (R32, R302, R303, R355, R356): none is poison. -/
def Dev.memReadNow (d : Dev) (p a : Nat) (ev : RdEnv) : Option Line × Dev :=
  match d.region a with
  | .window =>
    let d := d.tally 0x09 (d.serving (homeOf a)) 1
    let (x, d) := d.readWindow (a / 64) ev
    d.egress (a / 64) x ev.egress
  | .aperture s off => if d.hove (homeOfStream s) then (none, d.hovePoison (a / 64)) else d.apRead s off ev
  | .survey off => (some (d.surveyLine off), d)
  | .unbacked => (none, (d.tally 0x88 0 1).unbackedEv p)

/-- Answer a port's read. -/
def Dev.answer (d : Dev) (p tag : Nat) (x : Option Line) : Dev :=
  if p < 2 then d.send (match x with | some v => .rd p tag v | none => .rdPoison p tag) else d

/-- A read from a port: held, parked in the front end where it must wait for the retrain of a die's link (R676), or answered. -/
def Dev.memReadReq (d : Dev) (p tag a : Nat) (ev : RdEnv) : Dev :=
  if d.mustHold p tag a false then d.holdReq p tag a none false false ev 0
  else
    let (x, e) := d.memReadNow p a ev
    match e.blocked with
    | some w => { d with fe := d.fe ++ [(w, ⟨d.serving (d.homeAt a) / 4, p, tag, d.ordTag p tag, a, none, false, false, ev, 0⟩)] }
    | none => e.answer p tag x

/-- A request is offered again; an engine's store that now takes its CSN shows it in lastcsn. -/
def Dev.offer (d : Dev) (r : Req) : Dev :=
  match r.wr with
  | some (x, m) =>
    let e := d.memWrite r.port r.tag r.a x m r.poison r.bad r.ev r.check
    if r.port = 2 && d.nextCsn < e.nextCsn then e.modEng r.tag (fun x => { x with lastcsn := d.nextCsn }) else e
  | none => d.memReadReq r.port r.tag r.a r.ev

/-- The held requests are offered again in their order of arrival (R73, R210); one that must still wait is held again. -/
def Dev.releaseHold (d : Dev) : Dev := d.hold.foldl Dev.offer { d with hold := [] }

/-- The retrain of a die's link has ended: the requests that waited for it are offered again in order (R102, R676).
(DEDUCED, log entry 183.) -/
def Dev.releaseFront (d : Dev) (n : Nat) : Dev :=
  ((d.fe.filter (fun r => psaPoint r.1 == n)).map (·.2)).foldl Dev.offer { d with fe := d.fe.filter (fun r => psaPoint r.1 != n) }

/-! ### The commands -/

/-- A request from a port, on a credit. -/
def Dev.request (d : Dev) (p : Nat) (wr : Bool) (f : Dev → Dev) : Dev :=
  match d.creditFor p wr with
  | some e => f e.touch
  | none => d

/-- MEM_RD (R32). -/
def execMemRd (p tag a : Nat) (ev : RdEnv) (s : State) : Host.Outcome State Fault Refusal :=
  act (okMemRd p tag a ev) s (fun d => d.request p false (fun d => d.memReadReq p tag a ev))

/-- MEM_RD_DATA (R294): served as a read of a device without metadata. -/
def execMemRdData (p tag a : Nat) (ev : RdEnv) (s : State) : Host.Outcome State Fault Refusal :=
  act (okMemRdData p tag a ev) s (fun d => d.request p false (fun d => d.memReadReq p tag a ev))

/-- MEM_WR (R9, R10). -/
def execMemWr (p tag a : Nat) (data : Line) (poison bad : Bool) (s : State) : Host.Outcome State Fault Refusal :=
  act (okMemWr p tag a data poison bad) s (fun d => d.request p true (fun d =>
    d.memWrite p tag a data fullMask poison bad ⟨[], false, false, false⟩ (entryCheck (a / 64) data fullMask)))

/-- MEM_WR_PTL (R10, R42, R155). -/
def execMemWrPtl (p tag a : Nat) (data : Line) (mask : Mask) (poison bad : Bool) (ev : RdEnv) (s : State) :
    Host.Outcome State Fault Refusal :=
  act (okMemWrPtl p tag a data mask poison bad ev) s (fun d => d.request p true (fun d =>
    d.memWrite p tag a data mask poison bad ev (entryCheck (a / 64) data mask)))

/-- UNSUPPORTED_M2S_OPCODE (R294): completed, changing no memory. -/
def execUnsupportedM2sOpcode (p tag op a : Nat) (s : State) : Host.Outcome State Fault Refusal :=
  act (okUnsupportedM2sOpcode p tag op a) s (fun d => d.request p false (fun d => d.send (.otherDone p tag op)))

/-- GLOBAL_PERSISTENT_FLUSH (R19, R20). (DEDUCED, log entry 36.) -/
def execGlobalPersistentFlush (p : Nat) (s : State) : Host.Outcome State Fault Refusal :=
  act (okGlobalPersistentFlush p) s (fun d =>
    if !d.portReady p then d
    else
      let d := if d.hold.any (fun r => r.wr.isSome) then d.dirtyShutdown else d
      ({ d.touch with gpf := d.gpf ++ [(p, d.csn)] } : Dev).gpfSettle)

end Sys2Proof.Machine
end

