-- ==== Sys2Proof/Machine/WritePath.lean ====
section
/-! DEFINITION. From the Binnacle to media: ready sectors, routing, merges, programs, placement logs, installs, line logs and
watermarks (chapter 05). -/

namespace Sys2Proof.Machine

/-! ### Images -/

/-- A read environment in which every decode succeeds. -/
def cleanRead : RdEnv := ⟨[], false, false, false⟩

/-- An image sector of lines that carry their line checks (R259): those of `mask` are held, the others are zeros with the implied check at
the address terms `term` (R261). -/
def imgSecOf (l mask : Nat) (term : Nat → Nat) (lines : List (Option Carried)) (used : List (Nat × Nat)) : ImgSec :=
  let c (q : Nat) : Carried := ((lines.getD q none).filter (fun _ => mask.testBit q)).getD (zeroLine (term (4 * l + q)))
  { l := l, mask := mask, data := secOfLines ((List.range 4).map (fun q => (c q).1)), checks := (List.range 4).map (fun q => (c q).2), used := used }

/-- The address term of a line of a page: device or stream (R258, R264). -/
def termOf (stream : Bool) (line : Nat) : Nat := if stream then termStream line else termDev line

/-- A data sector as programmed at `psa`: the line checks that its lines carry (R259), scrambled where its address lies in an enabled range
(R263, R264, R274). `high` is the logical sector high part. -/
def Dev.dataSector (d : Dev) (psa : Nat) (s : ImgSec) (high : Nat) (stream : Bool) : Sector :=
  let cnt := (d.seg (psaSeg psa)).leaf
  let ones : BitVec 64 := BitVec.ofNat 64 (2 ^ 64 - 1)
  match (if d.mScramble then d.rangeSlot (d.secAddr s.l stream) else none) with
  | some k =>
    let g := b2n ((d.f SCR_KEYSTAT.KEYGEN).testBit k)
    ⟨scramble false (d.key k g) psa cnt s.data, mkMeta s.checks cnt high true k g (b2n stream), ones, false, .raw⟩
  | none => ⟨s.data, mkMeta s.checks cnt high false 0 0 (b2n stream), ones, false, .raw⟩

/-- The logical sector high part of a window sector (R264). -/
def winHigh (l : Nat) : Nat := l / 128 % 2 ^ 24

/-- Change image number `i`. -/
def Dev.modImg (d : Dev) (i : Nat) (f : Img → Img) : Dev := { d with imgs := listMod d.imgs i f }

/-- Change sector `j` of image `i`. -/
def Dev.modImgSec (d : Dev) (i j : Nat) (f : ImgSec → ImgSec) : Dev := d.modImg i (fun y => { y with secs := listMod y.secs j f })

/-- Sector `j` of image `i`, with the image. -/
def Dev.imgSecAt (d : Dev) (i j : Nat) : Option (Img × ImgSec) := (d.imgs[i]?).bind (fun x => (x.secs[j]?).map (fun s => (x, s)))

/-- Index of the first image that satisfies a predicate. -/
def Dev.imgIdx (d : Dev) (q : Img → Bool) : Option Nat := d.imgs.findIdx? q

/-- Some sector of an image is not yet installed. -/
def Img.open (x : Img) : Bool := x.secs.any (fun s => !s.installed)

/-- MODEL'S OWN: the place in a page list of a page whose sealed version is still to be programmed. -/
def sealHole (pg : Nat) : Nat := 2 ^ 32 + pg

/-- The page has an image that is not yet installed (R145), or a seal that is being made still waits for its sealed version.
(DEDUCED, log entry 16.) -/
def Dev.pageBusy (d : Dev) (pg : Nat) : Bool :=
  d.imgs.any (fun i => i.pg == pg && i.open) || d.seals.any (fun x => x.psas.contains (sealHole pg))

/-- Sectors of an image that still wait for a free sector. -/
def Img.unplaced (x : Img) : Bool := x.secs.any (fun s => s.psa.isNone || (x.twin && s.psb.isNone))

/-- No sector of an image has an address. -/
def Img.fresh (x : Img) : Bool := x.secs.all (fun s => s.psa.isNone && s.psb.isNone)

/-- Give an image its sectors: whole page slots, or single sectors (R188, Table 6.3); none where R66 makes it wait. -/
def Dev.placeImg (d : Dev) (x : Img) : Option (Img × Dev) :=
  let h := homeOfPage x.pg
  let x := { x with since := d.time }
  if x.whole then
    match d.takePage h x.kind with
    | none => none
    | some (b, d) =>
      let put (x : Img) (o : Option Nat) : Img := { x with
        baseA := b, baseB := o.getD 0
        secs := x.secs.zipIdx.map (fun s => { s.1 with psa := some (b + s.2), psb := o.map (· + s.2) }) }
      if !x.twin then some (put x none, d)
      else match d.takeTwin (psaPoint b) x.kind true with
        | none => none
        | some (b2, d) => some (put x (some b2), d)
  else
    x.secs.foldl (fun (acc : Option (Img × Dev)) s =>
      match acc with
      | none => none
      | some (y, d) =>
        match d.takeSec h x.kind with
        | none => none
        | some (a, d) =>
          if !x.twin then some ({ y with secs := y.secs ++ [{ s with psa := some a }] }, d)
          else match d.takeTwin (psaPoint a) x.kind false with
            | none => none
            | some (b, d) => some ({ y with secs := y.secs ++ [{ s with psa := some a, psb := some b }] }, d))
      (some ({ x with secs := [] }, d))

/-- Give sector `j` of image `i` the addresses it lacks; the two copies of TWIN lie in different quadrants (R146). -/
def Dev.placeSec (d : Dev) (i j : Nat) : Dev :=
  match d.imgSecAt i j with
  | none => d
  | some (x, s) =>
    let h := homeOfPage x.pg
    let (a, d) := match s.psa with
      | some p => (some p, d)
      | none => (match d.takeSec h x.kind (s.psb.map (psaPoint · / 4)) with
        | some (p, d) => (some p, d.modImgSec i j (fun t => { t with psa := some p }))
        | none => (none, d))
    match a with
    | none => d
    | some p =>
      if x.twin && s.psb.isNone then
        (match d.takeTwin (psaPoint p) x.kind false with
         | some (b, d) => d.modImgSec i j (fun t => { t with psb := some b })
         | none => d)
      else d

/-- An image that lost its sectors, or could not be given them, gets those it lacks (R66): a page as a whole, single sectors one by one. -/
def Dev.placeMissing (d : Dev) (i : Nat) : Dev :=
  match d.imgs[i]? with
  | none => d
  | some x =>
    if x.whole && x.fresh then
      (match d.placeImg x with
       | some (y, d) => d.modImg i (fun _ => y)
       | none => d)
    else (List.range x.secs.length).foldl (fun d j => d.placeSec i j) d

/-- A sector of an image that is not installed and whose address satisfies `hit`: to be programmed there or, with `all`, programmed there. -/
def ImgSec.hits (t : ImgSec) (hit : Nat → Bool) (all : Bool) : Bool :=
  !t.installed && ((t.psa.any hit && (all || !t.okA)) || (t.psb.any hit && (all || !t.okB)))

/-- Place again one image whose sectors cannot be programmed at the addresses that satisfy `hit` (R68, R103, R165): a page as a whole, single
sectors one by one. What no Point can take now waits for an address. (DEDUCED, log entry 44.) -/
def Dev.replaceImg (d : Dev) (i : Nat) (hit : Nat → Bool) (all : Bool) : Dev :=
  match d.imgs[i]? with
  | none => d
  | some x =>
    let lift (t : ImgSec) : ImgSec :=
      if x.whole then { t with psa := none, psb := none, okA := false, okB := false, relA := false, relB := false }
      else
        let t := if !t.installed && t.psa.any hit && (all || !t.okA) then { t with psa := none, okA := false } else t
        if !t.installed && t.psb.any hit && (all || !t.okB) then { t with psb := none, okB := false } else t
    (d.modImg i (fun y => { y with logged := false, secs := y.secs.map lift })).placeMissing i

/-- Place again every image with a sector at an address that satisfies `hit`, the last image first. -/
def Dev.moveOff (d : Dev) (hit : Nat → Bool) (all : Bool) : Dev :=
  (List.range d.imgs.length).reverse.foldl (fun d i =>
    if (d.imgs[i]?).any (fun x => x.secs.any (fun t => t.hits hit all)) then d.replaceImg i hit all else d) d

/-- Give an image up: its entries return to pending and its overlay entries are no longer pinned. -/
def Dev.dropImg (d : Dev) (i : Nat) : Dev :=
  match d.imgs[i]? with
  | none => d
  | some x =>
    let used := x.secs.flatMap (·.used)
    { d with
      imgs := d.imgs.eraseIdx i
      binn := d.binn.map (fun (b : BEntry) => if b.st = .taken && used.contains (b.line, b.csn) then { b with st := .pending } else b)
      ready := if used.isEmpty then d.ready else (x.secs.map (·.l)).foldl (fun l a => setAdd a l) d.ready
      overlay := d.overlay.map (fun (y : Nat × Ovl) => if y.1 / 16 = x.pg then (y.1, { y.2 with pinned := false }) else y) }

/-! ### Ready sectors and routing (R141, R142, R151, Table 5.1) -/

/-- The pending entries of a logical sector. -/
def Dev.secPending (d : Dev) (l : Nat) : List BEntry := d.binn.filter (fun b => b.line / 4 = l && b.st = .pending)

/-- An event of R141 makes a sector ready. -/
def Dev.readyCause (d : Dev) (l cause : Nat) : Bool :=
  let es := d.secPending l
  match cause with
  | 0 => (List.range 4).all (fun q => es.any (fun b => b.line == 4 * l + q && b.mask == fullMask))
  | 1 => es.any (fun b => decide (b.since + usUnits (Nat.max 1 (d.f OVL_CTL.SECT_WAIT)) ≤ d.time))
  | _ => decide (d.sliceCount (homeOfSec l) ≥ 6144)

/-- SECTOR_READY (R141). -/
def execSectorReady (l cause : Nat) (s : State) : Host.Outcome State Fault Refusal :=
  act (okSectorReady l cause) s (fun d =>
    if !(d.secPending l).isEmpty && d.readyCause l cause then { d with ready := setAdd l d.ready } else d)

/-- The sector of an image that a logical sector's pending entries make: lines with full masks are held, the others wait for
their merge source. -/
def Dev.imgSec (d : Dev) (l : Nat) : ImgSec :=
  let es := d.secPending l
  let full := es.filter (fun b => b.mask = fullMask)
  let mask := full.foldl (fun m b => m ||| 2 ^ (b.line % 4)) 0
  imgSecOf l mask termDev ((List.range 4).map (fun q => (full.find? (fun b => b.line = 4 * l + q)).map (fun b => (b.data, b.check))))
    (es.map (fun b => (b.line, b.csn)))

/-- The Binnacle entries of a list (line, CSN) that are in state `a` go to state `b`. -/
def Dev.entriesTo (d : Dev) (used : List (Nat × Nat)) (a b : BState) : Dev :=
  { d with binn := d.binn.map (fun (x : BEntry) => if x.st = a && used.contains (x.line, x.csn) then { x with st := b } else x) }

/-- The ready sectors of a page. -/
def Dev.readyOf (d : Dev) (pg : Nat) : List Nat := (d.ready.filter (fun l => l / 16 = pg && !(d.secPending l).isEmpty))

/-- PAGE_WAIT has expired since the page's first pending line arrived (R142). -/
def Dev.pageWaited (d : Dev) (pg : Nat) : Bool :=
  d.binn.any (fun b => b.line / 64 == pg && b.st == .pending && decide (b.since + usUnits (Nat.max 1 (d.f OVL_CTL.PAGE_WAIT)) ≤ d.time))

/-- A sector that meets a full overlay set (R151) waits, counted once, and helm is asked to fold the page of the set's oldest entry. -/
def Dev.setFullDefer (d : Dev) (l : Nat) : Dev :=
  let h := homeOfSec l
  if (d.hm h).deferred.contains l then d
  else
    let d := (d.cnt (OVL_STAT.SET_FULL h)).modHm h (fun x => { x with deferred := x.deferred ++ [l] })
    match d.ovlOldest h (d.ovlWays l) with
    | some (o, _) => (d.queueTask (d.serving h) { kind := 0, arg := o / 16 }).modHm h (fun x => { x with setFull := setAdd (o / 16) x.setFull })
    | none => d

/-- Sectors that R151 deferred are routed or installed. -/
def Dev.undefer (d : Dev) (pg : Nat) (ls : List Nat) : Dev :=
  d.modHm (homeOfPage pg) (fun x => { x with deferred := x.deferred.filter (fun l => !ls.contains l) })

/-- No way of the overlay set of `l` is free, and none holds `l` itself. -/
def Dev.ovlBlocked (d : Dev) (l : Nat) : Bool := (assocGet l d.overlay).isNone && decide ((d.ovlWays l).length ≥ 16)

/-- Start an image: its sectors are placed and its entries taken; without room the page keeps waiting (R66). -/
def Dev.startImg (d : Dev) (x : Img) : Dev :=
  match d.placeImg x with
  | none => d
  | some (x, d) =>
    let d := (d.entriesTo (x.secs.flatMap (·.used)) .pending .taken).undefer x.pg (x.secs.map (·.l))
    let done := x.secs.map (·.l)
    { d with imgs := d.imgs ++ [x], ready := d.ready.filter (fun l => !done.contains l) }

/-- A new image of a page, not yet placed. -/
def Dev.newImg (d : Dev) (pg kind why : Nat) (whole : Bool) (secs : List ImgSec) : Img :=
  { pg := pg, kind := kind, whole := whole, why := why, secs := secs, merging := false, logged := false, twin := d.mTwin, baseA := 0, baseB := 0
    high := (List.range 16).map (fun j => winHigh (16 * pg + j)), old := [], sealNo := 0 }

/-- A write above the CSN of an order that is still to act on the page stands in the Binnacle: it is not routed before the order has acted
(R462). (DEDUCED, log entry 181.) -/
def Dev.awaitsOrder (d : Dev) (pg : Nat) : Bool :=
  (d.rangeOrders pg).any (fun k => d.binn.any (fun b => b.line / 64 == pg && b.st == .pending && decide (k < b.csn)))

/-- Route the ready sectors of a page (R142, R145, Table 5.1). (DEDUCED, log entry 17.) -/
def Dev.routePage (d : Dev) (pg : Nat) : Dev :=
  let rs := d.readyOf pg
  let n := rs.length
  if n = 0 || d.pageBusy pg || d.awaitsOrder pg || !(n = 16 || d.pageWaited pg) then d
  else
    let d := if d.occupies pg then d.allowReturn pg else d
    let start (d : Dev) (why : Nat) (whole : Bool) (secs : List ImgSec) : Dev :=
      d.startImg { d.newImg pg 0 why whole secs with merging := secs.any (fun s => s.mask != 15) }
    if n ≥ Nat.max 8 (d.f OVL_CTL.REMAP_MIN) then
      start d 0 true ((List.range 16).map (fun j => if rs.contains (16 * pg + j) then d.imgSec (16 * pg + j) else imgSecOf (16 * pg + j) 0 termDev [] []))
    else
      let blocked := rs.filter d.ovlBlocked
      let d := blocked.foldl Dev.setFullDefer d
      let secs := (rs.filter (fun l => !blocked.contains l)).map d.imgSec
      if secs.isEmpty then d else start d 1 false secs

/-- PAGE_ROUTE (R142); an image of the page that waits for addresses takes those it can have now (R66). -/
def execPageRoute (pg : Nat) (s : State) : Host.Outcome State Fault Refusal :=
  act (okPageRoute pg) s (fun d =>
    match d.imgIdx (fun i => i.pg == pg && i.unplaced) with
    | some i => d.placeMissing i
    | none => d.routePage pg)

/-! ### Merge reads (R140, R143, R144) -/

/-- The merge source of a line without a rebuild (R143, R144): a line, poisoned, or not deliverable; the read makes no retry of its own where
the walker spent the request's (R228). -/
def Dev.mergeLine1 (d : Dev) (line : Nat) (ev : RdEnv) : Option Carried × Bool × Dev × RdEnv :=
  if d.poisoned line then (none, true, d, ev)
  else match assocGet line d.pilot with
    | some p => (some (p.data, p.check), false, d, ev)
    | none =>
      let l := line / 4
      let q := line % 4
      let one (psa : Nat) (alt : Option Nat) (retry : Bool) (d : Dev) (ev : RdEnv) : Option Carried × Bool × Dev × RdEnv :=
        let (ls, d, ev) := d.readSec psa alt l (2 ^ q) false false retry ev
        (ls.getD q none, false, d, ev)
      match (match assocGet l d.overlay with | some e => if e.mask.testBit q then some e else none | none => none) with
      | some e => one e.phys e.twin true d ev
      | none =>
        let (w, spent, d, ev) := d.walk (homeOfSec l) (d.mapSlot (l / 16) 0) ev
        match w with
        | none => (none, false, d, ev)
        | some e => if mapMapped e then one (16 * mapPhys e + l % 16) none (!spent) d ev else (some (zeroLine (termDev line)), false, d, ev)

/-- A line enters an image sector with the check it carries. -/
def ImgSec.put (s : ImgSec) (q : Nat) (x : Carried) : ImgSec :=
  { s with
    mask := s.mask ||| 2 ^ q, data := secOfLines ((List.range 4).map (fun k => if k = q then x.1 else secLine s.data k))
    checks := listSet s.checks q x.2 }

/-- Merge one sector of an image: the sector with its lines filled, whether some line could not be delivered, and the rest.
(DEDUCED, log entry 17.) -/
def Dev.mergeSec (d : Dev) (s : ImgSec) (ev : RdEnv) : ImgSec × Bool × Dev × RdEnv :=
  (List.range 4).foldl (fun (acc : ImgSec × Bool × Dev × RdEnv) q =>
    let (s, bad, d, ev) := acc
    if s.mask.testBit q then acc
    else
      let line := 4 * s.l + q
      let own := (d.binnAt line).filter (fun b => s.used.contains (b.line, b.csn))
      let (x, pois, d, ev) := d.mergeLine1 line ev
      match x with
      | some v =>
        let v : Carried := match own with
          | some b => (let w := mergeLine v.1 b.data b.mask; (w, checkMove v.2 v.1 w))
          | none => v
        (s.put q v, bad, d, ev)
      | none => (s, bad || !pois, d, ev)) (s, false, d, ev)

/-- The Binnacle entries that an image sector holds; those whose lines it could not fill return to pending (R137, R140). -/
def ImgSec.held (s : ImgSec) : List (Nat × Nat) := s.used.filter (fun u => s.mask.testBit (u.1 % 4))

/-- The merge reads of image `i`, which is `x`, of page `pg` have come in (R143, R144). (DEDUCED, log entry 17.) -/
def Dev.mergeDone (d : Dev) (pg i : Nat) (x : Img) (ev : RdEnv) : Dev :=
  let r := x.secs.foldl (fun (acc : List (ImgSec × Bool) × Dev × RdEnv) s =>
    let (t, bad, d, ev) := acc.2.1.mergeSec s acc.2.2
    (acc.1 ++ [(t, bad)], d, ev)) ([], d, ev)
  let back := r.1.flatMap (fun t => t.1.used.filter (fun u => !t.1.held.contains u))
  let secs := r.1.map (fun t => ({ t.1 with used := t.1.held }, t.2))
  let d := r.2.1.entriesTo back .taken .pending
  if x.whole && !secs.any (·.2) then d.modImg i (fun y => { y with secs := secs.map (·.1), merging := false })
  else
    let keep := secs.filter (fun t => !t.1.used.isEmpty)
    let d := (keep.filter (·.2)).foldl (fun d _ => d.cnt (OVL_STAT.MASKED (homeOfPage pg))) d
    if keep.isEmpty then { d with imgs := d.imgs.eraseIdx i }
    else d.modImg i (fun y => { y with whole := false, why := 1, secs := keep.map (·.1), merging := false })

/-- MERGE_READ_DONE (R143, R144). A remap that a line cannot be delivered to becomes overlay sectors of its ready sectors. -/
def execMergeReadDone (pg : Nat) (ev : RdEnv) (s : State) : Host.Outcome State Fault Refusal :=
  act (okMergeReadDone pg ev) s (fun d => d.reading (fun d =>
    match d.imgIdx (fun i => i.pg == pg && i.merging) with
    | none => d
    | some i =>
      match d.imgs[i]? with
      | none => d
      | some x => d.mergeDone pg i x ev))

/-! ### Programs and relocation after a verify failure (R87, R150, Table 2.5) -/

/-- The next free sector of the open segment that holds `psa`, from its Point's placement queue, within the row window of R164. -/
def Dev.nextSec (d : Dev) (psa kind : Nat) : Option (Nat × Dev) :=
  let n := psaPoint psa
  match (d.queue kind n).takeSector with
  | some ((sg, s), q) => if sg = psaSeg psa && d.rowAdmits sg (s / 16) then some (mkPsa sg s, d.modQueue kind n (fun _ => q)) else none
  | none => none

/-- A program at `psa` failed verify: counted, with event 0x012 (Table 2.5). -/
def Dev.verifyFails (d : Dev) (psa : Nat) : Dev := (d.cnt (PNT_MEDSTAT.VFY_RELOC (psaPoint psa))).post (secEv 0x012 0 psa)

/-- Segment numbers of the host, fold, stream and metadata open segments of a Point. -/
def Dev.openNos (d : Dev) (n : Nat) : List Nat := (List.range 4).map (fun k => segNo (d.openSeg k n))

/-- Two placement log entries locate the same thing. -/
def PEnt.same (a b : PEnt) : Bool :=
  a.kind == b.kind && a.seg == b.seg && a.first == b.first && a.target == b.target && a.twin == b.twin

/-- An entry for what stands at `psa` is placed in the open placement log sector of its Point (R153), whose header names its segment. -/
def Dev.plogAdd (d : Dev) (psa : Nat) (e : PEnt) : Dev :=
  let n := psaPoint psa
  let e := { e with opens := listSet (d.openNos n) e.seg (psaSeg psa % 8192), added := d.time }
  d.modPt n (fun q => { q with plog := q.plog ++ [e] })

/-- The placement log entries of an image, with the addresses that they locate (Table 5.3, R150, R378). -/
def Dev.imgEntries (d : Dev) (x : Img) : List (Nat × PEnt) :=
  let stream := (d.streamOfPage x.pg).isSome
  let one (psa l : Nat) (tw : Bool) (m : Nat) : Nat × PEnt :=
    (psa, { kind := 0, seg := x.kind, first := psaSec psa, target := l, twin := tw, mask := m })
  let copy (base : Nat) (tw : Bool) : List (Nat × PEnt) :=
    if x.whole then [(base, { kind := if stream then 4 else 1, seg := x.kind, first := psaSec base, target := x.pg, twin := tw, sealNo := x.sealNo })] else []
  let secs (f : ImgSec → Option Nat) (rel : ImgSec → Bool) (tw : Bool) : List (Nat × PEnt) :=
    x.secs.filterMap (fun s => if !x.whole || rel s then (f s).map (fun p => one p s.l tw (if x.whole then 15 else s.mask)) else none)
  copy x.baseA false ++ secs (·.psa) (·.relA) false ++
    (if x.twin then copy x.baseB true ++ secs (·.psb) (·.relB) true else [])

/-- Every sector of an image has passed verify. -/
def Img.programmed (x : Img) : Bool := x.secs.all (fun s => s.psa.isSome && s.okA && (!x.twin || (s.psb.isSome && s.okB)))

/-- Once every sector of an image has passed verify, its placement is logged. -/
def Dev.logImg (d : Dev) (i : Nat) : Dev :=
  match d.imgs[i]? with
  | none => d
  | some x =>
    if x.programmed && !x.logged then
      (d.imgEntries x).foldl (fun d e => d.plogAdd e.1 e.2) (d.modImg i (fun y => { y with logged := true }))
    else d

/-- The program of sector `psa` of image `i` ends (R87): the row holds it, or verify failed and it moves to the next free
sector of the same open segment with event 0x012. -/
def Dev.programSec (d : Dev) (i j psa : Nat) (second ok : Bool) : Dev :=
  match d.imgSecAt i j with
  | none => d
  | some (x, s) =>
    let sec := d.dataSector psa s (x.high.getD (s.l % 16) 0) (d.streamOfPage x.pg).isSome
    let d := d.programAs (d.imgClass x) psa { sec with failed := !ok } (dfBits [x.pg])
    if ok then (d.modImgSec i j (fun t => if second then { t with okB := true } else { t with okA := true })).logImg i
    else
      let d := d.verifyFails psa
      let (o, d) := match d.nextSec psa x.kind with
        | some (p, d) => (some p, d)
        | none => (none, d)
      d.modImgSec i j (fun t => if second then { t with psb := o, relB := true } else { t with psa := o, relA := true })

/-- The segment of Point `n` whose refresh is exempt from the throttle (R122): of those with LOW_MARGIN set, the one whose images stand
first. -/
def Dev.exemptSeg (d : Dev) (n : Nat) : Option Nat :=
  ((d.imgs.flatMap (·.old)).find? (fun p => psaPoint p = n && (d.seg (psaSeg p)).lowMargin)).map psaSeg

/-- The programs of an image may be issued (R637, R640): none in cold stop; in media critical those that carry Binnacle entries or
queue-tail lines, and each Point's one exempt refresh. -/
def Dev.mayProgram (d : Dev) (x : Img) : Bool :=
  !d.coldStop && (!d.on THM_STAT.CRIT || decide (x.why ≤ 1) || x.why == 6 || x.old.any (fun p => d.exemptSeg (psaPoint p) == some (psaSeg p)))

/-- A sector of an image waits to be programmed at `psa`. -/
def ImgSec.at (t : ImgSec) (psa : Nat) : Bool := (t.psa == some psa && !t.okA) || (t.psb == some psa && !t.okB)

/-- A sector program falls due at `psa` for image `i` (R54 to R57, R87, R103): on a die that cannot take it, or in a segment that
must not be programmed, the image's sectors there are placed again; else it is made once its cell starts it. -/
def Dev.programDue (d : Dev) (i psa : Nat) (ok : Bool) : Dev :=
  if d.dieGone (psaPoint psa) then d.replaceImg i (fun p => psaPoint p == psaPoint psa) false
  else if d.skipped psa then d.replaceImg i (fun p => psaSeg p == psaSeg psa && d.skipped p) false
  else if !d.cellStarts psa then d
  else match ((d.imgs[i]?).map (·.secs)).bind (fun l => l.findIdx? (·.at psa)) with
    | none => d
    | some j =>
      let second := (d.imgSecAt i j).any (fun x => !(x.2.psa == some psa && !x.2.okA))
      d.programSec i j psa second ok

/-- SECTOR_PROGRAM_DONE (R87). -/
def execSectorProgramDone (psa : Nat) (ok : Bool) (s : State) : Host.Outcome State Fault Refusal :=
  act (okSectorProgramDone psa ok) s (fun d =>
    match d.imgIdx (fun x => !x.merging && d.mayProgram x && x.secs.any (·.at psa)) with
    | none => d
    | some i => d.programDue i psa ok)

/-! ### Placement logs (R153, R229) -/

/-- Program a log or record sector whose first program may fail verify: it then moves to the next free sector of the same
segment with event 0x012 (Table 2.5). -/
def Dev.programLog (d : Dev) (n kind : Nat) (data : List (BitVec 8)) (body : Body) (df : Nat) (ok : Bool) : Option (Nat × Dev) :=
  let d1 := if ok then d else
    match d.metaPoint n with
    | none => d
    | some m =>
      match d.metaSector m with
      | none => d
      | some psa =>
        let d := d.program psa { physSector d psa kind (secOfBytes data) body with failed := true } df
        (d.modPt m (fun p => { p with metaNext := psaSec psa + 1 })).verifyFails psa
  d1.programOn n kind data body df

/-- The leading entries of a list that one sector can record, at most 28: of the first entry's copy and open segments. -/
def plogRun (l : List PEnt) : List PEnt :=
  match l with
  | [] => []
  | e :: _ => (l.takeWhile (fun x => x.twin == e.twin && x.opens == e.opens)).take 28

/-- Close and program the placement log sector of a Point. -/
def Dev.closePlog (d : Dev) (n : Nat) (ok : Bool) : Dev :=
  let l := (d.pt n).plog
  match plogRun l with
  | [] => d
  | e :: t =>
    let d' := d.takeCsn
    match d'.programLog n 4 (plogBytes d.time d.nextCsn e.twin e.opens (e :: t)) (.plog n d.time d.nextCsn e.twin (e :: t)) 0 ok with
    | none => d
    | some (_, d') => (d'.modPt n (fun p => { p with plog := l.drop (t.length + 1) })).countLog

/-- A write of a line waits for media commit (R10): a line log of it stands open or on its way. -/
def Dev.lineWaits (d : Dev) (line : Nat) : Bool :=
  d.homes.any (fun h => h.llog.any (·.line == line)) || d.lljobs.any (fun j => j.lines.any (·.line == line))

/-- An entry of a Point's open placement log sector locates an image that a write awaiting media commit depends on (R153). -/
def Dev.plogUrgent (d : Dev) (n : Nat) : Bool :=
  !d.mHoldup && d.imgs.any (fun x => x.logged && (d.imgEntries x).any (fun e => psaPoint e.1 == n && (d.pt n).plog.any (·.same e.2)) &&
    (x.secs.any (fun s => s.used.any (fun u => d.lineWaits u.1)) ||
      (x.why == 6 && (d.stm (x.old.getD 0 0)).tail.any (fun t => t.1 / 64 == x.old.getD 1 0 && d.lineWaits (apLine (x.old.getD 0 0) (t.1 / 64) (t.1 % 64))))))

/-- PLACEMENT_LOG_CLOSE (R153). -/
def execPlacementLogClose (n : Nat) (ok : Bool) (s : State) : Host.Outcome State Fault Refusal :=
  act (okPlacementLogClose n ok) s (fun d =>
    let l := (d.pt n).plog
    if l.length ≥ 28 || l.head?.any (fun e => decide (e.added + usUnits 10 ≤ d.time)) || d.plogUrgent n then d.closePlog n ok else d)

/-! ### Installs (R137, R149, R150, R152, R225) -/

/-- The log sectors that locate an image have been programmed. -/
def Dev.imgLogged (d : Dev) (x : Img) : Bool :=
  x.logged && (d.imgEntries x).all (fun e => !(d.pt (psaPoint e.1)).plog.any (fun y => y.same e.2 && y.opens.getD y.seg 0 == psaSeg e.1 % 8192))

/-- Every sector of an image is at media commit (R10, R156). -/
def Dev.imgCommitted (d : Dev) (x : Img) : Bool :=
  x.programmed && d.imgLogged x &&
    x.secs.all (fun s => (match s.psa with | some p => d.parityCovers p | none => false) &&
      (!x.twin || (match s.psb with | some p => d.parityCovers p | none => false)))

/-- Physical sectors that a verify waits for are resolved by a relocation (R170). -/
def Dev.verifyDone (d : Dev) (psas : List Nat) : Dev :=
  { d with groups := d.groups.map (fun g => { g with toVerify := g.toVerify.filter (fun p => !psas.contains p) }) }

/-- Free the entries whose contents an image placed, unless they returned to pending (R137). (DEDUCED, log entry 190.) -/
def Dev.freeUsed (d : Dev) (used : List (Nat × Nat)) : Dev :=
  let gone (b : BEntry) : Bool := used.contains (b.line, b.csn) && b.st != .pending
  let hs := ((d.binn.filter gone).map (fun b => homeOf (64 * b.line))).eraseDups
  hs.foldl Dev.credits (d.binnDrop gone)

/-- The entries that images at media commit took are committed (R135), and no entry of their lines has an older write that has not reached
media commit (R19). -/
def Dev.commitUsed (d : Dev) (used : List (Nat × Nat)) : Dev :=
  { d.entriesTo used .taken .committed with
    binn := (d.entriesTo used .taken .committed).binn.map (fun (b : BEntry) =>
      { b with first := (used.filter (fun u => u.1 = b.line)).foldl (fun m u => Nat.max m (u.2 + 1)) b.first }) }

/-- Images that have reached media commit commit their entries (R10, R135); those installed as well are done: their entries are freed
(R137), and the sectors that they relocated need no verify (R170). (DEDUCED, log entry 190.) -/
def Dev.freeSweep (d : Dev) : Dev :=
  let com := d.imgs.filter d.imgCommitted
  let fin := com.filter (fun x => !x.open)
  let d := d.commitUsed (com.flatMap (fun x => x.secs.flatMap (·.used)))
  let d := { d with imgs := d.imgs.filter (fun x => !fin.contains x) }
  (fin.foldl (fun d x => (d.freeUsed (x.secs.flatMap (·.used))).verifyDone (if x.why = 4 then x.old else [])) d).gpfSettle.recSettle

/-- Poison bits that the image of a full write ends (R41, R219): the image took the line's entry, which nothing has superseded, and a full
write stands in it. -/
def Dev.clearPoisons (d : Dev) (s : ImgSec) : Dev :=
  (List.range 4).foldl (fun d q =>
    let line := 4 * s.l + q
    if s.mask.testBit q && s.used.any (fun u => u.1 = line) && (d.binnAt line).any (·.whole) then d.poisonClear line else d) d

/-- Put an overlay entry in place; an older entry's sectors die (R149). -/
def Dev.ovlPut (d : Dev) (l : Nat) (e : Ovl) : Dev :=
  let h := homeOfSec l
  let old := assocGet l d.overlay
  let d := { d with overlay := assocSet l e d.overlay }.modHm h (fun x => { x with installs := x.installs + 1 })
  let d := d.addLive e.phys 1
  let d := match e.twin with | some t => if e.shared then d else d.addLive t 1 | none => d
  let d := match old with | some o => d.ovlDead o | none => d
  d.ovlReg h

/-- EPOCH of an entry installed now (Table 5.2): bits [25:16] of the bank's install count, which counts that install itself.
(DEDUCED, log entry 165.) -/
def Dev.epochNow (d : Dev) (h : Nat) : Nat := ((d.hm h).installs + 1) / 65536 % 1024

/-- A page gains its first live sector: it takes occupancy, and the units its write held are used up (R199, R202).
A stream page takes it for its whole extent. -/
def Dev.newPage (d : Dev) (pg : Nat) : Dev :=
  let d := { d with allowPages := d.allowPages.filter (· != pg) }
  if (d.streamOfPage pg).isSome then
    (if (List.range 16).any (fun i => d.occupies (pg / 16 * 16 + i)) then d else d.occupy (16 * d.copies) 0)
  else if d.occupies pg then d else d.occupy d.copies 0

/-- Install sector `j` of overlay image `i` (R149). (DEDUCED, log entry 165.) -/
def Dev.installSec (d : Dev) (i j : Nat) : Dev :=
  match d.imgSecAt i j with
  | none => d
  | some (x, s) =>
    match s.psa with
    | none => d
    | some p =>
      let d := d.newPage x.pg
      let d := d.ovlPut s.l { pinned := false, mask := s.mask, phys := p, epoch := d.epochNow (homeOfPage x.pg), twin := if x.twin then s.psb else none }
      (((d.clearPoisons s).undefer x.pg [s.l]).modImgSec i j (fun t => { t with installed := true })).freeSweep

/-- OVERLAY_INSTALL (R149, R151). -/
def execOverlayInstall (l : Nat) (s : State) : Host.Outcome State Fault Refusal :=
  act (okOverlayInstall l) s (fun d =>
    match d.imgIdx (fun x => !x.whole && x.programmed && d.imgLogged x && x.secs.any (fun t => t.l == l && !t.installed)) with
    | none => d
    | some i =>
      if d.ovlBlocked l then d.setFullDefer l
      else match ((d.imgs[i]?).map (·.secs)).bind (fun y => y.findIdx? (fun t => t.l == l && !t.installed)) with
        | some j => d.installSec i j
        | none => d)

/-- The overlay entry of a relocated sector of a page image (R150): MASK 0xF and the address used. Of a TWIN image, the rule applies to each
copy whose sector failed, and the other copy stays the one in its page slot. -/
def ImgSec.relEntry (s : ImgSec) (twin : Bool) (epoch : Nat) : Option Ovl :=
  match s.psa with
  | none => none
  | some p =>
    if s.relA then some { pinned := false, mask := 15, phys := p, epoch := epoch, twin := if twin then s.psb else none, shared := twin && !s.relB }
    else if s.relB then s.psb.map (fun b => { pinned := false, mask := 15, phys := b, epoch := epoch, twin := some p, shared := true })
    else none

/-- The relocated sectors of a page image get overlay entries with MASK 0xF (R150). -/
def Dev.installRelocated (d : Dev) (x : Img) : Dev :=
  x.secs.foldl (fun d s => match s.relEntry x.twin (d.epochNow (homeOfPage x.pg)) with | some e => d.ovlPut s.l e | none => d) d

/-- Install one copy of a page: the map entry becomes dirty, the older copy dies (R225). -/
def Dev.installCopy (d : Dev) (pg c base dead : Nat) : Dev :=
  let h := homeOfPage pg
  let sl := d.mapSlot pg c
  let (_, _, d, _) := d.walk h sl cleanRead
  let old := d.pageAt pg c
  let d := d.mapPut h sl (mapWord (base / 16) sl) true
  let d := d.addLive base (16 - dead)
  match old with
  | some o => d.killPage o
  | none => d

/-- Replace a physical page address in the page list of a seal (R287). -/
def Dev.moveSealed (d : Dev) (no old new : Nat) : Dev :=
  { d with seals := d.seals.map (fun (x : Seal) => if x.num = no then { x with psas := x.psas.map (fun p => if p = old then new else p) } else x) }

/-- The page of slot `q` of a stream is installed (R363, R365): its lines leave the tail, its poisoned lines enter the poison list,
and its tail reservation returns. (DEDUCED, log entry 114.) -/
def Dev.spillDone (d : Dev) (s q : Nat) : Dev :=
  let x := d.stm s
  let mine := x.tail.filter (fun t => t.1 / 64 = q)
  let d := mine.foldl (fun d t => if t.2.poison then d.markPoison (x.line (64 * t.1)) ((assocGet (x.line (64 * t.1)) d.poisonSrc).getD 0) else d.poisonClear (x.line (64 * t.1))) d
  let d := d.setStm s { x with tail := x.tail.filter (fun t => t.1 / 64 != q), resv := x.resv.erase q }
  ((d.completeAll (mine.flatMap (·.2.acks))).gpfSettle).creditRaise s

/-- The page's fold or remap is installed: what R151 asked of it is done (R173). -/
def Dev.folded (d : Dev) (pg : Nat) : Dev := d.modHm (homeOfPage pg) (fun x => { x with setFull := x.setFull.filter (· != pg) })

/-- The install of a page image at media commit (R150, R152, R225). -/
def Dev.installPage (d : Dev) (i : Nat) : Dev :=
  match d.imgs[i]? with
  | none => d
  | some x =>
    let d := if (d.seg (psaSeg x.baseA)).berthLoan then d else d.newPage x.pg
    let d := d.installCopy x.pg 0 x.baseA (x.secs.countP (·.relA))
    let d := if x.why = 2 && x.sealNo != 0 && !x.secs.any (·.relA) then d.moveSealed x.sealNo (sealHole x.pg) x.baseA else d
    let d := if x.twin then d.installCopy x.pg 1 x.baseB (x.secs.countP (·.relB)) else d
    let d := (((d.dropOverlay x.pg).installRelocated x).undefer x.pg (x.secs.map (·.l))).folded x.pg
    let d := x.secs.foldl Dev.clearPoisons d
    let d := if x.why = 2 then d.cnt (OVL_STAT.FOLDS (homeOfPage x.pg)) else d
    let used := x.secs.flatMap (·.used)
    let d := { (d.commitUsed used).verifyDone (if x.why = 3 then x.old else []) with imgs := d.imgs.eraseIdx i }
    let d := if x.why = 6 then d.spillDone (x.old.getD 0 0) (x.old.getD 1 0) else d
    (d.freeUsed used).freeSweep

/-- The relocated sectors of a page image whose overlay sets have no way for them (R150). -/
def Dev.relBlocked (d : Dev) (x : Img) : List Nat := (x.secs.filter (fun s => (s.relA || s.relB) && d.ovlBlocked s.l)).map (·.l)

/-- A page image must wait for a clean way of its map-cache set (R225). -/
def Dev.installWaits (d : Dev) (x : Img) : Bool :=
  let h := homeOfPage x.pg
  d.mapWaits h (d.mapSlot x.pg 0) || (x.twin && d.mapWaits h (d.mapSlot x.pg 1))

/-- Install a relocated sealed version: the page list moves, as an install (R287). -/
def Dev.installSealed (d : Dev) (i : Nat) : Dev :=
  match d.imgs[i]? with
  | none => d
  | some x =>
    let o := x.old.headD 0
    let d := (d.moveSealed x.sealNo o x.baseA).addLive x.baseA 16
    let d := match d.pageAt x.pg 0 with
      | some p => if p = o / 16 then d.mapPut (homeOfPage x.pg) (d.mapSlot x.pg 0) (mapWord (x.baseA / 16) (d.mapSlot x.pg 0)) true else d
      | none => d
    let d := (d.subLive o (d.slotLive (o / 16))).verifyDone ((List.range 16).map (o + ·))
    { d with imgs := d.imgs.eraseIdx i }

/-- PAGE_INSTALL (R225). A relocated sector that meets a full overlay set makes the page's install wait under R151 (R150). -/
def execPageInstall (pg : Nat) (s : State) : Host.Outcome State Fault Refusal :=
  act (okPageInstall pg) s (fun d =>
    match d.imgIdx (fun x => x.pg == pg && x.whole && x.open && d.imgCommitted x) with
    | none => d
    | some i =>
      match d.imgs[i]? with
      | none => d
      | some x =>
        if x.why = 5 then d.installSealed i
        else if !(d.relBlocked x).isEmpty then (d.relBlocked x).foldl Dev.setFullDefer d
        else if d.installWaits x then d
        else d.installPage i)

/-! ### Line logs and watermarks (R157, R158, R231) -/

/-- Units that the first line of a line log waits: 1.6 µs, or 3.4 µs under COLD. -/
def Dev.llWait (d : Dev) : Nat := if d.mCold then 7302 else 3436

/-- The sector of a line log: quarters 1 to 3 carry their lines' own checks (R154, R265). -/
def llogSector (d : Dev) (psa : Nat) (data : SecData) (body : Body) (ls : List LogLine) : Sector :=
  let check (q : Nat) : Nat :=
    match (if q = 0 then none else ls[q - 1]?) with
    | some l => l.check
    | none => lineCheck (secLine data q) (termPhys psa q)
  ⟨data, mkMeta ((List.range 4).map check) (d.seg (psaSeg psa)).count 0 false 0 0 4, BitVec.ofNat 64 (2 ^ 64 - 1), false, body⟩

/-- The logical page of a line that a line log records: an aperture line belongs to the page of its stream's slot (R350, R360). -/
def Dev.logPage (d : Dev) (line csn : Nat) : Nat :=
  match d.region (64 * line) with
  | .aperture s _ =>
    (match (d.stm s).tail.find? (fun t => t.2.csn == csn && apLine s (t.1 / 64) (t.1 % 64) == line) with
     | some t => (d.stm s).page (64 * t.1)
     | none => (d.stm s).page (d.stm s).pos.end_)
  | _ => line / 64

/-- Program the partial-parity sector of position `j` of row `r` of a group (R157), on the Point that R162 names for the row or the first in
the order of R103 that can take it, with its placement log entry; where verify fails the sector is used up with event 0x012, and the
position gains no cover. None where no Point can take it. -/
def Dev.programPartial (d : Dev) (g : Group) (r j : Nat) (ok : Bool) : Option Dev :=
  match (d.parityMember g r).bind (fun m => d.metaPoint m.1) with
  | none => none
  | some m =>
    let cov := d.covered g r j
    let mask := memberMask (cov.map (·.1))
    match d.metaSector m with
    | none => none
    | some p =>
      let d := d.program p { paritySector (cov.map (·.2)) with failed := !ok } (d.rowFilter g)
      let d := d.modPt m (fun q => { q with metaNext := psaSec p + 1 })
      if !ok then some (d.verifyFails p)
      else
        let d := d.modRow g.num r (fun x => { x with pps := (x.pps.filter (fun y => y.1 != j)) ++ [(j, p, mask)] })
        some (d.plogAdd p { kind := 3, seg := 3, first := psaSec p, target := mask * 65536 + r * 64 + j * 4 })

/-- A metadata record that reaches media commit at once (R10, R680): programmed, and covered by the partial parity of its row; none where
no Point can take both. -/
def Dev.recordNow (d : Dev) (n : Nat) (b : MBody) : Option Dev :=
  match d.takeCsn.programOn n 4 (mrecBytes d.time d.nextCsn d.cycle b) (.mrec d.nextCsn b) 0 with
  | none => none
  | some (psa, d) =>
    ((d.groupOf (psaSeg psa)).bind (fun g => d.programPartial g (psaSec psa / 16) (psaSec psa % 16) true)).map Dev.countLog

/-- Close the line log sector of a home (R158): its lines, with the completions that wait for them, are on their way to media commit. -/
def Dev.closeLlog (d : Dev) (h : Nat) : Dev :=
  let x := d.hm h
  let ls := x.llog.take 3
  if ls.isEmpty then d
  else
    let own := ls.map (·.csn)
    let rest := x.llog.drop 3
    let acks := x.llAcks.filter (fun a => own.contains a.2.2 || !(rest.any (fun l => l.csn = a.2.2)))
    let d := d.modHm h (fun y => { y with llog := rest, llAcks := y.llAcks.filter (fun a => !acks.contains a) })
    { d with lljobs := d.lljobs ++ [{ home := h, lines := ls, acks := acks }] }

/-- LINE_LOG_CLOSE (R158): cause 0 three lines, 1 the wait of its first line, 2 a line completed by a merge read. -/
def execLineLogClose (h cause : Nat) (s : State) : Host.Outcome State Fault Refusal :=
  act (okLineLogClose h cause) s (fun d =>
    let l := (d.hm h).llog
    if (cause = 0 && l.length ≥ 3) || (cause = 1 && l.head?.any (fun x => decide (x.time + d.llWait ≤ d.time))) ||
      (cause = 2 && (l.take 3).any (·.merged)) then d.closeLlog h else d)

/-- The newest line of a line log: the one of the highest CSN. -/
def newestLine (ls : List LogLine) : LogLine := ls.foldl (fun m l => if m.csn < l.csn then l else m) (ls.headD ⟨0, 0, 0, 0, 0, 0, false⟩)

/-- Program the sector of a line log job (R154, R158): CSN and ship's time are those of its newest line (R43). Where verify fails the sector
is used up with event 0x012. The address is that of a sector that passed. -/
def Dev.programLlog (d : Dev) (j : LineLogJob) (ok : Bool) : Option Nat × Dev :=
  match d.metaPoint (d.serving j.home) with
  | none => (none, d)
  | some m =>
    match d.metaSector m with
    | none => (none, d)
    | some psa =>
      let x := newestLine j.lines
      let s := llogSector d psa (secOfBytes (llogBytes x.time x.csn j.lines)) (.llog x.time x.csn j.lines) j.lines
      let d := d.program psa { s with failed := !ok } (dfBits (j.lines.map (fun l => d.logPage l.line l.csn)))
      let d := d.modPt m (fun p => { p with metaNext := psaSec psa + 1 })
      if ok then (some psa, d.countLog) else (none, d.verifyFails psa)

/-- The lines of a line log job have reached media commit (R10, R158): they stand above the watermark (R231), no older write of theirs waits
(R19), and their completions are sent. -/
def Dev.commitLlog (d : Dev) (j : LineLogJob) : Dev :=
  let d := d.modHm j.home (fun y => { y with wmDue := true, above := y.above ++ j.lines.map (·.csn) })
  let past (line first : Nat) : Nat := (j.lines.filter (fun l => l.line = line)).foldl (fun m l => Nat.max m (l.csn + 1)) first
  let tails (x : Nat × Stream) : Nat × Stream := (x.1, { x.2 with
    tail := x.2.tail.map (fun (t : Nat × TailLine) => (t.1, { t.2 with first := past (apLine x.1 (t.1 / 64) (t.1 % 64)) t.2.first })) })
  let d : Dev := { d with
    lljobs := d.lljobs.erase j
    binn := d.binn.map (fun (b : BEntry) => { b with first := past b.line b.first })
    str := { d.str with ctx := d.str.ctx.map tails } }
  (d.completeAll j.acks).gpfSettle.recSettle

/-- LINE_LOG_COMMIT (R158): the sector of the home's oldest closed line log is programmed, where it has not been yet, and its partial-parity
sector, with the verify outcomes `okA` and `okB`. Once both have passed, every line of the sector has reached media commit. -/
def execLineLogCommit (h : Nat) (okA okB : Bool) (s : State) : Host.Outcome State Fault Refusal :=
  act (okLineLogCommit h okA okB) s (fun d =>
    match d.lljobs.find? (fun j => j.home = h) with
    | none => d
    | some j =>
      let (p, d) := match j.psa with
        | some p => (some p, d)
        | none => d.programLlog j okA
      let j' : LineLogJob := { j with psa := p }
      let d := { d with lljobs := d.lljobs.map (fun (y : LineLogJob) => if y = j then j' else y) }
      match p.bind (fun psa => (d.groupOf (psaSeg psa)).bind (fun g => d.programPartial g (psaSec psa / 16) (psaSec psa % 16) okB)) with
      | none => d
      | some d => if okB then d.commitLlog j' else d)

/-- The watermark of a home (R231, R682); the tail lines of its streams count as entries of its slice (R363). -/
def Dev.watermarkOf (d : Dev) (h : Nat) : Nat :=
  let es := (d.binn.filter (fun b => homeOf (64 * b.line) = h && b.st != .committed)).map (·.csn)
  let ts := (d.str.ctx.filter (fun x => homeOfStream x.1 = h)).flatMap (fun x => x.2.tail.map (·.2.csn))
  match es ++ ts with
  | [] => (d.hm h).newest
  | e :: t => t.foldl Nat.min e - 1

/-- WATERMARK (R231). -/
def execWatermark (h : Nat) (s : State) : Host.Outcome State Fault Refusal :=
  act (okWatermark h) s (fun d =>
    if d.mHoldup || !(d.hm h).wmDue then d
    else
      let w := d.watermarkOf h
      (d.record (d.serving h) (.watermark h w)).modHm h (fun x => { x with
        wm := w, wmDue := false, above := x.above.filter (fun c => w < c), accepted := x.accepted.filter (fun c => w < c) }))

end Sys2Proof.Machine
end

