-- ==== Sys2Proof/Machine/Rows.lean ====
section
/-! DEFINITION. Stripe rows and groups, settle and verify, relocation, folds, the map flush and the placement queues (chapter 05). -/

namespace Sys2Proof.Machine

/-! ### Rows and groups (R160 to R171) -/

/-- Programmed sectors of a segment, in order. -/
def Dev.segSectors (d : Dev) (sg : Nat) : List Nat := (d.sectors.filter (fun x => psaSeg x.1 = sg)).map (·.1)

/-- An address lies in a member of a group. -/
def Group.holds (g : Group) (psa : Nat) : Bool := g.members.contains (psaSeg psa / 8192, psaSeg psa % 8192)

/-- Program sector `j` of the parity page of row `r` of a group, at `p` (R163): where verify fails it moves to the next free sector of the same
open segment with event 0x012 (Table 2.5), as a partial-parity sector is located. What its page slot or die cannot take becomes a
partial-parity sector (R91, R103). The mask of members that the parity page covers at `j` is added to those of the earlier positions. -/
def Dev.paritySec (d : Dev) (g : Group) (r j p : Nat) (ok : Bool) : Nat × Dev :=
  let cov := d.covered g r j
  let mask := memberMask (cov.map (·.1))
  let aside (d : Dev) : Nat × Dev := (0, (d.programPartial g r j true).getD d)
  if d.skipped p || d.dieGone (psaPoint p) then aside d
  else
    let s := paritySector (cov.map (·.2))
    let d := d.program p { s with failed := !ok } (d.rowFilter g)
    if ok then (mask, d)
    else match (d.verifyFails p).nextSec p g.kind with
      | none => aside (d.verifyFails p)
      | some (q, d) =>
        let d := (d.program q s (d.rowFilter g)).modRow g.num r (fun x => { x with pps := (x.pps.filter (fun y => y.1 != j)) ++ [(j, q, mask)] })
        (0, d.plogAdd q { kind := 3, seg := g.kind, first := psaSec q, target := mask * 65536 + r * 64 + j * 4 })

/-- Program the parity page of a row over the slots programmed (R163 to R165), with its placement log entry; bit `j` of `fails` says that its
sector `j` fails verify. (DESIGN CHOICE, log entry 166.) -/
def Dev.programParity (d : Dev) (num r fails : Nat) : Dev :=
  match d.group num with
  | none => d
  | some g =>
    match d.parityMember g r with
    | none => d
    | some m =>
      let base := mkPsa (8192 * m.1 + m.2) (16 * r)
      let (masks, d) := (List.range 16).foldl (fun (acc : List Nat × Dev) j =>
        let (k, d) := acc.2.paritySec g r j (base + j) (!fails.testBit j)
        (acc.1 ++ [k], d)) ([], d)
      let all := masks.foldl Nat.lor 0
      let d := d.modRow num r (fun x => { x with parity := some masks })
      if all = 0 then d else d.plogAdd base { kind := 2, seg := g.kind, first := 16 * r, target := all * 65536 + r * 64 }

/-- ROW_COMPLETE (R164): the parity page of a complete row is programmed. -/
def execRowComplete (g r fails : Nat) (s : State) : Host.Outcome State Fault Refusal :=
  act (okRowComplete g r fails) s (fun d =>
    match d.group g with
    | none => d
    | some x =>
      if x.st = 0 && !d.coldStop && d.rowFull x r && (x.row r).any (fun y => y.parity.isNone && !y.closed) then (d.programParity g r fails).freeSweep
      else d)

/-- Purge the slots of a group's segments that satisfy a predicate from the placement queues. -/
def Dev.purgeSlots (d : Dev) (x : Group) (q : Slot → Bool) : Dev :=
  x.members.foldl (fun d m =>
    let hit (t : Slot) : Bool := t.seg = 8192 * m.1 + m.2 && q t
    d.modQueue x.kind m.1 (fun u => { u with slots := u.slots.filter (fun t => !hit t), cur := u.cur.filter (fun t => !hit t) })) d

/-- Close a row (R165): its unprogrammed sectors stay blank, what was to be programmed there is placed again, and its parity covers the slots
programmed. -/
def Dev.closeRow (d : Dev) (g r fails : Nat) : Dev :=
  match d.group g with
  | none => d
  | some x =>
    let d := (d.purgeSlots x (fun t => t.slot == r)).modRow g r (fun y => { y with closed := true })
    (d.moveOff (fun p => x.holds p && psaSec p / 16 == r) false).programParity g r fails

/-- ROW_TIMEOUT (R165). -/
def execRowTimeout (g r fails : Nat) (s : State) : Host.Outcome State Fault Refusal :=
  act (okRowTimeout g r fails) s (fun d =>
    match d.group g with
    | none => d
    | some x =>
      if x.st = 0 && !d.coldStop && !d.rowFull x r &&
          (x.row r).any (fun y => !y.closed && y.parity.isNone && decide (y.first + msUnits 1 ≤ d.time)) then (d.closeRow g r fails).freeSweep
      else d)

/-- Close a group as a whole (R166): incomplete rows close, what its segments were still to take is placed again, members settle,
GROUP_STATE is recorded. Verify passes for the parity of these rows. (DESIGN CHOICE, log entry 166.) -/
def Dev.closeGroup (d : Dev) (g : Nat) : Dev :=
  match d.group g with
  | none => d
  | some x =>
    if x.st != 0 then d
    else
      let rows := (x.rows.filter (fun y => !y.closed && y.parity.isNone)).map (·.r)
      let d := rows.foldl (fun d r => if d.rowFull x r then d.programParity g r 0 else d.closeRow g r 0) (d.purgeSlots x (fun _ => true))
      let d := x.members.foldl (fun d m => d.setState (8192 * m.1 + m.2) 4) d
      let all := (d.sectors.filter (fun y => x.holds y.1 && !y.2.failed)).map (·.1)
      let d := (d.modGroup g (fun y => { y with st := 1, closedAt := d.time, toVerify := all })).moveOff x.holds false
      (d.record (x.members.headD (0, 0)).1 (.groupState g 1)).freeSweep

/-- A group closes because a member's slot 1,023 is programmed, or a rehoming, secure discard or REKEY names it (R166). -/
def Dev.groupCause (d : Dev) (x : Group) (cause : Nat) : Bool :=
  let segs := x.members.map (fun m => 8192 * m.1 + m.2)
  match cause with
  | 0 => segs.any (fun sg => d.slotFull sg 1023 && d.slotUsed sg 1023)
  | 2 => x.members.any (fun m => !d.live m.1)
  | 3 => (match d.sdisc with | y :: _ => y.step == 4 && segs.any y.cands.contains | [] => false) ||
         (match d.rekey with | some y => y.step == 3 && segs.any y.cands.contains | none => false)
  | _ => false

/-- The segment of a list with the lowest (or highest) effective count, ties to the lowest number. -/
def Dev.pickSeg (d : Dev) (high : Bool) (l : List Nat) : Option Nat :=
  l.foldl (fun (acc : Option Nat) sg =>
    match acc with
    | none => some sg
    | some b => if (if high then d.effCount b < d.effCount sg else d.effCount sg < d.effCount b) then some sg else acc) none

/-- CLEARED segments of a Point in a pool, in ascending order, without its flush segment. -/
def Dev.clearedList (d : Dev) (n pool : Nat) : List Nat :=
  (segsOf n).filter (fun sg => (d.seg sg).state == 2 && (d.seg sg).pool == pool && (d.pt n).flushSeg != some sg && !(d.seg sg).fatal)

/-- The segment a Point supplies for a group of a kind (Table 6.3, R161, R184). -/
def Dev.supply (d : Dev) (kind n : Nat) : Option Nat :=
  d.pickSeg (kind = 1 && d.on WLV_CTL.FOLD_OLD) (d.clearedList n (if kind = 3 then 1 else 0))

/-- WLV_CAP.BERTH_LOW follows WLV_FREE.BERTH (R207). -/
def Dev.berthCheck (d : Dev) : Dev :=
  let b := d.f WLV_FREE.BERTH
  if !d.on WLV_CAP.BERTH_LOW && b < 64 then (d.setF WLV_CAP.BERTH_LOW 1).post { code := 0x067, level := 3 }
  else if d.on WLV_CAP.BERTH_LOW && b ≥ 128 then d.setF WLV_CAP.BERTH_LOW 0
  else d

/-- Form a stripe group of a kind from named segments (R161, R172). -/
def Dev.formGroup (d : Dev) (kind : Nat) (segs : List Nat) : Dev :=
  let num := d.nextGroup
  let members := segs.map (fun sg => (sg / 8192, sg % 8192))
  let d := segs.foldl (fun d sg => (d.modSeg sg (fun x => { x with kind := kind, group := num })).setState sg 3) d
  let d := { d with groups := d.groups ++ [(⟨num, kind, 0, members, [], 0, []⟩ : Group)], nextGroup := num + 1 }
  let d := if kind = 3 then segs.foldl (fun d sg => d.modPt (sg / 8192) (fun p => { p with metaNext := 0 })) d else d
  let d := segs.foldl (fun d sg => d.modQueue kind (sg / 8192) (fun q => { q with next := 0 })) d
  let nos := (List.range 16).map (fun n => (members.find? (fun m => m.1 = n)).map (·.2))
  (d.record (members.headD (0, 0)).1 (.groupOpen kind num nos)).drainRecords

/-- Open a group of a kind where none is open and every live Point can supply a segment (R161). -/
def Dev.openGroupOf (d : Dev) (kind : Nat) : Dev :=
  if (d.openGroup kind).isSome then d
  else
    let segs := d.livePts.map (d.supply kind)
    if segs.isEmpty || segs.any (·.isNone) then d else d.formGroup kind (segs.filterMap id)

/-- GROUP_OPEN (R161). -/
def execGroupOpen (kind : Nat) (s : State) : Host.Outcome State Fault Refusal :=
  act (okGroupOpen kind) s (fun d => d.openGroupOf kind)

/-- The settling members of a group are verifying, each with a verify task (R168, Table 5.6). -/
def Dev.settleGroup (d : Dev) (g : Nat) (x : Group) : Dev :=
  x.members.foldl (fun d m =>
    if (d.seg (8192 * m.1 + m.2)).state = 4 then (d.setState (8192 * m.1 + m.2) 5).queueTask m.1 { kind := 3, arg := g } else d) d

/-- SETTLE_END (R168): 100 ms after closure the members are verifying and a verify task is queued. -/
def execSettleEnd (g : Nat) (s : State) : Host.Outcome State Fault Refusal :=
  act (okSettleEnd g) s (fun d =>
    match d.group g with
    | none => d
    | some x =>
      if x.st = 1 && x.closedAt + msUnits 100 ≤ d.time && x.members.any (fun m => (d.seg (8192 * m.1 + m.2)).state = 4) then
        d.settleGroup g x
      else d)

/-! ### The metadata segments (R223, R239) -/

/-- The cut CSN of the checkpoint before the newest: a log sector closed below it is dead (R239). -/
def Dev.deadCut (d : Dev) : Nat := match d.ckpts with | _ :: c :: _ => c.csn | _ => 0

/-- Page addresses of map pages that are live (R239): those the directory or one of the two newest checkpoints names, and those
that a live MAP_PAGE record names. -/
def Dev.liveMapPages (d : Dev) : List Nat :=
  let dirs := d.dir ++ d.ckpts.flatMap (·.dir)
  dirs.flatMap (fun x => [x.2.1, x.2.2]) ++ d.sectors.flatMap (fun s => match s.2.body with
    | .mrec csn (.mapPage _ _ a b) => if csn ≥ d.deadCut then [a, b] else []
    | _ => [])

/-- A log or record above the cut is live (R239). -/
def Dev.logLive (d : Dev) (b : Body) : Bool :=
  match b with
  | .plog _ _ csn _ _ | .llog _ csn _ | .mrec csn _ => decide (csn ≥ d.deadCut)
  | _ => false

/-- A sector of a metadata segment other than a map page's is live: a log or record above the cut (R239), a seal record, or the page list of
a standing seal. -/
def Dev.bodyLive (d : Dev) (b : Body) : Bool :=
  match b with
  | .sealRec .. => true
  | .pages num _ => d.seals.any (·.num == num)
  | b => d.logLive b

/-- A metadata segment holds a live sector of the kinds of R239, log or map, so that it is neither collected nor cleared. -/
def Dev.metaHeld (d : Dev) (sg : Nat) : Bool :=
  let pages := d.liveMapPages
  d.sectors.any (fun s => psaSeg s.1 == sg && (match s.2.body with
    | .raw => pages.contains (s.1 / 16)
    | b => d.logLive b))

/-- Live sectors of a metadata segment (R239). -/
def Dev.metaLive (d : Dev) (sg : Nat) : Nat :=
  let pages := d.liveMapPages
  d.sectors.countP (fun s => psaSeg s.1 == sg && (match s.2.body with
    | .raw => pages.contains (s.1 / 16)
    | b => d.bodyLive b))

/-- The live count of a metadata segment is taken afresh. -/
def Dev.metaRecount (d : Dev) (sg : Nat) : Dev :=
  if (d.seg sg).kind = 3 then
    (let n := d.metaLive sg
     d.modSeg sg (fun x => { x with live := n }))
  else d

/-- MAP_FLUSH (R223); none in media critical or cold stop (R637, R640). (DEDUCED, log entry 23.) -/
def execMapFlush (h mp : Nat) (s : State) : Host.Outcome State Fault Refusal :=
  act (okMapFlush h mp) s (fun d => if d.noClear then d else d.flushMap h mp)

/-! ### Relocation (R169, R175, R176) -/

/-- The page whose current copy `c` occupies a page slot: its sector's high part leaves eight candidates (R264). -/
def Dev.ownerOf (d : Dev) (page : Nat) : Option (Nat × Nat) :=
  let highs := (List.range 16).filterMap (fun j => (assocGet (16 * page + j) d.sectors).map (fun s => (metaHigh s.md, metaKind s.md)))
  match highs with
  | [] => none
  | (hp, k) :: _ =>
    let base := if k = 1 then hp / 128 * 1024 else hp * 8
    let cand := (List.range (if k = 1 then 1024 else 8)).map (base + ·)
    (cand.flatMap (fun pg => (List.range d.copies).map (fun c => (pg, c)))).find? (fun x => d.pageAt x.1 x.2 == some page)

/-- The overlay entry that a sector serves. -/
def Dev.ovlOwner (d : Dev) (psa : Nat) : Option (Nat × Ovl) :=
  d.overlay.find? (fun x => x.2.phys = psa || (x.2.twin = some psa && !x.2.shared))

/-- The other TWIN copy of what a sector serves. -/
def Dev.altOf (d : Dev) (psa : Nat) : Option Nat :=
  match d.ovlOwner psa with
  | some (_, e) => if e.phys = psa then e.twin else some e.phys
  | none =>
    match d.ownerOf (psa / 16) with
    | some (pg, c) => if d.mTwin then (d.pageAt pg (1 - c)).map (fun p => 16 * p + psa % 16) else none
    | none => none

/-- Read the 16 sectors of a page as a fold does: dirty Pilot lines, overlay sectors, the page location (R175). A line that
is poisoned, lost or unreadable is programmed as zeros and stays poisoned. -/
def Dev.readPage (d : Dev) (pg : Nat) (ev : RdEnv) : List ImgSec × Dev × RdEnv :=
  let stream := (d.streamOfPage pg).isSome
  (List.range 16).foldl (fun (acc : List ImgSec × Dev × RdEnv) j =>
    let (out, d, ev) := acc
    let l := 16 * pg + j
    let o := assocGet l d.overlay
    let m := match o with | some e => e.mask | none => 0
    let (a, d, ev) := match o with
      | some e => d.readSec e.phys e.twin l m stream true true ev
      | none => ([], d, ev)
    let (b, d, ev) := if m = 15 then ([], d, ev) else
      match d.pageAt pg 0 with
      | some p => d.readSec (16 * p + j) ((d.pageAt pg 1).map (fun t => 16 * t + j)) l (15 - m) stream true true ev
      | none => ([], d, ev)
    let line (q : Nat) : Option Carried :=
      match (assocGet (4 * l + q) d.pilot).filter (·.dirty) with
      | some p => some (p.data, p.check)
      | none => if m.testBit q then a.getD q none else b.getD q none
    (out ++ [imgSecOf l 15 (termOf stream) ((List.range 4).map line) []], d, ev)) ([], d, ev)

/-- The logical sector high parts of a page's sectors: a stream page keeps those it has (R379, R381). -/
def Dev.pageHigh (d : Dev) (pg : Nat) : List Nat :=
  (List.range 16).map (fun j =>
    match d.streamOfPage pg, d.pageAt pg 0 with
    | some _, some p => (match assocGet (16 * p + j) d.sectors with | some s => metaHigh s.md | none => (16 * pg + j) / 16384 % 2 ^ 17 * 128)
    | _, _ => winHigh (16 * pg + j))

/-- Overlay entries that a fold or collection takes into its image are pinned (R148, R175). -/
def Dev.pinOvl (d : Dev) (q : Nat → Bool) : Dev :=
  { d with overlay := d.overlay.map (fun (y : Nat × Ovl) => if q y.1 then (y.1, { y.2 with pinned := true }) else y) }

/-- Start the image of a fold or a page relocation (R175, R176): its overlay entries are pinned. It does not start while the page has another
image, a read of it waits for a retrain, or no Point can take it. -/
def Dev.startFold (d : Dev) (pg why : Nat) (old : List Nat) (ev : RdEnv) : Dev × RdEnv :=
  if d.pageBusy pg || !d.occupies pg then (d, ev)
  else
    let (ss, d', ev') := d.readPage pg ev
    if d'.blocked.isSome then (d, ev')
    else match d'.placeImg { d'.newImg pg 1 why true ss with high := d.pageHigh pg, old := old } with
      | none => (d, ev')
      | some (x, d') => (({ d' with imgs := d'.imgs ++ [x] } : Dev).pinOvl (fun l => l / 16 == pg), ev')

/-- Drop one overlay entry. -/
def Dev.dropEntry (d : Dev) (l : Nat) (e : Ovl) : Dev := (({ d with overlay := assocDel l d.overlay } : Dev).ovlDead e).ovlReg (homeOfSec l)

/-- Start the relocation of one overlay sector (R169, R176): its entry is pinned; with no line left to relocate, the entry goes. -/
def Dev.startSecMove (d : Dev) (l : Nat) (e : Ovl) (ev : RdEnv) : Dev × RdEnv :=
  if d.pageBusy (l / 16) then (d, ev)
  else
    let stream := (d.streamOfPage (l / 16)).isSome
    let (ls, d', ev') := d.readSec e.phys e.twin l e.mask stream true true ev
    if d'.blocked.isSome then (d, ev')
    else
      let mask := (List.range 4).foldl (fun m q => if (ls.getD q none).isSome then m ||| 2 ^ q else m) 0
      if mask = 0 then (d'.dropEntry l e, ev')
      else match d'.placeImg { d'.newImg (l / 16) 1 4 false [imgSecOf l mask (termOf stream) ls []] with high := d.pageHigh (l / 16), old := [e.phys] } with
        | none => (d, ev')
        | some (x, d') => (({ d' with imgs := d'.imgs ++ [x] } : Dev).pinOvl (· == l), ev')

/-- Start the relocation of a sealed version that is no longer its page's image (R287). -/
def Dev.startSealedMove (d : Dev) (sl : Seal) (page : Nat) (ev : RdEnv) : Dev × RdEnv :=
  let k := sl.psas.findIdx (· == 16 * page)
  let pg := sl.start / 4096 + k
  if d.imgs.any (fun i => i.why = 5 && i.old.contains (16 * page)) then (d, ev)
  else
    let r := (List.range 16).foldl (fun (acc : List ImgSec × Dev × RdEnv) j =>
      let (ls, d, ev) := acc.2.1.readSec (16 * page + j) none (16 * pg + j) 15 false false true acc.2.2
      (acc.1 ++ [imgSecOf (16 * pg + j) 15 termDev ls []], d, ev)) ([], d, ev)
    if r.2.1.blocked.isSome then (d, r.2.2)
    else match r.2.1.placeImg { r.2.1.newImg pg 1 5 true r.1 with twin := false, old := [16 * page], sealNo := sl.num } with
    | none => (d, r.2.2)
    | some (x, d') => ({ d' with imgs := d'.imgs ++ [x] }, r.2.2)

/-- Copy a live sector of a metadata segment other than a map page's to the metadata open segment (R169); the old one records nothing any
more. None where no Point can take it. (DESIGN CHOICE, log entry 167.) -/
def Dev.copyMeta (d : Dev) (psa : Nat) (s : Sector) : Option Dev :=
  match d.metaPoint (psaPoint psa) with
  | none => none
  | some m =>
    match d.metaSector m with
    | none => none
    | some q =>
      let t := match s.body with
        | .llog _ _ ls => llogSector d q s.data s.body ls
        | b => physSector d q 4 s.data b
      let d := (d.program q t (d.seg (psaSeg psa)).dfilter).modPt m (fun p => { p with metaNext := psaSec q + 1 })
      some { d with sectors := assocSet psa { s with body := .raw } d.sectors }

/-- Relocate a live sector of a metadata segment (R169): a map page is flushed afresh, any other sector is copied. The Bool says that the
sector is live. (DESIGN CHOICE, log entry 167.) -/
def Dev.relocateMeta (d : Dev) (psa : Nat) : Bool × Dev :=
  match assocGet psa d.sectors with
  | none => (false, d)
  | some s =>
    match s.body with
    | .raw =>
      match d.dir.find? (fun x => x.2.1 = psa / 16 || x.2.2 = psa / 16) with
      | some (k, _) => (true, (d.writeMap (k / 16384) (k % 16384)).getD d)
      | none => (false, d)
    | b => if d.bodyLive b then (true, (d.copyMeta psa s).getD d) else (false, d)

/-- Relocate what a live sector holds (R169): its page, its overlay sector, its sealed version, or a metadata sector. The Bool says that the
sector holds something live. -/
def Dev.relocate (d : Dev) (psa : Nat) (ev : RdEnv) : Bool × Dev × RdEnv :=
  if (d.seg (psaSeg psa)).kind = 3 then
    let (b, d) := d.relocateMeta psa
    (b, d, ev)
  else match d.ovlOwner psa with
    | some (l, e) => (true, d.startSecMove l e ev)
    | none =>
      match d.ownerOf (psa / 16) with
      | some (pg, _) => (true, d.startFold pg 3 ((List.range 16).map (16 * (psa / 16) + ·)) ev)
      | none =>
        match d.seals.find? (fun x => x.target = 0 && x.psas.contains (16 * (psa / 16))) with
        | some x => (true, d.startSealedMove x (psa / 16) ev)
        | none => (false, d, ev)

/-- The page that a sector of a data segment serves now, alone or in its page slot. -/
def Dev.servedPage (d : Dev) (psa : Nat) : Option Nat :=
  match d.ovlOwner psa with
  | some (l, _) => some (l / 16)
  | none => (d.ownerOf (psa / 16)).map (·.1)

/-- Relocate every live page and sector of a segment (R121, R176): a page that is being folded is left to its fold. The Bool says that some
of them could not start now. -/
def Dev.evacuate (d : Dev) (sg : Nat) (ev : RdEnv) : Bool × Dev :=
  let d := ((d.segSectors sg).foldl (fun (x : Dev × RdEnv) p => (x.1.relocate p x.2).2) (d, ev)).1
  let left := if (d.seg sg).kind = 3 then decide (d.metaLive sg > 0)
    else (d.segSectors sg).any (fun p => (d.servedPage p).any (fun pg => !d.pageBusy pg))
  (left, (d.metaRecount sg).dropEmpty sg)

/-- The lines a sector serves, lost when neither it nor its rebuild can be read (R39, R169). -/
def Dev.loseAt (d : Dev) (psa : Nat) (s : Sensed) : Dev :=
  match d.ovlOwner psa with
  | some (l, e) => d.loseOn psa s l e.mask
  | none =>
    match d.ownerOf (psa / 16) with
    | some (pg, _) =>
      let l := 16 * pg + psa % 16
      d.loseOn psa s l (15 - (match assocGet l d.overlay with | some e => e.mask | none => 0))
    | none => d

/-- A sector that did not pass verify is relocated where it holds something live, and needs no verify where it holds nothing (R169, R170). -/
def Dev.verifyMove (d : Dev) (psa : Nat) (ev : RdEnv) : Dev :=
  let (busy, d', _) := d.relocate psa ev
  if busy then d' else d.verifyDone [psa]

/-- The verify read of a sector has come in (R168, R169): it passes with no more than MARGIN_BITS corrected bits; one that decodes otherwise is
relocated, and one that does not decode is rebuilt first, or its data is lost. A sector of a dead die is left to R74. -/
def Dev.verifyRead (d : Dev) (psa : Nat) (ev : RdEnv) : Dev :=
  let (t, d1, ev) := d.decode psa true ev
  match t with
  | .waits => { d1 with blocked := some psa }
  | .gone => if (d.relocate psa ev).1 then d else d.verifyDone [psa]
  | .got _ =>
    if (d1.pt (psaPoint psa)).lastBch ≤ Nat.min 16 (d.f OVL_VERIFY.MARGIN_BITS) then d1.verifyDone [psa] else d1.verifyMove psa ev
  | .bad _ =>
    let (r, d2, ev) := d1.rebuild psa (d1.altOf psa) t ev
    if r.isSome then d2.verifyMove psa ev else if d2.blocked.isSome then d2 else (d2.loseAt psa t).verifyDone [psa]

/-- VERIFY_READ_DONE (R168, R169). -/
def execVerifyReadDone (psa : Nat) (ev : RdEnv) (s : State) : Host.Outcome State Fault Refusal :=
  act (okVerifyReadDone psa ev) s (fun d => d.reading (fun d =>
    if d.groups.any (fun g => g.st = 1 && g.toVerify.contains psa) && ((d.seg (psaSeg psa)).state = 5 || (d.seg (psaSeg psa)).state = 9) then
      d.verifyRead psa ev
    else d))

/-- A group's parity dies and its members become STABLE (R170); a fatal one goes on to collection (R284). -/
def Dev.releaseParity (d : Dev) (g : Nat) (x : Group) : Dev :=
  let d := { d with groups := d.groups.filter (fun y => y.num != g) }
  let d := x.members.foldl (fun d m =>
    let sg := 8192 * m.1 + m.2
    if (d.seg sg).state != 5 then d
    else
      let d := ((d.setState sg 6).metaRecount sg).dropEmpty sg
      if (d.seg sg).fatal && (d.seg sg).state = 6 then d.toCollect sg else d) d
  d.record (x.members.headD (0, 0)).1 (.groupState g 2)

/-- PARITY_RELEASE (R170): every programmed sector of every member has passed verify or has been relocated. -/
def execParityRelease (g : Nat) (s : State) : Host.Outcome State Fault Refusal :=
  act (okParityRelease g) s (fun d =>
    match d.group g with
    | none => d
    | some x =>
      if x.st = 1 && x.toVerify.isEmpty && x.members.all (fun m => (d.seg (8192 * m.1 + m.2)).state = 5 || !d.live m.1) then
        d.releaseParity g x
      else d)

/-! ### Folds (R173, R174) -/

/-- The event of R173 that queues a fold holds. -/
def Dev.foldCause (d : Dev) (pg cause : Nat) : Bool :=
  let h := homeOfPage pg
  let es := d.ovlPage pg
  match cause with
  | 0 => decide (es.length ≥ d.f OVL_CTL.FOLD_SECT)
  | 1 => (d.hm h).setFull.contains pg
  | _ => decide (d.ovlCount h ≥ 16 * d.f OVL_MARK.LOW) &&
      (match d.ovlOldest h (d.overlay.filter (fun x => homeOfSec x.1 = h)) with
       | some o => es.any (fun e => d.ovlAge h e.2 == d.ovlAge h o.2)
       | none => false)

/-- FOLD_QUEUE (R173): one fold task for a page at its home's Point. -/
def execFoldQueue (pg cause : Nat) (s : State) : Host.Outcome State Fault Refusal :=
  act (okFoldQueue pg cause) s (fun d =>
    if d.foldCause pg cause then d.queueTask (d.serving (homeOfPage pg)) { kind := 0, arg := pg } else d)

/-! ### Placement queues (R67, R187) -/

/-- The slots of an open segment from row `from_` on, as the queue takes them: parity slots omitted, skipped sectors left out,
until it holds 1,024 addresses. -/
def Dev.queueFill (d : Dev) (g : Group) (n sg : Nat) : Nat → PQueue → PQueue
  | 0, q => q
  | fuel + 1, q =>
    if q.next ≥ 1024 then q
    else
      let r := q.next
      let free := (List.range 16).filter (fun j => !d.skipped (mkPsa sg (16 * r + j)) && !d.programmed (mkPsa sg (16 * r + j)))
      let secs := free.map (16 * r + ·)
      if d.parityMember g r = some (n, sg % 8192) || g.rowClosed r || secs.isEmpty then d.queueFill g n sg fuel { q with next := r + 1 }
      else if q.count + secs.length > 1024 then q
      else d.queueFill g n sg fuel { q with next := r + 1, slots := q.slots ++ [⟨sg, r, secs, decide (free.length = 16)⟩] }

/-- PLACEMENT_QUEUE_REFILL (R67, R187). -/
def execPlacementQueueRefill (n kind : Nat) (s : State) : Host.Outcome State Fault Refusal :=
  act (okPlacementQueueRefill n kind) s (fun d =>
    match d.openGroup kind, d.openSeg kind n with
    | some g, some sg => if (d.queue kind n).count < 256 && kind < 3 then d.modQueue kind n (d.queueFill g n sg 1024) else d
    | _, _ => d)

/-- GROUP_CLOSE (R166). The closure of R116 is the effect of SEGMENT_AGE_CLOSE's own condition. -/
def Dev.groupClose (d : Dev) (g cause : Nat) (aged : Bool) : Dev :=
  match d.group g with
  | none => d
  | some x => if !d.coldStop && (d.groupCause x cause || (cause = 1 && aged)) then (d.closeGroup g).openGroupOf x.kind else d

end Sys2Proof.Machine
end

