-- ==== Sys2Proof/Machine/Drift.lean ====
section
/-! DEFINITION. Effective age, margins and refresh, lodestone samples (chapter 04). -/

namespace Sys2Proof.Machine

/-- AF(T) of R109 in 2^-16, for T from -50 to +150 degrees. -/
def afTable : List Nat :=
  [0, 0, 0, 0, 0, 0, 0, 0, 0, 0, 0, 0, 0, 0, 0, 0, 0, 0, 0, 0, 0, 0, 0, 0, 0, 0, 0, 0, 0, 1, 1, 1, 1, 1, 1, 2, 2, 3, 3, 4] ++
  [4, 5, 6, 8, 9, 11, 13, 15, 18, 22, 26, 31, 37, 43, 51, 60, 71, 84, 98, 115, 135, 159, 186, 217, 254, 296, 345, 402, 467, 543, 630, 731, 846, 980, 1132, 1308, 1509, 1740, 2004, 2305] ++
  [2650, 3044, 3492, 4004, 4586, 5248, 6001, 6855, 7825, 8924, 10168, 11577, 13170, 14971, 17003, 19296, 21881, 24793, 28070, 31756, 35899, 40552, 45773, 51628, 58189, 65536, 73757, 82951, 93224, 104696, 117498, 131774, 147683, 165401, 185121, 207053, 231431, 258509, 288569, 321917] ++
  [358891, 399858, 445222, 495425, 550950, 612325, 680124, 754978, 837571, 928653, 1029038, 1139613, 1261344, 1395284, 1542574, 1704457, 1882282, 2077515, 2291745, 2526695, 2784236, 3066392, 3375358, 3713506, 4083407, 4487837, 4929800, 5412540, 5939561, 6514643, 7141869, 7825636, 8570690, 9382140, 10265490, 11226666, 12272043, 13408478, 14643345, 15984567] ++
  [17440655, 19020747, 20734653, 22592896, 24606762, 26788350, 29150624, 31707472, 34473761, 37465407, 40699435, 44194055, 47968732, 52044272, 56442895, 61188335, 66305921, 71822685, 77767460, 84170989, 91066044, 98487541, 106472673, 115061040, 124294796, 134218790, 144880728, 156331336, 168624535, 181817617, 195971442, 211150635, 227423799, 244863734, 263547668, 283557505, 304980073, 327907398, 352436981, 378672091] ++
  [406722074]

/-- AF(T) with the nearest end entry outside the range (R109). (DEDUCED, log entry 142.) -/
def accel (t : Int) : Nat := afTable.getD (max 0 (min 200 (t + 50))).toNat 0

/-- DRF_CTL.DORM_T as signed degrees, bounded to -40 to 125. -/
def Dev.dormT (d : Dev) : Int := max (-40) (min 125 (toSigned 8 (d.f DRF_CTL.DORM_T)))

/-- The measured lodestone age in 2^-24 s of medians found at the drift variable `xL` (R124). -/
def measuredAge (m0 m1 m2 : Nat) (xL : Nat) : Nat :=
  let delta (m k : Nat) : Int := (m : Int) * 6553600 - centre k xL
  let dx : Int := -((64 * delta m0 0 + 160 * delta m1 1 + 256 * delta m2 2) / 95232)
  let x := (max 0 ((xL : Int) + dx)).toNat
  (exp2Fix x - 2 ^ 32) * 16

/-- A segment holds data: its first program after the last clear has been made (Table 4.3). -/
def Seg.holdsData (x : Seg) : Bool := x.birth != 0xFFFFFFFFFFFF

/-- Segments of group `j` of Point `n` that hold data, in ascending order. -/
def Dev.groupData (d : Dev) (n j : Nat) : List Nat :=
  ((List.range 64).map (fun i => 8192 * n + 64 * j + i)).filter (fun sg => (d.seg sg).holdsData)

/-- The next element of an ascending list at or above a number, wrapping round. -/
def nextFrom (l : List Nat) (a : Nat) : Option Nat := match l.find? (fun x => a ≤ x) with | some x => some x | none => l.head?

/-- A group's periodic sampling is due (R125). -/
def Dev.samplePeriodic (d : Dev) (n j : Nat) : Bool :=
  let p := d.phi (8192 * n + 64 * j)
  decide (p.reads ≥ d.f DRF_SAMPLE.READS) || decide (p.last + secUnits (d.f DRF_SAMPLE.PERIOD) ≤ d.time)

/-- A group's sampling is due (R125), or was queued after a retry (R131). -/
def Dev.sampleDue (d : Dev) (n j : Nat) : Bool :=
  let mine (t : Task) : Bool := t.kind == 5 && t.arg == 128 * n + j
  d.samplePeriodic n j || (d.pt n).tasks.any mine || d.engines.any (fun e => e.curTask.any mine)

/-- A periodic sample of a group corrects φ from a lodestone age of at least 4,096 s (R124, R126): φ_t is tested against its range as it is
found, and φ is cut to its 1/256 after the step. (DEDUCED, log entry 25.) -/
def Dev.correctPhi (d : Dev) (n j sg m0 m1 m2 : Nat) : Dev :=
  let p := d.phi sg
  let aL := d.loadAge sg
  if aL < 4096 * 2 ^ 24 then d
  else
    let aM := measuredAge m0 m1 m2 (driftX aL)
    let gain := Nat.max 1 (d.f DRF_CTL.GAIN)
    let v : Int := (p.phi : Int) + (gain : Int) * p.phi * ((aM : Int) - aL) / (256 * aL)
    let v := (max 0x80 (min 0x200 v)).toNat
    let d := d.setPhi sg { p with phi := v }
    if p.phi * aM < 0x80 * aL || 0x200 * aL < p.phi * aM then
      let d := (d.setF DRF_CTL.PHI_DEV 1).post { code := 0x015, level := 1, point := n }
      (d.groupData n j).foldl (fun d s => d.modSeg s (fun x => if x.live > 0 then { x with refreshDue := true } else x)) d
    else d

/-- A lodestone sense step (R85): the elements of a service row that read below a reference, as a vector. -/
def senseVec (els : List Nat) (ref : Nat) : List Bool := els.map (fun x => decide (x < ref))

/-- The level-`k` lodestones that a sense step finds below its reference: element `e` stands at level `e` mod 4 (R80). -/
def levelCount (v : List Bool) (k : Nat) : Nat := v.zipIdx.countP (fun x => x.1 && x.2 % 4 == k)

/-- The median of level `k` of a slice (R123), by 8 sense steps in cell `cell` of segment `sg`, each halving the codes that remain: the code
above the greatest one that fewer than 64 lodestones read below. Where every code of the search is such, the manual states no median: a
free value. (DESIGN CHOICE, log entry 168.) -/
def Dev.findMedian (d : Dev) (sg cell k : Nat) (els : List Nat) : Nat × Dev :=
  let (c, d) := (List.range 8).foldl (fun (acc : Nat × Dev) i =>
    let c := acc.1 + 2 ^ (7 - i)
    let d := acc.2.linkSend (sg / 8192) 5 cell (sg % 8192 * 513 + 512) c 0 0
    (if levelCount (senseVec els c) k < 64 then c else acc.1, d)) (0, d)
  if c = 255 then (let (v, d) := d.draw; (v.toNat % 256, d)) else (c + 1, d)

/-- The lodestone sample of group `g` of die `n` in segment `sg`, found with the entry `p` (R123 to R126): 24 sense steps; the group's next
cell is one counter for its segments. Only a periodic sample corrects φ. (DEDUCED, log entry 25; DESIGN CHOICE, log entry 168.) -/
def Dev.sampleLodestone (d : Dev) (n g sg : Nat) (p : Phi) (els : List Nat) : Dev :=
  let key := 8192 * n + 64 * g
  let periodic := d.samplePeriodic n g
  let mine (t : Task) : Bool := t.kind == 5 && t.arg == 128 * n + g
  let d := d.modPt n (fun q => { q with tasks := q.tasks.filter (!mine ·) })
  let d := { d with engines := d.engines.map (fun (e : Engine) => if e.curTask.any mine then { e with curTask := none } else e) }
  let (m0, d) := (d.grant n 6 24).findMedian sg p.nextCell 0 els
  let (m1, d) := d.findMedian sg p.nextCell 1 els
  let (m2, d) := d.findMedian sg p.nextCell 2 els
  let d := if periodic then d.correctPhi n g sg m0 m1 m2 else d
  let q := d.phi key
  d.setPhi key { q with reads := 0, last := d.time, nextSeg := (sg % 64 + 1) % 64, nextCell := (q.nextCell + 1) % 32 }

/-- LODESTONE_SAMPLE (R123 to R126). -/
def execLodestoneSample (n g : Nat) (els : List Nat) (s : State) : Host.Outcome State Fault Refusal :=
  act (okLodestoneSample n g els) s (fun d =>
    let key := 8192 * n + 64 * g
    let p := d.phi key
    match nextFrom (d.groupData n g) (key + p.nextSeg) with
    | none => d
    | some sg =>
      if !d.sampleDue n g || d.dieGone n then d
      else
        d.sampleLodestone n g sg p els)

/-- One segment of a margin sweep (R120). (DESIGN CHOICE, log entry 169.) -/
def Dev.sweepSeg (d : Dev) (sg : Nat) : Dev :=
  let x := d.seg sg
  if x.live = 0 then d
  else
    let m := marginAt (driftX (d.dataAge sg))
    d.setSeg sg { x with
      margin := m, refreshDue := x.refreshDue || decide (m < (d.f DRF_REFRESH.MARGIN : Int)), lowMargin := x.lowMargin || decide (m < (d.f DRF_REFRESH.URGENT : Int)) }

/-- MARGIN_SWEEP (R120). -/
def execMarginSweep (s : State) : Host.Outcome State Fault Refusal :=
  act okMarginSweep s (fun d =>
    let d := (d.segs.map (·.1)).foldl Dev.sweepSeg d
    (List.range 16).foldl (fun d n => d.setF (DRF_STAT.LOW_MARGIN n) (d.countListed n (fun _ x => x.lowMargin))) d)

/-- REFRESH_QUEUE (R121): a refresh task is queued unless 8 are, and the segment is collected (Table 5.6). -/
def execRefreshQueue (sg : Nat) (s : State) : Host.Outcome State Fault Refusal :=
  act (okRefreshQueue sg) s (fun d =>
    let n := sg / 8192
    if (d.seg sg).refreshDue && (d.seg sg).state = 6 && (d.pt n).tasks.countP (fun t => t.kind == 2) < 8 then
      (d.setState sg 7).queueTask n { kind := 2, arg := sg, urgent := (d.seg sg).lowMargin }
    else d)

/-- A member of a group has reached the age of R116. -/
def Dev.groupAged (d : Dev) (x : Group) : Bool :=
  x.members.any (fun m =>
    let g := d.seg (8192 * m.1 + m.2)
    g.holdsData && decide (d.eclk m.1 ≥ (g.birth + 4096) * 65536))

/-- SEGMENT_AGE_CLOSE (R116, R166): the group of an open segment that has reached 4,096 s closes. -/
def execSegmentAgeClose (sg : Nat) (s : State) : Host.Outcome State Fault Refusal :=
  act (okSegmentAgeClose sg) s (fun d =>
    let x := d.seg sg
    if x.state = 3 && x.holdsData && d.eclk (sg / 8192) ≥ (x.birth + 4096) * 65536 then d.groupClose x.group 1 true else d)

/-- GROUP_CLOSE (R166). -/
def execGroupClose (g cause : Nat) (s : State) : Host.Outcome State Fault Refusal :=
  act (okGroupClose g cause) s (fun d =>
    match d.group g with
    | none => d
    | some x => d.groupClose g cause (d.groupAged x))

/-- The median of a list of integers: of an even number, the lower middle one. (DEDUCED, log entry 32.) -/
def medianInt (l : List Int) : Int := (l.insertionSort (· ≤ ·)).getD ((l.length - 1) / 2) 0

/-- The start-up survey of one die (R132): medians found in one segment of each of up to 16 groups that hold data, the first of each group that
does; the clock advances by the median U, not below the Dormant addition. The result is U in 2^-16 s.
(DEDUCED, log entry 25; DESIGN CHOICE, log entry 168.) -/
def Dev.surveyDie (d : Dev) (n : Nat) (samples : List (Nat × Nat × Nat)) (dorm : Nat) : Int × Dev :=
  let gs := ((List.range 120).filter (fun j => !(d.groupData n j).isEmpty)).take 16
  let us := (gs.zip samples).map (fun x =>
    let sg := (d.groupData n x.1).headD 0
    let aL := d.loadAge sg
    let aM := measuredAge x.2.1 x.2.2.1 x.2.2.2 (driftX aL)
    ((aM : Int) - aL) / ((d.phi sg).phi : Int))
  if us.isEmpty then (0, d)
  else
    let u := max (medianInt us) (-(dorm : Int))
    (u, d.setReg (0x3880 + 8 * n) ((d.eclk n : Int) + u).toNat)

end Sys2Proof.Machine
end

