-- ==== Sys2Proof/Machine/Wear.lean ====
section
/-! DEFINITION. Clears, wear, pools and capacity (chapters 03, 05 and 06). -/

namespace Sys2Proof.Machine

/-! ### Failed cells (Table 2.5, R198) -/

/-- The live pages with a sector in a cell of a die: each is relocated. -/
def Dev.cellPages (d : Dev) (n c : Nat) : List Nat :=
  let ps := (d.sectors.filter (fun x => psaPoint x.1 = n && psaCell x.1 = c)).map (·.1)
  (ps.filterMap d.servedPage).eraseDups

/-- The placement queues of Point `n` lose the sectors in cell `c`; a page slot with such a sector is whole no longer (R91, R187). -/
def PQueue.without (q : PQueue) (c : Nat) : PQueue :=
  let cut (s : Slot) : Slot := { s with secs := s.secs.filter (fun k => k % 32 != c), whole := s.whole && s.secs.all (fun k => k % 32 != c) }
  let left (s : Slot) : Bool := !s.secs.isEmpty
  { q with slots := (q.slots.map cut).filter left, cur := (q.cur.map cut).filter left }

/-- A stuck cell or a third consecutive slice failure (Table 2.5): event 0x022, the cell is marked failed and gets no further operation, so that
what was to be programmed there moves; the pages of its live sectors are relocated; a second failed cell makes the die dead. -/
def Dev.failCell (d : Dev) (n c : Nat) : Dev :=
  if (d.pt n).failedCells.contains c then d
  else
    let d := d.post { code := 0x022, level := 1, point := n, cell := c }
    let second := !(d.pt n).failedCells.isEmpty
    let pages := d.cellPages n c
    let d := d.modPt n (fun p => { p with
      failedCells := p.failedCells ++ [c], progBuf := assocDel c p.progBuf, queues := p.queues.map (fun q => q.without c) })
    let d := ((d.setF (PNT_STAT.CELL_FAILED_V n) 1).setF (PNT_STAT.CELL_FAILED n) c).capChanged
    let d := d.moveOff (fun p => psaPoint p = n && psaCell p = c) false
    let d := pages.foldl (fun d pg => d.queueTask n { kind := 7, arg := pg }) d
    if second && d.f (PNT_LINK.STATE n) != 4 then d.declareDead n 8 else d

/-- Ship's times at which the operations that stand at a cell were issued to it (R673): the program first in its order, the clear of a
segment, the verify reads of a settled one. -/
def Dev.cellOps (d : Dev) (n c : Nat) : List Nat :=
  let here (p : Nat) : Bool := psaPoint p = n && psaCell p = c
  ((d.imgs.filter (fun x => x.todo.any here)).take 1).map (·.since) ++
    ((d.listedSegs n).filter (fun x => x.2.state = 1 && !x.2.retired.testBit c)).map (fun x => x.2.stAt) ++
    ((d.listedSegs n).filter (fun x => x.2.state = 5 && d.groups.any (fun g => g.toVerify.any (fun p => psaSeg p = x.1 && here p)))).map
      (fun x => x.2.stAt)

/-- STUCK_CELL (R68, R673): an operation has stood at the cell for 50 µs; it is aborted, with event 0x014, and the cell fails. -/
def execStuckCell (n c : Nat) (s : State) : Host.Outcome State Fault Refusal :=
  act (okStuckCell n c) s (fun d =>
    if d.dead n || (d.pt n).failedCells.contains c || !(d.cellOps n c).any (fun t => decide (t + usUnits 50 ≤ d.time)) then d
    else (d.post { code := 0x014, level := 0, point := n, cell := c }).failCell n c)

/-! ### Clears (R89 to R94, R172, R178) -/

/-- The oldest DIRTY segment of a Point: that which entered DIRTY first, the lowest number of equals. (DESIGN CHOICE, log entry 170.) -/
def Dev.oldestDirty (d : Dev) (n : Nat) : Option Nat :=
  ((d.listedSegs n).filter (fun x => x.2.state = 0)).foldl (fun (acc : Option (Nat × Nat)) x =>
    match acc with
    | none => some (x.1, x.2.stAt)
    | some b => if x.2.stAt < b.2 then some (x.1, x.2.stAt) else acc) none |>.map (·.1)

/-- The clear of a segment begins with its new count `c` in the metadata shadow; the wear tree follows (R90, R194). -/
def Dev.beginClear (d : Dev) (sg c : Nat) : Dev :=
  ((((d.record (sg / 8192) (.clear sg c)).modSeg sg (fun y => { y with count := c, live := 0 })).setState sg 1).wearSeg sg)

/-- A segment whose count has reached the limit, or that is marked fatal, is never cleared again (R94, R284). -/
def Dev.spent (d : Dev) (sg : Nat) : Bool := decide ((d.seg sg).leaf ≥ d.f PNT_RETIRE.LIMIT) || (d.seg sg).fatal

/-- Start the clear of a DIRTY segment; one that must not be cleared again is retired instead (R94, R284, Table 5.6). -/
def Dev.startClear (d : Dev) (sg : Nat) : Dev :=
  if (d.seg sg).state != 0 then d
  else if d.spent sg then d.setState sg 8
  else d.beginClear sg ((d.seg sg).leaf + 1)

/-- CLEAR_SCHEDULE (R178): the oldest DIRTY segment, one segment of a die at a time (R57); none in media critical or cold stop (R637,
R640). (DEDUCED, log entry 33.) -/
def execClearSchedule (n : Nat) (s : State) : Host.Outcome State Fault Refusal :=
  act (okClearSchedule n) s (fun d =>
    if !d.live n || d.noClear || d.countListed n (fun _ x => x.state == 1) > 0 then d
    else match d.oldestDirty n with
      | some sg => (d.startClear sg).queueTask n { kind := 4, arg := sg }
      | none => d)

/-- Consecutive slice failures of each cell of a Point after a clear (Table 2.5). -/
def sliceRuns (old : List (Nat × Nat)) (fails : Nat) : List (Nat × Nat) :=
  (List.range 32).filterMap (fun c =>
    if fails.testBit c then some (c, (assocGet c old).getD 0 + 1) else none)

/-- The 32 slice clears of a segment (R89) cross the die link and take their grants, and then the loads and programs of its service rows. The
number of sub-pulses, at most 6,000 a slice, is a free value. (DESIGN CHOICE, log entry 104.) -/
def Dev.clearPulses (d : Dev) (sg : Nat) : Dev :=
  let n := sg / 8192
  let row := sg % 8192 * 513
  let (v, d) := d.draw
  let k := 32 + v.toNat % 191969
  let d := ((d.tally 0x10 n k).linkSend n 4 31 row 0 0 0).grant n 3 k
  (d.linkSend n 2 31 (row + 512) 0 0 0).linkSend n 3 31 (row + 512) 0 0 0

/-- Slices that failed a clear are retired, each with event 0x013 and a count in PNT_MEDSTAT (Table 2.5); a cell's third failure in a row
makes the cell failed. -/
def Dev.sliceFails (d : Dev) (sg retired : Nat) : Dev :=
  let n := sg / 8192
  let fresh := (List.range 32).filter (fun c => retired.testBit c && !(d.seg sg).retired.testBit c)
  let all := (d.seg sg).retired ||| retired
  let d := fresh.foldl (fun d c => (d.cnt (PNT_MEDSTAT.SLICE_RET n)).post { code := 0x013, level := 0, point := n, cell := c, flags := 2, addr := mkPsa sg c }) d
  let d := d.modSeg sg (fun y => { y with
    retired := all, half0Off := (List.range 16).any (fun c => all.testBit c), half1Off := (List.range 16).any (fun c => all.testBit (16 + c)) })
  let d := d.modPt n (fun p => { p with sliceFails := sliceRuns p.sliceFails retired })
  let d := if fresh.isEmpty then d else d.capChanged
  ((d.pt n).sliceFails.filter (fun y => y.2 ≥ 3)).foldl (fun d y => d.failCell n y.1) d

/-- The clear of a segment ends (R89 to R91, R172, R186, R205): service rows carry the new header; slices that failed are retired, and with
five of them the segment. -/
def Dev.clearDone (d : Dev) (sg retired : Nat) : Dev :=
  let n := sg / 8192
  let d := d.clearPulses sg
  let d := { d with sectors := d.sectors.filter (fun y => psaSeg y.1 != sg) }
  let d := d.sliceFails sg retired
  let x := d.seg sg
  let bad := decide ((List.range 32).countP (fun c => x.retired.testBit c) ≥ 5)
  let d := d.modSeg sg (fun y => { y with
    clrClk := d.eclk n / 65536, birth := 0xFFFFFFFFFFFF, refreshDue := false, lowMargin := false, live := 0, dfilter := 0
    pool := if y.berthLoan && !bad then 1 else y.pool, berthLoan := y.berthLoan && bad, kind := 0, group := 0
    hdr := ⟨y.count, d.cycle, d.csn, d.time, d.opSec⟩ })
  let d := if x.berthLoan && !bad then d.record n (.pool sg 1) else d
  let d := (if bad then d.setState sg 8 else (d.setState sg 2).capChanged).wearSeg sg
  d.modPt n (fun p => { p with tasks := p.tasks.filter (fun t => !(t.kind = 4 && t.arg = sg)) })

/-- The CLEAR record of a segment still waits for a metadata segment that takes it. -/
def Dev.clearWaits (d : Dev) (sg : Nat) : Bool :=
  d.waitRecs.any (fun x => match x.2 with | .mrec _ (.clear g _) => g == sg | _ => false)

/-- SEGMENT_CLEAR_DONE (R89 to R91): it follows the record of its count (R90), and its sub-pulses are not issued in media critical or cold
stop (R637, R640). -/
def execSegmentClearDone (sg retired : Nat) (s : State) : Host.Outcome State Fault Refusal :=
  act (okSegmentClearDone sg retired) s (fun d =>
    if (d.seg sg).state != 1 || d.noClear || d.clearWaits sg || !d.live (sg / 8192) then d else d.clearDone sg retired)

/-- Clears that a cut interrupted restart in full, counting as further clears; one that would pass the limit is not issued (R90, R94,
Table 5.6). -/
def Dev.restartClears (d : Dev) : Dev :=
  ((d.segs.filter (fun x => x.2.state = 1)).map (·.1)).foldl (fun d sg =>
    if d.spent sg then d.setState sg 8 else d.beginClear sg ((d.seg sg).leaf + 1)) d

/-! ### Collection and levelling (R177, R196, R197) -/

/-- The collection victim of R177: STABLE, fewest live sectors, then oldest BIRTH, then lowest number. A metadata segment with live log or map sectors
is none (R239). (DESIGN CHOICE, log entry 170.) -/
def Dev.victim (d : Dev) (n : Nat) : Option Nat :=
  ((d.listedSegs n).filter (fun x => x.2.state = 6 && !(x.2.kind == 3 && d.metaHeld x.1))).foldl (fun (acc : Option (Nat × Seg)) x =>
    match acc with
    | none => some x
    | some b => if x.2.live < b.2.live || (x.2.live = b.2.live && x.2.birth < b.2.birth) then some x else acc) none |>.map (·.1)

/-- Start the collection of a segment: COLLECTING, with its task queued (Table 5.6). -/
def Dev.collect (d : Dev) (sg : Nat) : Dev := ((d.toCollect sg).metaRecount sg).dropEmpty sg

/-- The map pages of which a copy lies in a segment are written anew: the old copies die with two checkpoints (R239). -/
def Dev.flushMapsOf (d : Dev) (sg : Nat) : Dev :=
  (d.dir.filter (fun x => x.2.1 / 1024 == sg || x.2.2 / 1024 == sg)).foldl (fun d x => (d.writeMap (x.1 / 16384) (x.1 % 16384)).getD d) d

/-- Collect the STABLE candidates of a secure discard or a REKEY (R210, R281). One with a live log or map sector is collected once two
checkpoints have left that behind (R239), so that a checkpoint is asked for. -/
def Dev.collectCands (d : Dev) (cands : List Nat) : Dev :=
  cands.foldl (fun d sg =>
    if (d.seg sg).state != 6 then d
    else if (d.seg sg).kind == 3 && d.metaHeld sg then { d.flushMapsOf sg with ckptReq := true }
    else d.collect sg) d

/-- COLLECTION_START (R177). Every segment in COLLECTING counts to the four victims. (DESIGN CHOICE, log entry 170.) -/
def execCollectionStart (n : Nat) (s : State) : Host.Outcome State Fault Refusal :=
  act (okCollectionStart n) s (fun d =>
    if d.live n && d.clearedData n + d.awaiting n < d.f (PNT_CLRPOOL.TARGET n) && d.countListed n (fun _ x => x.state == 7) < 4 then
      (match d.victim n with | some sg => d.collect sg | none => d)
    else d)

/-- STATIC_LEVELLING (R196): the STABLE data-pool segment of lowest effective count is collected. -/
def execStaticLevelling (n : Nat) (s : State) : Host.Outcome State Fault Refusal :=
  act (okStaticLevelling n) s (fun d =>
    let busy := match (d.pt n).staticSeg with | some sg => decide ((d.seg sg).state = 7) | none => false
    if busy || !d.live n || d.f (WLV_ROOT.MAX n) ≤ d.f (WLV_ROOT.MIN n) + d.f WLV_CTL.SPREAD then d
    else match d.pickSeg false (((d.listedSegs n).filter (fun x => x.2.state = 6 && x.2.pool = 0)).map (·.1)) with
      | some sg => ((d.collect sg).cnt WLV_STAT.STATIC).modPt n (fun p => { p with staticSeg := some sg })
      | none => d)

/-- Move a CLEARED segment to a pool with its POOL record (R181, Table 7.4). -/
def Dev.setPool (d : Dev) (sg pool : Nat) : Dev :=
  ((d.modSeg sg (fun x => { x with pool := pool })).record (sg / 8192) (.pool sg pool)).poolRegs (sg / 8192) |>.capChanged

/-- Sum of effective counts and number of segments of a Point in a pool, without the RETIRED and LOST ones. (DESIGN CHOICE, log entry 170.) -/
def Dev.poolWear (d : Dev) (n pool : Nat) : Nat × Nat :=
  ((segsOf n).filter (fun sg => (d.seg sg).pool == pool && (d.seg sg).state != 8 && (d.seg sg).state != 9)).foldl
    (fun a sg => (a.1 + d.effCount sg, a.2 + 1)) (0, 0)

/-- POOL_WEAR_EXCHANGE (R197). -/
def execPoolWearExchange (n : Nat) (s : State) : Host.Outcome State Fault Refusal :=
  act (okPoolWearExchange n) s (fun d =>
    let m := d.poolWear n 1
    let a := d.poolWear n 0
    let recent := match (d.pt n).exchanged with | some t => decide (d.time < t + secUnits 10) | none => false
    let whole (sg : Nat) : Bool := d.halfOff sg == (false, false)
    if recent || !d.live n || m.2 = 0 || a.2 = 0 || m.1 * a.2 ≤ (a.1 + d.f WLV_CTL.SPREAD * a.2) * m.2 then d
    else match d.pickSeg true ((d.clearedList n 1).filter whole), d.pickSeg false ((d.clearedList n 0).filter whole) with
      | some x, some y => ((d.setPool x 0).setPool y 1).modPt n (fun p => { p with exchanged := some d.time })
      | _, _ => d)

/-- METADATA_POOL_TOPUP (R183): the Point's share of 4,096 metadata segments is restored. -/
def execMetadataPoolTopup (n : Nat) (s : State) : Host.Outcome State Fault Refusal :=
  act (okMetadataPoolTopup n) s (fun d =>
    if !d.live n then d
    else
      (List.range (d.share 4096 n - d.metaPool n)).foldl (fun d _ =>
        match d.pickSeg false (d.clearedList n 0) with
        | some sg => d.setPool sg 1
        | none => d) d)

/-- SPARE_RECOMPUTE (R199). -/
def execSpareRecompute (s : State) : Host.Outcome State Fault Refusal :=
  act okSpareRecompute s (fun d => if d.capDue then d.recomputeSpare else d)

/-- BERTH_LOW (R207): the bit follows WLV_FREE.BERTH, with event 0x067 as it is set. -/
def execBerthLow (s : State) : Host.Outcome State Fault Refusal :=
  act okBerthLow s Dev.berthCheck

end Sys2Proof.Machine
end

