-- ==== Sys2Proof/Machine/Link.lean ====
section
/-! DEFINITION. The die links, the escalation ladder, Point death and rehoming (chapters 02 and 03). -/

namespace Sys2Proof.Machine

/-! ### Bursts, retraining, training (R98 to R105, R677) -/

/-- A quick retrain of a link that is up is decided (R102, R104): traffic to the die pauses; the ninth within 1 s declares the die dead
(R105). (DEDUCED, log entry 180.) -/
def Dev.needRetrain (d : Dev) (n cause : Nat) : Dev :=
  if !d.linkUp n then d
  else
    let recent := (d.pt n).retrains.filter (fun t => decide (d.time - t < secUnits 1))
    if recent.length ≥ 8 then d.declareDead n 6 else d.modPt n (fun p => { p with retrains := recent ++ [d.time], retrainDue := some cause })

/-- The three fast PLLs are locked, or not (Table 15.10). -/
def Dev.pllLocks (d : Dev) (v : Nat) : Dev := ((d.setF CLK_STAT.FAB_LOCK v).setF CLK_STAT.ENG_LOCK v).setF CLK_STAT.MED_LOCK v

/-- Every die link retrains on exit from Doze, with cause 0 (R104). -/
def Dev.leaveDoze (d : Dev) : Dev :=
  if d.phase == .doze then
    (List.range 16).foldl (fun d n => d.needRetrain n 0) (({ d with wch := { d.wch with dozeSpan := (d.wch.dozeSpan.1, d.time) } } : Dev).pllLocks 1)
  else d

/-- The quick retrain that was decided runs (Table 3.8). (DEDUCED, log entry 180.) -/
def Dev.startRetrain (d : Dev) (n cause : Nat) : Dev :=
  let d := d.modPt n (fun p => { p with retrainDue := none })
  ((d.setF (PNT_LINK.STATE n) 3).cnt (PNT_LINK.RETRAINS n)).setF (PNT_LINK.LAST_CAUSE n) cause

/-- The command word that asks for a burst again by its TAG (R98, R100). -/
def resendWord (w : Nat) : Nat := linkWord 6 (w / 2 ^ 55) (w / 2 ^ 33) 0 0 0 (w / 16)

/-- A re-send of a burst is asked for (R100). -/
def Dev.resend (d : Dev) (n : Nat) : Dev :=
  ((d.cnt (PNT_LINKERR.RESENDS n)).tally 0x13 n 1).modPt n (fun p => { p with lastCmd := resendWord p.lastCmd })

/-- Re-send number `k`; the first posts 0x023 (Table 2.5). -/
def Dev.resendFirst (d : Dev) (n k : Nat) : Dev :=
  let d := d.resend n
  if k = 1 then d.post { code := 0x023, level := 1, point := n } else d

/-- BURST_CRC_FAIL (R99 to R103): re-sent at most three times; after the third failure the link retrains, and what was to be
programmed on the die is placed elsewhere. (DEDUCED, log entry 28.) -/
def execBurstCrcFail (n : Nat) (read_ : Bool) (resend : Nat) (s : State) : Host.Outcome State Fault Refusal :=
  act (okBurstCrcFail n read_ resend) s (fun d =>
    if !d.linkUp n then d
    else if resend < 4 then
      d.resendFirst n resend
    else
      let d := (d.cnt (PNT_LINKERR.BURST_FAIL n)).needRetrain n (if read_ then 1 else 2)
      if read_ then d else d.moveOff (fun p => psaPoint p = n) false)

/-- ACK_TIMEOUT (R100, R677): no acknowledgement within 2 µs; after the third re-send the link retrains with cause 3. -/
def execAckTimeout (n resend : Nat) (s : State) : Host.Outcome State Fault Refusal :=
  act (okAckTimeout n resend) s (fun d =>
    if !d.linkUp n then d
    else
      let d := d.cnt (PNT_LINKERR.TIMEOUTS n)
      if resend < 4 then
        d.resendFirst n resend
      else (d.cnt (PNT_LINKERR.BURST_FAIL n)).needRetrain n 3)

/-- QUICK_RETRAIN (R104): the retrain that a third failed re-send or the exit from Doze asked for, with its cause; programs that fall due
for the die meanwhile are placed elsewhere (R103). (DEDUCED, log entry 180.) -/
def execQuickRetrain (n cause : Nat) (s : State) : Host.Outcome State Fault Refusal :=
  act (okQuickRetrain n cause) s (fun d =>
    if d.f (PNT_LINK.STATE n) = 2 && (d.pt n).retrainDue = some cause then d.startRetrain n cause else d)

/-- QUICK_RETRAIN_DONE (R105): traffic resumes, and the requests that waited are served (R102, R676); or the die is dead. -/
def execQuickRetrainDone (n : Nat) (ok : Bool) (s : State) : Host.Outcome State Fault Refusal :=
  act (okQuickRetrainDone n ok) s (fun d =>
    if d.f (PNT_LINK.STATE n) != 3 then d
    else if ok then (d.setF (PNT_LINK.STATE n) 2).releaseFront n else (d.declareDead n 4).releaseFront n)

/-- FULL_TRAINING_DONE (R104, R105): the link is up, or after a second failure in succession the die is dead. -/
def execFullTrainingDone (n : Nat) (ok : Bool) (s : State) : Host.Outcome State Fault Refusal :=
  act (okFullTrainingDone n ok) s (fun d =>
    if d.f (PNT_LINK.STATE n) != 1 then d
    else if ok then (d.setF (PNT_LINK.STATE n) 2).modPt n (fun p => { p with trainFails := 0 })
    else if (d.pt n).trainFails = 0 then d.modPt n (fun p => { p with trainFails := 1 })
    else d.declareDead n 5)

/-- DIE_FATAL_STATUS (R105). -/
def execDieFatalStatus (n : Nat) (s : State) : Host.Outcome State Fault Refusal :=
  act (okDieFatalStatus n) s (fun d =>
    if d.dead n || d.f (PNT_LINK.STATE n) = 0 || d.f (PNT_LINK.STATE n) = 4 then d else d.declareDead n 7)

/-! ### Point death and rehoming (R70 to R77) -/

/-- PNT_STAT[n].STATE of every Point. -/
def Dev.states (d : Dev) : List Nat := (List.range 16).map (fun n => d.f (PNT_STAT.STATE n))

/-- The HOME record of R77, issued by a Point. -/
def Dev.homeRecord (d : Dev) (n : Nat) : Dev := d.record n (.home (d.reg 0x3000) d.states)

/-- Points of quadrant `q` that are not alive. -/
def Dev.lostInQuad (d : Dev) (q : Nat) : Nat := ((List.range 4).filter (fun i => !d.live (4 * q + i))).length

/-- The adopter of dead Point `n` (R70). -/
def Dev.adopter (d : Dev) (n : Nat) : Option Nat :=
  ([1, 2, 3].map (fun k => 4 * (n / 4) + (n + k) % 4)).find? d.live

/-- A second dead Point in a quadrant: 0x042 and Hove-to for the homes that the quadrant serves (Table 2.5, R75). -/
def Dev.quadLost (d : Dev) (q : Nat) : Dev := d.hovePost { code := 0x042, level := 3, point := 0x80 + q } (d.homesOfQuad q)

/-- Step 1 of Table 2.7 ends the reservations whose granule's home Point `n` serves (R455). -/
def Dev.dropRsv (d : Dev) (n : Nat) : Dev :=
  { d with engines := d.engines.map (fun (e : Engine) =>
      match e.rsv with
      | some g => if rsvDev ≤ g && d.serving (d.homeAt (256 * (g - rsvDev))) = n then { e with rsv := none } else e
      | none => e) }

/-- Steps 1 to 3 of Table 2.7. -/
def Dev.pointDies (d : Dev) (n : Nat) : Dev :=
  let d := (d.dropRsv n).setF (PNT_STAT.STATE n) 1
  let d := d.post { code := 0x032, level := 2, point := n } (some 1)
  let d := (d.homeRecord n).moveOff (fun p => psaPoint p = n) true
  let d := ({ d with lljobs := d.lljobs.map (fun (j : LineLogJob) => if j.psa.any (psaPoint · = n) then { j with psa := none } else j) } : Dev).releaseFront n
  if d.lostInQuad (n / 4) ≥ 2 then d.quadLost (n / 4) else d

/-- POINT_DEATH (Table 2.7, steps 1 to 3): a die that is declared dead makes its Point DYING; event 0x032, ALERT_N, holding
begins, and what its die was to take is placed elsewhere. -/
def execPointDeath (n cause : Nat) (s : State) : Host.Outcome State Fault Refusal :=
  act (okPointDeath n cause) s (fun d =>
    if !d.live n || d.f (PNT_LINK.STATE n) != 4 || d.f (PNT_LINK.LAST_CAUSE n) != cause then d
    else
      d.pointDies n)

/-- The adopter takes the home functions of dead Point `n` (Table 2.7, steps 4 to 8). -/
def Dev.rehome (d : Dev) (n a : Nat) : Dev :=
  let homes := (List.range 16).filter (fun h => d.serving h = n)
  let d := { d with mapc := d.mapc.filter (fun w => w.dirty || !homes.contains w.home) }
  let d := homes.foldl (fun d h => (d.mapReg h).setF (PNT_HOMEMAP.HOME h) a) d
  let d := (d.setF (PNT_STAT.ADOPTED a) 1).setF (PNT_STAT.ADOPTED_HOME a) n
  let tasks := (d.pt n).tasks
  let d := d.modPt n (fun p => { p with queues := [{}, {}, {}, {}], tasks := [], flushSeg := none })
  let d := if tasks.isEmpty then d else (d.modPt a (fun p => { p with tasks := p.tasks ++ tasks })).taskEvent a
  d.setF (PNT_STAT.STATE n) 2

/-- The segments of a dead die are LOST (Table 5.6). -/
def Dev.loseSegs (d : Dev) (n : Nat) : Dev :=
  ((d.listedSegs n).filter (fun x => x.2.state != 8)).foldl (fun d x => d.setState x.1 9) d

/-- Close the groups that a die is a member of (Table 2.7, step 4). -/
def Dev.closeGroupsOf (d : Dev) (n : Nat) : Dev :=
  ((d.groups.filter (fun g => g.st = 0 && g.members.any (·.1 = n))).map (·.num)).foldl (fun d g => d.closeGroup g) d

/-- Steps 4 to 8 of Table 2.7. -/
def Dev.rehomed (d : Dev) (n : Nat) (selfTestOk : Bool) : Dev :=
  let d := d.closeGroupsOf n
  let d := if selfTestOk then d else d.quadLost (n / 4)
  match d.adopter n with
  | none => ((((d.setF (PNT_STAT.STATE n) 2).loseSegs n).capChanged).homeRecord n).settleHove.releaseHold
  | some a =>
    let d := ((d.rehome n a).loseSegs n).capChanged.homeRecord a
    (d.post { code := 0x034, level := 2, point := n }).releaseHold

/-- REHOMING_COMPLETE (Table 2.7, steps 4 to 8, R75): the home map changes, the Point becomes DEAD and the held requests are
released in order. A failed self-test, or no live adopter, is a second dead Point in the quadrant. -/
def execRehomingComplete (n : Nat) (selfTestOk : Bool) (s : State) : Host.Outcome State Fault Refusal :=
  act (okRehomingComplete n selfTestOk) s (fun d =>
    if d.f (PNT_STAT.STATE n) != 1 then d
    else
      d.rehomed n selfTestOk)

/-- A page with a sector on the dead die `n` is rebuilt and placed again, and so are its sealed versions there; what cannot be read is lost, with
the records of R74 as their ranges end. -/
def Dev.recoverPage (d : Dev) (n pg : Nat) (ev : RdEnv) : Dev :=
  let (d, ev) := if (d.pageOn n pg).isEmpty then (d, ev) else d.startFold pg 3 [] ev
  let mine (x : Seal) : Option Nat :=
    if x.target = 0 && 4096 * pg ≥ x.start && decide (4096 * pg < x.start + x.len) then
      (x.psas[(4096 * pg - x.start) / 4096]?).filter (fun p => psaPoint p = n && (d.ownerOf (p / 16)).isNone)
    else none
  let moved := d.seals.foldl (fun (a : Dev × RdEnv) x => match mine x with | some p => a.1.startSealedMove x (p / 16) a.2 | none => a) (d, ev)
  moved.1.deadRecords n

/-- DEAD_DIE_RECOVERY (R74): a page with a sector on a dead die is rebuilt and placed again; what neither parity nor a TWIN
copy gives back is lost, with one event 0x035 for each contiguous range. -/
def execDeadDieRecovery (n pg : Nat) (ev : RdEnv) (s : State) : Host.Outcome State Fault Refusal :=
  act (okDeadDieRecovery n pg ev) s (fun d => if !d.dead n then d else d.reading (fun d => d.recoverPage n pg ev))

/-- A crossbar slice fails (R68, Table 2.5): 0x033, then 0x042 with Hove-to for the quadrant. -/
def Dev.crossbarFail (d : Dev) (q : Nat) : Dev := (d.post { code := 0x033, level := 2, point := 0x80 + q }).quadLost q

/-- CROSSBAR_SELF_CHECK (R68, Table 2.5): every 1 ms. -/
def execCrossbarSelfCheck (q : Nat) (ok : Bool) (s : State) : Host.Outcome State Fault Refusal :=
  act (okCrossbarSelfCheck q ok) s (fun d =>
    let d := d.modQuad q (fun x => { x with checks := satAdd 32 x.checks 1, checkFails := satAdd 32 x.checkFails (b2n !ok) })
    if ok then d else d.crossbarFail q)

end Sys2Proof.Machine
end

