-- ==== Sys2Proof/Machine/Chain.lean ====
section
/-! DEFINITION. The seal chain: its records, its head in the Logbook, and the end of a seal (chapter 08). -/

namespace Sys2Proof.Machine

/-- The SHA-256 blocks of 64 B that a message of `n` bytes takes, with its padding. -/
def hashBlocks (n : Nat) : Nat := (n + 72) / 64

/-- The unit of quadrant `q` has hashed chunks of so many bytes of an extent (Table 17.3, Tally 0x46). -/
def Dev.hashedAt (d : Dev) (q : Nat) (ns : List Nat) : Dev :=
  (d.modQuad q (fun x => { x with hashed := (x.hashed + ns.foldr (· + ·) 0) % 2 ^ 48 })).tally 0x46 q ((ns.map hashBlocks).foldr (· + ·) 0)

/-- An extent of `n` bytes has been hashed (R285): chunk i by the unit of quadrant i mod 4, and the final hash by that of quadrant 0. -/
def Dev.hashedBytes (d : Dev) (n : Nat) : Dev :=
  let m := (n + 65535) / 65536
  let chunk (i : Nat) : Nat := Nat.min 65536 (n - 65536 * i)
  let d := (List.range 4).foldl (fun d q => d.hashedAt q (((List.range m).filter (fun i => i % 4 = q)).map chunk)) d
  d.tally 0x46 0 (hashBlocks (32 * m))

/-- The GENESIS record, record 0 of the chain (Table 8.7): its times read as the factory leaves them. (DESIGN CHOICE, log entry 53.) -/
def genesis : List (BitVec 8) :=
  [0x56#8, 0x53#8, 0x45#8, 0x4C#8, 4#8] ++ List.replicate 59 0 ++ sha256 ((List.range 64).map Config.identity) ++ List.replicate 32 0

/-- Byte address of the Logbook's chain head of a seal number (R290, Table 17.11). (DEDUCED, log entry 54.) -/
def headAddr (num : Nat) : Nat := (2710 + num % 2) * 256

/-- The link of the chain's head: of the record where it stands on media, else as the Logbook holds it; of GENESIS before
any other record (R289, R290). -/
def Dev.headLink (d : Dev) : List (BitVec 8) :=
  if d.sealHead = 0 then sha256 genesis
  else match assocGet d.sealHead d.chain with
    | some b => sha256 b
    | none => memRead d.lbk (headAddr d.sealHead + 8) 32

/-- The seal registers show the head of the chain (R291). -/
def Dev.sealRegs (d : Dev) : Dev :=
  let link := d.headLink
  let d := d.setF SCR_SEALHEAD.NUMBER d.sealHead
  (List.range 8).foldl (fun d i => d.setF (SCR_SEALLINK.LINK i) (fieldLe link (4 * i) 4)) d

/-- A seal-chain record (Table 8.7) that would follow the head. -/
def Dev.chainRec (d : Dev) (kind target csn stream start len : Nat) (digest : List (BitVec 8)) : List (BitVec 8) :=
  [0x56#8, 0x53#8, 0x45#8, 0x4C#8] ++ leBytes 1 kind ++ leBytes 1 target ++ leBytes 2 0 ++ leBytes 8 (d.sealHead + 1) ++ leBytes 8 csn ++
    leBytes 8 d.time ++ leBytes 4 d.cycle ++ leBytes 5 d.opSec ++ leBytes 3 0 ++ leBytes 4 stream ++ leBytes 8 start ++ leBytes 8 len ++
    padTo 32 digest ++ padTo 32 d.headLink

/-- Append a record to the chain (R289, R290): the record on media, then the head in the Logbook. (DEDUCED, log entry 52.) -/
def Dev.chainAppend (d : Dev) (kind target csn stream start len : Nat) (digest : List (BitVec 8)) : Dev :=
  let b := d.chainRec kind target csn stream start len digest
  let n := d.sealHead + 1
  let d := d.putBody (d.livePts.headD 0) (.sealRec n b)
  let d : Dev := { d with chain := assocSet n b d.chain, sealHead := n }
  let h := leBytes 8 n ++ sha256 b
  (d.lbkWrite (headAddr n) (h ++ leBytes 4 (crc32c h))).2.sealRegs

/-- A chain record can be programmed now: a metadata open segment takes it. -/
def Dev.chainReady (d : Dev) : Bool := (d.metaPoint (d.livePts.headD 0)).isSome

/-- The removal of a sealed extent is logged (R47). The manual gives the record no event code. (DESIGN CHOICE, log entry 58.) -/
def Dev.sealGoneEvent (d : Dev) : Dev :=
  let (v, d) := d.draw
  d.post { code := v.toNat % 65536 }

/-- End a seal (R288, R395): its sealed versions that are no longer current become dead, its window stands no longer, and FLOOR
follows. -/
def Dev.endSeal (d : Dev) (x : Seal) : Dev :=
  let d : Dev := { d with seals := d.seals.filter (fun y => y.num != x.num) }
  if x.target = 1 then
    let old := (d.stm x.stream).floor
    let d := d.modStm x.stream (fun y => { y with windows := y.windows.filter (fun w => w.sealNo != some x.num) })
    ((d.setF STR_GSTAT.WINDOWS d.windowCount).floorMoved x.stream old).strSettle x.stream
  else
    (x.psas.filter (· < 2 ^ 31)).zipIdx.foldl (fun d p =>
      let pg := x.start / 4096 + x.psas.findIdx (· == p.1)
      let page := p.1 / 16
      if d.pageAt pg 0 == some page || d.sealedAt page then d
      else (d.occupy 0 1).subLive p.1 (d.slotLive page)) d

end Sys2Proof.Machine
end

