-- ==== Sys2Proof/Machine/Checkpoint.lean ====
section
/-! DEFINITION. Checkpoints (chapter 07). -/

namespace Sys2Proof.Machine

/-- Lowest-numbered live Point: the one that issues a record which belongs to no Point. -/
def Dev.firstLive (d : Dev) : Nat := d.livePts.headD 0

/-- The content of a checkpoint as it stands now (Table 7.5). A stream's tail is no part of it.
(DEDUCED, log entry 41; DESIGN CHOICE, log entry 193.) -/
def Dev.snapOf (d : Dev) (gen csn group : Nat) : Snap :=
  { gen := gen, csn := csn, time := d.time, opSec := d.opSec, cycle := d.cycle
    eclk := (List.range 16).map d.eclk
    homemap := d.reg 0x3000
    states := d.states
    place := (List.range 16).map (fun h => d.reg (0x4080 + 8 * h))
    occupied := d.occupied
    capState := d.f WLV_CAP.STATE
    sdisc := d.sdisc.head?.filter (fun x => decide (0 < x.step))
    rekey := d.rekey
    groups := d.groups
    nextGroup := d.nextGroup
    flushSegs := d.points.map (·.flushSeg)
    overlay := d.overlay
    mapDirty := d.mapc.filter (·.dirty)
    dir := d.dir
    segs := d.segs
    phis := d.phis
    poison := d.poison
    seals := d.seals.filter (fun (x : Seal) => decide (x.num < 2 ^ 64))
    sealHead := d.sealHead
    ranges := (List.range 8).map (fun i => d.reg (0x4440 + 8 * i))
    anchors := d.str.ctx.map (fun x => (x.1, x.2.anchor))
    cutGroup := group
    layout := d.reg 0x104 % 64 &&& 0x23
    winGib := d.f DEV_LAYOUT.WIN_GIB
    ctx := d.str.ctx.map (fun x => (x.1, { x.2 with tail := [] }))
    cells := d.points.map (·.failedCells)
    wnodes := d.wnodes }

/-- The effective clocks saved last, by a checkpoint or a Commit stage (R113): a clock never runs back, so the greater is the newer.
(DEDUCED, log entry 182.) -/
def Dev.savedEclk (d : Dev) (c : Snap) (n : Nat) : Nat := Nat.max (c.eclk.getD n 0) ((d.commitEclk.getD []).getD n 0)

/-- Some entry of a log sector already closed waits for its install (R233, step 2). -/
def Dev.installsWait (d : Dev) : Bool :=
  d.imgs.any (fun x => x.logged && x.open && (d.imgEntries x).any (fun e => !(d.pt e.1).plog.contains e.2))

/-- The programs of a checkpoint may be issued: not in cold stop (R640), and in media critical only those of an orderly shut-down, which
R637 itself asks for. -/
def Dev.ckptPrograms (d : Dev) : Bool := !d.coldStop && (!d.on THM_STAT.CRIT || d.phase == .shutdown)

/-- A cut can be made now (R232, R233): none is in progress, the commit sequencer runs, a metadata group takes the CUT record,
and every closed entry is installed. -/
def Dev.cutReady (d : Dev) : Bool :=
  d.saving.isNone && d.seqOn && d.ckptPrograms && (d.openGroup 3).isSome && (d.metaPoint d.firstLive).isSome && !d.installsWait

/-- The cut (R233, R234): the CUT record, whose CSN is the cut CSN, and the content as it stands at it. -/
def Dev.cut (d : Dev) : Dev :=
  let gen := d.f MAP_CKPT.GEN + 1
  let csn := d.nextCsn
  let grp := match d.openGroup 3 with | some g => g.num | none => 0
  let d := d.record d.firstLive (.cut gen grp)
  let d := (d.setF MAP_CKPT.ACTIVE 1).setF MAP_LOGS.SINCE_CUT 0
  { d with saving := some (d.snapOf gen csn grp), ckptReq := false, cutAt := d.time }

/-- Start a checkpoint, or keep it requested until one can start (R232). -/
def Dev.startCkpt (d : Dev) : Dev := if d.cutReady then d.cut else { d with ckptReq := true }

/-- An event of R232 asks for a checkpoint; in Hove-to only the recovery program does, once (R586). -/
def Dev.ckptCause (d : Dev) (cause : Nat) : Bool :=
  match cause with
  | 0 => !d.on SAF_STAT.HOVE && decide (d.cutAt + msUnits (d.f MAP_CTL.CKPT_PERIOD) ≤ d.time)
  | 1 => !d.on SAF_STAT.HOVE && decide (d.f MAP_LOGS.SINCE_CUT ≥ 1024 * d.f MAP_CTL.CKPT_LOGS)
  | _ => d.ckptReq

/-- CHECKPOINT_START (R232, R233). -/
def execCheckpointStart (cause : Nat) (s : State) : Host.Outcome State Fault Refusal :=
  act (okCheckpointStart cause) s (fun d =>
    if d.phase != .doze && d.cutReady && d.ckptCause cause then d.cut else d)

/-- Order programs. -/
abbrev prgCheckpoint : Nat := 0x11

/-- Running CHECKPOINT orders that a completed checkpoint answers: those dispatched before its cut (R232). -/
def Dev.answerCkpt (d : Dev) (c : Snap) : Dev :=
  { d with ord := { d.ord with run := d.ord.run.map (fun (o : Order) =>
      if o.prog = prgCheckpoint && o.done.isNone && decide (o.csn < c.csn) then { o with done := some (0, c.gen, 0) } else o) } }

/-- A checkpoint completes: its locator is written twice, it becomes the newest of the two on media, and the orders that wait for it are
answered (R235, R236). (DESIGN CHOICE, log entry 193.) -/
def Dev.ckptDone (d : Dev) (c : Snap) : Dev :=
  let loc (k : Nat) : Locator := ⟨c.gen, k, c.cycle, c.csn, c.time, c.opSec, Config.ckptDigest c.gen⟩
  let i := 2 * (c.gen % 2)
  let d := (d.cnt LBK_WRITES.PAGES 2).tally 0x8B 0 2
  let d := { d with locs := assocSet (i + 1) (loc 1) (assocSet i (loc 0) d.locs), ckpts := (c :: d.ckpts).take 2, saving := none }
  let d := ((d.setF MAP_CKPT.GEN c.gen).setF MAP_CKPT.ACTIVE 0).setF MAP_LOGS.SINCE_DONE (d.f MAP_LOGS.SINCE_CUT)
  let d := d.tally 0x8C 0 1
  let d := ((d.segs.filter (fun x => x.2.kind = 3 && (x.2.state = 6 || x.2.state = 7))).map (·.1)).foldl
    (fun d sg => (d.metaRecount sg).dropEmpty sg) d
  let d := match d.sdisc with | x :: _ => if x.step = 6 then d.collectCands x.cands else d | [] => d
  let d := match d.rekey with | some r => if r.step = 4 then d.collectCands r.cands else d | none => d
  d.answerCkpt c

/-- CHECKPOINT_COMPLETE (R235, R236, R239): locator A, then locator B; what two later checkpoints leave behind is dead. -/
def execCheckpointComplete (s : State) : Host.Outcome State Fault Refusal :=
  act okCheckpointComplete s (fun d =>
    match d.saving with
    | none => d
    | some c =>
      if !d.ckptPrograms then d
      else if d.pwr.vsys < 8000 || d.pwr.wcap < 3200 then (d.cnt LBK_STAT.REFUSED).post0 0x112
      else d.ckptDone c)

end Sys2Proof.Machine
end

