-- ==== Sys2Proof/Machine/Recovery.lean ====
section
/-! DEFINITION. Recovery: the checkpoint loaded, the survey, replay, the commit sequencer, re-entry, closure (chapter 07). -/

namespace Sys2Proof.Machine

/-- A read whose decodes all succeed: what recovery assumes of a sector that the command does not name as bad. -/
def goodRead : RdEnv := ⟨[], false, false, false⟩

/-! ### Choice of the generation (R237) -/

/-- The checkpoint that a start uses, or none: with the flags SINGLE and FALLBACK, and whether 0x071 is posted. (DEDUCED, log entry 43.) -/
def Dev.chooseCkpt (d : Dev) (ev : RecEnv) : Option Snap × Bool × Bool :=
  let older (fb : Bool) : Option Snap × Bool × Bool :=
    match d.ckpts with
    | _ :: c :: _ => if ev.prevA && ev.prevB && ev.prevDiffer then (none, false, true) else if ev.prevA || ev.prevB then (some c, !(ev.prevA && ev.prevB), fb) else (none, false, fb)
    | _ => (none, false, fb)
  match d.ckpts with
  | c :: _ =>
    if ev.copyA && ev.copyB && ev.differ then older true
    else if ev.copyA || ev.copyB then (some c, !(ev.copyA && ev.copyB), false)
    else older false
  | [] => (none, false, false)

/-! ### Tables loaded (Table 7.8, step 2) -/

/-- DRF_ECLK restored from the newer of the checkpoint and the Commit stage, with the seconds held apart during the start
(R113). (DEDUCED, log entry 83; DEDUCED, log entry 182.) -/
def Dev.loadEclk (d : Dev) (c : Snap) : Dev :=
  let base := d.savedEclk c
  let d := (List.range 16).foldl (fun d n => d.setReg (0x3880 + 8 * n) (base n + d.wch.eclkApart.getD n 0)) d
  { d with wch := { d.wch with eclkApart := List.replicate 16 0 } }

/-- Load the tables of a checkpoint. Segment headers are on media: each entry keeps the header found there. -/
def Dev.loadCkpt (d : Dev) (c : Snap) : Dev :=
  let hdr (sg : Nat) : SegHdr := (d.seg sg).hdr
  let heads := d.segs.filter (fun x => (assocGet x.1 c.segs).isNone)
  let d1 : Dev := { d with
    segs := (c.segs.map (fun x => (x.1, { x.2 with hdr := hdr x.1 }))).foldl (fun l x => assocSet x.1 x.2 l) heads
    groups := c.groups, nextGroup := c.nextGroup, phis := c.phis, overlay := c.overlay, mapc := c.mapDirty, dir := c.dir
    wnodes := c.wnodes, poison := c.poison, poisonSrc := [], seals := c.seals, sealHead := c.sealHead, occupied := c.occupied
    sdisc := (c.sdisc.map (fun x => { x with order := 0 })).toList
    str := { d.str with ctx := c.ctx }
    points := d.points.zipIdx.map (fun x => { x.1 with flushSeg := (c.flushSegs.getD x.2 none), failedCells := c.cells.getD x.2 [] }) }
  let d := d1.loadEclk c
  let d := d.setReg 0x3000 c.homemap
  let d := (List.range 16).foldl (fun d n =>
    let st := if d.f (PNT_LINK.STATE n) = 4 then Nat.max 1 (c.states.getD n 0) else c.states.getD n 0
    let d := d.setF (PNT_STAT.STATE n) st
    if st = 2 then d.setF (PNT_LINK.STATE n) 4 else d) d
  let d := (List.range 16).foldl (fun d h => d.setReg (0x4080 + 8 * h) (c.place.getD h (placeReset h))) d
  let d := (List.range 8).foldl (fun d i => d.setReg (0x4440 + 8 * i) (c.ranges.getD i 0)) d
  let d := d.setReg 0x104 ((d.reg 0x104 - (d.reg 0x104 &&& 0x23)) + c.layout)
  let d := ((d.setF DEV_LAYOUT.WIN_GIB c.winGib).setF WLV_CAP.STATE c.capState).setF MAP_CKPT.GEN c.gen
  let d := d.keyRegs
  (List.range 16).foldl (fun d n => match c.cells.getD n [] with
    | x :: _ => (d.setF (PNT_STAT.CELL_FAILED_V n) 1).setF (PNT_STAT.CELL_FAILED n) x
    | [] => d) d

/-! ### The start-up survey (R132, R133) -/

/-- The survey of every die, in turn: the values U. -/
def Dev.surveyAll (d : Dev) (ev : RecEnv) : List Int × Dev :=
  (List.range 16).foldl (fun acc n =>
    let (u, d) := acc.2.surveyDie n (ev.survey.getD n []) (d.wch.dormAdd.getD n 0)
    (acc.1 ++ [u], d)) ([], d)

/-- The event of R133, which carries U for each die: the manual gives neither its code nor the layout of its detail, which are free values.
(DESIGN CHOICE, log entry 39.) -/
def Dev.surveyEvent (d : Dev) (us : List Int) : Dev :=
  let k := d.freeCtr
  let d := { d with freeCtr := k + 5 }
  d.post { code := (Config.freeValue k).toNat % 65536, facts := us, detail := (List.range 4).flatMap (fun i => leBytes 7 (Config.freeValue (k + 1 + i)).toNat) }

/-! ### Logs read (R247, R248) -/

/-- Insert in ascending order of the key. -/
def insKey {α : Type} (x : Nat × α) : List (Nat × α) → List (Nat × α)
  | [] => [x]
  | y :: t => if x.1 ≤ y.1 then x :: y :: t else y :: insKey x t

/-- Sort by key, ascending. -/
def sortKey {α : Type} (l : List (Nat × α)) : List (Nat × α) := l.foldr insKey []

/-- The CSN of a sector of a log or record kind. -/
def Body.csn : Body → Nat
  | .plog _ _ c _ _ | .llog _ c _ | .mrec c _ => c
  | .sealRec _ bs => fieldLe bs 16 8
  | .fidx _ _ _ es | .fline _ _ es => es.foldl (fun m e => Nat.max m e.csn) 0
  | .raw | .pages .. | .deck .. | .tail .. => 0

/-- A sector belongs to the logs: it records something that replay or re-entry reads. -/
def Body.isLog : Body → Bool
  | .plog .. | .llog .. | .mrec .. | .sealRec .. | .fidx .. => true
  | _ => false

/-- Sectors that neither decode nor rebuild. -/
def recLost (ev : RecEnv) : List Nat := ev.bad.filter (fun p => !ev.rebuilt.contains p)

/-- A sector that recovery can read (R247). -/
def recReads (ev : RecEnv) (x : Nat × Sector) : Bool := !(recLost ev).contains x.1 && !x.2.failed

/-- A sector that cannot be read is torn if every later row of its segment is blank (R247). -/
def Dev.torn (d : Dev) (psa : Nat) : Bool := !(d.sectors.any (fun x => psaSeg x.1 = psaSeg psa && psa < x.1))

/-- Segments of the metadata groups that replay reads: the group that the CUT record names, and the later ones (R247). -/
def Dev.replaySegs (d : Dev) (c : Snap) (ev : RecEnv) : List Nat :=
  let first := (c.groups.filter (fun g => g.num = c.cutGroup)).flatMap (fun g => g.members.map (fun m => 8192 * m.1 + m.2))
  let later := d.sectors.flatMap (fun x => match x.2.body with
    | .mrec k (.groupOpen 3 _ segs) => if c.csn < k && recReads ev x then segs.zipIdx.filterMap (fun y => y.1.map (· + 8192 * y.2)) else []
    | _ => [])
  (first ++ later).eraseDups

/-- The newest FLUSH record above the cut of a checkpoint, with the power cycle it carries (Table 7.3). (DEDUCED, log entry 177.) -/
def Dev.lastFlushRec (d : Dev) (c : Snap) (ev : RecEnv) : Option (Nat × List (Option Nat)) :=
  let later := sortKey (d.sectors.filterMap (fun x => match x.2.body with
    | .mrec k (.flush l) => if c.csn < k && recReads ev x then some (k, fieldLe (secBytes x.2.data) 20 4, l) else none
    | _ => none))
  later.getLast?.map (·.2)

/-- Flush segments that recovery reads: those of the checkpoint, or of a later FLUSH record (R247). -/
def Dev.flushSegsOf (d : Dev) (c : Snap) (ev : RecEnv) : List Nat :=
  let l := match d.lastFlushRec c ev with | some x => x.2 | none => c.flushSegs
  l.zipIdx.filterMap (fun y => y.1.map (fun sg => 8192 * y.2 + sg % 8192))

/-- The power cycle whose flush recovery reads: the last one that assigned flush segments. A start that was cut before step 8 of
Table 7.8 assigned none, and the next start recovers from the same media state (R526). (DEDUCED, log entry 177.) -/
def Dev.flushCycle (d : Dev) (c : Snap) (ev : RecEnv) : Nat :=
  match d.lastFlushRec c ev with | some x => x.1 | none => c.cycle

/-- The log and record sectors above the cut that replay applies, in increasing order of CSN (R249). (DEDUCED, log entry 42.) -/
def Dev.replayList (d : Dev) (c : Snap) (ev : RecEnv) : List (Nat × Nat × Sector) :=
  sortKey (d.sectors.filterMap (fun x => match x.2.body with
    | .plog .. | .mrec .. => if c.csn < x.2.body.csn && recReads ev x then some (x.2.body.csn, x.1, x.2) else none
    | .sealRec num _ => if c.sealHead < num && recReads ev x then some (x.2.body.csn, x.1, x.2) else none
    | _ => none))

/-! ### Replay (R249) -/

/-- The segment that an entry of a placement log sector names: the sector's header lists the open segments (Table 5.3). -/
def entSeg (point : Nat) (data : SecData) (e : PEnt) : Nat :=
  8192 * point + fieldLe (secBytes data) (20 + 2 * e.seg) 2 % 8192

/-- The address of an entry's first sector. -/
def entPsa (point : Nat) (data : SecData) (e : PEnt) : Nat := mkPsa (entSeg point data e) e.first

/-- The groups as the logs read show them, released ones included: their rows with the parity that entries of kinds 2 and 3
name (R249). -/
def Dev.logGroups (d : Dev) (logs : List (Nat × Nat × Sector)) : Dev :=
  logs.foldl (fun d x =>
    match x.2.2.body with
    | .mrec _ (.groupOpen kind num segs) =>
      let mem := segs.zipIdx.filterMap (fun y => y.1.map (fun sg => (y.2, sg)))
      { d with groups := (d.groups.filter (fun g => g.num != num)) ++ [(⟨num, kind, 0, mem, [], 0, []⟩ : Group)], nextGroup := Nat.max d.nextGroup (num + 1) }
    | .plog n _ _ _ ents =>
      ents.foldl (fun d e =>
        let psa := entPsa n x.2.2.data e
        match d.groups.find? (fun g => g.members.contains (psaPoint psa, psaSeg psa % 8192)) with
        | none => d
        | some g =>
          let r := e.target / 64 % 1024
          let m := e.target / 65536
          if e.kind = 2 then d.modRow g.num r (fun y => { y with parity := some (List.replicate 16 m) })
          else if e.kind = 3 then d.modRow g.num r (fun y => { y with pps := (y.pps.filter (fun p => p.1 != e.target / 4 % 16)) ++ [(e.target / 4 % 16, psa, m)] })
          else d) d
    | _ => d) d

/-- Apply a page entry (kind 1 or 4), as its install did. -/
def Dev.replayPage (d : Dev) (pg base : Nat) (second : Option Nat) : Dev :=
  let h := homeOfPage pg
  let d := d.newPage pg
  let d := (d.mapRoom h (d.mapSlot pg 0)).installCopy pg 0 base (16 - d.slotLive (base / 16))
  let d := match second with
    | some b => (d.mapRoom h (d.mapSlot pg 1)).installCopy pg 1 b (16 - d.slotLive (b / 16))
    | none => d
  d.dropOverlay pg

/-- Apply a single-sector entry (kind 0), as its install did. -/
def Dev.replaySec (d : Dev) (l psa mask : Nat) (second : Option Nat) : Dev :=
  (d.newPage (l / 16)).ovlPut l { pinned := false, mask := mask, phys := psa, epoch := d.epochNow (homeOfSec l), twin := second }

/-- The second-copy entries of the logs, in order: kind class, target, address. -/
def secondCopies (logs : List (Nat × Nat × Sector)) : List (Bool × Nat × Nat) :=
  logs.flatMap (fun x => match x.2.2.body with
    | .plog n _ _ true ents => ents.filterMap (fun e => if e.kind = 2 || e.kind = 3 then none else some (e.kind == 0, e.target, entPsa n x.2.2.data e))
    | _ => [])

/-- Apply a data entry of a first-copy sector (R249): where the logs show no parity that covers its image, or TWIN's second copy
is missing, it is not applied. `seconds` are the second copies not yet paired. -/
def Dev.replayEnt (d cov : Dev) (n : Nat) (data : SecData) (e : PEnt) (seconds : List (Bool × Nat × Nat)) : Dev × List (Bool × Nat × Nat) :=
  let psa := entPsa n data e
  let span := if e.kind = 0 then [psa] else (List.range 16).map (psa + ·)
  if e.kind = 2 || e.kind = 3 then (d, seconds)
  else
    let two := seconds.find? (fun x => x.1 == (e.kind == 0) && x.2.1 == e.target)
    let rest := match two with | some x => seconds.erase x | none => seconds
    let other := two.map (·.2.2)
    let span2 := match other with | some b => if e.kind = 0 then [b] else (List.range 16).map (b + ·) | none => []
    if !((span ++ span2).all cov.parityCovers) || (d.mTwin && other.isNone && e.sealNo = 0) then (d, rest)
    else if e.sealNo != 0 then
      match d.seals.find? (fun x => x.num = e.sealNo) with
      | some x =>
        let old := x.psas.getD ((4096 * e.target - x.start) / 4096) psa
        ((d.moveSealed e.sealNo old psa).addLive psa 16 |>.subLive old 16, rest)
      | none => (d, rest)
    else if e.kind = 0 then (d.replaySec e.target psa e.mask (if d.mTwin then other else none), rest)
    else (d.replayPage (e.target % 2 ^ 27) psa (if d.mTwin then other else none), rest)

/-- The discard of R209 on the tables, for a range. -/
def Dev.discardTables (d : Dev) (start len : Nat) : Dev :=
  ((List.range (len / 4096)).map (start / 4096 + ·)).foldl (fun d pg =>
    if d.occupies pg then ((d.dropOverlay pg).unmapPage pg).occupy 0 d.copies else d) d

/-- A POOL record replayed (Table 7.4). A metadata segment that goes to the data pool is one that the last berth lends (R205), unless the
record after it gives the metadata pool another in exchange (R197). (DEDUCED, log entry 171.) -/
def Dev.replayPool (d : Dev) (sg p : Nat) : Dev :=
  let x := d.seg sg
  let lend := p = 0 && x.pool = 1
  let lent (g : Nat) (y : Seg) : Bool := g / 8192 == sg / 8192 && y.state == 2 && y.berthLoan
  let d := if p = 1 && !x.berthLoan then { d with segs := d.segs.map (fun (z : Nat × Seg) => if lent z.1 z.2 then (z.1, { z.2 with berthLoan := false }) else z) } else d
  d.modSeg sg (fun x => { x with pool := p, berthLoan := lend })

/-- Apply a metadata record (R249). (DESIGN CHOICE, log entry 163.) -/
def Dev.replayRec (d : Dev) (csn : Nat) (b : MBody) : Dev :=
  match b with
  | .clear sg c => (d.modSeg sg (fun y => { y with count := Nat.max y.count c, live := 0 })).setState sg 1
  | .groupOpen kind num segs =>
    let mem := segs.zipIdx.filterMap (fun y => y.1.map (fun sg => (y.2, sg)))
    let d := mem.foldl (fun d m => (d.modSeg (8192 * m.1 + m.2) (fun x => { x with kind := kind, group := num, live := 0, dfilter := 0, birth := 0xFFFFFFFFFFFF })).setState (8192 * m.1 + m.2) 3) d
    { d with groups := (d.groups.filter (fun g => g.num != num)) ++ [(⟨num, kind, 0, mem, [], 0, []⟩ : Group)], nextGroup := Nat.max d.nextGroup (num + 1) }
  | .groupState num st =>
    match d.group num with
    | none => d
    | some g =>
      if st = 1 then
        let d := g.members.foldl (fun d m => d.setState (8192 * m.1 + m.2) 4) d
        d.modGroup num (fun y => { y with st := 1, toVerify := g.members.flatMap (fun m => d.segSectors (8192 * m.1 + m.2)) })
      else
        let d := { d with groups := d.groups.filter (fun y => y.num != num) }
        g.members.foldl (fun d m =>
          let sg := 8192 * m.1 + m.2
          if (d.seg sg).state = 9 then d else ((d.setState sg 6).metaRecount sg).dropEmpty sg) d
  | .mapPage h mp a b =>
    let d := { d with dir := assocSet (16384 * h + mp) (a, b) d.dir }
    { d with mapc := d.mapc.map (fun (w : MapWay) =>
        if w.home = h && w.slot / 512 = mp && d.mapOnMedia a w.slot == some (setBits w.entry 25 11 0) then { w with dirty := false } else w) }
  | .watermark h w => d.modHm h (fun x => { x with wm := w })
  | .poison pg m _ => d.setPoisonMask pg m
  | .discard start len step _ =>
    if step = 0 || step = 2 then d.discardTables start len
    else d
  | .home m st =>
    (List.range 16).foldl (fun d n => d.setF (PNT_STAT.STATE n) (st.getD n 0)) (d.setReg 0x3000 m)
  | .pool sg p => d.replayPool sg p
  | .cut .. | .start .. | .flush .. => let _ := csn; d

/-- The progress of the secure discard that the records show: a record of step 1 to 6 is of one that still runs (R213). -/
def Dev.replaySdisc (d : Dev) (b : MBody) : Dev :=
  match b with
  | .discard start len step csn =>
    if step = 0 then d
    else if step = 7 then { d with sdisc := [] }
    else { d with sdisc := [⟨0, start, len, csn, step, []⟩] }
  | _ => d

/-- A protected range that a seal-chain record sealed stands in its stream (R394). -/
def Dev.standWindow (d : Dev) (x : Seal) : Dev :=
  d.modStm x.stream (fun (y : Stream) =>
    let same (w : Window) : Bool := w.pstart == x.start && w.pend == some (x.start + x.len)
    if y.windows.any same then { y with windows := y.windows.map (fun (w : Window) => if same w then { w with sealNo := some x.num } else w) }
    else { y with windows := y.windows ++ [(⟨0, 0, x.start, some (x.start + x.len), true, some x.num, false⟩ : Window)] })

/-- Apply a seal-chain record: a seal with its page list, an unseal, or a Sanitize (R288, R290). -/
def Dev.replaySeal (d : Dev) (num : Nat) (bs : List (BitVec 8)) : Dev :=
  let d := { d with sealHead := Nat.max d.sealHead num }
  let kind := fieldLe bs 4 1
  if kind = 1 then
    let psas := (d.sectors.filterMap (fun x => match x.2.body with | .pages n l => if n = num then some l else none | _ => none)).flatten
    let x : Seal := ⟨num, fieldLe bs 5 1, fieldLe bs 44 4, fieldLe bs 48 8, fieldLe bs 56 8, fieldLe bs 16 8, fieldLe bs 64 32, psas⟩
    let d := { d with seals := d.seals ++ [x] }
    if x.target = 1 then d.standWindow x else d
  else if kind = 2 then
    let gone := fieldLe bs 64 32
    match d.seals.find? (fun x => match assocGet x.num d.chain with | some b => fieldLe (sha256 b) 0 32 == gone | none => false) with
    | some x => d.endSeal x
    | none => d
  else if kind = 3 then d.seals.foldl Dev.endSeal d
  else d

/-- Apply the logs in order. -/
def Dev.replay (d cov : Dev) (logs : List (Nat × Nat × Sector)) : Dev :=
  (logs.foldl (fun (acc : Dev × List (Bool × Nat × Nat)) x =>
    match x.2.2.body with
    | .plog n _ _ false ents => ents.foldl (fun acc e => acc.1.replayEnt cov n x.2.2.data e acc.2) acc
    | .mrec k b => ((acc.1.replayRec k b).replaySdisc b, acc.2)
    | .sealRec num bs => (acc.1.replaySeal num bs, acc.2)
    | _ => acc) (d, secondCopies logs)).1

/-- The DFILTER bits of the data that a sector holds (R186, Table 6.2): a data sector's own, those of the lines of a line log or of a flush. -/
def Dev.secFilter (d : Dev) (s : Sector) : Nat :=
  match s.body with
  | .llog _ _ ls | .fline _ _ ls => dfBits (ls.map (fun l => d.logPage l.line l.csn))
  | .raw => if metaKind s.md ≤ 1 then 2 ^ (metaHigh s.md / 2 ^ 15 % 64) else 0
  | _ => 0

/-- The DFILTER bits of the data that segments hold. -/
def Dev.segFilter (d : Dev) (sgs : List Nat) : Nat :=
  d.sectors.foldl (fun m x => if sgs.contains (psaSeg x.1) then m ||| d.secFilter x.2 else m) 0

/-- What the sectors of the groups that the logs show are found to hold: BIRTH, from the clock at the cut, and the discard filter, of which a
member that may hold parity has all the bits of its group (R186). (DEDUCED, log entry 38.) -/
def Dev.replayOpen (d : Dev) (c : Snap) (gs : List Group) : Dev :=
  gs.foldl (fun d g =>
    let sgs := (g.members.map (fun m => 8192 * m.1 + m.2)).filter (fun sg => !(d.segSectors sg).isEmpty && (d.seg sg).group = g.num)
    let df := d.segFilter sgs
    sgs.foldl (fun d sg => d.modSeg sg (fun x => { x with
      dfilter := x.dfilter ||| df, birth := if x.birth = 0xFFFFFFFFFFFF then c.eclk.getD (sg / 8192) 0 / 65536 else x.birth })) d) d

/-! ### The commit sequencer (R44, R250) -/

/-- The greatest CSN in the logs read and in the flush indexes (R247, R250), and the cut CSN. -/
def Dev.greatestCsn (d : Dev) (c : Snap) (ev : RecEnv) : Nat :=
  let segs := d.replaySegs c ev ++ d.flushSegsOf c ev
  d.sectors.foldl (fun m x =>
    if !segs.contains (psaSeg x.1) || (recLost ev).contains x.1 || x.2.failed then m
    else match x.2.body with
      | .llog _ k ls => ls.foldl (fun m l => Nat.max m l.csn) (Nat.max m k)
      | .fline .. => m
      | b => Nat.max m b.csn) c.csn

/-- The CSN at which the commit sequencer resumes, and the event of an invalid Logbook value, posted before it resumes (R667). -/
def Dev.resumeCsn (d : Dev) (c : Snap) (ev : RecEnv) : Dev :=
  let (v, cyc, ok) := d.lbkCsnRead
  let valid : Bool := ok && decide (cyc + 1 = d.cycle)
  let m := d.greatestCsn c ev
  let base := (if valid then Nat.max m v else m) + (if valid then 2 ^ 20 else 2 ^ 40)
  let d := if valid then d else d.post { code := 0x078, detail := leBytes 8 v ++ leBytes 4 cyc ++ leBytes 1 (if ok then 2 else 1) }
  { d with nextCsn := base, nextCsn2 := base, seqOn := true }

/-- A die declared dead in this start's training leaves its Point dying, whatever the records say (R105); the adopters of rehomings already
complete show ADOPTED again (R77). -/
def Dev.restoreAdopted (d : Dev) : Dev :=
  (List.range 16).foldl (fun d n =>
    if d.f (PNT_LINK.STATE n) = 4 && d.live n then d.setF (PNT_STAT.STATE n) 1
    else if d.dead n && d.serving n != n then
      ((d.setF (PNT_LINK.STATE n) 4).setF (PNT_STAT.ADOPTED (d.serving n)) 1).setF (PNT_STAT.ADOPTED_HOME (d.serving n)) n
    else d) d

/-- Complete the rehomings that a start finds unfinished (R77). -/
def Dev.finishRehoming (d : Dev) : Dev :=
  (List.range 16).foldl (fun d n =>
    if d.f (PNT_STAT.STATE n) = 1 || (d.dead n && (List.range 16).any (fun h => d.serving h = n)) then
      match d.adopter n with
      | some a =>
        let d := (((d.rehome n a).loseSegs n).capChanged).homeRecord a
        d.post { code := 0x034, level := 2, point := n }
      | none => ((d.setF (PNT_STAT.STATE n) 2).loseSegs n).homeRecord n
    else d) d

/-! ### Re-entry (R17, R245, R252, R398, R399) -/

/-- The committed position of a home and whether R17 acts, as the newest BROWNOUT record of a power cycle gives them: outcome,
origin, HOLDUP. -/
def Dev.flushRecord (d : Dev) (cyc : Nat) : Option (Nat × Nat × Bool × List Nat) :=
  let mine (r : List (BitVec 8)) : Bool := decide (fieldLe r 2 1 = 2) && decide (fieldLe r 8 4 = cyc)
  let newest := ((List.range 128).filterMap (fun i => (d.powerPair i).1)).foldl (fun (acc : Option (List (BitVec 8))) r =>
    if !mine r then acc
    else match acc with
      | some a => if fieldLe a 4 4 < fieldLe r 4 4 then some r else acc
      | none => some r) none
  newest.map (fun r => (fieldLe r 36 1, fieldLe r 37 1, (fieldLe r 38 2).testBit 7, (List.range 16).map (fun h => fieldLe r (44 + 4 * h) 4)))

/-- The index entries of a home in the flush of cycle `fc`, with their positions. -/
def Dev.flushIndex (d : Dev) (ev : RecEnv) (segs : List Nat) (fc h : Nat) : List (Nat × LogLine) :=
  sortKey (d.sectors.flatMap (fun x => match x.2.body with
    | .fidx home cyc first es => if home = h && cyc = fc && segs.contains (psaSeg x.1) && recReads ev x then es.zipIdx.map (fun e => (first + e.2, e.1)) else []
    | _ => []))

/-- An index sector of a home cannot be read, or the index has a gap (R244). -/
def Dev.indexBroken (d : Dev) (ev : RecEnv) (segs : List Nat) (fc h : Nat) : Bool :=
  d.sectors.any (fun x => match x.2.body with
    | .fidx home cyc _ _ => home == h && cyc == fc && segs.contains (psaSeg x.1) && ((recLost ev).contains x.1 || x.2.failed)
    | _ => false) ||
  (let ps := (d.flushIndex ev segs fc h).map (·.1); ps != List.range ps.length)

/-- The lines of a home that its flush holds at committed positions. -/
def Dev.flushLines (d : Dev) (ev : RecEnv) (segs : List Nat) (h : Nat) : List (Nat × LogLine) :=
  d.sectors.flatMap (fun x => match x.2.body with
    | .fline home first ls => if home = h && segs.contains (psaSeg x.1) && recReads ev x then ls.zipIdx.map (fun e => (first + e.2, e.1)) else []
    | _ => [])

/-- The metadata records that the segments of replay hold, with their CSNs (R247). -/
def Dev.metaRecs (d : Dev) (ev : RecEnv) (segs : List Nat) : List (Nat × MBody) :=
  d.sectors.filterMap (fun x => match x.2.body with
    | .mrec k b => if segs.contains (psaSeg x.1) && recReads ev x then some (k, b) else none
    | _ => none)

/-- A record supersedes a logged line: a discard of a higher CSN (R209), or the poison or loss of the line since (R41, R309).
(DESIGN CHOICE, log entry 163.) -/
def recSupersedes (l : LogLine) (x : Nat × MBody) : Bool :=
  match x.2 with
  | .discard start len _ csn => decide (l.csn < csn) && decide (start ≤ 64 * l.line) && decide (64 * l.line < start + len)
  | .poison _ _ lines => decide (l.csn < x.1) && lines.contains l.line
  | _ => false

/-- The newest watermark that the segments of replay hold for a home. (DEDUCED, log entry 164.) -/
def newestWm (recs : List (Nat × MBody)) (h : Nat) : Nat :=
  recs.foldl (fun m x => match x.2 with | .watermark g w => if g = h then Nat.max m w else m | _ => m) 0

/-- Line log lines above the newest watermark of their home (R252) that no record supersedes. (DEDUCED, log entry 164.) -/
def Dev.loggedLines (d : Dev) (ev : RecEnv) (c : Snap) : List LogLine :=
  let segs := d.replaySegs c ev
  let recs := d.metaRecs ev segs
  (d.sectors.flatMap (fun x => match x.2.body with
    | .llog _ _ ls => if segs.contains (psaSeg x.1) && recReads ev x then ls else []
    | _ => [])).filter (fun l =>
      decide (Nat.max (d.hm (homeOfLine l.line)).wm (newestWm recs (homeOfLine l.line)) < l.csn) && !recs.any (recSupersedes l))

/-- Re-enter one candidate: merged over what stands, in increasing CSN order (R252). A line of an aperture goes to its stream's
tail (R398), poisoned where the poison list has it: what ended the poison, if anything did, is not known. (DESIGN CHOICE, log entry 174.) -/
def Dev.reenter (d : Dev) (l : LogLine) : Dev :=
  let a := 64 * l.line
  if a < 0x6000000000 then
    let was := d.binnAt l.line
    let d := d.binnWrite l.line l.csn l.data l.mask l.check
    if was.isSome then d else d.cnt MAP_REPLAY.REENTERED
  else
    let s := (a - 0x6000000000) / 0x100000
    let off := a % 0x100000
    let x := d.stm s
    match x.slotOf (off / 4096) with
    | none => d
    | some q =>
      let key := 64 * q + off % 4096 / 64
      let t := (assocGet key x.tail).getD { check := lineCheck 0 (termStream (x.line (64 * key))), first := l.csn }
      let v := mergeLine t.data l.data l.mask
      d.setStm s { x with tail := assocSet key { t with data := v, mask := t.mask ||| l.mask, csn := l.csn, check := checkMove t.check t.data v, poison := d.poisoned (x.line (64 * key)) } x.tail }

/-- A flushed line that fails its line check against its index address is poisoned (R252). -/
def Dev.poisonBadLines (d : Dev) (ls : List LogLine) : Dev :=
  ls.foldl (fun d l => if l.check == lineCheck (mergeLine 0 l.data l.mask) (termDev l.line) || apertureLine l.line then d else d.markPoison l.line 2) d

/-- The stream context sectors of the flush just ended (Table 10.6), by stream. -/
def Dev.ctxSectors (d : Dev) (ev : RecEnv) (segs : List Nat) (fc : Nat) : List (Nat × List (BitVec 8)) :=
  d.sectors.filterMap (fun x => match x.2.body with
    | .tail s _ =>
      let b := secBytes x.2.data
      if segs.contains (psaSeg x.1) && recReads ev x && decide (fieldLe b 80 4 = fc) &&
        decide (crc32c (b.take 252) = fieldLe b 252 4) then some (s, b) else none
    | _ => none)

/-- Restore each stream's positions: from its context sector, or from the checkpoint under R399. (DEDUCED, log entry 40.) -/
def Dev.restoreStreams (d : Dev) (ctx : List (Nat × List (BitVec 8))) : Dev :=
  d.str.ctx.foldl (fun d y =>
    let x := d.stm y.1
    match assocGet y.1 ctx with
    | some b =>
      let f (k : Nat) : Nat := fieldLe b (8 + 8 * k) 8
      let w := if fieldLe b 56 8 = 2 ^ 64 - 1 then [] else [(⟨fieldLe b 56 8, fieldLe b 64 8, fieldLe b 72 8, none, false, none, false⟩ : Window)]
      let x : Stream := { x with bounds := [], evAt := [], violations := 0, frameFrom := some x.pos.nexthdr }
      let x' : Stream := { x with
        pos := { end_ := f 0, rel := f 1, rpos := f 2, mark := if f 3 = 2 ^ 64 - 1 then none else some (f 3), limit := f 4, avail := f 0, nexthdr := f 5 }
        resets := fieldLe b 4 4, reclaimed := fieldLe b 88 8, windows := x.windows.filter (fun (v : Window) => v.pend.isSome) ++ w }
      d.setStm y.1 (x' : Stream).fixAnchor.sync
    | none =>
      let e := d.restEnd x (16 * x.depth + 128) x.anchor.end_
      let p : Pos := { x.pos with end_ := e, limit := Nat.max x.anchor.limit (e / 4096), avail := e }
      let x : Stream := { x with bounds := [], evAt := [], violations := 0, frameFrom := some x.pos.nexthdr }
      d.setStm y.1 ({ x with pos := p, resets := satAdd 32 x.resets 1 } : Stream).fixAnchor.sync) d

/-- The lines that R245 marks as lost: beyond the committed position of their home, with no re-entered line log line at their
address of the same or a higher CSN. One event 0x076 for each contiguous range. -/
def Dev.markLost (d : Dev) (ev : RecEnv) (segs : List Nat) (fc : Nat) (logged : List LogLine) (pos : List Nat) : Dev :=
  (List.range 16).foldl (fun d h =>
    let p := pos.getD h (2 ^ 32 - 1)
    let beyond := (d.flushIndex ev segs fc h).filter (fun e => p = 2 ^ 32 - 1 || p < e.1 || !((d.flushLines ev segs h).any (·.1 = e.1)))
    let lost := (beyond.map (·.2)).filter (fun l => decide (64 * l.line < 0x6000000000) && !logged.any (fun m => m.line = l.line && decide (l.csn ≤ m.csn)))
    let lines := (sortKey (lost.map (fun l => (l.line, ())))).map (·.1) |>.eraseDups
    let d := lines.foldl (fun d l => (d.markPoison l 2).supersede l) d
    (runsOf lines).foldl (fun d r => d.post { code := 0x076, addr := 64 * r.1, sev := 2, detail := leBytes 8 (64 * r.2) ++ leBytes 1 h }) d) d

/-- The deck-log records that the flush of cycle `fc` dumped, in order (R612). -/
def Dev.dumped (d : Dev) (ev : RecEnv) (segs : List Nat) (fc : Nat) : List DeckRec :=
  (sortKey (d.sectors.filterMap (fun x => match x.2.body with
    | .deck cyc seq recs =>
      if cyc = fc && segs.contains (psaSeg x.1) && recReads ev x then some (seq, recs) else none
    | _ => none))).flatMap (·.2)

/-- The dumped records are appended to the deck-log area (R610, R612), ahead of the records of this start. -/
def Dev.appendDump (d : Dev) (ev : RecEnv) (segs : List Nat) (fc : Nat) : Dev :=
  let now := d.deck.buf
  let d := { d with deck := { d.deck with buf := d.dumped ev segs fc } }.deckFlush
  { d with deck := { d.deck with buf := now } }

/-- Step 6: lines re-entered; lost lines marked under R17, R245 and R679. (DESIGN CHOICE, log entry 154.) -/
def Dev.reenterAll (d : Dev) (ev : RecEnv) (c : Snap) : Dev :=
  let segs := d.flushSegsOf c ev
  let fc := d.flushCycle c ev
  let logged := d.loggedLines ev c
  let d := d.restoreStreams (d.ctxSectors ev segs fc)
  let d := (List.range 16).foldl (fun d h => if d.indexBroken ev segs fc h then d.hovePost { code := 0x077, level := 3, detail := leBytes 1 h } (2 ^ h) else d) d
  let flushed := (List.range 16).flatMap (fun h =>
    (d.flushLines ev segs h).filter (fun l => (d.flushIndex ev segs fc h).any (fun e => e.1 = l.1 && e.2.line = l.2.line)) |>.map (·.2))
  let all := sortKey ((logged ++ flushed).map (fun l => (l.csn, l)))
  let d : Dev := (all.foldl (fun (d : Dev) x => d.reenter x.2) d).poisonBadLines flushed
  let d : Dev := { d with homes := d.homes.zipIdx.map (fun (h : Home × Nat) => { h.1 with newest := (d.binn.filter (fun (b : BEntry) => homeOf (64 * b.line) = h.2)).foldl (fun m b => Nat.max m b.csn) h.1.newest }) }
  let d := d.appendDump ev segs fc
  match d.flushRecord fc with
  | some (outcome, origin, hold, pos) =>
    if outcome = 3 then
      (if origin = 3 && hold then d.dirtyShutdown.post { code := 0x076, detail := List.replicate 28 0 } else d)
    else if hold then d.markLost ev segs fc logged (if outcome = 1 then pos else (List.range 16).map (fun h => (d.flushIndex ev segs fc h).length)) else d
  | none => d

/-! ### Closure, flush segments, the first checkpoint (R253, R254) -/

/-- Rows of a group as the medium shows them: a row whose parity slot is programmed needs none. -/
def Dev.rowsFromMedia (d : Dev) (g : Group) : Dev :=
  let used := ((g.members.flatMap (fun m => (d.segSectors (8192 * m.1 + m.2)).map (fun p => psaSec p / 16)))).eraseDups
  used.foldl (fun d r => d.modRow g.num r (fun x =>
    match d.parityMember g r with
    | some p => if x.parity.isNone && d.slotUsed (8192 * p.1 + p.2) r then { x with parity := some (List.replicate 16 0) } else x
    | none => x)) d

/-- Close every group that replay leaves open, the metadata group last, and place every member of a closed group in SETTLING
(R253). -/
def Dev.closeAll (d : Dev) : Dev :=
  let opn := d.groups.filter (·.st = 0)
  let d := opn.foldl Dev.rowsFromMedia d
  let d := ((opn.filter (·.kind != 3)) ++ (opn.filter (·.kind = 3))).foldl (fun d g => d.closeGroup g.num) d
  d.groups.foldl (fun d g =>
    let d := g.members.foldl (fun d m => if (d.seg (8192 * m.1 + m.2)).state = 9 then d else d.setState (8192 * m.1 + m.2) 4) d
    d.modGroup g.num (fun y => { y with closedAt := d.time, toVerify := g.members.flatMap (fun m => d.segSectors (8192 * m.1 + m.2)) })) d

/-- Old flush segments are dead; each live Point gets a fresh one from its CLEARED metadata segments, and a FLUSH record is
programmed (R242, R254, R255). -/
def Dev.freshFlush (d : Dev) : Dev :=
  let d := (d.points.filterMap (·.flushSeg)).foldl (fun d sg => if (d.segSectors sg).isEmpty then d else d.setState sg 0) d
  let d := (List.range 16).foldl (fun d n =>
    let d := d.modPt n (fun p => { p with flushSeg := none, flushNext := 0 })
    if d.live n then
      (let o := d.pickSeg false (d.clearedList n 1)
       d.modPt n (fun p => { p with flushSeg := o }))
    else d) d
  d.record d.firstLive (.flush ((List.range 16).map (fun n => (d.pt n).flushSeg)))

/-- Registers that follow the restored tables. -/
def Dev.tableRegs (d : Dev) : Dev :=
  (List.range 16).foldl (fun d n =>
    let ret := (d.listedSegs n).foldl (fun m x => m + ((List.range 32).countP (fun c => x.2.retired.testBit c))) 0
    ((((d.setF (PNT_MEDSTAT.SLICE_RET n) ret).wearPoint n).poolRegs n).mapReg n).ovlReg n |>.setF (MAP_CACHE.POISON n) (d.poisonCount n)) d

/-- RECOVERY without a usable checkpoint: Hove-to with every line affected (R237). -/
def Dev.noCkpt (d : Dev) : Dev := d.hovePost { code := 0x072, level := 3 } 0xFFFF

/-- Recovery with the checkpoint chosen (Table 7.8, steps 2 to 8). -/
def Dev.recoverWith (d : Dev) (c : Snap) (ev : RecEnv) : Dev :=
  let d := d.loadCkpt c
  let (us, d) := d.surveyAll ev
  let d := (d.setF DRF_CTL.SURVEY_DONE 1).surveyEvent us
  let logs := d.replayList c ev
  let badLogs := (recLost ev).filter (fun p => (assocGet p d.sectors).any (fun s => s.body.isLog))
  let cov := d.logGroups logs
  let d := d.replay cov logs
  let d := d.replayOpen c cov.groups
  let d := (d.flushSegsOf c ev).foldl (fun d sg => d.modSeg sg (fun x => { x with dfilter := x.dfilter ||| d.segFilter [sg] })) d
  let d : Dev := { d with groups := d.groups.map (fun (g : Group) => match cov.group g.num with | some y => { g with rows := y.rows } | none => g) }
  let d : Dev := badLogs.foldl (fun (d : Dev) p => if d.torn p then d.post (secEv 0x074 0 p)
    else match (assocGet p d.sectors).map (fun (s : Sector) => s.body) with
      | some (Body.fidx ..) => d
      | _ => d.hovePost (secEv 0x072 3 p) 0xFFFF) d
  let d := (d.setF MAP_REPLAY.TIME (Nat.min ev.micros 65535)).setF MAP_REPLAY.SECTORS (Nat.min logs.length (2 ^ 24 - 1))
  let d := d.resumeCsn c ev
  let d := d.restoreAdopted.finishRehoming
  let d := d.record d.firstLive (.start d.nextCsn us)
  let d := d.reenterAll ev c
  let d := d.tableRegs.recomputeSpare
  let d := if d.f WLV_CAP.STATE = 3 then d.setAllow ((d.f WLV_FREE.FREE - 131072) / 16) else d
  let d := d.closeAll.openGroupOf 3
  let d := d.freshFlush.sealRegs.startCkpt
  d.post { code := 0x073, detail := leBytes 8 c.gen ++ leBytes 8 (d.reg 0x3E18) }

/-- Recovery: the checkpoint is chosen and loaded, and the records after it are replayed (R246). -/
def Dev.recoverNow (d : Dev) (ev : RecEnv) : Dev :=
  let (c, single, fb) := d.chooseCkpt ev
  let d := ((d.setF MAP_CKPT.SINGLE (b2n single)).setF MAP_CKPT.FALLBACK (b2n fb))
  let d := if fb then d.post { code := 0x071, level := 3 } else d
  let d := match c with | some c => d.recoverWith c ev | none => d.noCkpt
  { d with phase := .chart, chart := { d.chart with loaded := c.any (fun (x : Snap) => decide (1 ≤ x.gen)) } }

/-- RECOVERY (R246). -/
def execRecovery (ev : RecEnv) (s : State) : Host.Outcome State Fault Refusal :=
  act (okRecovery ev) s (fun d =>
    if d.phase != .recovery then d
    else
      d.recoverNow ev)

/-- The abbreviated restart (R255): tables and Binnacle stand; the flush image is dead; the sequencer resumes 2^20 on. -/
def Dev.abbreviatedRestart (d : Dev) : Dev :=
  let n := d.nextCsn + 2 ^ 20
  let d := { d with nextCsn := n, nextCsn2 := n, phase := .active }
  (d.freshFlush).post0 0x0E3

end Sys2Proof.Machine
end

