-- ==== Sys2Proof/Machine/Orders.lean ====
section
/-! DEFINITION. Orders: the rings, dispatch, locks, completion; mailbox commands that are carried out as orders (chapters 09
and 12). -/

namespace Sys2Proof.Machine

/-! ### Mailbox replies (R318 to R322) -/

/-- CXL mailbox return codes. The manual names them; their numbers are those of CXL 3.1. (PRESUMED, log entry 13.) -/
abbrev rcSuccess : Nat := 0
/-- Background Command Started. -/
abbrev rcBackground : Nat := 1
/-- Invalid Input. -/
abbrev rcInvalidInput : Nat := 2
/-- Unsupported. -/
abbrev rcUnsupported : Nat := 3
/-- Internal Error. -/
abbrev rcInternal : Nat := 4
/-- Busy. -/
abbrev rcBusy : Nat := 6
/-- Media Disabled. -/
abbrev rcMediaDisabled : Nat := 7
/-- Invalid Handle. -/
abbrev rcInvalidHandle : Nat := 0xE
/-- Invalid Physical Address. -/
abbrev rcInvalidAddr : Nat := 0xF
/-- Inject Poison Limit Reached. -/
abbrev rcInjectLimit : Nat := 0x10
/-- Invalid Security State. -/
abbrev rcSecurity : Nat := 0x13
/-- Invalid Payload Length. -/
abbrev rcLength : Nat := 0x16

/-- A mailbox command ends with a return code and a payload; vector 0 of the head (Table 9.9). -/
def Dev.reply (d : Dev) (h op rc : Nat) (payload : List (BitVec 8)) : Dev := (d.send (.mbox h op rc payload)).raise h 0

/-- The start-up phases before the device is Becalmed or Active. -/
def Dev.starting (d : Dev) : Bool :=
  match d.phase with
  | .optLoad | .powerUp | .clocks | .selfTest | .mediaInit | .recovery | .chart | .linkTrain => true
  | _ => false

/-- A head's mailbox can be reached: its link is in L0, it is not in D3hot, and no flush, Commit, reset flush or power-down is
under way (R669). -/
def Dev.mboxOn (d : Dev) (h : Nat) : Bool :=
  d.inL0 h && !(d.head h).d3hot &&
    (match d.phase with
     | .watchOff | .dormant | .doze | .flush | .commit | .resetFlush | .railsDown => false
     | _ => true)

/-- Mailbox commands served while the device is Becalmed or in start-up (R321). -/
def earlyOps : List Nat :=
  [0x0001, 0x4000, 0x0200, 0x0100, 0x0101, 0x4200, 0x0400, 0x0401, 0xC000, 0xC010, 0xC011, 0xC012]

/-- Mailbox commands served in Hove-to besides those of R321 (R587). -/
def hoveOps : List Nat := [0xC041, 0xC043, 0xC044, 0xC060]

/-- Why a mailbox command is turned away at once (R321, R322, R587), if it is. (DEDUCED, log entry 46.) -/
def Dev.mboxGate (d : Dev) (op : Nat) : Option Nat :=
  if earlyOps.contains op then none
  else if d.phase == .becalmed || d.starting then some rcMediaDisabled
  else if d.on SAF_STAT.HOVE && !hoveOps.contains op then some rcMediaDisabled
  else if d.sanitize.isSome then some rcBusy
  else none

/-- A mailbox command that answers at once: turned away, or answered by `f` with a return code and a payload. -/
def Dev.mailbox (d : Dev) (h op : Nat) (f : Dev → Nat × List (BitVec 8) × Dev) : Dev :=
  if !d.mboxOn h then d
  else match d.mboxGate op with
    | some rc => d.reply h op rc []
    | none =>
      let (rc, payload, d) := f d.touch
      d.reply h op rc (if rc = rcSuccess then payload else [])

/-! ### Programs and entries (Tables 12.3, 12.6) -/

/-- MODE_CHANGE. -/
abbrev prgMode : Nat := 0x10
/-- DISCARD. -/
abbrev prgDiscard : Nat := 0x20
/-- SECURE_DISCARD. -/
abbrev prgSdisc : Nat := 0x21
/-- SEAL_RANGE. -/
abbrev prgSeal : Nat := 0x30
/-- UNSEAL. -/
abbrev prgUnseal : Nat := 0x31
/-- SEAL_VERIFY. -/
abbrev prgVerify : Nat := 0x32
/-- SEAL_EXPORT. -/
abbrev prgExport : Nat := 0x33
/-- TRIGGER. -/
abbrev prgTrigger : Nat := 0x34
/-- STREAM_RESET. -/
abbrev prgStreamReset : Nat := 0x35
/-- REKEY. -/
abbrev prgRekey : Nat := 0x40
/-- FIX. -/
abbrev prgFix : Nat := 0x50
/-- DECK_CLEAR. -/
abbrev prgDeckClear : Nat := 0x51
/-- DECK_RUN. -/
abbrev prgDeckRun : Nat := 0x60
/-- DECK_STOP. -/
abbrev prgDeckStop : Nat := 0x61
/-- CHART_CHECK. -/
abbrev prgChartCheck : Nat := 0x70

/-- How many arguments a program takes (Table 12.6); none for an unknown program. -/
def argCount (prog : Nat) : Option Nat :=
  match prog with
  | 0x10 => some 2 | 0x11 => some 0 | 0x20 => some 2 | 0x21 => some 2 | 0x30 => some 2 | 0x31 => some 1 | 0x32 => some 1
  | 0x33 => some 2 | 0x34 => some 2 | 0x35 => some 1 | 0x40 => some 1 | 0x50 => some 0 | 0x51 => some 0 | 0x60 => some 7
  | 0x61 => some 1 | 0x70 => some 1 | _ => none

/-- Program number of an entry. -/
def entProg (e : List (BitVec 8)) : Nat := fieldLe e 0 2
/-- Tag of an order. -/
def Order.tag (o : Order) : Nat := fieldLe o.entry 4 4

/-- An order entry that a mailbox command stands for. -/
def mkEntry (prog : Nat) (args : List Nat) : List (BitVec 8) :=
  padTo 64 (leBytes 2 prog ++ [0#8, 0xFF#8] ++ leBytes 4 0 ++ args.flatMap (leBytes 8))

/-- An entry names an unknown program, or a reserved field of it is not zero (0x0001). (DEDUCED, log entry 45.) -/
def entBad (e : List (BitVec 8)) : Bool :=
  match argCount (entProg e) with
  | none => true
  | some k =>
    decide (fieldLe e 2 1 ≥ 2) || (decide (15 < fieldLe e 3 1) && decide (fieldLe e 3 1 ≠ 255)) ||
      ((e.drop (8 + 8 * k)).any (· != 0)) || decide (e.length ≠ 64) || (entProg e == 0x10 && (decide (fieldLe e 8 8 ≥ 4096) || decide (fieldLe e 16 8 ≥ 4096)))

/-! ### Running orders -/

/-- The running order of an id. -/
def Dev.order (d : Dev) (id : Nat) : Option Order := d.ord.run.find? (·.id = id)

/-- An order ends with a code and data (Table 12.5); a code of 65,536 or more is one that a deck program set (R467). -/
def Dev.endOrder (d : Dev) (id code d0 d1 : Nat) : Dev :=
  { d with ord := { d.ord with run := d.ord.run.map (fun (o : Order) => if o.id = id then { o with done := some (code, d0, d1) } else o) } }

/-- The object that an order changes, for R464: class and number; none where an earlier chapter rules, or nothing is changed. -/
def Order.object (o : Order) : Option (Nat × Nat) :=
  match o.prog with
  | 0x10 => some (0, 0)
  | 0x31 => some (1, o.arg 0)
  | 0x34 | 0x35 => some (2, o.arg 0)
  | 0x51 => some (5, 0)
  | _ => none

/-- An earlier order that has not ended changes the same object (R464). -/
def Dev.ordBlocked (d : Dev) (o : Order) : Bool :=
  match o.object with
  | none => false
  | some k => d.ord.run.any (fun x => decide (x.id < o.id) && x.done.isNone && x.object == some k)

/-- Dispatch an order (R462): it receives a CSN while the commit sequencer runs. (DEDUCED, log entry 47.) -/
def Dev.newOrder (d : Dev) (src idx : Nat) (entry : List (BitVec 8)) : Order × Dev :=
  let csn := if d.seqOn then d.nextCsn else 0
  let d := if d.seqOn then d.takeCsn else d
  let o : Order := ⟨d.ord.nextId, src, idx, entProg entry, entry, csn, fieldLe entry 3 1, (fieldLe entry 2 1).testBit 0, none⟩
  (o, { d with ord := { d.ord with run := d.ord.run ++ [o], nextId := d.ord.nextId + 1 } })

/-- A state of R669 in which an order is taken and completed with 0x0004. -/
def Dev.ordersRefused (d : Dev) (prog : Nat) : Bool :=
  (d.phase == .becalmed && !(prog == prgChartCheck || prog == prgFix)) || d.on SAF_STAT.HOVE || d.sanitize.isSome || d.phase == .shutdown

/-- Data of a completion of 0x0004 (Table 12.5). -/
def Dev.refuse4 (d : Dev) (id : Nat) : Dev := d.endOrder id 4 (d.reg 0x4008) (d.reg 0x104)

/-- Refuse what an order asks before it runs: the states of R669, and 0x0001. -/
def Dev.letIn (d : Dev) (o : Order) : Dev :=
  if d.ordersRefused o.prog then d.refuse4 o.id
  else if entBad o.entry then d.endOrder o.id 1 0 0
  else d

/-- A mailbox command of Table 9.5 that is carried out as an order, or the effect of a running order: `parse` reads the input
to arguments or a return code, `eff` is the program. A command marked background starts a background command; any other is
answered from the order's completion by `answer`. -/
def Dev.asOrder (d : Dev) (o : OrdReq) (prog op : Nat) (bg : Bool) (parse : List (BitVec 8) → Nat × List Nat)
    (answer : Order → Nat × List (BitVec 8)) (eff : Dev → Order → Dev) : Dev :=
  match o with
  | .run id =>
    match d.order id with
    | some x => if x.prog = prog && x.done.isNone && !d.ordBlocked x then eff d x else d
    | none => d
  | .mbox h inp =>
    if !d.mboxOn h then d
    else match d.mboxGate op with
      | some rc => d.reply h op rc []
      | none =>
        let (rc, args) := parse inp
        if rc != rcSuccess then d.reply h op rc []
        else if bg && (d.head h).bg.isSome then d.reply h op rcBusy []
        else
          let (x, d) := d.touch.newOrder (4 + h) 0 (mkEntry prog args)
          let d := if bg then (d.modHead h (fun y => { y with bg := some (op, x.id) })).reply h op rcBackground [] else d
          let d := d.letIn x
          let d := match d.order x.id with
            | some y => if y.done.isNone && !d.ordBlocked y then eff d y else d
            | none => d
          if bg then d
          else match d.order x.id with
            | some y =>
              let (rc, p) := answer y
              ({ d with ord := { d.ord with run := d.ord.run.filter (·.id != x.id) } } : Dev).reply h op rc p
            | none => d

/-- No input payload. -/
def parseNone (inp : List (BitVec 8)) : Nat × List Nat := if inp.isEmpty then (rcSuccess, []) else (rcLength, [])
/-- An input of `n` fields of 8 bytes. -/
def parse8 (n : Nat) (inp : List (BitVec 8)) : Nat × List Nat :=
  if inp.length = 8 * n then (rcSuccess, (List.range n).map (fun i => fieldLe inp (8 * i) 8)) else (rcLength, [])
/-- No answer beyond success: how a background command is answered. -/
def answerBg (_ : Order) : Nat × List (BitVec 8) := (rcSuccess, [])

/-! ### The rings (R458 to R466) -/

/-- SQ_TAIL_WRITE (R459, R460): a TAIL that would take entries back is ignored. -/
def Dev.sqTail (d : Dev) (r v : Nat) : Dev :=
  let t := v % 16
  let hd := d.f (ORD_SQ.HEAD r)
  let old := d.f (ORD_SQ.TAIL r)
  if (t + 16 - hd) % 16 < (old + 16 - hd) % 16 then
    (d.setF (ORD_STAT.BAD_TAIL r) 1).post { code := 0x0C7, detail := leBytes 1 r ++ leBytes 1 t ++ leBytes 1 hd ++ leBytes 1 old }
  else d.setF (ORD_SQ.TAIL r) t

/-- Orders of a source that run. -/
def Dev.runOf (d : Dev) (r : Nat) : List Order := d.ord.run.filter (fun o => o.src = r)

/-- Completion entries of a ring that are free for orders not yet counted (R461, R466): 15 less those waiting and those that
running orders will write. -/
def Dev.cqFree (d : Dev) (r : Nat) : Bool :=
  decide ((d.f (ORD_CQ.TAIL r) + 16 - d.f (ORD_CQ.HEAD r)) % 16 + (d.runOf r).length < 15)

/-- CQ_HEAD_WRITE (R465, R466): a HEAD beyond TAIL is ignored. -/
def Dev.cqHead (d : Dev) (r v : Nat) : Dev :=
  let n := v % 16
  let t := d.f (ORD_CQ.TAIL r)
  let old := d.f (ORD_CQ.HEAD r)
  if (t + 16 - old) % 16 < (n + 16 - old) % 16 then
    (d.setF (ORD_STAT.BAD_HEAD r) 1).post { code := 0x0C8, detail := leBytes 1 r ++ leBytes 1 n ++ leBytes 1 t ++ leBytes 1 old }
  else
    let d := d.setF (ORD_CQ.HEAD r) n
    if d.cqFree r then d.setF (ORD_STAT.STALL r) 0 else d

/-- Show how many orders of a ring run. -/
def Dev.runReg (d : Dev) (r : Nat) : Dev := if r < 3 then d.setF (ORD_STAT.RUNNING r) (d.runOf r).length else d

/-- FENCE holds an entry back (R463). -/
def Dev.fenced (d : Dev) (r : Nat) (entry : List (BitVec 8)) : Bool :=
  (d.runOf r).any (·.fence) || ((fieldLe entry 2 1).testBit 0 && !(d.runOf r).isEmpty)

/-- The device takes order entries: in Active, on the way to Doze, during an orderly shut-down, and while Becalmed (R478, R669). -/
def Dev.takesOrders (d : Dev) : Bool :=
  match d.phase with
  | .active | .dozeEntry | .shutdown => true
  | .becalmed => true
  | _ => false

/-- Take an entry: dispatch it, and refuse it at once where it must be. -/
def Dev.take (d : Dev) (r idx : Nat) (entry : List (BitVec 8)) : Dev :=
  let (o, d) := d.newOrder r idx entry
  let d := if o.engine < 16 then d.modEng o.engine (fun e => { e with events := e.events ||| 4 }) else d
  (d.letIn o).runReg r

/-- ORDER_DISPATCH (R461 to R463, R478, R483). -/
def Dev.dispatch (d : Dev) (r : Nat) : Dev :=
  if !d.takesOrders then d
  else if r < 3 then
    let hd := d.f (ORD_SQ.HEAD r)
    if hd = d.f (ORD_SQ.TAIL r) then d
    else
      let e := padTo 64 (d.ord.sq.getD (16 * r + hd) [])
      if (d.runOf r).length ≥ 4 || d.fenced r e || d.ord.ringReset.contains r then d
      else if !d.cqFree r then d.setF (ORD_STAT.STALL r) 1
      else ((d.setF (ORD_STAT.STALL r) 0).setF (ORD_SQ.HEAD r) (hd + 1)).take r hd e
  else
    match d.ord.startup with
    | [] => d
    | e :: t =>
      if d.phase == .becalmed || (d.runOf 3).length ≥ 4 || d.fenced 3 e then d
      else
        let i := d.ord.startupIdx
        ({ d with ord := { d.ord with startup := t, startupIdx := i + 1 } } : Dev).take 3 i (padTo 64 e)

/-- Order ring `r` is reset (Table 15.6): its registers and its entries. -/
def Dev.ringClear (d : Dev) (r : Nat) : Dev :=
  let z (l : List (List (BitVec 8))) : List (List (BitVec 8)) := (l.take (16 * r)) ++ List.replicate 16 [] ++ l.drop (16 * r + 16)
  let d : Dev := { d with ord := { d.ord with sq := z d.ord.sq, cq := z d.ord.cq, ringReset := d.ord.ringReset.filter (· != r) } }
  [0x5000 + 16 * r, 0x5004 + 16 * r, 0x5008 + 16 * r].foldl (fun d o => d.setReg o (resetVal o)) d

/-- The completion of an order (Table 12.4). -/
def Order.completion (o : Order) (phase : Nat) : List (BitVec 8) :=
  match o.done with
  | some (code, d0, d1) =>
    leBytes 2 code ++ leBytes 2 o.prog ++ leBytes 4 o.tag ++ leBytes 1 o.idx ++ leBytes 1 (phase + 2 * b2n (decide (65536 ≤ code))) ++
      List.replicate 6 0 ++ leBytes 8 d0 ++ leBytes 8 d1
  | none => List.replicate 32 0

/-- ORDER_COMPLETION (R465, R483, R327). -/
def Dev.completeOrder (d : Dev) (id : Nat) : Dev :=
  match d.order id with
  | none => d
  | some o =>
    match o.done with
    | none => d
    | some (code, d0, d1) =>
      let d : Dev := { d with ord := { d.ord with run := d.ord.run.filter (·.id != id) }, wch := { d.wch with eligFrom := d.time } }
      if o.src < 3 && d.ord.ringReset.contains o.src then
        (if (d.runOf o.src).isEmpty then d.ringClear o.src else d)
      else if o.src < 3 then
        let r := o.src
        let t := d.f (ORD_CQ.TAIL r)
        let ph := d.f (ORD_CQ.PHASE r)
        let d : Dev := { d with ord := { d.ord with cq := listSet d.ord.cq (16 * r + t) (o.completion ph) } }
        let d := (d.setF (ORD_CQ.TAIL r) (t + 1)).setF (ORD_CQ.PHASE r) (if t = 15 then 1 - ph else ph)
        ((d.cnt (ORD_STAT.DONE r)).runReg r).raise r 2
      else if o.src = 3 then
        (if code = 0 then d
         else d.post { code := 0x0C4, detail := leBytes 2 o.idx ++ leBytes 2 code ++ leBytes 2 o.prog ++ leBytes 2 0 ++ leBytes 8 d0 ++ leBytes 8 d1 })
      else
        let h := o.src - 4
        let op := match (d.head h).bg with | some b => b.1 | none => 0
        let d := d.modHead h (fun x => { x with bg := none, bgStatus := (op, if code = 0 then rcSuccess else rcInternal, code % 65536), lastOrder := o.completion 0 })
        d.raise h 0

/-- A Helm-space write by a requester is let in (R334): a port's while its link is in L0, and only with its DEV_ACCESS bit. -/
def Dev.mayWrite (d : Dev) (by_ : Nat) : Bool :=
  (if by_ < 2 then d.inL0 by_ && !(d.head by_).d3hot else true) && (decide (by_ ≥ 3) || (d.f DEV_ACCESS.WRITE).testBit by_)

/-- The Helm space is served to a requester: the chip is powered and clocked, a port's link is in L0, and I3C is served in Active,
in Doze entry and while Becalmed (R342), with its pads not held (R562). (DEDUCED, log entry 98.) -/
def Dev.helmOn (d : Dev) (by_ : Nat) : Bool :=
  if by_ = 2 then
    (match d.phase with
     | .active | .becalmed | .dozeEntry => !d.on WCH_PADHOLD.HELD
     | _ => false)
  else
    match d.phase with
    | .watchOff | .dormant | .optLoad | .clocks | .doze | .railsDown => false
    | .powerUp => d.wch.startKind = 2
    | _ => true

/-- A write of a requester that is let in (R334); one through a port counts as a request (R501). (DEDUCED, log entry 98.) -/
def Dev.letWrite (d : Dev) (by_ : Nat) (eff : Dev → Dev) : Dev :=
  if d.helmOn by_ && d.mayWrite by_ then eff (if by_ < 2 then d.touch else d) else d

/-- SQ_TAIL_WRITE (R459, R460). -/
def execSqTailWrite (by_ r v : Nat) (s : State) : Host.Outcome State Fault Refusal :=
  act (okSqTailWrite by_ r v) s (fun d => d.letWrite by_ (fun d => d.sqTail r v))

/-- CQ_HEAD_WRITE (R466). -/
def execCqHeadWrite (by_ r v : Nat) (s : State) : Host.Outcome State Fault Refusal :=
  act (okCqHeadWrite by_ r v) s (fun d => d.letWrite by_ (fun d => d.cqHead r v))

/-- ORDER_DISPATCH (R461). -/
def execOrderDispatch (r : Nat) (s : State) : Host.Outcome State Fault Refusal :=
  act (okOrderDispatch r) s (fun d => d.dispatch r)

/-- ORDER_COMPLETION (R465). -/
def execOrderCompletion (id : Nat) (s : State) : Host.Outcome State Fault Refusal :=
  act (okOrderCompletion id) s (fun d => d.completeOrder id)

/-- RUN_ORDER (R327): a background command that runs the order entry in its input. -/
def execRunOrder (h : Nat) (inp : List Byte) (s : State) : Host.Outcome State Fault Refusal :=
  act (okRunOrder h inp) s (fun d =>
    if !d.mboxOn h then d
    else match d.mboxGate 0xC020 with
      | some rc => d.reply h 0xC020 rc []
      | none =>
        if inp.length != 64 then d.reply h 0xC020 rcLength []
        else if (d.head h).bg.isSome then d.reply h 0xC020 rcBusy []
        else
          let (x, d) := d.touch.newOrder (4 + h) 0 inp
          ((d.modHead h (fun y => { y with bg := some (0xC020, x.id) })).reply h 0xC020 rcBackground []).letIn x)

/-- GET_ORDER_RESULT (R327): the completion of the last order this mailbox ran, zero-padded to 64 B. -/
def execGetOrderResult (h : Nat) (inp : List Byte) (s : State) : Host.Outcome State Fault Refusal :=
  act (okGetOrderResult h inp) s (fun d =>
    d.mailbox h 0xC021 (fun d => if inp.isEmpty then (rcSuccess, padTo 64 (d.head h).lastOrder, d) else (rcLength, [], d)))

/-- CHECKPOINT (R232): the order requests a checkpoint and ends with its generation (CHECKPOINT_COMPLETE). -/
def execCheckpoint (o : OrdReq) (s : State) : Host.Outcome State Fault Refusal :=
  act (okCheckpoint o) s (fun d =>
    d.asOrder o prgCheckpoint 0xC036 true parseNone answerBg (fun d _ => d.startCkpt))

/-- TRIGGER (R389, R390): result as the TRIGGER line. -/
def execTrigger (o : OrdReq) (s : State) : Host.Outcome State Fault Refusal :=
  act (okTrigger o) s (fun d =>
    d.asOrder o prgTrigger 0xC020 true parseNone answerBg (fun d x =>
      let k := x.arg 0
      if k ≥ 4096 then d.endOrder x.id 2 0 0
      else if !d.on (STR_CTL.EN k) then d.endOrder x.id 2 0 0
      else
        let (r, d) := d.trigger k (x.arg 1) false
        d.endOrder x.id 0 r 0))

/-- STREAM_RESET (R385): RESETS after the reset. -/
def execStreamReset (o : OrdReq) (s : State) : Host.Outcome State Fault Refusal :=
  act (okStreamReset o) s (fun d =>
    d.asOrder o prgStreamReset 0xC020 true parseNone answerBg (fun d x =>
      let k := x.arg 0
      if k ≥ 4096 || !(d.stm k).valid then d.endOrder x.id 2 0 0
      else
        let d := d.queueReset k
        d.endOrder x.id 0 (d.stm k).resets 0))

/-- FIX (R601): the order raises a Fix of source bit 2 (Table 17.1), by mailbox C040h as a command that answers the Fix number. -/
def execFix (o : OrdReq) (s : State) : Host.Outcome State Fault Refusal :=
  act (okFix o) s (fun d =>
    d.asOrder o prgFix 0xC040 false parseNone (fun x => match x.done with | some (0, n, _) => (rcSuccess, leBytes 8 n) | _ => (rcInternal, []))
      (fun d x =>
        let d := d.fix 2
        d.endOrder x.id 0 (d.f FIX_NUM.NUMBER) 0))

end Sys2Proof.Machine
end

