-- ==== Sys2Proof/Machine/Seal.lean ====
section
/-! DEFINITION. Discards, seals and their chain, REKEY, Sanitize (chapters 06, 08, 09, 12). -/

namespace Sys2Proof.Machine

/-! ### Discards (R208, R209, R680) -/

/-- A range meets the sealed extent of a WINDOW seal. -/
def Seal.meets (x : Seal) (start len : Nat) : Bool :=
  x.target == 0 && decide (x.start < start + len) && decide (start < x.start + x.len)

/-- The refusal of a range (R208, R286): completion code and Data 0, none where the range stands. -/
def Dev.rangeBad (d : Dev) (start len : Nat) : Option (Nat × Nat) :=
  if start % 4096 != 0 || start ≥ d.winBytes then some (2, 0)
  else if len % 4096 != 0 || start + len > d.winBytes then some (2, 1)
  else (d.seals.find? (fun x => decide (x.num < 2 ^ 64) && x.meets start len)).map (fun x => (5, x.num))

/-- A seal that is still being made meets the range: the order waits for it. -/
def Dev.rangeWaits (d : Dev) (start len : Nat) : Bool := d.seals.any (fun x => decide (2 ^ 64 ≤ x.num) && x.meets start len)

/-- A line lies in a range. -/
def inRange (start len line : Nat) : Bool := decide (start ≤ 64 * line) && decide (64 * line < start + len)

/-- The images of a range are given up, the last first. -/
def Dev.dropImgs (d : Dev) (start len : Nat) : Dev :=
  (List.range d.imgs.length).reverse.foldl (fun d i =>
    match d.imgs[i]? with
    | some x => if x.open && x.why != 5 && inRange start len (64 * x.pg) then d.dropImg i else d
    | none => d) d

/-- Supersede the Binnacle writes of a range below a CSN, drop its Pilot lines, and take the completions that wait for them
(R209, R680). -/
def Dev.freeBelow (d : Dev) (start len csn : Nat) : List (Nat × Nat × Nat) × Dev :=
  let hit (l : LogLine) : Bool := inRange start len l.line && decide (l.csn < csn)
  let own (h : Home) : List Nat := (h.llog.filter hit).map (·.csn)
  let mine := d.homes.flatMap (fun h => h.llAcks.filter (fun a => (own h).contains a.2.2))
  let ownJ (j : LineLogJob) : List Nat := (j.lines.filter hit).map (·.csn)
  let jobs := d.lljobs.flatMap (fun j => j.acks.filter (fun a => (ownJ j).contains a.2.2))
  let d : Dev := { d with
    binn := d.binn.filterMap (fun (b : BEntry) => if inRange start len b.line then b.keep csn else some b)
    pilot := d.pilot.filter (fun x => !inRange start len x.1)
    homes := d.homes.map (fun (h : Home) => { h with
      llog := h.llog.filter (fun l => !(own h).contains l.csn), llAcks := h.llAcks.filter (fun a => !(own h).contains a.2.2) })
    lljobs := d.lljobs.map (fun (j : LineLogJob) => { j with acks := j.acks.filter (fun a => !(ownJ j).contains a.2.2) }) }
  (mine ++ jobs, (List.range 16).foldl (fun d h => d.credits h) { d with ready := d.ready.filter (fun l => !(d.secPending l).isEmpty) })

/-- One page of a discard: overlay and map entries end, its slots are free (R206, R209). -/
def Dev.discardPage (d : Dev) (pg : Nat) : Dev :=
  if !d.occupies pg then d
  else
    let h := homeOfPage pg
    (((d.dropOverlay pg).unmapPage pg).occupy 0 d.copies).allowGain h d.copies

/-- The discard of R209 of a range below a CSN, with its DISCARD record of a secure-discard step, 0 for a plain discard; the writes it
supersedes complete once the record is at media commit (R680). None while no Point can take the record. (DEDUCED, log entry 49.) -/
def Dev.discardRange (d : Dev) (start len csn step : Nat) : Option Dev :=
  let d := d.dropImgs start len
  let (acks, d) := d.freeBelow start len csn
  let d := ((List.range (len / 4096)).map (start / 4096 + ·)).foldl Dev.discardPage d
  (d.recordNow d.firstLive (.discard start len step csn)).map (fun d => (d.completeAll acks).gpfSettle)

/-- A DISCARD order (R208, R209): it waits while a seal of its range is being made, or while its record has no place. -/
def Dev.discardOrder (d : Dev) (x : Order) : Dev :=
  match d.rangeBad (x.arg 0) (x.arg 1) with
  | some (c, v) => d.endOrder x.id c v 0
  | none =>
    if d.rangeWaits (x.arg 0) (x.arg 1) then d
    else match d.discardRange (x.arg 0) (x.arg 1) x.csn 0 with
      | some e => e.endOrder x.id 0 0 0
      | none => d

/-- DISCARD (R208, R209). -/
def execDiscard (o : OrdReq) (s : State) : Host.Outcome State Fault Refusal :=
  act (okDiscard o) s (fun d => d.asOrder o prgDiscard 0xC030 true (parse8 2) answerBg Dev.discardOrder)

/-! ### Secure discards (R210 to R213) -/

/-- DFILTER bits of a range: one for each GiB region it touches (Table 6.2). -/
def rangeFilter (start len : Nat) : Nat :=
  (List.range 64).foldl (fun m i => if i ≤ (start + len - 1) / 2 ^ 30 - start / 2 ^ 30 && 0 < len then m ||| 2 ^ ((start / 2 ^ 30 + i) % 64) else m) 0

/-- The candidates of a range (R210, step 3; R281, step 2). -/
def Dev.candidates (d : Dev) (filter : Nat) (streams : Bool) : List Nat :=
  (d.segs.filter (fun x => !(([1, 2, 8, 9] : List Nat).contains x.2.state) &&
    (decide (x.2.dfilter &&& filter ≠ 0) || (streams && x.2.kind == 2 && x.2.state != 0)))).map (·.1)

/-- Close every open group that holds a candidate (R210, step 4). -/
def Dev.closeCands (d : Dev) (cands : List Nat) : Dev :=
  let gs := (d.groups.filter (fun g => g.st = 0 && g.members.any (fun m => cands.contains (8192 * m.1 + m.2))))
  gs.foldl (fun d g => (d.closeGroup g.num).openGroupOf g.kind) d

/-- Every candidate's group has released its parity (R210, step 5). -/
def Dev.candsReleased (d : Dev) (cands : List Nat) : Bool :=
  cands.all (fun sg => match d.groupOf sg with | some g => g.st == 2 | none => true)

/-- Change the running secure discard. -/
def Dev.modSdisc (d : Dev) (f : SDisc → SDisc) : Dev :=
  match d.sdisc with
  | x :: t => { d with sdisc := f x :: t }
  | [] => d

/-- Begin the secure discard at the front, which waits: its step 1 (R210, R211). -/
def Dev.sdiscBegin (d : Dev) : Dev :=
  match d.sdisc with
  | x :: t =>
    if x.step = 0 then
      let d := ({ d with sdisc := { x with step := 1 } :: t } : Dev).record d.firstLive (.discard x.start x.len 1 x.csn)
      ((d.setF WLV_SDISC.BUSY 1).setF WLV_SDISC.RESUMED 0).setF WLV_SDISC.REMAIN 0
    else d
  | [] => d

/-- The poison and the losses of a range end (R41): one POISON record for each page (R219). -/
def Dev.poisonFree (d : Dev) (start len : Nat) : Dev :=
  (d.poison.filter (fun p => decide (start ≤ 4096 * p.1) && decide (4096 * p.1 < start + len))).foldl (fun d p =>
    let d := { d.setPoisonMask p.1 0 with poisonSrc := d.poisonSrc.filter (fun x => x.1 / 64 != p.1) }
    d.record (d.serving (homeOfPage p.1)) (.poison p.1 0 [])) d

/-- Steps 2 to 7 of the running secure discard (R210); step 5 passes only when the parity is released and step 7 only when
every candidate is cleared. (DESIGN CHOICE, log entry 160.) -/
def Dev.sdiscStep (d : Dev) (x : SDisc) (step : Nat) : Dev :=
  match step with
  | 2 =>
    match d.discardRange x.start x.len x.csn 2 with
    | some d => d.modSdisc (fun y => { y with step := 2 })
    | none => d
  | 3 =>
    let c := d.candidates (rangeFilter x.start x.len) false
    let d := (d.modSdisc (fun y => { y with step := 3, cands := c })).setF WLV_SDISC.REMAIN c.length
    d.record d.firstLive (.discard x.start x.len 3 x.csn)
  | 4 => (d.modSdisc (fun y => { y with step := 4 })).closeCands x.cands
  | 5 => if d.candsReleased x.cands then d.modSdisc (fun y => { y with step := 5 }) else d
  | 6 => (d.modSdisc (fun y => { y with step := 6 })).collectCands x.cands
  | _ =>
    if !x.cands.isEmpty then d
    else
      let d := (d.poisonFree x.start x.len).record d.firstLive (.discard x.start x.len 7 x.csn)
      let d : Dev := { d with sdisc := d.sdisc.drop 1 }
      let d := (((d.setF WLV_SDISC.BUSY 0).setF WLV_SDISC.RESUMED 0).setF WLV_SDISC.REMAIN 0).endOrder x.order 0 0 0
      (d.post { code := 0x068, addr := x.start, detail := leBytes 8 x.len ++ leBytes 8 x.csn }).sdiscBegin.releaseHold

/-- A step of the running secure discard, if it is the next. -/
def Dev.sdiscNext (d : Dev) (id step : Nat) : Dev :=
  match d.sdisc with
  | x :: _ => if x.order = id && step = x.step + 1 && 1 ≤ x.step && d.phase == .active then d.sdiscStep x step else d
  | [] => d

/-- A SECURE_DISCARD order takes its range and, as the first of those that run, starts (R210, R212). -/
def Dev.sdiscOrder (d : Dev) (x : Order) : Dev :=
  match d.rangeBad (x.arg 0) (x.arg 1) with
  | some (c, v) => d.endOrder x.id c v 0
  | none =>
    if d.rangeWaits (x.arg 0) (x.arg 1) || d.sdisc.any (·.order = x.id) then d
    else ({ d with sdisc := d.sdisc ++ [⟨x.id, x.arg 0, x.arg 1, x.csn, 0, []⟩] } : Dev).sdiscBegin

/-- SECURE_DISCARD (R210, R211): step 1 takes the order, which waits while another runs; steps 2 to 7 follow in turn. -/
def execSecureDiscard (o : OrdReq) (step : Nat) (s : State) : Host.Outcome State Fault Refusal :=
  act (okSecureDiscard o step) s (fun d =>
    match o with
    | .mbox _ _ => d.asOrder o prgSdisc 0xC031 true (parse8 2) answerBg Dev.sdiscOrder
    | .run id => if step = 1 then d.asOrder o prgSdisc 0xC031 true (parse8 2) answerBg Dev.sdiscOrder else d.sdiscNext id step)

/-- SECURE_DISCARD_RESUME (R213): in Active, the range is held again and the discard goes on at step 2, without its order. -/
def execSecureDiscardResume (s : State) : Host.Outcome State Fault Refusal :=
  act okSecureDiscardResume s (fun d =>
    match d.sdisc with
    | x :: _ =>
      if d.phase == .active && x.order = 0 && 0 < x.step && !d.on WLV_SDISC.BUSY then
        ((d.modSdisc (fun y => { y with step := 1, cands := [] })).setF WLV_SDISC.BUSY 1).setF WLV_SDISC.RESUMED 1
      else d
    | [] => d)

/-! ### Sealing a WINDOW range (R285 to R287) -/

/-- MODEL'S OWN: the place in a page list of a page that was never written. -/
def sealZero : Nat := 2 ^ 33

/-- What the Binnacle holds of the lines of a page below a CSN (R286, R462). (DEDUCED, log entry 50.) -/
def Dev.below (d : Dev) (pg csn : Nat) : List (Nat × BPast) :=
  d.binn.filterMap (fun b => if b.line / 64 = pg then (b.before csn).map (fun x => (b.line, x)) else none)

/-- A sector of an image takes the bytes of the Binnacle lines given. -/
def ImgSec.merge (s : ImgSec) (bs : List (Nat × BPast)) : ImgSec :=
  (List.range 4).foldl (fun s q =>
    match bs.find? (fun b => b.1 = 4 * s.l + q) with
    | some b =>
      let v := mergeLine (secLine s.data q) b.2.data b.2.mask
      s.put q (v, checkMove (s.checks.getD q 0) (secLine s.data q) v)
    | none => s) s

/-- Fold a page for a seal: its content below the order's CSN, placed as an image of the seal (R175, R286). -/
def Dev.sealFold (d : Dev) (pg csn no : Nat) (ev : RdEnv) : Dev :=
  let newer := (d.binn.filter (fun b => b.line / 64 = pg && !decide (b.csn < csn))).map (·.line)
  let bs := d.below pg csn
  let (secs, d1, _) := ({ d with pilot := d.pilot.filter (fun x => !newer.contains x.1) } : Dev).readPage pg ev
  let d1 : Dev := { d1 with pilot := d.pilot }
  let own (l : Nat) : List (Nat × Nat) := (d.binn.filter (fun b => b.line / 4 = l && b.csn < csn)).map (fun b => (b.line, b.csn))
  let ss := secs.map (fun s => { s.merge bs with used := own s.l })
  if d1.blocked.isSome then { d with blocked := d1.blocked }
  else match d1.placeImg { d1.newImg pg 1 2 true ss with high := d.pageHigh pg, sealNo := no } with
    | none => d
    | some (x, d2) => (({ d2 with imgs := d2.imgs ++ [x] } : Dev).pinOvl (fun l => l / 16 == pg)).entriesTo (ss.flatMap (·.used)) .pending .taken

/-- Work on one page of a seal that is being made: its sealed version is the page's image, or it is folded first. -/
def Dev.sealPage (d : Dev) (no csn pg : Nat) (ev : RdEnv) : Dev :=
  match d.seals.find? (·.num = no) with
  | none => d
  | some x =>
    if !x.psas.contains (sealHole pg) || d.imgs.any (fun i => i.pg == pg && i.open) then d
    else if !(d.below pg csn).isEmpty || !(d.ovlPage pg).isEmpty then d.sealFold pg csn no ev
    else d.moveSealed no (sealHole pg) (match d.pageAt pg 0 with | some p => 16 * p | none => sealZero)

/-- A sector of a sealed version in the clear: none where it cannot be read (R287). -/
def Dev.sealedSec (d : Dev) (psa l : Nat) (ev : RdEnv) : Option SecData × Dev × RdEnv :=
  let (t, d, ev) := d.decode psa true ev
  let (r, d, ev) := match t with
    | .got s => (some s, d, ev)
    | t => d.rebuild psa none t ev
  match r with
  | none => (none, d, ev)
  | some s =>
    let ls := (List.range 4).map (fun q => (d.lineOf psa s l q false).map (·.1))
    if ls.all (·.isSome) then (some (secOfLines (ls.map (·.getD 0))), d, ev) else (none, d.secAlarm (secEv 0x081 1 psa), ev)

/-- The bytes of a sealed WINDOW range, or the device address of the first sector that cannot be read. -/
def Dev.sealedBytes (d : Dev) (x : Seal) (ev : RdEnv) : Except Nat (List (BitVec 8)) × Dev :=
  let r := x.psas.zipIdx.foldl (fun (acc : Except Nat (List (BitVec 8)) × Dev × RdEnv) p =>
    let pg := x.start / 4096 + p.2
    if p.1 = sealZero then (acc.1.map (· ++ List.replicate 4096 0), acc.2)
    else (List.range 16).foldl (fun (acc : Except Nat (List (BitVec 8)) × Dev × RdEnv) j =>
      match acc.1 with
      | .error _ => acc
      | .ok bs =>
        let (v, d, ev) := acc.2.1.sealedSec (p.1 + j) (16 * pg + j) acc.2.2
        match v with
        | some y => (.ok (bs ++ secBytes y), d, ev)
        | none => (.error (4096 * pg + 256 * j), d, ev)) acc) (.ok [], d, ev)
  (r.1, r.2.1)

/-- The bytes of sealed stream frames from PSTART to PEND. -/
def Dev.sealedFrames (d : Dev) (x : Seal) (ev : RdEnv) : Except Nat (List (BitVec 8)) × Dev :=
  let st := d.stm x.stream
  let r := (List.range ((x.len + 63) / 64)).foldl (fun (acc : Except Nat (List (BitVec 8)) × Dev) i =>
    match acc.1 with
    | .error _ => acc
    | .ok bs =>
      let pos := x.start + 64 * i
      let (v, d) := acc.2.strLine x.stream pos ev
      match v with
      | some y => (.ok (bs ++ lineBytes y), d)
      | none => (.error (64 * st.line pos), d)) (.ok [], d)
  (r.1.map (·.take x.len), r.2)

/-- The content of a standing seal. -/
def Dev.sealBytes (d : Dev) (x : Seal) (ev : RdEnv) : Except Nat (List (BitVec 8)) × Dev :=
  if x.target = 0 then d.sealedBytes x ev else d.sealedFrames x ev

/-- The page list of a seal in sectors of 32 pages (R286, step 3). (DEDUCED, log entry 51.) -/
def Dev.putPages (d : Dev) (num : Nat) (l : List Nat) : Dev :=
  (List.range ((l.length + 31) / 32)).foldl (fun d i => d.putBody d.firstLive (.pages num ((l.drop (32 * i)).take 32))) d

/-- A line of a range is poisoned. -/
def Dev.poisonIn (d : Dev) (start len : Nat) : Option Nat :=
  (((List.range (len / 4096)).map (start / 4096 + ·)).find? (fun pg => d.poisonMask pg != 0)).map (fun pg =>
    64 * (64 * pg + ((List.range 64).find? (d.poisonMask pg).testBit).getD 0))

/-- The end of a seal whose pages are all sealed (R286, steps 3 and 4). -/
def Dev.sealFinish (d : Dev) (x : Order) (sl : Seal) (ev : RdEnv) : Dev :=
  let drop (d : Dev) : Dev := d.endSeal sl
  match d.poisonIn sl.start sl.len with
  | some a => (drop d).endOrder x.id 7 a 0
  | none =>
    let (r, d) := d.sealBytes sl ev
    match r with
    | .error a => (drop d).endOrder x.id 7 a 0
    | .ok bs =>
      if !d.chainReady then d
      else
        let num := d.sealHead + 1
        let dg := extentDigest bs
        let d := d.hashedBytes bs.length
        let d := (d.putPages num sl.psas).chainAppend 1 0 x.csn 0 sl.start sl.len dg
        let d : Dev := { d with seals := d.seals.map (fun (y : Seal) => if y.num = sl.num then { y with num := num, digest := ofLe dg } else y) }
        d.endOrder x.id 0 num 0

/-- SEAL_RANGE (R286): the seal stands at its first run, its pages are folded, and the order ends once every sealed version is
on media and the record is written. (DEDUCED, log entry 64.) -/
def Dev.sealRange (d : Dev) (x : Order) (ev : RdEnv) : Dev :=
  let start := x.arg 0
  let len := x.arg 1
  let no := 2 ^ 64 + x.id
  match d.seals.find? (·.num = no) with
  | none =>
    if !d.mSeal then d.refuse4 x.id
    else match d.rangeBad start len with
      | some (c, v) => d.endOrder x.id c v 0
      | none =>
        if len > 2 ^ 30 then d.endOrder x.id 2 1 0
        else if d.sealCount ≥ 4096 then d.endOrder x.id 6 0 0
        else if d.rangeWaits start len then d
        else
          let pgs := (List.range (len / 4096)).map (start / 4096 + ·)
          let d : Dev := { d with seals := d.seals ++ [(⟨no, 0, 0, start, len, x.csn, 0, pgs.map sealHole⟩ : Seal)] }
          let d := pgs.foldl (fun d pg => d.sealPage no x.csn pg ev) d
          match d.seals.find? (·.num = no) with
          | some sl => if sl.psas.any (fun p => decide (2 ^ 32 ≤ p) && p != sealZero) then d else d.sealFinish x sl ev
          | none => d
  | some _ =>
    let d := ((List.range (len / 4096)).map (start / 4096 + ·)).foldl (fun d pg => d.sealPage no x.csn pg ev) d
    match d.seals.find? (·.num = no) with
    | some y => if y.psas.any (fun p => decide (2 ^ 32 ≤ p) && p != sealZero) then d else d.sealFinish x y ev
    | none => d

/-- SEAL_RANGE (R286). -/
def execSealRange (o : OrdReq) (ev : RdEnv) (s : State) : Host.Outcome State Fault Refusal :=
  act (okSealRange o ev) s (fun d =>
    d.reading (fun d => d.asOrder o prgSeal 0xC032 true (parse8 2) answerBg (fun d x => d.sealRange x ev)))

/-- The standing seal that argument 0 of an order names. -/
def Dev.sealOf (d : Dev) (x : Order) : Option Seal := d.seals.find? (fun y => y.num = x.arg 0 && decide (y.num < 2 ^ 64))

/-- An UNSEAL order: the seal ends, an UNSEAL record with its link is appended, and the removal is logged (R288, R47). -/
def Dev.unsealOrder (d : Dev) (x : Order) : Dev :=
  match d.sealOf x with
  | none => d.endOrder x.id 2 0 0
  | some sl =>
    if !d.chainReady then d
    else
      let link := match assocGet sl.num d.chain with | some b => sha256 b | none => []
      let d := (d.endSeal sl).chainAppend 2 sl.target x.csn sl.stream sl.start sl.len link
      d.sealGoneEvent.endOrder x.id 0 0 0

/-- UNSEAL (R288, R47). -/
def execUnseal (o : OrdReq) (s : State) : Host.Outcome State Fault Refusal :=
  act (okUnseal o) s (fun d => d.asOrder o prgUnseal 0xC033 true (parse8 1) answerBg Dev.unsealOrder)

/-- SEAL_VERIFY (R470): the digest of the sealed versions against the record's. -/
def execSealVerify (o : OrdReq) (ev : RdEnv) (s : State) : Host.Outcome State Fault Refusal :=
  act (okSealVerify o ev) s (fun d => d.reading (fun d =>
    d.asOrder o prgVerify 0xC020 true (parse8 1) answerBg (fun d x =>
      match d.sealOf x with
      | none => d.endOrder x.id 2 0 0
      | some sl =>
        let (r, d) := d.sealBytes sl ev
        match r with
        | .error a => d.endOrder x.id 7 a 0
        | .ok bs =>
          let dg := ofLe (extentDigest bs)
          let d := d.hashedBytes bs.length
          d.endOrder x.id 0 (b2n (dg != sl.digest)) (dg % 2 ^ 64))))

/-- An older write's bytes enter an entry under those it holds. -/
def BEntry.under (b : BEntry) (data : Line) (mask : Mask) : BEntry :=
  let v := mergeLine (mergeLine 0 data mask) b.data b.mask
  { b with data := v, mask := b.mask ||| mask, check := checkMove b.check b.data v }

/-- A line of an order's one write (R470): it enters the Binnacle at the order's CSN, under a newer write of the line. -/
def Dev.orderWrite (d : Dev) (csn line : Nat) (data : Line) (mask : Mask) (ev : RdEnv) : Dev :=
  let h := homeOf (64 * line)
  let chk := entryCheck line data mask
  let (full, d) := (d.clearRsv line).needsSpace (line / 64)
  if full then
    let d := (d.cnt WLV_STAT.LOST_WR).markPoison line 2
    let d := if d.binn.any (fun b => b.line = line && decide (csn < b.csn)) then d else d.supersede line
    d.post { code := 0x066, addr := 64 * line, sev := 2, detail := leBytes 8 mask.toNat ++ leBytes 8 csn }
  else match d.binnAt line with
    | some b =>
      if csn < b.csn then
        { d with binn := d.binn.map (fun (y : BEntry) => if y.line = line then y.under data mask else y) }
      else (d.binnWrite line csn data mask chk).pilotWrite line data mask ev
    | none =>
      let d := (d.binnWrite line csn data mask chk).pilotWrite line data mask ev
      if d.mHoldup then d
      else match d.wholeLine line ev with
        | some (x, d) => d.gather h ⟨csn, line, fullMask, x.1, d.time, x.2, true⟩ []
        | none => d

/-- SEAL_EXPORT (R470). -/
def execSealExport (o : OrdReq) (ev : RdEnv) (s : State) : Host.Outcome State Fault Refusal :=
  act (okSealExport o ev) s (fun d => d.reading (fun d =>
    d.asOrder o prgExport 0xC020 true (parse8 2) answerBg (fun d x =>
      let dst := x.arg 1
      match d.sealOf x with
      | none => d.endOrder x.id 2 0 0
      | some sl =>
        if dst % 4096 != 0 || dst + sl.len > d.winBytes then d.endOrder x.id 2 1 0
        else match d.seals.find? (fun y => y.meets dst sl.len) with
          | some y => if y.num < 2 ^ 64 then d.endOrder x.id 5 y.num 0 else d
          | none =>
            let (r, d) := d.sealBytes sl ev
            match r with
            | .error a => d.endOrder x.id 7 a 0
            | .ok bs =>
              let d := (List.range ((sl.len + 63) / 64)).foldl (fun d i =>
                let b := (bs.drop (64 * i)).take 64
                d.orderWrite x.csn (dst / 64 + i) (lineOfBytes (padTo 64 b)) (BitVec.ofNat 64 (2 ^ b.length - 1)) ev) d
              d.endOrder x.id 0 sl.len 0)))

/-! ### REKEY (R281, R282) and the key sweep -/

/-- Input of the REKEY mailbox command: a slot of 1 B. -/
def parseSlot (inp : List (BitVec 8)) : Nat × List Nat :=
  if inp.length != 1 then (rcLength, [])
  else if fieldLe inp 0 1 ≥ 8 then (rcInvalidInput, [])
  else (rcSuccess, [fieldLe inp 0 1])

/-- Draw a fresh key into a slot and generation (R280, R281). -/
def Dev.drawKey (d : Dev) (slot gen : Nat) : Dev :=
  { d with keys := assocSet (2 * slot + gen) (Config.freshKey (16 + d.freeCtr)) d.keys, freeCtr := d.freeCtr + 1, badKeys := d.badKeys.filter (· != 2 * slot + gen) }

/-- The random source fails its test: event 0x089, and the operation is refused with a code that the manual does not give.
(DESIGN CHOICE, log entry 56.) -/
def Dev.rngFail (d : Dev) (id : Nat) : Dev :=
  let (v, d) := d.draw
  (d.post0 0x089).endOrder id (1 + v.toNat % 65535) 0 0

/-- Step 1 of a REKEY (R281). -/
def Dev.rekeyStart (d : Dev) (x : Order) (rngOk : Bool) : Dev :=
  let sl := x.arg 0
  if sl ≥ 8 || !d.on (SCR_RANGE.EN sl) then d.endOrder x.id 2 0 0
  else if d.rekey.any (fun r => r.order = x.id) then d
  else if d.rekey.isSome then d.endOrder x.id 6 0 0
  else if !rngOk then d.rngFail x.id
  else
    let g := 1 - b2n (d.keyCur.testBit sl)
    let cur := setBits d.keyCur sl 1 g
    let d := d.drawKey sl g
    let d : Dev := { d with keyCur := cur, rekey := some ⟨x.id, sl, 1, []⟩ }
    ((d.keyRegs.setF SCR_KEYSTAT.REKEY_BUSY 1).setF SCR_KEYSTAT.REKEY_SLOT sl).setF SCR_KEYSTAT.REKEY_RESUMED 0

/-- DFILTER bits of the range of a slot, and whether it covers a part of the aperture range. -/
def Dev.slotFilter (d : Dev) (sl : Nat) : Nat × Bool :=
  let a := d.f (SCR_RANGE.BASE sl) * 2 ^ 20
  let b := d.f (SCR_RANGE.LIMIT sl) * 2 ^ 20
  (rangeFilter a (b - a), decide (0x6000000000 < b) && decide (a < 0x6100000000))

/-- Steps 2 to 5 of the REKEY (R281): step 4 waits for the parity releases, step 5 for the collections. -/
def Dev.rekeyStep (d : Dev) (r : Rekey) (step : Nat) (rngOk : Bool) : Dev :=
  match step with
  | 2 =>
    let (f, st) := d.slotFilter r.slot
    { d with rekey := some { r with step := 2, cands := (d.candidates f st).filter (fun sg => (d.seg sg).state != 0) } }
  | 3 => ({ d with rekey := some { r with step := 3 } } : Dev).closeCands r.cands
  | 4 => if d.candsReleased r.cands then ({ d with rekey := some { r with step := 4 } } : Dev).collectCands r.cands else d
  | _ =>
    if !r.cands.isEmpty then d
    else if !rngOk then { d.rngFail r.order with rekey := some r }
    else
      let d := d.drawKey r.slot (1 - b2n (d.keyCur.testBit r.slot))
      let d := (({ d with rekey := none } : Dev).setF SCR_KEYSTAT.REKEY_BUSY 0).setF SCR_KEYSTAT.REKEY_RESUMED 0
      (d.endOrder r.order 0 0 0).post0 0x086

/-- REKEY (R281): step 1 takes the order; steps 2 to 5 follow in turn. -/
def execRekey (o : OrdReq) (step : Nat) (rngOk : Bool) (s : State) : Host.Outcome State Fault Refusal :=
  act (okRekey o step rngOk) s (fun d =>
    let start (d : Dev) (x : Order) : Dev := d.rekeyStart x rngOk
    match o with
    | .mbox _ _ => d.asOrder o prgRekey 0xC035 true parseSlot answerBg start
    | .run id =>
      if step = 1 then d.asOrder o prgRekey 0xC035 true parseSlot answerBg start
      else match d.rekey with
        | some r => if r.order = id && step = r.step + 1 && d.phase == .active then d.rekeyStep r step rngOk else d
        | none => d)

/-- REKEY_RESUME (R282): in Active, a REKEY that a cut or reset interrupted goes on at step 2. -/
def execRekeyResume (s : State) : Host.Outcome State Fault Refusal :=
  act okRekeyResume s (fun d =>
    match d.rekey with
    | some r =>
      if d.phase == .active && r.order = 0 && !d.on SCR_KEYSTAT.REKEY_BUSY then
        ((({ d with rekey := some { r with step := 1, cands := [] } } : Dev).setF SCR_KEYSTAT.REKEY_BUSY 1).setF SCR_KEYSTAT.REKEY_RESUMED 1).setF SCR_KEYSTAT.REKEY_SLOT r.slot
      else d
    | none => d)

/-- A key slot fails its check (R279): Hove-to with every line affected, and event 0x082. -/
def Dev.keyFail (d : Dev) : Dev := d.hovePost { code := 0x082, level := 0 } 0xFFFF

/-- KEY_SWEEP (R279): the sweep finds a key that differs from its complement, or the loading of the keys one that fails its CRC. Which, is a
free value. (DESIGN CHOICE, log entry 153.) -/
def execKeySweep (bad : Bool) (s : State) : Host.Outcome State Fault Refusal :=
  act (okKeySweep bad) s (fun d =>
    if !d.powered then d
    else if bad then
      let r := d.draw
      ({ r.2 with badKeys := setAdd (r.1.toNat % 16) r.2.badKeys } : Dev).keyRegs.keyFail
    else if d.badKeys.isEmpty then d
    else d.keyFail)

/-- A segment's leaf is found uncorrectable in the shadow (R191, R195): the header copies that pass give the count; where none does, the leaf
takes the greatest value among its siblings and its WEAR_UNCERTAIN is set. (DEDUCED, log entry 26.) -/
def Dev.leafLost (d : Dev) (sg fails : Nat) : Dev :=
  let d := match d.readHeader sg fails with
    | some h => d.modSeg sg (fun x => { x with count := h.count })
    | none =>
      let sib := (List.range 64).filter (fun k => k != sg % 64)
      let top := (sib.map (fun k => (d.seg (sg / 64 * 64 + k)).leaf)).foldl Nat.max 0
      d.modSeg sg (fun x => { x with count := top, uncertain := x.state != 8, hdr := { x.hdr with count := 0 } })
  d.wearSeg sg

/-- The outcome of an uncorrectable table word (Table 8.5). (DEDUCED, log entry 26; DESIGN CHOICE, log entry 194; DEDUCED, log entry 197.) -/
def Dev.tableUe (d : Dev) (u : TableUe) : Dev :=
  let bad (homes : Nat) : Dev := d.hovePost { code := 0x084 } homes
  let wear (n : Nat) (d : Dev) : Dev := d.post { code := 0x061, point := n }
  match u with
  | .overlay h | .mapDir h | .poison h => bad (2 ^ h)
  | .mapWay h slot =>
    match d.mapWay h slot with
    | none => d
    | some w =>
      if w.dirty then bad (2 ^ h)
      else (({ d with mapc := d.mapc.filter (fun y => !(y.home == h && y.slot == slot)) } : Dev).mapReg h).post0 0x084
  | .wearNode n j => wear n (d.rebuildNode (128 * n + j))
  | .wearRoot n => wear n (d.rebuildRoot n)
  | .wearLeaf sg fails => wear (sg / 8192) (d.leafLost sg fails)
  | .segCopy sg both => if both then bad (d.homesOfQuad (sg / 8192 / 4)) else d.post0 0x084

/-- SCRUB_PASS (R271 to R273): the words corrected are counted, and each uncorrectable one has its outcome. (DEDUCED, log entry 158.) -/
def execScrubPass (ce : Nat) (ues : List TableUe) (s : State) : Host.Outcome State Fault Refusal :=
  act (okScrubPass ce ues) s (fun d => if d.powered then ues.foldl Dev.tableUe (d.cnt SCR_ECC.TABLE_CE ce) else d)

/-! ### Sanitize and Secure Erase (R322 to R324) -/

/-- Step 2 of R323: Binnacle, Pilot caches, stream queues, poison list and label storage area are emptied. (DEDUCED, log entry 57.) -/
def Dev.sanitizeQueues (d : Dev) : Dev :=
  let acks := d.homes.flatMap (·.llAcks) ++ d.lljobs.flatMap (·.acks) ++ d.recAcks.map (·.2) ++
    d.str.ctx.flatMap (fun x => x.2.tail.flatMap (fun t => t.2.acks))
  let d := d.completeAll acks
  let d : Dev := { d with
    binn := [], recAcks := [], ready := [], imgs := [], lljobs := [], pilot := [], poison := [], poisonSrc := []
    homes := d.homes.map (fun (h : Home) => { h with llog := [], llAcks := [], above := [], accepted := [], wmDue := false, withheld := false, setFull := [], deferred := [] })
    str := { d.str with ctx := d.str.ctx.map (fun (x : Nat × Stream) => (x.1,
      (({ lbase := x.2.lbase, depth := x.2.depth, valid := x.2.valid, resets := x.2.resets, violations := x.2.violations, windows := x.2.windows } : Stream).fixAnchor).sync)) }
    lbk := d.lbk.filter (fun c => !(decide (1024 * 256 ≤ c.1) && decide (c.1 < 1536 * 256))) }
  ((List.range 16).foldl (fun d h => d.setF (MAP_CACHE.POISON h) 0) d).gpfSettle

/-- Step 3 of R323: every segment of the live Points is cleared, except those RETIRED or LOST and those at the limit, which are retired (R94).
Each new count stands in the shadow before its clear, and `fails` gives the slices that fail theirs (R89). (DEDUCED, log entry 57.) -/
def Dev.sanitizeMedia (d : Dev) (fails : List (Nat × Nat)) : Dev :=
  let d : Dev := { d with
    sectors := d.sectors.filter (fun x => !d.live (psaPoint x.1)), groups := [], waitRecs := [], overlay := [], mapc := [], dir := [], chain := [], occupied := 0
    points := d.points.map (fun (p : Point) => { p with queues := [{}, {}, {}, {}], tasks := [], plog := [], flushSeg := none, flushNext := 0, metaNext := 0 }) }
  let d := (d.livePts.flatMap segsOf).foldl (fun d sg =>
    let y := d.seg sg
    if y.state = 8 || y.state = 9 then d
    else if d.spent sg then d.setSeg sg { y with state := 8, uncertain := false }
    else
      let d := (d.setSeg sg { y with state := 1, count := y.leaf + 1 }).sliceFails sg ((assocGet sg fails).getD 0)
      let z := d.seg sg
      let bad := decide ((List.range 32).countP (fun c => z.retired.testBit c) ≥ 5)
      d.setSeg sg { z with
        state := if bad then 8 else 2, stAt := d.time, clrClk := d.eclk (sg / 8192) / 65536, birth := 0xFFFFFFFFFFFF, refreshDue := false
        lowMargin := false, live := 0, dfilter := 0, kind := 0, group := 0, uncertain := z.uncertain && !bad
        hdr := ⟨z.count, d.cycle, d.csn, d.time, d.opSec⟩ }) d
  let d := (List.range 16).foldl (fun d h => (((d.ovlReg h).mapReg h).poolRegs h).wearPoint h) d
  d.recomputeSpare.openGroupOf 3

/-- Step 4 of R323: a SANITIZE record ends every seal (R288); each removal is logged (R47). -/
def Dev.sanitizeSeals (d : Dev) : Dev :=
  let gone := d.seals
  let csn := d.nextCsn
  let d := d.takeCsn.chainAppend 3 0 csn 0 0 0 []
  let d : Dev := { d with seals := [], str := { d.str with ctx := d.str.ctx.map (fun (x : Nat × Stream) => (x.1, { x.2 with windows := [] })) } }
  gone.foldl (fun d x => if x.num < 2 ^ 64 then d.sealGoneEvent else d) (d.setF STR_GSTAT.WINDOWS 0)

/-- Step 5 of R323: generation 0 is written, as a checkpoint of an empty device (R238). -/
def Dev.sanitizeEnd (d : Dev) : Dev :=
  let d := d.freshFlush
  let csn := d.nextCsn
  let grp := match d.openGroup 3 with | some g => g.num | none => 0
  let d := d.record d.firstLive (.cut 0 grp)
  let c := d.snapOf 0 csn grp
  let loc (k : Nat) : Locator := ⟨0, k, c.cycle, c.csn, c.time, c.opSec, Config.ckptDigest 0⟩
  let d : Dev := { d with ckpts := [c], locs := [(0, loc 0), (1, loc 1)], saving := none, cutAt := d.time, sanitize := none, sdisc := [], rekey := none }
  (((d.setF MAP_CKPT.GEN 0).setF MAP_CKPT.ACTIVE 0).setF MAP_LOGS.SINCE_CUT 0).setF MAP_LOGS.SINCE_DONE 0

/-- A background command of a head that is no order ends: its status and the completion interrupt (R318, R327). -/
def Dev.bgEnd (d : Dev) (h op rc : Nat) : Dev :=
  match (d.head h).bg with
  | some _ => (d.modHead h (fun x => { x with bg := none, bgStatus := (op, rc, 0) })).raise h 0
  | none => d

/-- The steps of R323 and R324: step 0 is the command, step k runs where step k − 1 is done. -/
def Dev.sanitizeStep (d : Dev) (h step : Nat) (secure rngOk : Bool) (fails : List (Nat × Nat)) : Dev :=
  let op := if secure then 0x4401 else 0x4400
  if step = 0 then
    if !d.mboxOn h then d
    else match d.mboxGate op with
      | some rc => d.reply h op rc []
      | none =>
        if (d.head h).bg.isSome then d.reply h op rcBusy []
        else if secure && d.seals.any (fun x => decide (x.num < 2 ^ 64)) then d.reply h op rcSecurity []
        else ({ d.touch with sanitize := some (h, 0, secure) }.modHead h (fun y => { y with bg := some (op, 0) })).reply h op rcBackground []
  else if d.sanitize != some (h, step - 1, secure) || d.phase != .active || (d.noClear && 3 ≤ step) then d
  else
    let next (d : Dev) : Dev := { d with sanitize := some (h, step, secure) }
    match step with
    | 1 =>
      if !rngOk then (({ d.post0 0x089 with sanitize := none } : Dev).bgEnd h op rcInternal).releaseHold
      else next ((List.range 16).foldl (fun d i => d.drawKey (i / 2) (i % 2)) d)
    | 2 => next d.sanitizeQueues
    | 3 => next (d.sanitizeMedia fails)
    | 4 => if d.chainReady then next d.sanitizeSeals else d.openGroupOf 3
    | _ => (d.sanitizeEnd.bgEnd h op rcSuccess).releaseHold

/-- SANITIZE (R323). -/
def execSanitize (h step : Nat) (rngOk : Bool) (fails : List (Nat × Nat)) (s : State) : Host.Outcome State Fault Refusal :=
  act (okSanitize h step rngOk fails) s (fun d => d.sanitizeStep h step false rngOk fails)

/-- SECURE_ERASE (R323, R324). -/
def execSecureErase (h step : Nat) (rngOk : Bool) (fails : List (Nat × Nat)) (s : State) : Host.Outcome State Fault Refusal :=
  act (okSecureErase h step rngOk fails) s (fun d => d.sanitizeStep h step true rngOk fails)

/-- SANITIZE_RESTART (R324): in Active, an operation that a cut or reset interrupted before step 5 starts again at step 1. -/
def execSanitizeRestart (s : State) : Host.Outcome State Fault Refusal :=
  act okSanitizeRestart s (fun d =>
    match d.sanitize with
    | some (h, st, sec) => if d.phase == .active && st = 6 then { d with sanitize := some (h, 0, sec) } else d
    | none => d)

end Sys2Proof.Machine
end

