-- ==== Sys2Proof/Machine/Ports.lean ====
section
/-! DEFINITION. The host ports: resets, link training, power states, decoders, MSI-X (chapter 09). -/

namespace Sys2Proof.Machine

/-- The DSMAS entries of the CDAT that the DOE mailbox of either head gives (R297): base and length in device addresses, and whether the range
is marked non-volatile, as the WINDOW range is, or specific-purpose, as the rest of the device range (Table 9.2). No row of the table reads the
CDAT. (DEDUCED, log entry 172.) -/
def Dev.dsmas (d : Dev) : List (Nat × Nat × Bool) := [(0, d.winBytes, true), (d.winBytes, 0x6110000000 - d.winBytes, false)]

/-- The latencies of the CDAT in ns (R297, Table 1.1): a media read with a map cache miss; a write acknowledge with HOLDUP effective.
(DEDUCED, log entry 172.) -/
def cdatLatency : Nat × Nat := (1400, 320)

/-- The bandwidths of the CDAT in GB/s (R297, Table 1.3): sustained read over one port; sustained sequential write.
(DEDUCED, log entry 172.) -/
def cdatBandwidth : Nat × Nat := (58, 24)

/-- The identity of the PCI function of either head (R298): vendor ID, device ID, revision ID, class code. The serial number of both is
`Config.serial`. (DEDUCED, log entry 172.) -/
def pciIds : Nat × Nat × Nat × Nat := (0x1E7A, 0x5016, 0x02, 0x050210)

/-- The windows of a head (R328): size of BAR0, onto the Helm space; of BAR2; and in BAR2 the offsets of the CXL component registers and of
the CXL device registers. (DEDUCED, log entry 172.) -/
def barMap : Nat × Nat × Nat × Nat := (0x10000, 0x20000, 0x00000, 0x10000)

/-- The Mailbox Capabilities register of a head (R318): payload in bytes, and the MSI-X vector of completion interrupts. -/
def mailboxCaps : Nat × Nat := (4096, 0)

/-- The GPF DVSEC (R306): Phase 2 duration in ms and power in mW. -/
def gpfDvsec : Nat × Nat := (2, 22000)

/-- A head's link has reached L0: messages that were held are sent for bits that are still set (R343, R344). -/
def Dev.linkReady (d : Dev) (p : Nat) : Dev :=
  if !d.inL0 p then d
  else
    let h := d.head p
    let pend := d.f (DEV_INTSTAT.PEND p)
    let d := d.modHead p (fun x => { x with heldMsgs := 0, heldMsi := false })
    let d := (List.range 8).foldl (fun d v => if h.heldMsgs.testBit v && pend.testBit v then d.send (.msix p v) else d) d
    if h.heldMsi && pend != 0 then d.send (.msi p) else d

/-- What a port reset discards: the requests that hold no CSN, with their number, and the responses not yet sent (R300). -/
def Dev.portDiscard (d : Dev) (p : Nat) : Nat × Dev :=
  let n := d.hold.countP (fun r => r.port = p) + d.fe.countP (fun r => r.2.port = p)
  let mute (l : List (Nat × Nat × Nat)) : List (Nat × Nat × Nat) := l.map (fun a => if a.1 = p then (2, a.2) else a)
  (n, { d with
    hold := d.hold.filter (fun r => r.port != p)
    gpf := d.gpf.filter (fun g => g.1 != p)
    fe := d.fe.filter (fun r => r.2.port != p)
    recAcks := d.recAcks.map (fun a => if a.2.1 = p then (a.1, 2, a.2.2) else a)
    homes := d.homes.map (fun (h : Home) => { h with llAcks := mute h.llAcks })
    lljobs := d.lljobs.map (fun (j : LineLogJob) => { j with acks := mute j.acks })
    str := { d.str with ctx := d.str.ctx.map (fun (x : Nat × Stream) => (x.1, { x.2 with
      tail := x.2.tail.map (fun (t : Nat × TailLine) => (t.1, { t.2 with acks := mute t.2.acks })) })) } })

/-- A port reset (R300, Table 15.6), by PERST or C060h (`cause` 0) or because the link went down (`cause` 1). -/
def Dev.portReset (d : Dev) (p cause : Nat) (perst : Bool) : Dev :=
  let (n, d) := d.portDiscard p
  let keep := d.f (DEV_PORTSTAT.RETRAINS p)
  let d := (d.setReg (0x10 + 4 * p) 0).setF (DEV_PORTSTAT.RETRAINS p) keep
  let d := if perst then d.setF (DEV_PORTSTAT.PERST p) 1 else d
  let d := (d.setF (DEV_INTSTAT.PEND p) 0).modHead p (fun x => { x with
    heldMsgs := 0, heldMsi := false, d3hot := false, pend := 0
    decoders := if cause = 0 then [] else x.decoders, mask := if cause = 0 then 0xFF else x.mask })
  let d := if (d.runOf p).isEmpty then d.ringClear p else { d with ord := { d.ord with ringReset := setAdd p d.ord.ringReset } }
  d.post { code := 0x092, detail := leBytes 1 p ++ leBytes 1 cause ++ leBytes 2 0 ++ leBytes 4 n }

/-- The host interfaces are powered and clocked. -/
def Dev.portsOn (d : Dev) : Bool :=
  match d.phase with
  | .linkTrain | .becalmed | .active | .dozeEntry | .doze | .shutdown | .flush | .commit | .resetFlush => true
  | _ => false

/-- PERST (R300): asserted, or the link of a trained port goes down. -/
def execPerst (p cause : Nat) (s : State) : Host.Outcome State Fault Refusal :=
  act (okPerst p cause) s (fun d =>
    if cause = 0 then (if d.on (DEV_PORTSTAT.PERST p) then d else d.touch.portReset p 0 true)
    else if d.f (DEV_PORTSTAT.RATE p) = 0 then d else d.touch.portReset p 1 false)

/-- A port finds its PHY reference usable or not (R550): the local crystal under CLKMODE 10, else its own REFCLK (Table 15.1). -/
def Dev.takeRef (d : Dev) (p : Nat) (ref : Bool) : Dev :=
  let ok := if d.f CLK_CFG.CLKMODE = 2 then d.on CLK_CFG.XF_PRESENT else ref
  d.modHead p (fun x => { x with phyRef := ok })

/-- LINK_TRAINING (R293, R550): the result of a training, rate 0 for one that failed. At 64 GT/s the flits have 256 bytes (Table 9.1). A port whose PHY reference is unusable does not train;
the link of a trained one is down. -/
def execLinkTraining (p rate width : Nat) (flit256 ref : Bool) (s : State) : Host.Outcome State Fault Refusal :=
  act (okLinkTraining p rate width flit256 ref) s (fun d =>
    let d := d.takeRef p ref
    if !d.portsOn || d.phase == .doze then d
    else if !(d.head p).phyRef then (if d.f (DEV_PORTSTAT.RATE p) = 0 then d else d.touch.portReset p 1 false)
    else
      let up := rate != 0 && width != 0
      let d := if d.f (DEV_PORTSTAT.RATE p) != 0 then d.cnt (DEV_PORTSTAT.RETRAINS p) else d
      let d := (((d.setF (DEV_PORTSTAT.RATE p) (if up then rate else 0)).setF (DEV_PORTSTAT.WIDTH p) (if up then width else 0)).setF
        (DEV_PORTSTAT.FLIT256 p) (b2n (up && (flit256 || rate == 5)))).setF (DEV_PORTSTAT.L1 p) 0
      let d := if up then d.setF (DEV_PORTSTAT.PERST p) 0 else d
      let d := if up && (rate != 5 || width != 4) then d.post0 0x091 else d
      d.touch.linkReady p)

/-- L1_ENTRY (R347). -/
def execL1Entry (p : Nat) (s : State) : Host.Outcome State Fault Refusal :=
  act (okL1Entry p) s (fun d => if d.inL0 p then ({ d with wch := { d.wch with eligFrom := d.time } } : Dev).setF (DEV_PORTSTAT.L1 p) 1 else d)

/-- Helm ends the pad hold on reaching Active while MANUAL is 0 (R563). -/
def Dev.padAuto (d : Dev) : Dev := if d.on WCH_PADHOLD.MANUAL then d else d.setF WCH_PADHOLD.HELD 0

/-- The engines run again after Doze: no reservation survives it (R455), and the time in Doze counts neither for their watchdogs nor
for budgets. -/
def Dev.engWake (d : Dev) : Dev :=
  let n := d.time - 65536 * d.wch.dozeFrom
  { d with engines := d.engines.map (fun (e : Engine) =>
      { e with rsv := none, kickAt := if e.priv = 0 then e.kickAt + n else e.kickAt, budgetFrom := e.budgetFrom + n }) }

/-- Doze entry is given up, or Doze is left (R553 to R555): the engines and PLLs run again, and from Doze every die link retrains;
with `maint` for a maintenance wake. -/
def Dev.dozeExit (d : Dev) (maint : Bool) : Dev :=
  let wake (d : Dev) : Dev :=
    let d : Dev := { d with phase := .active, wch := { d.wch with idleFrom := d.time, eligFrom := d.time, maint := maint } }
    if maint then d.padAuto else d.padAuto.wdogRun.llReturn
  match d.phase with
  | .dozeEntry => wake d
  | .doze => wake d.engWake.leaveDoze
  | _ => d

/-- L1_EXIT (R347): the link returns to L0 and its head to D0 (R349), out of Doze too (Table 15.3); held messages are sent.
(DEDUCED, log entry 61.) -/
def execL1Exit (p : Nat) (s : State) : Host.Outcome State Fault Refusal :=
  act (okL1Exit p) s (fun d =>
    if d.on (DEV_PORTSTAT.L1 p) then
      let d := d.dozeExit false
      ((({ d with wch := { d.wch with idleFrom := d.time, eligFrom := d.time, maint := false } } : Dev).wdogRun.setF (DEV_PORTSTAT.L1 p) 0).modHead p (fun x => { x with d3hot := false })).linkReady p
    else d)

/-- D3HOT_ENTRY (R347, R349): the head goes to D3hot and its port to L1; nothing of the head is lost. -/
def execD3hotEntry (p : Nat) (s : State) : Host.Outcome State Fault Refusal :=
  act (okD3hotEntry p) s (fun d =>
    if d.inL0 p then (({ d with wch := { d.wch with eligFrom := d.time } } : Dev).modHead p (fun x => { x with d3hot := true })).setF (DEV_PORTSTAT.L1 p) 1 else d)

/-- Memory_Active (R304): start-up has reached Active, and the device is not Becalmed. -/
def Dev.memActive (d : Dev) : Bool :=
  match d.phase with
  | .active | .dozeEntry | .doze | .shutdown => true
  | _ => false

/-- The range that the PCIe DVSEC for CXL devices reports, and Memory_Active (R304). -/
def Dev.dvsecRange (d : Dev) : Nat × Bool := if d.memActive then (0x6110000000, true) else (0, false)

/-- The commit of a decoder fails with Error Not Committed (R304, R305). -/
def Dev.decoderFails (d : Dev) (p idx size dpa ways : Nat) : Bool :=
  let n := size / ways
  !d.memActive || (d.head p).decoders.any (fun x => x.1 != idx && decide (x.2.dpa < dpa + n) && decide (dpa < x.2.dpa + x.2.size / x.2.ways)) ||
    (decide (1 < ways) && decide (0x6000000000 < dpa + n))

/-- DECODER_COMMIT (R304, R305). -/
def execDecoderCommit (p idx base size dpa ways gran : Nat) (s : State) : Host.Outcome State Fault Refusal :=
  act (okDecoderCommit p idx base size dpa ways gran) s (fun d =>
    if !d.inL0 p then d
    else if d.decoderFails p idx size dpa ways then d.send (.decoderErr p idx)
    else d.modHead p (fun x => { x with decoders := assocSet idx ⟨base, size, dpa, ways, gran⟩ x.decoders }))

/-- MSIX_UNMASK (R343): a message that waited for it is sent if its bit is still set. -/
def execMsixUnmask (p v : Nat) (s : State) : Host.Outcome State Fault Refusal :=
  act (okMsixUnmask p v) s (fun d =>
    let h := d.head p
    let d := d.modHead p (fun x => { x with mask := x.mask - (x.mask &&& 2 ^ v), pend := x.pend - (x.pend &&& 2 ^ v) })
    if h.pend.testBit v && (d.f (DEV_INTSTAT.PEND p)).testBit v then d.sendVec p v else d)

end Sys2Proof.Machine
end

