-- ==== Sys2Proof/Machine/ChartSlots.lean ====
section
/-! DEFINITION. The Chart slots of the Logbook: validity, choice, writing and checking (R473 to R479). -/

namespace Sys2Proof.Machine

/-- Bytes of a Chart slot. -/
abbrev slotSize : Nat := 131072

/-- The first `n` bytes of slot `s` from `off`. -/
def Dev.slotRead (d : Dev) (s off n : Nat) : List (BitVec 8) := memRead d.lbk (slotSize * s + off) n

/-- A slot holds data. -/
def Dev.slotHolds (d : Dev) (s : Nat) : Bool := d.lbk.any (fun c => c.1 / slotSize = s)

/-- A slot's header carries the magic and passes its CRC. -/
def Dev.slotHeader (d : Dev) (s : Nat) : Bool :=
  let h := d.slotRead s 0 64
  decide (fieldLe h 0 4 = 0x54484356) && decide (crc32c (h.take 60) = fieldLe h 60 4)

/-- Image length that a slot's header gives. -/
def Dev.slotLen (d : Dev) (s : Nat) : Nat := fieldLe (d.slotRead s 8 4) 0 4
/-- Sequence that a slot's header gives. -/
def Dev.slotSeq (d : Dev) (s : Nat) : Nat := fieldLe (d.slotRead s 12 4) 0 4
/-- Body CRC that a slot's header gives. -/
def Dev.slotCrc (d : Dev) (s : Nat) : Nat := fieldLe (d.slotRead s 16 4) 0 4

/-- The end marker lies at the header's length, passes its CRC and repeats the header (R474). -/
def Dev.slotMarker (d : Dev) (s : Nat) : Bool :=
  let n := d.slotLen s
  decide (128 ≤ n) && decide (n ≤ slotSize) &&
    (let m := d.slotRead s (n - 64) 64
     decide (fieldLe m 0 4 = 0x444E4556) && decide (fieldLe m 4 4 = d.slotSeq s) && decide (fieldLe m 8 4 = n) &&
       decide (fieldLe m 12 4 = d.slotCrc s) && decide (crc32c (m.take 60) = fieldLe m 60 4))

/-- The body CRC matches, and the Almanac in force is recent enough (R474). -/
def Dev.slotBody (d : Dev) (s : Nat) : Bool :=
  decide (fieldLe (d.slotRead s 20 4) 0 4 ≤ d.f ORD_ALMANAC.VERSION) && decide (crc32c (d.slotRead s 64 (d.slotLen s - 128)) = d.slotCrc s)

/-- A valid slot (R474). -/
def Dev.slotValid (d : Dev) (s : Nat) : Bool := d.slotHeader s && d.slotMarker s && d.slotBody s

/-- State of a slot as C010h gives it: 0 empty, 1 valid, 2 bad CRC, 3 no end marker (R474). -/
def Dev.slotState (d : Dev) (s : Nat) : Nat :=
  if !d.slotHolds s then 0
  else if d.slotValid s then 1
  else if d.slotHeader s && !d.slotMarker s then 3
  else 2

/-- The choice of R475: the slot, or the Becalmed cause. -/
def Dev.chooseChart (d : Dev) : Option Nat × Nat :=
  let a := d.slotValid 0
  let b := d.slotValid 1
  let ahead (s o : Nat) : Bool := d.slotHeader o && decide (d.slotSeq s < d.slotSeq o)
  if a && b then
    (if d.slotSeq 0 < d.slotSeq 1 then (some 1, 0)
     else if d.slotSeq 1 < d.slotSeq 0 then (some 0, 0)
     else if d.slotRead 0 0 (d.slotLen 0) == d.slotRead 1 0 (d.slotLen 1) then (some 0, 0)
     else (none, 2))
  else if a then (if ahead 0 1 then (none, 3) else (some 0, 0))
  else if b then (if ahead 1 0 then (none, 3) else (some 1, 0))
  else (none, 1)

/-- The end of a Chart choice (R484, Table 12.11): the slot in force with its source, or the Becalmed cause. -/
def Dev.chartChosen (d : Dev) (slot : Option Nat) (source cause : Nat) : Dev :=
  let d : Dev := { d with chart := { d.chart with slot := slot, source := source } }
  let q := match slot with | some s => d.slotSeq s | none => 0
  let d := (((((d.setF ORD_CHART.VALID (b2n slot.isSome)).setF ORD_CHART.SLOT (slot.getD 0)).setF ORD_CHART.SOURCE source).setF ORD_CHART.CAUSE cause).setF
    ORD_CHART.SEQ q)
  d.post { code := 0x0C2, detail := leBytes 1 (slot.getD 255) ++ leBytes 1 source ++ leBytes 1 cause ++ leBytes 1 0 ++ leBytes 4 q }

/-- End Becalmed with a valid slot (R477, R574): the start goes on with power-up steps 5 and 6. -/
def Dev.endBecalmed (d : Dev) (s source : Nat) : Dev :=
  let d := d.chartChosen (some s) source 0
  { d with phase := .powerUp, wch := { d.wch with startKind := 2, startAt := d.time } }

/-- The 16 bytes that Get Chart Slots gives for a slot. -/
def Dev.slotInfo (d : Dev) (s : Nat) : List (BitVec 8) :=
  leBytes 1 (d.slotState s) ++ leBytes 3 0 ++ leBytes 4 (d.slotSeq s) ++ leBytes 4 (d.slotLen s) ++ leBytes 4 (d.slotCrc s)

/-- GET_CHART_SLOTS (R325). -/
def execGetChartSlots (h : Nat) (inp : List Byte) (s : State) : Host.Outcome State Fault Refusal :=
  act (okGetChartSlots h inp) s (fun d =>
    d.mailbox h 0xC010 (fun d => if inp.isEmpty then (rcSuccess, d.slotInfo 0 ++ d.slotInfo 1, d) else (rcLength, [], d)))

/-- WRITE_CHART_CHUNK (R325, R326, R479). -/
def execWriteChartChunk (h : Nat) (inp : List Byte) (s : State) : Host.Outcome State Fault Refusal :=
  act (okWriteChartChunk h inp) s (fun d =>
    d.mailbox h 0xC011 (fun d =>
      let n := inp.length - 8
      let sl := fieldLe inp 0 1
      let off := fieldLe inp 4 4
      if inp.length < 8 + 256 || n > 3840 || n % 256 != 0 then (rcLength, [], d)
      else if sl > 1 || fieldLe inp 1 3 != 0 || off % 256 != 0 || off + n > slotSize || d.chart.slot == some sl then (rcInvalidInput, [], d)
      else
        let (ok, d) := d.lbkWrite (slotSize * sl + off) (inp.drop 8)
        if ok then (rcSuccess, [], { d with chart := { d.chart with written := listSet d.chart.written sl true } })
        else (rcInternal, [], d)))

/-- Input of Check Chart Slot: a slot of 1 B. -/
def parseChart (inp : List (BitVec 8)) : Nat × List Nat :=
  if inp.length != 1 then (rcLength, [])
  else if fieldLe inp 0 1 ≥ 2 then (rcInvalidInput, [])
  else (rcSuccess, [fieldLe inp 0 1])

/-- CHART_CHECK (R474, R477): the slot's state; while Becalmed, a valid slot starts the device. -/
def execChartCheck (o : OrdReq) (s : State) : Host.Outcome State Fault Refusal :=
  act (okChartCheck o) s (fun d =>
    d.asOrder o prgChartCheck 0xC012 false parseChart
      (fun x => match x.done with | some (0, n, _) => (rcSuccess, leBytes 1 n) | _ => (rcInternal, []))
      (fun d x =>
        let sl := x.arg 0
        if sl ≥ 2 then d.endOrder x.id 2 0 0
        else
          let st := d.slotState sl
          let d := d.endOrder x.id 0 st 0
          if st = 1 && d.phase == .becalmed then d.endBecalmed sl 1 else d))

end Sys2Proof.Machine
end

