-- ==== Sys2Proof/Machine/FlushImage.lean ====
section
/-! DEFINITION. The flush image: what Flush and a reset flush write to the flush segments (chapters 07, 10 and 17). -/

namespace Sys2Proof.Machine

/-! ### Positions in a flush segment (R242) -/

/-- The Points whose flush segments form the flush stripe group, in ascending order. -/
def Dev.flushPts (d : Dev) : List Nat := (List.range 16).filter (fun n => d.live n && (d.pt n).flushSeg.isSome)

/-- The parity Point of row `r` of the flush segments: live Point number r mod L (R242). -/
def Dev.flushParity (d : Dev) (r : Nat) : Nat :=
  let l := d.flushPts
  l.getD (r % Nat.max l.length 1) 0

/-- The next sector of a flush segment from `s` on that takes an image: not in a parity slot, not skipped, not programmed. -/
def Dev.flushScan (d : Dev) (n sg : Nat) : Nat → Nat → Option Nat
  | 0, _ => none
  | fuel + 1, s =>
    if s ≥ 16384 then none
    else if d.flushParity (s / 16) = n then d.flushScan n sg fuel (16 * (s / 16 + 1))
    else if d.skipped (mkPsa sg s) || d.programmed (mkPsa sg s) then d.flushScan n sg fuel (s + 1)
    else some s

/-- Program one sector of the flush image on a Point's flush segment; `df` are the DFILTER bits of the lines it holds (R186). -/
def Dev.flushPut (d : Dev) (n df : Nat) (mk : Nat → Sector) : Dev :=
  match (d.pt n).flushSeg with
  | none => d
  | some sg =>
    match d.flushScan n sg 4096 (d.pt n).flushNext with
    | none => d
    | some s => (d.program (mkPsa sg s) (mk (mkPsa sg s)) df).modPt n (fun p => { p with flushNext := s + 1 })

/-- A flush line sector (KIND 6): four lines with the line checks that they carry at their addresses (R258, R259, R263). -/
def Dev.lineSector (d : Dev) (psa home first : Nat) (ls : List LogLine) : Sector :=
  let data := secOfLines ((ls.map (·.data)) ++ List.replicate (4 - ls.length) 0)
  let checks := (List.range 4).map (fun q => match ls[q]? with
    | some l => l.check
    | none => lineCheck (secLine data q) (termPhys psa q))
  ⟨data, mkMeta checks (d.seg (psaSeg psa)).count 0 false 0 0 6, BitVec.ofNat 64 (2 ^ 64 - 1), false, .fline home first ls⟩

/-! ### The image of a home (R242, R243, R397, R612) -/

/-- The entries that a home's flush index lists: pending and taken, in ascending CSN order; a dirty Pilot line that completes
an entry's mask replaces its content (R243). -/
def Dev.flushEntries (d : Dev) (h : Nat) : List LogLine :=
  (sortKey ((d.binn.filter (fun b => homeOf (64 * b.line) = h && b.st != .committed)).map (fun b =>
    let p := (assocGet b.line d.pilot).filter (fun (x : PilotLine) => x.dirty && b.mask != fullMask)
    (b.csn, match p with
      | some x =>
        let v := mergeLine x.data b.data b.mask
        (⟨b.csn, b.line, fullMask, v, b.since, checkMove x.check x.data v, false⟩ : LogLine)
      | none => ⟨b.csn, b.line, b.mask, b.data, b.since, b.check, false⟩)))).map (·.2)

/-- Groups of `k` elements, with the position of the first. -/
def chunks {α : Type} (k : Nat) (l : List α) (first : Nat) : List (Nat × List α) :=
  (List.range ((l.length + k - 1) / k)).map (fun i => (first + k * i, (l.drop (k * i)).take k))

/-- Index sectors and line sectors of a list of lines at positions from `first`; `keep` says which positions were written
before the flush was cut (R244, R525). -/
def Dev.flushList (d : Dev) (n h first : Nat) (ls : List LogLine) (keep : Nat → Bool) : Dev :=
  let d := (chunks 10 ls first).foldl (fun d x =>
    d.flushPut n 0 (fun psa => physSector d psa 4 (secOfBytes (fidxBytes h d.cycle x.1 x.2)) (.fidx h d.cycle x.1 x.2))) d
  (chunks 4 ls first).foldl (fun d x => if keep x.1 then d.flushPut n (dfBits (x.2.map (fun l => d.logPage l.line l.csn))) (fun psa => d.lineSector psa h x.1 x.2) else d) d

/-- A stream context sector (Table 10.6). (DESIGN CHOICE, log entry 179.) -/
def Dev.ctxBytes (d : Dev) (s : Nat) : List (BitVec 8) :=
  let x := d.stm s
  let w := match x.windows.find? (fun (w : Window) => w.sealNo.isNone) with
    | some w => leBytes 8 w.t0 ++ leBytes 8 w.t1 ++ leBytes 8 w.pstart
    | none => leBytes 8 allOnes64 ++ List.replicate 16 0
  let b := [0x53#8, 0x43#8] ++ leBytes 2 s ++ leBytes 4 x.resets ++
    [x.pos.end_, x.pos.rel, x.pos.rpos, x.pos.mark.getD allOnes64, x.pos.limit, x.pos.nexthdr].flatMap (leBytes 8) ++ w ++
    leBytes 4 d.cycle ++ leBytes 4 0 ++ leBytes 8 x.reclaimed
  let b := padTo 252 b
  b ++ leBytes 4 (crc32c b)

/-- The tail lines of a stream at their aperture addresses (R397). -/
def Dev.tailLines (d : Dev) (s : Nat) : List LogLine :=
  let x := d.stm s
  x.tail.map (fun t =>
    let a := apLine s (t.1 / 64) (t.1 % 64)
    (⟨t.2.csn, a, t.2.mask, t.2.data, d.time, termMove t.2.check (termStream (x.line (64 * t.1))) (termDev a), false⟩ : LogLine))

/-- A stream has tail lines or a window whose record is not written (R397). (DESIGN CHOICE, log entry 179.) -/
def Stream.dumps (x : Stream) : Bool := !x.tail.isEmpty || x.windows.any (fun (w : Window) => w.sealNo.isNone)

/-- How many whole sectors of the slice's index were written where the flush was cut inside the index: the positions from
2^32 - 1026 to 2^32 - 2 say it, counted down. (DESIGN CHOICE, log entry 154.) -/
def indexCut (q : Nat) : Option Nat := if 2 ^ 32 - 1026 ≤ q ∧ q < 2 ^ 32 - 1 then some (2 ^ 32 - 2 - q) else none

/-- Position `q` was written before the flush was cut (all ones for none). -/
def posWritten (q p : Nat) : Bool := decide (q < 2 ^ 32 - 1026) && decide (p ≤ q)

/-- The index of a slice whose flush was cut inside it: `k` whole sectors, then one that does not decode (R244). -/
def Dev.flushTorn (d : Dev) (n h : Nat) (ls : List LogLine) (k : Nat) : Dev :=
  (chunks 10 ls 0).foldl (fun d x =>
    if 10 * k < x.1 then d
    else d.flushPut n 0 (fun psa =>
      { physSector d psa 4 (secOfBytes (fidxBytes h d.cycle x.1 x.2)) (.fidx h d.cycle x.1 x.2) with failed := decide (x.1 = 10 * k) })) d

/-- The records of a home's streams (R397), those that the flush reached; the positions of their lines go on after those of the
slice. (DEDUCED, log entry 71.) -/
def Dev.flushStreams (d : Dev) (n h first : Nat) (keep : Nat → Bool) : Dev :=
  ((d.str.ctx.filter (fun x => homeOfStream x.1 = h && x.2.dumps)).foldl (fun (acc : Nat × Dev) x =>
    if !keep acc.1 then acc else
    let d := acc.2.flushPut n 0 (fun psa => physSector acc.2 psa 4 (secOfBytes (acc.2.ctxBytes x.1)) (.tail x.1 0))
    let ls := d.tailLines x.1
    (acc.1 + ls.length, d.flushList n h acc.1 ls keep)) (first, d)).2

/-- The records of a list that begin in bytes `[240 k, 240 k + 240)` of the list's bytes, from byte `off` on. -/
def recsFrom (k : Nat) : Nat → List DeckRec → List DeckRec
  | _, [] => []
  | off, r :: t => if off / 240 = k then r :: recsFrom k (off + r.size) t else recsFrom k (off + r.size) t

/-- The deck-log dump (R612, Table 17.6). -/
def Dev.flushDeck (d : Dev) (n : Nat) : Dev :=
  let bs := d.deck.buf.flatMap DeckRec.bytes
  (List.range ((bs.length + 239) / 240)).foldl (fun d k =>
    let part := (bs.drop (240 * k)).take 240
    let b := [0x44#8, 0x44#8] ++ leBytes 2 part.length ++ leBytes 2 k ++ leBytes 2 0 ++ leBytes 4 d.cycle ++ leBytes 4 0 ++ padTo 240 part
    d.flushPut n 0 (fun psa => physSector d psa 4 (secOfBytes b) (.deck d.cycle k (recsFrom k 0 d.deck.buf)))) d

/-- The image of one home, on its serving Point; a home affected by Hove-to writes none. `last` is its committed position where
the flush was cut, all ones for none. -/
def Dev.flushHome (d : Dev) (h : Nat) (last : Option Nat) : Dev :=
  if d.hove h then d
  else
    let n := d.serving h
    let es := d.flushEntries h
    match last with
    | none =>
      let d := (d.flushList n h 0 es (fun _ => true)).flushStreams n h es.length (fun _ => true)
      if h = 0 then d.flushDeck n else d
    | some q =>
      match indexCut q with
      | some k => if 10 * k < es.length then d.flushTorn n h es k else d.flushList n h 0 es (fun _ => false)
      | none => (d.flushList n h 0 es (posWritten q)).flushStreams n h es.length (posWritten q)

/-- How many positions the image of a home has. -/
def Dev.flushCount (d : Dev) (h : Nat) : Nat :=
  (d.flushEntries h).length +
    ((d.str.ctx.filter (fun x => homeOfStream x.1 = h && x.2.dumps)).map (fun x => x.2.tail.length)).foldr (· + ·) 0

/-- Close every row of the flush segments (R165, R242); its parity has the DFILTER bits of every member (R186). -/
def Dev.flushRows (d : Dev) : Dev :=
  let last := d.flushPts.foldl (fun m n => Nat.max m ((d.pt n).flushNext)) 0
  let df := d.flushPts.foldl (fun m n => match (d.pt n).flushSeg with | some sg => m ||| (d.seg sg).dfilter | none => m) 0
  (List.range ((last + 15) / 16)).foldl (fun d r =>
    let p := d.flushParity r
    match (d.pt p).flushSeg with
    | none => d
    | some sg =>
      (List.range 16).foldl (fun d j =>
        let cov := (d.flushPts.filter (· != p)).filterMap (fun n => ((d.pt n).flushSeg).bind (fun m => d.row (mkPsa m (16 * r + j))))
        if cov.isEmpty || d.skipped (mkPsa sg (16 * r + j)) then d else d.program (mkPsa sg (16 * r + j)) (paritySector cov) df) d) d

/-- The committed positions of the homes (R244): the last position whose line sector was written, all ones for none. A line sector
holds four positions of the slice. (DESIGN CHOICE, log entry 154.) -/
def Dev.committedPos (d : Dev) (cut : Option (List Nat)) : List Nat :=
  (List.range 16).map (fun h =>
    let c := d.flushCount h
    if c = 0 || d.hove h then 2 ^ 32 - 1
    else match cut with
      | none => c - 1
      | some l =>
        let q := l.getD h (2 ^ 32 - 1)
        let e := (d.flushEntries h).length
        if 2 ^ 32 - 1026 ≤ q then 2 ^ 32 - 1
        else if q < e then Nat.min (4 * (q / 4) + 3) (e - 1)
        else Nat.min q (c - 1))

/-- Homes whose slice flushed completely (Table 14.11). -/
def Dev.fullHomes (d : Dev) (cut : Option (List Nat)) : Nat :=
  (List.range 16).foldl (fun m h =>
    let c := d.flushCount h
    let whole := match cut with | none => true | some l => c = 0 || (l.getD h 0 != 2 ^ 32 - 1 && decide (c ≤ l.getD h 0 + 1))
    if !d.hove h && whole then m ||| 2 ^ h else m) 0

/-- Write the flush image of every home and close its rows. -/
def Dev.flushImage (d : Dev) (cut : Option (List Nat)) : Dev :=
  ((List.range 16).foldl (fun d h => d.flushHome h (cut.map (fun l => l.getD h (2 ^ 32 - 1)))) d).flushRows

end Sys2Proof.Machine
end

