-- ==== Sys2Proof/Machine/Modes.lean ====
section
/-! DEFINITION. The mode word, mode-change points, the mode-change order (chapter 13), and the reset of an engine (R446). -/

namespace Sys2Proof.Machine

/-! ### Engine reset (R446) -/

/-- An engine after its reset (R403, Table 11.4): registers at their reset values, its watchdog restarted; the contents of
its local memory and the lines of its write merge stay, for no rule empties them. (DEDUCED, log entry 66.) -/
def Dev.freshEngine (d : Dev) (e : Nat) (st : EState) : Engine :=
  { loc := (d.eng e).loc, merge := (d.eng e).merge, resetAt := d.time, kickAt := d.time, state := st, faultAt := (d.eng e).faultAt }

/-- Reset an engine. -/
def Dev.resetEngine (d : Dev) (e : Nat) : Dev := d.modEng e (fun _ => d.freshEngine e .running)

/-- The pc at which a resident deck program stands: its own while it runs, the saved one while helm has the engine. -/
def Engine.deckPc (x : Engine) : Nat := (if x.priv = 1 then x.pc else x.epc).toNat

/-- The resident deck program of an engine ends, and its order with a code and data (Table 12.5). (DEDUCED, log entry 120.) -/
def Dev.endDeck (d : Dev) (e code d0 d1 : Nat) : Dev :=
  let x := d.eng e
  if x.deck.isNone then d
  else (d.endOrder x.deckOrder code d0 d1).modEng e (fun y => { y with deck := none, deckOrder := 0 })

/-- A task that an engine had started goes back to the front of its own Point's queue. -/
def Dev.requeueTask (d : Dev) (e : Nat) : Dev :=
  match (d.eng e).curTask with
  | some t => (d.modPt e (fun p => { p with tasks := t :: p.tasks })).modEng e (fun x => { x with curTask := none })
  | none => d

/-! ### Engine faults (Table 2.5) -/

/-- One engine faults (Table 2.5): records 0x024 and 0x031, its task goes back to its Point's queue for its siblings, a resident deck
program ends, and the engine is reset to await its self-test, or retired at a second fault within an hour. The manual gives the deck
program's order no completion code for this: code and data are free values. (DESIGN CHOICE, log entry 123; DEDUCED, log entry 135.) -/
def Dev.faultOne (d : Dev) (e : Nat) : Dev :=
  let again := match (d.eng e).faultAt with | some t => decide (d.time - t < secUnits 3600) | none => false
  let d := (d.post { code := 0x024, level := 1, point := e }).post { code := 0x031, level := 2, point := e }
  let d := d.requeueTask e
  let d := if (d.eng e).deck.isSome then
      (let (c, d) := d.draw
       let (a, d) := d.draw
       let (b, d) := d.draw
       d.endDeck e (c.toNat % 131072) a.toNat b.toNat) else d
  d.modEng e (fun _ => { d.freshEngine e (if again then .retired else .halted) with resetting := !again, faultAt := some d.time })

/-- A quadrant has an engine that works. -/
def Dev.quadWorks (d : Dev) (q : Nat) : Bool :=
  (List.range 4).any (fun i => (d.eng (4 * q + i)).state == .running || (d.eng (4 * q + i)).state == .asleep)

/-- The engines that act as one with engine `e` (R445). -/
def Dev.pairOf (d : Dev) (e : Nat) : List Nat := if d.mLockstep then [e / 2 * 2, e / 2 * 2 + 1] else [e]

/-- An engine fault (R414, Table 2.5): under LOCKSTEP of both engines of the pair. A quadrant left without a working engine passes up as
0x041. -/
def Dev.engFault (d : Dev) (e : Nat) : Dev :=
  let worked := d.quadWorks (e / 4)
  let d := (d.pairOf e).foldl (fun d i => d.faultOne i) d
  if worked && !d.quadWorks (e / 4) then d.post { code := 0x041, level := 3, point := 0x80 + e / 4 } else d

/-- R446: every engine that works is reset, its task is restarted, and a resident deck program ends with 0x0009. -/
def Dev.resetEngines (d : Dev) : Dev :=
  (List.range 16).foldl (fun d e =>
    let x := d.eng e
    let d := if x.deck.isSome then d.endDeck e 9 x.deckPc 0 else d
    if x.state == .retired || x.state == .halted then d else (d.requeueTask e).resetEngine e) d

/-! ### MODE_EFF (R490 to R492) -/

/-- Bit `i` as a number. -/
def bitIf (i : Nat) (b : Bool) : Nat := if b then 2 ^ i else 0

/-- MODE_EFF as R491 gives it for a mode word requested and an automatic COLD; the layout bits stand as they are (R490).
(DEDUCED, log entry 48.) -/
def Dev.modeEff (d : Dev) (req : Nat) (cold : Bool) : Nat :=
  bitIf 0 d.mWindow + bitIf 1 d.mStream + bitIf 2 (req.testBit 2) + bitIf 3 (req.testBit 3) + bitIf 4 (req.testBit 4) +
  bitIf 5 d.mTwin + bitIf 6 (req.testBit 6) + bitIf 7 (req.testBit 7 && d.on PWR_BANK.PASS) + bitIf 8 (req.testBit 8 || cold) +
  bitIf 9 (req.testBit 9 && d.mStream) + bitIf 10 (req.testBit 10 && !d.on SAF_STAT.HOVE) + bitIf 11 (req.testBit 11)

/-- MODE_WHY as R491 gives it; LAYOUT_KEPT is given. -/
def Dev.modeWhy (d : Dev) (req : Nat) (cold kept : Bool) : Nat :=
  bitIf 0 (req.testBit 7 && !d.on PWR_BANK.PASS) + bitIf 1 cold + bitIf 2 (req.testBit 9 && !d.mStream) +
  bitIf 3 (req.testBit 10 && d.on SAF_STAT.HOVE) + bitIf 4 kept

/-- The hottest-to-coldest limits of R492 on the media sensors in use: automatic COLD begins below −15 °C and ends at or above
−10 °C. -/
def Dev.coldNow (d : Dev) : Bool :=
  let ts := (d.mediaUse.map (·.1)).filter (·.read)
  if ts.any (fun x => decide (x.value < -1500)) then true
  else if ts.all (fun x => decide (x.value ≥ -1000)) then false
  else d.on MODE_WHY.COLD_AUTO

/-- A mode-change point (R489, R494, R497): it receives a CSN while the commit sequencer runs, MODE_EFF and MODE_WHY take the
values of R491. `old` is MODE_EFF before the point. -/
def Dev.modePointAt (d : Dev) (old : Nat) (auto cold kept : Bool) : Dev :=
  let req := d.reg 0x100
  let new := d.modeEff req cold
  let why := d.modeWhy req cold kept
  let csn := if d.seqOn then d.nextCsn else 0
  let d : Dev := { (if d.seqOn then d.takeCsn else d) with ll := { d.ll with checkDue := true } }
  let d := ((d.setReg 0x104 new).setReg 0x108 why).setReg 0x110 csn
  let d := ((d.setReg 0x118 d.time).cnt MODE_STAT.CHANGES).setF MODE_STAT.AUTO (b2n auto)
  let d := if old.testBit 10 && !new.testBit 10 then d.surveyEnds else d
  let d := if old.testBit 6 != new.testBit 6 then d.resetEngines else d
  let d := if old.testBit 7 && !new.testBit 7 then d.logTails else d
  if old.testBit 11 && !new.testBit 11 then { d with wch := { d.wch with gated := false } } else d

/-- The event of a mode-change point, with MODE_EFF before and after it and MODE_WHY (R489, R494, R496). -/
def Dev.modeEvent (d : Dev) (code : Nat) (p : Nat × Nat × Nat) : Dev :=
  d.post { code := code, detail := leBytes 2 p.1 ++ leBytes 2 p.2.1 ++ leBytes 1 p.2.2 }

/-- A mode-change point with its event, 0x0D1 for an automatic one. -/
def Dev.modePointFrom (d : Dev) (old : Nat) (auto cold kept : Bool) : Dev :=
  let d := d.modePointAt old auto cold kept
  d.modeEvent (if auto then 0x0D1 else 0x0D0) (old, d.reg 0x104, d.reg 0x108)

/-- A mode-change point at which no layout bit has been set just before. (DEDUCED, log entry 68.) -/
def Dev.modePoint (d : Dev) (auto cold kept : Bool) : Dev := d.modePointFrom (d.reg 0x104) auto cold kept

/-- An automatic point is due: MODE_EFF or MODE_WHY would change under R491. -/
def Dev.modeDue (d : Dev) : Bool :=
  let kept := d.on MODE_WHY.LAYOUT_KEPT
  d.modeEff (d.reg 0x100) d.coldNow != d.reg 0x104 || d.modeWhy (d.reg 0x100) d.coldNow kept != d.reg 0x108

/-- The Chart of this start has been applied, which is the first mode-change point of a power cycle (R489). -/
def Dev.pointsOn (d : Dev) : Bool :=
  match d.phase with
  | .optLoad | .powerUp | .clocks | .selfTest | .mediaInit | .recovery | .chart | .becalmed => false
  | _ => true

/-- An automatic mode-change point; before the first point of the power cycle only MODE_EFF and MODE_WHY follow (R489). -/
def Dev.autoPoint (d : Dev) : Dev :=
  let kept := d.on MODE_WHY.LAYOUT_KEPT
  if !d.modeDue then d
  else if d.pointsOn then d.modePoint true d.coldNow kept
  else (d.setReg 0x104 (d.modeEff (d.reg 0x100) d.coldNow)).setReg 0x108 (d.modeWhy (d.reg 0x100) d.coldNow kept)

/-- AUTOMATIC_MODE_CHANGE (R492 to R494). -/
def execAutomaticModeChange (s : State) : Host.Outcome State Fault Refusal :=
  act okAutomaticModeChange s (fun d => if d.powered then d.autoPoint else d)

/-! ### MODE_CHANGE (R495 to R498) -/

/-- Bits that change only at Chart load: WINDOW, STREAM, SCRAMBLE, TWIN. -/
def layoutBits : Nat := 0x33

/-- Why a MODE_CHANGE is refused with 0x0002: Data 0 (R495). -/
def modeRefused (req set clear : Nat) : Option Nat :=
  if Nat.land set clear ≠ 0 then some 1
  else if Nat.land (set - Nat.land set req) layoutBits ≠ 0 then some 0
  else if Nat.land (Nat.land clear req) layoutBits ≠ 0 then some 1
  else none

/-- The acknowledged contents that stood below a CSN have been drained to media: no entry of the Binnacle below it waits (R496,
step 4). -/
def Dev.drained (d : Dev) (csn : Nat) : Bool := d.binn.all (fun b => decide (b.csn > csn) || b.st == .committed)

/-- Step 5 of R496: the completion, the event, and PENDING ends. -/
def Dev.modeEnd (d : Dev) (id : Nat) : Dev := ((d.endOrder id 0 (d.reg 0x104) 0).modeEvent 0x0D0 d.ord.modeFrom).setF MODE_STAT.PENDING 0

/-- MODE_CHANGE (R495, R496): the point falls at once; a run after it ends the order once the Binnacle is drained. -/
def Dev.modeChange (d : Dev) (x : Order) : Dev :=
  if d.on MODE_STAT.PENDING then
    (if d.drained (d.reg 0x110) then d.modeEnd x.id else d)
  else
    let req := d.reg 0x100
    let set := x.arg 0 % 4096
    let clear := x.arg 1 % 4096
    match modeRefused req set clear with
    | some k => d.endOrder x.id 2 k 0
    | none =>
      let was := d.mHoldup
      let old := d.reg 0x104
      let d := (d.setReg 0x100 ((req - Nat.land req clear) ||| set)).setF MODE_STAT.PENDING 1
      let d := d.modePointAt old false (d.on MODE_WHY.COLD_AUTO) (d.on MODE_WHY.LAYOUT_KEPT)
      let d : Dev := { d with ord := { d.ord with modeFrom := (old, d.reg 0x104, d.reg 0x108) } }
      if was && !d.mHoldup && !d.drained (d.reg 0x110) then d else d.modeEnd x.id

/-- Input of the mode mailbox command C002h: set mask and clear mask of 2 B, bits 15 to 12 zero, disjoint (Table 9.5). -/
def parseMode (inp : List (BitVec 8)) : Nat × List Nat :=
  if inp.length ≠ 4 then (rcLength, [])
  else
    let a := fieldLe inp 0 2
    let b := fieldLe inp 2 2
    if a ≥ 4096 || b ≥ 4096 || Nat.land a b != 0 then (rcInvalidInput, []) else (rcSuccess, [a, b])

/-- MODE_CHANGE (R495, R496). -/
def execModeChange (o : OrdReq) (s : State) : Host.Outcome State Fault Refusal :=
  act (okModeChange o) s (fun d => d.asOrder o prgMode 0xC002 true parseMode answerBg (fun d x => d.modeChange x))

end Sys2Proof.Machine
end

