-- ==== Sys2Proof/Machine/Power.lean ====
section
/-! DEFINITION. Supply and hold-up: voltages, requests, rails, brownout, Flush, Commit, the orderly shut-down, the bank test, and
what a power-down keeps (chapters 14 and 15). -/

namespace Sys2Proof.Machine

/-! ### Voltages (R507, R508, R511) -/

/-- PWR_VOLT shows the voltages (Table 14.12). -/
def Dev.voltReg (d : Dev) : Dev :=
  (((d.setF PWR_VOLT.VIN (d.pwr.vin / 10)).setF PWR_VOLT.VSYS (d.pwr.vsys / 10)).setF PWR_VOLT.BANK (d.pwr.bank / 10)).setF PWR_VOLT.WCAP d.pwr.wcap

/-- VSYS: VIN through the ideal diode, or the bank while HB_DIS is closed and ID_GATE open (R507, R508). -/
def Dev.settleVsys (d : Dev) : Dev :=
  ({ d with pwr := { d.pwr with vsys := if d.pwr.idGate then d.pwr.vin else if d.pwr.hbDis then d.pwr.bank else 0 } } : Dev).voltReg

/-- VIN is at or above the supply-return threshold (Table 14.2). -/
def Dev.vinGood (d : Dev) : Bool := decide (d.pwr.vin ≥ 100 * d.f PWR_THR.VBO + 400)

/-- SEQ_DA is held low from the start of Flush until Dormant (R535), as HB_DIS is held closed (R508). -/
def Dev.seqDaLow (d : Dev) : Bool := d.pwr.hbDis

/-! ### The power log (R537 to R539) -/

/-- Write a power-log record and show it in PWR_LOG. -/
def Dev.powerLog (d : Dev) (kind : Nat) (body : List (BitVec 8)) : Dev :=
  let d := d.powerWrite kind body
  (d.setF PWR_LOG.SEQ ((d.pwr.plNext - 1) % 2 ^ 24)).setF PWR_LOG.NEXT (d.pwr.plNext % 128)

/-- Count a rail event: 0 failed step, 1 window fault, 2 discharge timeout (R539). -/
def Dev.railCount (d : Dev) (k what : Nat) : Dev :=
  { d with pwr := { d.pwr with railCounts := listMod d.pwr.railCounts (3 * k + what) (fun n => satAdd 16 n 1) } }

/-- Write the COUNTERS record of a phase if any count is not zero (R539). -/
def Dev.countersRec (d : Dev) (ph : Nat) : Dev :=
  if d.pwr.railCounts.all (· == 0) then d
  else
    let d := d.powerLog 3 (leBytes 2 ph ++ d.pwr.railCounts.flatMap (leBytes 2))
    { d with pwr := { d.pwr with railCounts := List.replicate 18 0 } }

/-- The phase of Table 14.11 that the device is in. -/
def Dev.phaseNo (d : Dev) : Nat :=
  match d.phase with
  | .powerUp => 1
  | .clocks | .selfTest | .mediaInit | .chart | .linkTrain => 2
  | .recovery => 3
  | _ => 5

/-- Write a RAIL record (Table 14.11). -/
def Dev.railRec (d : Dev) (k cause vs : Nat) : Dev :=
  d.powerLog 1 (leBytes 1 k ++ leBytes 1 cause ++ leBytes 2 d.stage ++ leBytes 2 vs ++ leBytes 2 (d.pwr.vin / 10))

/-- Write the next CSN under R251: a CSN that the Logbook held for the cycle before is carried on while the sequencer has not
resumed, and nothing is written where it held none. -/
def Dev.saveCsn (d : Dev) : Dev := if d.seqOn || d.wch.prevCycleCsnOk then d.lbkCsn else d

/-- The effective clocks as a power-down saves them (R113): before the restore of a start, the saved values with what was held
apart, which is held apart no longer. (DEDUCED, log entry 83.) -/
def Dev.saveEclk (d : Dev) : Dev :=
  if d.seqOn then { d with commitEclk := some ((List.range 16).map d.eclk) }
  else
    let base := d.savedEclk (d.ckpts.headD {})
    { d with
      commitEclk := some ((List.range 16).map (fun n => base n + d.wch.eclkApart.getD n 0))
      wch := { d.wch with eclkApart := List.replicate 16 0 } }

/-! ### Events posted late (R541) -/

/-- The newest power-log record of a cycle whose kind is one of a list. -/
def Dev.powerOf (d : Dev) (cycle : Nat) (kinds : List Nat) : Option (List (BitVec 8)) :=
  ((List.range 128).filterMap (fun i => (d.powerPair i).1)).foldl (fun (acc : Option (List (BitVec 8))) r =>
    if fieldLe r 8 4 != cycle || !(kinds.contains (fieldLe r 2 1)) then acc
    else match acc with
      | some a => if fieldLe a 4 4 < fieldLe r 4 4 then some r else acc
      | none => some r) none

/-- The kinds of power-log record that hold an event's facts; any other event takes the last record of its cycle. -/
def lateKinds (code : Nat) : List Nat :=
  if 0x0E0 ≤ code && code ≤ 0x0E2 then [2]
  else if code = 0x0E4 || code = 0x0E6 then [1]
  else if code = 0x0E5 then [1, 3]
  else [1, 2, 3, 4, 5]

/-- Post the events that could not be posted, with the power-cycle count, operating seconds and ship's time of their records
(R541). (DEDUCED, log entry 69.) -/
def Dev.postLate (d : Dev) : Dev :=
  let evs := d.pwr.deferred
  let d := { d with pwr := { d.pwr with deferred := [] } }
  evs.foldl (fun d e =>
    let (op, t) := match d.powerOf e.cycle (lateKinds e.code) with
      | some r => (fieldLe r 12 5, fieldLe r 20 8)
      | none => if e.cycle = d.cycle then (d.opSec, d.time) else (0, 0)
    d.postAs { e with opSec := op, time := t, fix := d.f FIX_NUM.NUMBER }) d

/-! ### Rails (R518 to R520) -/

/-- Lower and upper end of a rail's VS window in mV (Table 14.4). -/
def vsWindow (k : Nat) : Nat × Nat :=
  [(720, 780), (768, 832), (1728, 1872), (1152, 1248), (1152, 1248), (3168, 3432)].getD k (0, 0)

/-- How many regulators are enabled: the enables of steps 1 to k. -/
def Dev.railsOn (d : Dev) : Nat := (List.range 6).countP (fun k => d.pwr.enables.testBit k)

/-- Assert the enable of a step. -/
def Dev.railEnable (d : Dev) (k : Nat) : Dev :=
  let d := { d with pwr := { d.pwr with enables := d.pwr.enables ||| 2 ^ k, ramp := some (k, d.time) } }
  ((d.setF (PWR_RAIL.ON k) 1).setF PWR_STAT.STEP (k + 1))

/-- Deassert the enable of a step; its rail's power-good falls. -/
def Dev.railDisable (d : Dev) (k : Nat) : Dev :=
  let d := { d with pwr := { d.pwr with enables := d.pwr.enables - bitIf k (d.pwr.enables.testBit k) } }
  (d.setF (PWR_RAIL.ON k) 0).setF PWR_STAT.PG (d.f PWR_STAT.PG - bitIf k ((d.f PWR_STAT.PG).testBit k))

/-- Rails down begins (R520): the enable of the highest step reached is deasserted, and the start waits for a reference no longer (Table 15.9).
`kind` says why. -/
def Dev.beginDown (d : Dev) (kind : Nat) : Dev :=
  let d := { d with
    phase := .railsDown
    pwr := { d.pwr with down := kind, ramp := none, hbGate := false, watch := false, downAfterStep := false, detected := none } }
  let d := d.setF WCH_STAT.NOREF 0
  if d.railsOn = 0 then d else d.railDisable (d.railsOn - 1)

/-! ### Requests (R523, R528) -/

/-- Latch an off request; it clears a latched on request. -/
def Dev.latchOff (d : Dev) : Dev := ((d.setF PWR_STAT.OFF_LATCH 1).setF PWR_CTL.OFF 1).setF PWR_STAT.ON_LATCH 0
/-- Latch an on request; it clears a latched off request. -/
def Dev.latchOn (d : Dev) : Dev := ((d.setF PWR_STAT.ON_LATCH 1).setF PWR_STAT.OFF_LATCH 0).setF PWR_CTL.OFF 0

/-- The orderly shut-down begins (R523). -/
def Dev.beginOrderly (d : Dev) : Dev := { d.latchOff.wdogPause with phase := .shutdown, pwr := { d.pwr with offStep := 0 }, wch := { d.wch with gated := false } }

/-- A power-down during power-up waits for the step under way (Table 14.6). -/
def Dev.powerUpDown (d : Dev) (kind : Nat) : Dev :=
  if d.pwr.ramp.isSome then { d with pwr := { d.pwr with down := kind, downAfterStep := true } } else d.beginDown kind

/-- An off request (Table 14.6); `seq` says that it came over the SEQ bus. (DEDUCED, log entry 74.) -/
def Dev.offRequest (d : Dev) (seq : Bool) : Dev :=
  let e : Dev := { d with pwr := { d.pwr with viaSeq := seq } }
  match d.phase with
  | .active | .dozeEntry => e.beginOrderly
  | .doze => e.leaveDoze.beginOrderly
  | .powerUp => e.powerUpDown 0
  | .optLoad | .clocks | .selfTest | .mediaInit | .recovery | .chart | .linkTrain => e.latchOff
  | .becalmed => e.beginDown 0
  | .shutdown | .flush | .commit | .resetFlush => e.latchOff
  | .dormant => (d.setF PWR_STAT.ON_LATCH 0)
  | .railsDown | .watchOff => d

/-- The code and detail with which a start from Dormant is recorded (Table 15.5), none where the code stands (a device reset
that is already recorded, a new attempt after a failed step). (DEDUCED, log entry 84.) -/
def Dev.startCode (d : Dev) : Option (Nat × Nat) :=
  if d.pwr.viaSeq && d.seqb.step = 1 then some (0x08, 0)
  else match d.pwr.down with
    | 0 => some (0x0A, d.wch.wakeBy.2)
    | 1 => some (0x09, 0)
    | 2 => some (0x0B, 0)
    | _ => none

/-- The option-load phase of a start from Dormant begins (R546, R547, R565). -/
def Dev.startOption (d : Dev) : Dev :=
  let d := match d.startCode with
    | some (c, x) => (d.setF WCH_CAUSE.CODE c).setF WCH_CAUSE.DETAIL x
    | none => d
  let n := d.wch.ticks - d.wch.dormFrom
  let d := (d.setF WCH_DORM.COUNT n).setF PWR_STAT.ON_LATCH 0
  { d with phase := .optLoad, time := 0, wch := { d.wch with startKind := 0, eclkSecs := 0, opSecs := 0 }, pwr := { d.pwr with viaSeq := false } }

/-- A wake event becomes pending; where it makes an on request, the lowest of those that became pending in its tick is kept for
WCH_CAUSE.DETAIL (R561). -/
def Dev.wakePend (d : Dev) (src : Nat) : Dev :=
  let by_ := d.wch.wakeBy
  let d := d.orF WCH_WAKESTAT.PEND (2 ^ src)
  if by_.1 = d.wch.ticks then { d with wch := { d.wch with wakeBy := (by_.1, Nat.min by_.2 src) } }
  else if d.on PWR_STAT.ON_LATCH then d
  else { d with wch := { d.wch with wakeBy := (d.wch.ticks, src) } }

/-- An on request (Table 14.6). (DEDUCED, log entry 76.) -/
def Dev.onRequest (d : Dev) : Dev :=
  match d.phase with
  | .dormant =>
    if d.pwr.locked then d
    else if d.wch.ticks ≥ d.pwr.minOffEnd then d.latchOn.startOption
    else d.latchOn
  | .railsDown => d.latchOn
  | _ => d

/-! ### Protect windows at the end of a power cycle (R393) -/

/-- PEND of a window that closes now: the end of the newest frame stamped, or PSTART. (DEDUCED, log entry 87.) -/
def Stream.pendNow (x : Stream) (framed : Bool) (w : Window) : Nat :=
  Nat.max w.pstart (if framed then x.pos.nexthdr else x.pos.end_)

/-- Every open window closes at the start of Flush. -/
def Dev.closeWindows (d : Dev) : Dev :=
  { d with str := { d.str with ctx := d.str.ctx.map (fun (x : Nat × Stream) => (x.1, { x.2 with
      windows := x.2.windows.map (fun (w : Window) => if w.pend.isSome then w
        else { w with pend := some (if w.t1 ≤ d.time then x.2.pendAt w else x.2.pendNow (d.on (STR_CTL.FRAMED x.1)) w) }) })) } }

/-! ### Brownout (R524 to R528, R535, R536) -/

/-- Count a detected brownout; the count is kept in the Logbook (Table 17.11). -/
def Dev.countBrownout (d : Dev) : Dev :=
  let d := d.cnt PWR_CNT.BROWNOUTS
  d.lbkSetCounter 96 2 (d.f PWR_CNT.BROWNOUTS)

/-- Count an incomplete flush (R522, R525); the count is kept in the Logbook. -/
def Dev.countIncomplete (d : Dev) : Dev :=
  let d := d.cnt PWR_CNT.INCOMPLETE
  d.lbkSetCounter 128 2 (d.f PWR_CNT.INCOMPLETE)

/-- What is kept of the moment of detection: VIN, origin, time, MODE_EFF, bank voltage, and why the rails may go down. -/
def Dev.noteDetect (d : Dev) (origin : Nat) : Dev :=
  let d := d.wdogPause
  { d with pwr := { d.pwr with
      detected := some (d.pwr.vin / 10, origin, d.time), effAtFlush := d.reg 0x104, bankAtFlush := d.pwr.bank, watch := false
      leftPhase := d.phaseNo, down := if origin = 3 then 2 else 1, viaSeq := origin == 2
      returned := (origin == 1 || origin == 2) && d.vinGood } }

/-- Flush begins (Table 14.5, steps 2 to 4; R507, R508, R535, R602): ID_GATE opens, HB_DIS closes, the converter stops, credits
are withheld, and the next CSN is written. -/
def Dev.beginFlush (d : Dev) (origin : Nat) : Dev :=
  let d := { (d.noteDetect origin).leaveDoze with wch := { d.wch with gated := false } }
  let d := (d.fix 6).closeWindows
  let d := { d with
    phase := .flush
    pwr := { d.pwr with idGate := false, hbDis := true, hbGate := false, hbTst := false, offStep := 0, outcome := 0, committed := List.replicate 16 (2 ^ 32 - 1) } }
  let d := (d.settleVsys.setF PWR_BANK.RUNNING 0).saveCsn
  let d := if d.pwr.returned then d.cnt PWR_CNT.RETURNS else d
  (if origin = 3 then d else d.countBrownout).post0 0x0E0

/-- A brownout, rail fault or device reset that makes no Flush (R522, R526, R567): Commit begins at once, and the next CSN is
written (R251). (DEDUCED, log entry 178.) -/
def Dev.beginCommit (d : Dev) (origin : Nat) : Dev :=
  let d := d.noteDetect origin
  let d := { d with phase := .commit, pwr := { d.pwr with outcome := 3, committed := List.replicate 16 (2 ^ 32 - 1), hbGate := false } }
  d.saveCsn

/-- Brownout is detected (R524, R526, Table 14.6). Origins: 0 VIN, 1 line flush, 2 FLUSH command. (DEDUCED, log entry 75.) -/
def Dev.detect (d : Dev) (origin : Nat) : Dev :=
  match d.phase with
  | .active | .doze | .dozeEntry | .chart | .linkTrain | .shutdown | .resetFlush => d.beginFlush origin
  | .clocks | .selfTest | .mediaInit | .recovery | .becalmed => (d.beginCommit origin).countBrownout.post0 0x0E0
  | .powerUp => (({ d with pwr := { d.pwr with viaSeq := origin == 2 } } : Dev).powerUpDown 1).countBrownout.post0 0x0E0
  | .optLoad => ({ d with pwr := { d.pwr with viaSeq := origin == 2 } } : Dev).beginDown 1
  | _ => d

/-- The deck-log buffer at a Commit without Flush: up to 16 KiB go to the area, the rest is counted as dropped (R612).
(DEDUCED, log entry 178.) -/
def Dev.deckDirect (d : Dev) : Dev :=
  let (now, rest) := fitRecs 16384 d.deck.buf
  let d := ({ d with deck := { d.deck with buf := now } } : Dev).deckFlush
  ({ d with deck := { d.deck with buf := [] } } : Dev).cnt DECK_STAT.DROPPED rest.length

/-- Ship's time in µs. -/
def toUs (t : Nat) : Nat := t * 1000000 / 2147483648

/-- The BROWNOUT record (Table 14.11). The bank voltage at Commit is a free value: the model keeps no discharge curve.
(DESIGN CHOICE, log entry 79.) -/
def Dev.brownoutRec (d : Dev) : Dev :=
  let (vin, origin, dur) := d.pwr.detected.getD (0, 0, 0)
  let noFlush := d.pwr.outcome = 3
  let (v, d) := d.draw
  let homes := if noFlush then 0 else d.fullHomes (if d.pwr.outcome = 1 then some d.pwr.committed else none)
  let outcome := if d.pwr.outcome = 0 && d.pwr.returned then 2 else d.pwr.outcome
  d.powerLog 2 (leBytes 2 vin ++ leBytes 2 (d.pwr.bankAtFlush / 10) ++ leBytes 2 v.toNat ++ leBytes 2 (if noFlush then 0 else Nat.min dur 65535) ++
    leBytes 1 outcome ++ leBytes 1 origin ++ leBytes 2 d.pwr.effAtFlush ++ leBytes 2 homes ++ leBytes 2 0 ++ d.pwr.committed.flatMap (leBytes 4))

/-- The Commit records (Table 14.5, step 6; R526): rail counts, the BROWNOUT record, DRF_ECLK, operating seconds and power-cycle
count. -/
def Dev.commitRecs (d : Dev) : Dev :=
  let d := (d.countersRec d.pwr.leftPhase).brownoutRec.saveEclk
  (d.lbkSetCounter 32 5 d.opSec).lbkSetCounter 0 4 d.cycle

/-- BROWNOUT (R511, R524): VIN has lain below VBO for 20 µs. -/
def execBrownout (s : State) : Host.Outcome State Fault Refusal :=
  act okBrownout s (fun d => if d.pwr.vin < 100 * d.f PWR_THR.VBO then d.detect 0 else d)

/-- BROWNOUT_WATCH (R511): a sample of VIN; below VBO the brownout watch begins. A sample at or below 42.0 V ends the overvoltage
warning. -/
def execBrownoutWatch (vin : Nat) (s : State) : Host.Outcome State Fault Refusal :=
  act (okBrownoutWatch vin) s (fun d =>
    let d := ({ d with pwr := { d.pwr with vin := vin } } : Dev).settleVsys
    let d := if vin ≤ 42000 then d.setF PWR_STAT.OV 0 else d
    if vin < 100 * d.f PWR_THR.VBO then { d with pwr := { d.pwr with watch := true } } else d)

/-- The end of the flush (R525): what it programs, and Commit. (DESIGN CHOICE, log entry 154.) -/
def Dev.endFlush (d : Dev) (cut : Bool) (pos : List Nat) : Dev :=
  let lim := if cut then some pos else none
  let com := d.committedPos lim
  let d := d.flushImage lim
  let (v, o, t) := d.pwr.detected.getD (0, 0, 0)
  let d := { d with
    phase := .commit
    pwr := { d.pwr with outcome := b2n cut, committed := com, detected := some (v, o, toUs (d.time - t)) } }
  if cut then d.countIncomplete.post0 0x0E2 else d.post0 0x0E1

/-- FLUSH_END (R525, Table 14.5, step 5): the images are programmed, or the flush is cut at VCOMMIT; Commit begins. -/
def execFlushEnd (cut : Bool) (pos : List Nat) (s : State) : Host.Outcome State Fault Refusal :=
  act (okFlushEnd cut pos) s (fun d =>
    if d.phase != .flush then d
    else
      d.endFlush cut pos)

/-- The abbreviated restart when the supply has returned (R527): the rails are fed by VIN again and the device is Active; an off
request that is latched then acts. -/
def Dev.resumeActive (d : Dev) : Dev :=
  let d := { d with pwr := { d.pwr with idGate := true, hbDis := false, hbGate := true, returned := false, detected := none } }
  let d := ({ d.settleVsys with phase := .active } : Dev).postLate.abbreviatedRestart.wdogRun
  if d.on PWR_STAT.OFF_LATCH then d.beginOrderly else d

/-- COMMIT_END (R528): the Commit records, then Active after an abbreviated restart, or Rails down. A flush that was cut while
HOLDUP was effective raises the Dirty Shutdown Count unless the supply has returned (R17). -/
def execCommitEnd (s : State) : Host.Outcome State Fault Refusal :=
  act okCommitEnd s (fun d =>
    if d.phase != .commit then d
    else
      let d := if d.pwr.outcome = 3 then d.deckDirect else d
      let d := d.commitRecs
      let origin := (d.pwr.detected.getD (0, 0, 0)).2.1
      if d.pwr.outcome != 3 && d.pwr.returned && origin != 3 && d.pwr.down != 3 then d.resumeActive
      else
        let d := if d.pwr.outcome = 1 && d.pwr.effAtFlush.testBit 7 then d.dirtyShutdown else d
        let d := if d.pwr.returned && !d.on PWR_STAT.OFF_LATCH then d.latchOn else d
        d.beginDown d.pwr.down)

/-- SUPPLY_RETURN (R527). -/
def execSupplyReturn (s : State) : Host.Outcome State Fault Refusal :=
  act okSupplyReturn s (fun d =>
    if !d.vinGood then d
    else
      match d.phase with
      | .flush | .commit =>
        if d.pwr.returned then d else ({ d with pwr := { d.pwr with returned := true } } : Dev).cnt PWR_CNT.RETURNS
      | .railsDown => if d.pwr.down = 1 || d.pwr.watch then (d.cnt PWR_CNT.RETURNS).latchOn else d
      | .dormant => if d.pwr.down = 1 && !d.on PWR_STAT.OFF_LATCH then d.onRequest else d
      | _ => if d.pwr.watch then ({ d with pwr := { d.pwr with watch := false } } : Dev).cnt PWR_CNT.RETURNS else d)

/-- VIN_OVERVOLTAGE (R511). -/
def execVinOvervoltage (s : State) : Host.Outcome State Fault Refusal :=
  act okVinOvervoltage s (fun d => if d.pwr.vin > 42000 && !d.on PWR_STAT.OV then (d.setF PWR_STAT.OV 1).post0 0x0E9 else d)

/-! ### Rail steps and faults -/

/-- The Chart choice of this start has left the device Becalmed (R573). -/
def Dev.noChart (d : Dev) : Bool := !d.on ORD_CHART.VALID

/-- The step up to which the SEQ group lets the device go: its master's, or its own for a device alone (R533, R534). -/
def Dev.stepBound (d : Dev) : Nat :=
  let top := if d.noChart && d.wch.startKind != 2 then 4 else 6
  let grouped := if d.on SEQ_CFG.MASTER then decide (d.f SEQ_STAT.PRESENT - (d.f SEQ_STAT.PRESENT &&& d.f SEQ_STAT.FAILED) ≠ 0)
    else d.f SEQ_CFG.ID != 0 && !d.seqb.orphaned
  if grouped then Nat.min top d.seqb.step else top

/-- RAIL_STEP (R518): the next step's enable is asserted. -/
def execRailStep (k : Nat) (s : State) : Host.Outcome State Fault Refusal :=
  act (okRailStep k) s (fun d =>
    if d.phase == .powerUp && d.pwr.ramp.isNone && d.railsOn = k && k < d.stepBound then d.railEnable k else d)

/-- The rails of this start are up: the fast-clock step begins, or media initialisation after Becalmed (Table 14.6, R573, R574).
Events that could not be posted are posted. -/
def Dev.railsUp (d : Dev) : Dev :=
  let d := { d with pwr := { d.pwr with hbGate := true, attempts := 0 } }
  if d.wch.startKind = 2 then { d with phase := .mediaInit }
  else ({ d with phase := .clocks } : Dev).postLate

/-- A step fails (R519): PG_TO, event 0x0E5, power-down, which may have waited for the step (Table 14.6); the third attempt in a row is the
last. (DEDUCED, log entry 77.) -/
def Dev.stepFail (d : Dev) (k cause : Nat) : Dev :=
  let n := d.pwr.attempts + 1
  let d := ((d.setF (PWR_RAIL.PG_TO k) 1).railCount k 0).countersRec 1
  let d := { d with pwr := { d.pwr with attempts := n, locked := n ≥ 3 || d.pwr.locked } }
  let d := (d.beginDown (if d.pwr.downAfterStep then d.pwr.down else 4)).post { code := 0x0E5, detail := leBytes 1 k ++ leBytes 1 cause ++ leBytes 1 n }
  if d.on SEQ_CFG.MASTER then d.send (.seq ([0xAF#8, 0x02#8, 0#8, 0#8] ++ [crc8 [0xAF#8, 0x02#8, 0#8, 0#8]])) else d

/-- RAIL_STEP_DONE (R518, R519): PG has asserted, and 50 µs later VS is measured. -/
def execRailStepDone (k vs : Nat) (s : State) : Host.Outcome State Fault Refusal :=
  act (okRailStepDone k vs) s (fun d =>
    if d.phase != .powerUp || d.pwr.ramp.map (·.1) != some k then d
    else
      let d := (d.setF PWR_STAT.PG (d.f PWR_STAT.PG ||| 2 ^ k)).setF (PWR_RAIL.VS k) vs
      if vs < (vsWindow k).1 || (vsWindow k).2 < vs then d.stepFail k 3
      else
        let d := { d with pwr := { d.pwr with ramp := none } }
        if d.pwr.downAfterStep then d.beginDown d.pwr.down
        else if k = 5 || (k = 3 && d.noChart && d.wch.startKind != 2) then d.railsUp
        else d)

/-- RAIL_STEP_FAIL (R519): cause 1 PG early, 2 PG timeout, 3 VS outside its window. -/
def execRailStepFail (k cause : Nat) (s : State) : Host.Outcome State Fault Refusal :=
  act (okRailStepFail k cause) s (fun d =>
    if d.phase != .powerUp || d.pwr.ramp.map (·.1) != some k || cause = 0 || 3 < cause then d
    else d.stepFail k cause)

/-- A rail fault acts (R522): VIO enters Flush as a brownout does; any other rail makes no Flush, which event 0x0E2 tells
(Table 14.14). (DEDUCED, log entry 82.) -/
def Dev.railActs (d : Dev) (k : Nat) : Dev :=
  match d.phase with
  | .active | .doze | .dozeEntry | .chart | .linkTrain | .shutdown | .resetFlush =>
    if k = 3 then d.beginFlush 3 else ((d.beginCommit 3).countIncomplete).post0 0x0E2
  | .clocks | .selfTest | .mediaInit | .recovery | .becalmed => ((d.beginCommit 3).countIncomplete).post0 0x0E2
  | _ => d

/-- A second rail fault within 3,600 operating seconds of the first keeps the device in Dormant (R522). -/
def Dev.railAgain (d : Dev) : Dev :=
  match d.pwr.lastRailOp with
  | some t => if d.opSec < t + 3600 then { d with pwr := { d.pwr with locked := true } } else { d with pwr := { d.pwr with lastRailOp := some d.opSec } }
  | none => { d with pwr := { d.pwr with lastRailOp := some d.opSec } }

/-- What a rail fault does (R521, R522, R539). (DEDUCED, log entry 78.) -/
def Dev.railFaulted (d : Dev) (k cause vs : Nat) : Dev :=
  let d := (d.cnt PWR_CNT.RAIL_FAULTS).setF (PWR_RAIL.VS k) vs
  let d := if cause = 1 then d else d.setF (PWR_RAIL.WIN k) 1
  if d.pwr.faultRail.isSome || d.phase == .flush || d.phase == .commit then d.railCount k 1
  else
    let d := { d with pwr := { d.pwr with faultRail := some (k, cause, vs) } }
    let d := if d.phaseNo = 5 then d.railRec k cause vs else d.railCount k 1
    let d := d.railAgain.railActs k
    d.post { code := 0x0E4, detail := leBytes 1 k ++ leBytes 1 cause ++ leBytes 2 0 ++ leBytes 2 vs }

/-- RAIL_FAULT (R521, R522, R539): a PG input lost (cause 1), VS low (2) or high (3). The first since Active is recorded; others
are counted. -/
def execRailFault (k cause vs : Nat) (s : State) : Host.Outcome State Fault Refusal :=
  act (okRailFault k cause vs) s (fun d =>
    if cause = 0 || 3 < cause || !(d.pwr.enables.testBit k) || d.phase == .powerUp || d.phase == .railsDown then d
    else
      d.railFaulted k cause vs)

/-- RAIL_DISCHARGED (R520, R539): the rail above has fallen below 10 %, or 20 ms have passed, and the next enable is deasserted. The voltage
that a RAIL record of a timeout gives is a free value: no rule says when it is measured. (DESIGN CHOICE, log entry 176.) -/
def execRailDischarged (k : Nat) (timeout : Bool) (s : State) : Host.Outcome State Fault Refusal :=
  act (okRailDischarged k timeout) s (fun d =>
    if d.phase != .railsDown || d.railsOn != k then d
    else
      let d := if !timeout then d
        else
          let d := d.setF (PWR_RAIL.DIS_TO k) 1
          let (v, d) := d.draw
          let d := if d.pwr.vsys ≥ 8000 && d.pwr.wcap ≥ 3200 then d.railRec k 5 v.toNat else d.railCount k 2
          d.post0 0x0E6
      if k = 0 then d else d.railDisable (k - 1))

/-! ### Dormant -/

/-- What media keeps of a segment's state entry: its header (Table 3.2). -/
def keptSegs (l : List (Nat × Seg)) : List (Nat × Seg) :=
  l.filterMap (fun x =>
    let y : Seg := { factorySeg x.1 with hdr := x.2.hdr }
    if y = factorySeg x.1 then none else some (x.1, y))

/-- The device without power outside the Watch domain (R542, Table 15.6): media, Logbook, key and identity pages, and what the
Watch domain holds, are kept; every other register and memory is at its reset value. -/
def Dev.powerOff (d : Dev) : Dev :=
  { opSec := d.opSec, cycle := d.cycle, phase := .dormant
    regs := d.regs.filter (fun x => (0x500 ≤ x.1 && x.1 < 0x600) || x.1 == 0x704)
    freeCtr := d.freeCtr, out := d.out, sectors := d.sectors, segs := keptSegs d.segs, ckpts := d.ckpts, locs := d.locs
    commitEclk := d.commitEclk, lbk := d.lbk, fuse := d.fuse, keys := d.keys, keyCur := d.keyCur, chain := d.chain
    rekey := d.rekey.map (fun r => { r with order := 0 })
    sanitize := d.sanitize.map (fun x => (x.1, 6, x.2.2))
    patchNext := d.patchNext, patchOn := d.patchOn
    chart := { slot := d.chart.slot, source := d.chart.source, written := d.chart.written }
    wch := d.wch
    seqb := { step := 0, orphaned := false }
    pwr := { vin := d.pwr.vin, vsys := d.pwr.vin, bank := d.pwr.bank, wcap := d.pwr.wcap, attempts := d.pwr.attempts, locked := d.pwr.locked,
             lastRailOp := d.pwr.lastRailOp, railCounts := d.pwr.railCounts, plNext := d.pwr.plNext, deferred := d.pwr.deferred,
             down := d.pwr.down, viaSeq := d.pwr.viaSeq, orderly := d.pwr.orderly, returned := d.pwr.returned } }

/-- Dormant is reached (R528): what holds its power is kept, the minimum off time and the cooling time of R639 start. -/
def Dev.reachDormant (d : Dev) : Dev :=
  let off := d.on PWR_STAT.OFF_LATCH && d.pwr.down != 0
  let on := d.on PWR_STAT.ON_LATCH || (2 ≤ d.pwr.down && !d.pwr.locked)
  let ov := d.f PWR_STAT.OV
  let th := d.f THM_STAT.THERMAL
  let cool := d.f THM_CTL.COOL_S
  let d := d.powerOff.voltReg
  let d := { d with
    wch := { d.wch with dormFrom := d.wch.ticks, entryTick := d.wch.ticks, gated := false, maint := false }
    pwr := { d.pwr with minOffEnd := d.wch.ticks + Nat.max 656 (if th = 1 then 32768 * cool else 0) } }
  let d := if off then d.latchOff else if on then d.latchOn else d
  let low := d.pwr.locked || (d.pwr.down = 3 && d.f WCH_CAUSE.CODE = 4)
  let d := { d with saf := { d.saf with safeN := !low } }
  let d := (d.setF SAF_STAT.SAFEN (b2n low)).setF WCH_PADHOLD.HELD 1
  (d.setF PWR_STAT.OV ov).setF THM_STAT.THERMAL th

/-- RAILS_DOWN_COMPLETE (R528): Dormant is reached and the minimum off time of 20 ms, 656 ticks, starts, with the
cooling time of R639 after a thermal shut-down. A device reset, a failed step or a rail fault is followed by a start once it has
passed. -/
def execRailsDownComplete (s : State) : Host.Outcome State Fault Refusal :=
  act okRailsDownComplete s (fun d =>
    if d.phase != .railsDown || d.pwr.enables != 0 then d
    else
      d.reachDormant)

/-- MINIMUM_OFF_TIME_END (R528): a latched on request is acted on. -/
def execMinimumOffTimeEnd (s : State) : Host.Outcome State Fault Refusal :=
  act okMinimumOffTimeEnd s (fun d =>
    if d.phase == .dormant && d.wch.ticks ≥ d.pwr.minOffEnd && d.on PWR_STAT.ON_LATCH && !d.pwr.locked then d.startOption else d)

/-! ### The orderly shut-down (R523) -/

/-- The Binnacle, the images on their way and the line logs are on media. -/
def Dev.allOnMedia (d : Dev) : Bool :=
  d.binn.all (fun b => b.st == .committed) && d.imgs.isEmpty && d.lljobs.isEmpty && d.homes.all (fun h => h.llog.isEmpty)

/-- A complete slot of a stream still waits for its page (R377). -/
def Dev.tailsWait (d : Dev) : Bool :=
  d.str.ctx.any (fun x => x.2.tail.any (fun t => decide (64 * t.1 < x.2.pos.end_)))

/-- One step of the orderly shut-down; a step whose condition does not hold yet goes no further. The tail lines of slots that are not
complete drain through the line logs. -/
def Dev.orderlyStep (d : Dev) (step : Nat) : Dev :=
  let next (d : Dev) : Dev := { d with pwr := { d.pwr with offStep := step } }
  match step with
  | 1 => next d.logTails
  | 2 => let d := d.logTails; if d.allOnMedia && !d.tailsWait then next d.startCkpt else d
  | 3 => if d.saving.isNone && !d.ckptReq then next d else d
  | 4 => next d.deckFlush
  | 5 =>
    let d := (d.saveCsn.countersRec 5).powerLog 5 (leBytes 8 (d.f MAP_CKPT.GEN) ++ leBytes 2 (d.reg 0x104))
    ({ d.saveEclk with pwr := { d.pwr with orderly := true, offStep := 0 } } : Dev).beginDown 0
  | _ => d

/-- ORDERLY_SHUTDOWN (R523): step 1 to 5, each in its turn. -/
def execOrderlyShutdown (step : Nat) (s : State) : Host.Outcome State Fault Refusal :=
  act (okOrderlyShutdown step) s (fun d => if d.phase == .shutdown && step = d.pwr.offStep + 1 then d.orderlyStep step else d)

/-! ### The bank (R512 to R517, R592) -/

/-- VHOLD in mV. -/
def Dev.vhold (d : Dev) : Nat := 1000 * d.f PWR_THR.VHOLD

/-- C in 0.1 µF of a test (R514): t in ns, RT in Ω, V1 in mV, ln(V1 / (V1 − 1 V)) by its series, rounded to the nearest.
(DEDUCED, log entry 70.) -/
def bankC (v1 t rt : Nat) : Nat :=
  let w := 2 * v1 - 1000
  let n := 1000
  let den := 200 * rt * (15 * n * w ^ 4 + 5 * n ^ 3 * w ^ 2 + 3 * n ^ 5)
  (2 * (t * 15 * w ^ 5) + den) / (2 * den)

/-- Usable energy in 0.1 mJ (R513). -/
def bankE (c vhold : Nat) : Nat := c * (vhold ^ 2 - 64) / 2000

/-- Usable energy is at least 90 mJ (Table 14.2). -/
def bankPass (c vhold : Nat) : Bool := decide (c * (vhold ^ 2 - 64) ≥ 1800000)

/-- ENERGY and PASS follow from a capacitance at the present VHOLD (R513, R517). -/
def Dev.setEnergy (d : Dev) (c : Nat) : Dev :=
  ((d.setF PWR_BANK.CAP (Nat.min c 65535)).setF PWR_BANK.ENERGY (Nat.min (bankE c (d.f PWR_THR.VHOLD)) 65535)).setF PWR_BANK.PASS
    (b2n (bankPass c (d.f PWR_THR.VHOLD)))

/-- A bank test found less than 90 mJ (R15): with HOLDUP effective it is cleared at once, under an alert of class 0. -/
def Dev.holdupLost (d : Dev) (code : Nat) : Dev :=
  if d.mHoldup then (d.post { code := code } (some 0)).autoPoint else d.post0 code

/-- The converter runs and no brownout stage or shut-down is under way, so that a bank test may start (R515). -/
def Dev.mayTest (d : Dev) : Bool :=
  d.pwr.hbGate && !d.pwr.watch &&
  match d.phase with
  | .clocks | .selfTest | .mediaInit | .recovery | .chart | .linkTrain | .active => true
  | _ => false

/-- BANK_TEST_DUE (R515): cause 0 the bank first reaches VHOLD in this start, 1 after 24 h, 2 after 60 s, 3 PWR_CTL.BANKTEST, 4 a
new VHOLD is reached. -/
def execBankTestDue (cause : Nat) (s : State) : Host.Outcome State Fault Refusal :=
  act (okBankTestDue cause) s (fun d =>
    let due := match cause with
      | 0 => d.pwr.hbGate && d.railsOn = 6 && !d.pwr.bankDone
      | 1 => d.pwr.bankDone && decide (d.pwr.bankTestAt + secUnits 86400 ≤ d.time)
      | 2 => d.pwr.bankDone && !d.on PWR_BANK.PASS && decide (d.pwr.bankTestAt + secUnits 60 ≤ d.time)
      | 3 => d.on PWR_CTL.BANKTEST
      | 4 => d.pwr.hbGate && d.pwr.bank != d.vhold
      | _ => false
    if !due then d
    else
      let d := { d with pwr := { d.pwr with bankDue := true } }
      if cause = 0 || cause = 4 then ({ d with pwr := { d.pwr with bank := d.vhold } } : Dev).settleVsys else d)

/-- What a bank test finds (R514, R515). -/
def Dev.bankTested (d : Dev) (v1 t : Nat) : Dev :=
  let stop := decide (20000000 ≤ t)
  let t := Nat.min t 20000000
  let c := bankC v1 t (d.f PWR_HBCFG.RT)
  let v := d.f PWR_THR.VHOLD
  let d := (d.setEnergy c).setF PWR_CTL.BANKTEST 0
  let d := { d with pwr := { d.pwr with bankDue := false, bankDone := true, bankTestAt := d.time } }
  let ok := d.on PWR_BANK.PASS
  let d := d.powerLog 4 (leBytes 2 (Nat.min c 65535) ++ leBytes 2 (Nat.min (bankE c v) 65535) ++ leBytes 2 (v1 / 10) ++ leBytes 2 (t / 1000) ++
    leBytes 1 v ++ leBytes 1 (if stop then 2 else if ok then 0 else 1))
  if ok then d.post0 0x0E8 else d.holdupLost 0x0E7

/-- BANK_TEST (R514, R515): V1 in mV, and the time in ns in which the bank falls by 1 V, stopped at 20 ms. -/
def execBankTest (v1 t : Nat) (s : State) : Host.Outcome State Fault Refusal :=
  act (okBankTest v1 t) s (fun d =>
    if !d.pwr.bankDue || !d.mayTest then d
    else
      d.bankTested v1 t)

/-- The bank monitor finds the bank low (R592): as a bank test that finds less than 90 mJ, with event 0x106. -/
def Dev.bankLow (d : Dev) : Dev :=
  (({ d with pwr := { d.pwr with bankTestAt := d.time } } : Dev).setF PWR_BANK.PASS 0).holdupLost 0x106

/-- BANK_VOLTAGE_LOW (R592): the bank has lain below VHOLD − 1 V for 100 µs while the converter runs: a bank test finding less than
90 mJ. -/
def execBankVoltageLow (s : State) : Host.Outcome State Fault Refusal :=
  act okBankVoltageLow s (fun d => if d.pwr.hbGate && !d.pwr.watch && d.pwr.bankDone then d.bankLow else d)

end Sys2Proof.Machine
end

