-- ==== Sys2Proof/Machine/Start.lean ====
section
/-! DEFINITION. The Watch domain, wake, Doze, resets, the option-load phase and the start up to the Chart (chapter 15, R594, R596). -/

namespace Sys2Proof.Machine

/-! ### The Watch domain (R510, R543 to R545) -/

/-- Events that the power log brings back after a Watch power-on (R541). -/
def keptEvents : List Nat := [0x0E0, 0x0E1, 0x0E2, 0x0E4, 0x0E5, 0x0E6]

/-- WATCH_STOP (R510): WCAP has fallen below 2.7 V, and nothing but what needs no power is kept. -/
def execWatchStop (s : State) : Host.Outcome State Fault Refusal :=
  act okWatchStop s (fun d => if d.phase != .watchOff && d.pwr.vin < 4500 then { d.powerOff with phase := .watchOff } else d)

/-- WATCH_POWER_ON (R510, R543, Table 15.6): the Watch domain starts, its registers at their reset values, and the option-load
phase begins. -/
def execWatchPowerOn (s : State) : Host.Outcome State Fault Refusal :=
  act okWatchPowerOn s (fun d =>
    if d.phase == .watchOff && 4500 ≤ d.pwr.vin then
      ({ d.powerOff with
        phase := .optLoad, regs := [], chart := {}, time := 0
        wch := { resetPin := d.wch.resetPin }
        pwr := { vin := d.pwr.vin, vsys := d.pwr.vin, bank := d.pwr.bank, deferred := d.pwr.deferred.filter (fun e => keptEvents.contains e.code) } } : Dev).voltReg
    else d)

/-- CRYSTAL_SWITCH (R544): the ticks come from the crystal after 16,384 good cycles, within 2 s of Watch power-on. -/
def execCrystalSwitch (s : State) : Host.Outcome State Fault Refusal :=
  act okCrystalSwitch s (fun d =>
    if d.phase == .watchOff || d.on WCH_STAT.XTAL || d.wch.crystalDone || d.wch.ticks < 16384 || 65536 ≤ d.wch.ticks then d
    else d.setF WCH_STAT.XTAL 1)

/-- The Watch domain goes back to its RC oscillator and tries the crystal no more (R545). -/
def Dev.crystalFails (d : Dev) : Dev :=
  (({ d with wch := { d.wch with crystalDone := true } } : Dev).setF WCH_STAT.XTAL 0 |>.setF WCH_STAT.XTAL_FAIL 1).post0 0x0F1

/-- CRYSTAL_FAIL (R545): cause 0, the crystal in use misses 4 cycles; cause 1, none was taken into use within 2 s. -/
def execCrystalFail (cause : Nat) (s : State) : Host.Outcome State Fault Refusal :=
  act (okCrystalFail cause) s (fun d =>
    let due := if cause = 0 then d.on WCH_STAT.XTAL else !d.on WCH_STAT.XTAL && !d.wch.crystalDone && decide (65536 ≤ d.wch.ticks)
    if d.phase == .watchOff || !due then d
    else d.crystalFails)

/-! ### Resets (R565 to R569) -/

/-- A device reset is accepted (R565): the first of Table 15.5 among those accepted in a tick is recorded, and what it does
follows (DEVICE_RESET). (DEDUCED, log entry 88.) -/
def Dev.resetAccept (d : Dev) (code : Nat) : Dev :=
  if d.phase == .watchOff then d
  else if d.wch.resetCode = 0 then
    let d := (((d.setF WCH_CAUSE.CODE code).setF WCH_CAUSE.DETAIL 0).cnt RST_STAT.RESETS).setF RST_STAT.LAST_STAGE d.stage
    { d with wch := { d.wch with resetCode := code } }
  else if code < d.wch.resetCode then { d.setF WCH_CAUSE.CODE code with wch := { d.wch with resetCode := code } }
  else d

/-- A reset flush begins (R568). -/
def Dev.beginResetFlush (d : Dev) : Dev :=
  let d := (d.noteDetect 3).leaveDoze.closeWindows.saveCsn
  { d with
    phase := .resetFlush
    wch := { d.wch with gated := false }
    pwr := { d.pwr with down := 3, outcome := 0, offStep := 0, committed := List.replicate 16 (2 ^ 32 - 1) } }

/-- What an accepted device reset does (R566 to R569). -/
def Dev.deviceReset (d : Dev) : Dev :=
  let d : Dev := { d with wch := { d.wch with resetCode := 0 } }
  match d.phase with
  | .optLoad => ({ d with time := 0 } : Dev).cnt WCH_STAT.OPT_RESTARTS
  | .powerUp | .clocks | .selfTest | .mediaInit | .recovery | .becalmed =>
    let d := d.beginCommit 3
    { d with pwr := { d.pwr with down := 3 } }
  | .active | .doze | .dozeEntry | .chart | .linkTrain | .shutdown => d.beginResetFlush
  | .flush | .commit | .railsDown =>
    let d := d.latchOn
    { d with pwr := { d.pwr with down := 3 } }
  | .dormant => ({ d with pwr := { d.pwr with down := 3 } } : Dev).onRequest
  | .resetFlush | .watchOff => d

/-- RESET_N (R519, R566, R658): low on two successive ticks is a device reset of code 02h and a wake (Table 15.3). -/
def execResetN (s : State) : Host.Outcome State Fault Refusal :=
  act okResetN s (fun d =>
    if d.wch.resetPin then d
    else
      let d : Dev := { d with wch := { d.wch with resetPin := true } }
      if d.phase == .watchOff then d
      else (({ d with pwr := { d.pwr with locked := false, attempts := if d.pwr.locked then 0 else d.pwr.attempts } } : Dev).wakePend 8).resetAccept 2)

/-- RESET_N_RELEASE (R566): the option-load phase may begin. -/
def execResetNRelease (s : State) : Host.Outcome State Fault Refusal :=
  act okResetNRelease s (fun d => { d with wch := { d.wch with resetPin := false } })

/-- CHIP_WATCHDOG (Table 15.5): 50 ms of ship's time in Active without a helm write to RST_WDOG. -/
def execChipWatchdog (s : State) : Host.Outcome State Fault Refusal :=
  act okChipWatchdog s (fun d =>
    if d.phase == .active && !d.wch.maint && d.wch.wdogHeld.isNone && d.wch.wdogAt + msUnits 50 ≤ d.time then d.resetAccept 3 else d)

/-- DEVICE_RESET (R566 to R569): a device reset that was accepted acts. -/
def execDeviceReset (code : Nat) (s : State) : Host.Outcome State Fault Refusal :=
  act (okDeviceReset code) s (fun d => if d.wch.resetCode = code && code != 0 then d.deviceReset else d)

/-- Steps 3 to 5 of a reset flush (R568). (DEDUCED, log entry 89.) -/
def Dev.endResetFlush (d : Dev) : Dev :=
  let com := d.committedPos none
  let d := d.flushImage none
  let (v, o, t) := d.pwr.detected.getD (0, 0, 0)
  let d : Dev := { d with pwr := { d.pwr with committed := com, detected := some (v, o, toUs (d.time - t)) } }
  ((d.countersRec d.pwr.leftPhase).brownoutRec).beginDown 3

/-- RESET_FLUSH_END (R568, steps 3 to 5): the image is programmed, a BROWNOUT record of origin 3 and outcome 0 is written, and the
rails go down. A reset flush is not cut; a brownout makes it a Flush (R569). -/
def execResetFlushEnd (cut : Bool) (pos : List Nat) (s : State) : Host.Outcome State Fault Refusal :=
  act (okResetFlushEnd cut pos) s (fun d =>
    if d.phase != .resetFlush || cut then d
    else
      d.endResetFlush)

/-- SAFE_N is driven low (Watch domain). -/
def Dev.safeLow (d : Dev) : Dev := ({ d with saf := { d.saf with safeN := false } } : Dev).setF SAF_STAT.SAFEN 1

/-- SAFE_N is released, unless Hove-to holds it low (R581, R594). -/
def Dev.safeRelease (d : Dev) : Dev :=
  if d.on SAF_STAT.HOVE then d else ({ d with saf := { d.saf with safeN := true } } : Dev).setF SAF_STAT.SAFEN 0

/-- The escalation of R594: SAFE_N goes low, code 04h is recorded, event 0x103 waits for the next start, and the reset acts. (DEDUCED, log
entry 94.) -/
def Dev.escalate (d : Dev) : Dev :=
  let e : Ev := { code := 0x103, cycle := d.cycle, csn := d.csn }
  let d := (d.safeLow.resetAccept 4).deviceReset
  { d with pwr := { d.pwr with deferred := d.pwr.deferred ++ [e] } }

/-- HEARTBEAT_TIMEOUT (R594): 3 ms have passed since the last heartbeat. (DEDUCED, log entry 94.) -/
def execHeartbeatTimeout (s : State) : Host.Outcome State Fault Refusal :=
  act okHeartbeatTimeout s (fun d =>
    match d.phase with
    | .selfTest | .mediaInit | .recovery | .chart | .linkTrain | .becalmed | .active | .dozeEntry | .shutdown => d.escalate
    | _ => d)

/-! ### Wake (R557 to R561, Table 15.3) -/

/-- A wake event becomes pending and acts (Table 15.4): in Doze and Doze entry Active follows, in Dormant it is an on request;
`edge` says that it was an edge, which Rails down latches. (DEDUCED, log entry 150.) -/
def Dev.wake (d : Dev) (src : Nat) (edge : Bool) : Dev :=
  match d.phase with
  | .doze | .dozeEntry => (d.wakePend src).dozeExit false
  | .dormant => (d.wakePend src).onRequest
  | .railsDown => if edge then (d.wakePend src).latchOn else d
  | _ => d

/-- An edge stamped in the entry window [E − 3, E) is lost (R559). -/
def Dev.inWindow (d : Dev) (stamp : Nat) : Bool :=
  decide (d.wch.entryTick ≤ stamp + 3) && decide (stamp < d.wch.entryTick)

/-- A level that an input holds from tick `since` has held for `deb` ticks: the debounce window is half-open (R8, R558). -/
def Dev.held (d : Dev) (since deb : Nat) : Bool := decide (since + deb ≤ d.wch.ticks)

/-- WAKE_EDGE (R558, R559): the new level has held for DEB ticks; the event is stamped at the end of the debounce. -/
def execWakeEdge (i since : Nat) (s : State) : Host.Outcome State Fault Refusal :=
  act (okWakeEdge i since) s (fun d =>
    let deb := d.f (WCH_WAKECFG.DEB i)
    if !d.on (WCH_WAKECFG.EN i) || d.on (WCH_WAKECFG.LEVEL i) || !d.held since deb || (d.wch.entryTick != 0 && d.inWindow (since + deb)) then d
    else d.wake i true)

/-- WAKE_LEVEL (R558, R559): the input has held its active level for DEB ticks. -/
def execWakeLevel (i since : Nat) (s : State) : Host.Outcome State Fault Refusal :=
  act (okWakeLevel i since) s (fun d =>
    if d.on (WCH_WAKECFG.EN i) && d.on (WCH_WAKECFG.LEVEL i) && d.held since (d.f (WCH_WAKECFG.DEB i)) then d.wake i false else d)

/-- WAKE_RELEASE_OFF (R560): in Active or Doze, the release of a level input with OFFREQ, held for DEB ticks, is an off request. -/
def execWakeReleaseOff (i since : Nat) (s : State) : Host.Outcome State Fault Refusal :=
  act (okWakeReleaseOff i since) s (fun d =>
    if d.on (WCH_WAKECFG.EN i) && d.on (WCH_WAKECFG.LEVEL i) && d.on (WCH_WAKECFG.OFFREQ i) && d.held since (d.f (WCH_WAKECFG.DEB i)) then
      (match d.phase with
       | .active | .doze | .dozeEntry => d.offRequest false
       | _ => d)
    else d)

/-- WCH_ALARM (Table 15.3, Table 15.9): WCH_TICKS has reached TICK while the alarm is armed. -/
def execWchAlarm (s : State) : Host.Outcome State Fault Refusal :=
  act okWchAlarm s (fun d =>
    if d.phase != .watchOff && d.on WCH_ALARM.EN && d.f WCH_ALARM.TICK ≤ d.wch.ticks then (d.orF WCH_WAKESTAT.PEND 128).wake 7 false else d)

/-! ### Doze (R552 to R555) -/

/-- Nothing is in progress that keeps the device out of Doze (R348, R552, R586, R648). (DEDUCED, log entry 90.) -/
def Dev.quiet (d : Dev) : Bool :=
  !d.on SAF_STAT.HOVE && (List.range 2).all (fun p => d.f (DEV_PORTSTAT.RATE p) = 0 || d.on (DEV_PORTSTAT.L1 p)) &&
  d.ord.run.isEmpty && d.imgs.isEmpty && d.lljobs.isEmpty && d.hold.isEmpty && d.fe.isEmpty && d.points.all (fun p => p.tasks.isEmpty) &&
  d.engines.all (fun e => e.curTask.isNone && e.tickets.all (fun t => t.status.isSome)) && d.segs.all (fun x => x.2.state != 1) &&
  d.saving.isNone && !d.ckptReq && !d.pwr.bankDue && d.sdisc.isEmpty && d.rekey.isNone && d.sanitize.isNone && !d.on MODE_STAT.PENDING &&
  !(d.mLogline && (List.range 8).any (fun i => d.llOn i (LLN_CH.SAMPLE 0)))

/-- What ship's time passing does to the count of R552: an activity that keeps the device out of Doze restarts it. (DEDUCED, log entry 90.) -/
def Dev.watchQuiet (d : Dev) : Dev :=
  if d.phase == .active && !d.quiet then { d with wch := { d.wch with eligFrom := d.time } } else d

/-- The passing of ship's time on an empty queue. (DEDUCED, log entry 90.) -/
def Dev.pass (d : Dev) : Dev := d.idle.watchQuiet

/-- DOZE_ENTRY (R552): IDLE ticks have passed since a request, an L1 entry or the end of an order, and nothing is in progress.
(DEDUCED, log entry 90.) -/
def execDozeEntry (s : State) : Host.Outcome State Fault Refusal :=
  act okDozeEntry s (fun d =>
    if d.phase == .active && d.on WCH_DOZECFG.EN && d.quiet && d.wch.eligFrom + 65536 * Nat.max 1 (d.f WCH_DOZECFG.IDLE) ≤ d.time then
      { d.wdogPause with phase := .dozeEntry, wch := { d.wch with wdogHeld := d.wdogPause.wch.wdogHeld, gated := false } }
    else d)

/-- DOZE_REACHED (R553, R559, R562): entry ends at this tick, E, and the pads are held. -/
def execDozeReached (s : State) : Host.Outcome State Fault Refusal :=
  act okDozeReached s (fun d =>
    if d.phase != .dozeEntry then d
    else (({ d with
      phase := .doze
      wch := { d.wch with entryTick := d.wch.ticks, dozeFrom := d.wch.ticks, maint := false, dozeSpan := (d.time, d.time) }
      thm := { d.thm with media := d.thm.media.map (fun (x : Sensor) => { x with before := if x.read then some x.value else none, after := none }) }
      } : Dev).pllLocks 0).setF WCH_PADHOLD.HELD 1)

/-- PAD_HOLD_LATCH (R562): at E − 3 ticks of an entry, the held group is latched. -/
def execPadHoldLatch (s : State) : Host.Outcome State Fault Refusal :=
  act okPadHoldLatch s (fun d =>
    if d.phase == .dozeEntry || d.phase == .railsDown then
      ({ d with wch := { d.wch with entryTick := d.wch.ticks + 3 } } : Dev).setF WCH_PADHOLD.HELD 1
    else d)

/-- MAINTENANCE_WAKE (R554): 2,048 ticks after Doze was reached. What has fallen due then runs as commands of its own. -/
def execMaintenanceWake (s : State) : Host.Outcome State Fault Refusal :=
  act okMaintenanceWake s (fun d => if d.phase == .doze && d.wch.dozeFrom + 2048 ≤ d.wch.ticks then d.dozeExit true else d)

/-- DOZE_WAKE (R555): a wake event of Table 15.3 arrives in Doze. -/
def execDozeWake (src : Nat) (s : State) : Host.Outcome State Fault Refusal :=
  act (okDozeWake src) s (fun d => if d.phase == .doze then d.wake src true else d)

/-- QUIET_CLOCK_GATE (R501). Under LOGLINE the fabric clock is never gated; that the engine and media clocks of idle blocks then are gated
shows nowhere. -/
def execQuietClockGate (s : State) : Host.Outcome State Fault Refusal :=
  act okQuietClockGate s (fun d =>
    if d.phase == .active && d.mQuiet && !d.mLogline && d.wch.idleFrom + usUnits 20 ≤ d.time && d.imgs.isEmpty && d.lljobs.isEmpty && d.ord.run.isEmpty &&
        d.segs.all (fun x => x.2.state != 1) && d.engines.all (fun e => e.tickets.all (fun t => t.status.isSome)) &&
        d.engines.all (fun e => e.state == .asleep || e.state == .retired) then
      { d with wch := { d.wch with gated := true } }
    else d)

/-! ### The option-load phase (R571, R572) -/

/-- Step 1: the straps are latched (R529, Table 15.10). -/
def Dev.latchStraps (d : Dev) (straps : List Nat) : Dev :=
  let id := straps.getD 3 0
  let m := straps.getD 2 0
  let d := ({ d with wch := { d.wch with straps := straps } } : Dev).setF CLK_CFG.CLKMODE (straps.getD 1 0)
  ((d.setF SEQ_CFG.MASTER m).setF SEQ_CFG.ID id).setF SEQ_STAT.ID_BAD (b2n (m = 0 && id = 0))

/-- The counters of the counters area: offset and cells (Table 17.11). -/
def counterCells : List (Nat × Nat) := [(0, 4), (32, 5), (64, 4), (96, 2), (128, 2), (160, 2)]

/-- The newest power-log record of a kind. -/
def Dev.powerLast (d : Dev) (kind : Nat) : Option (List (BitVec 8)) :=
  ((List.range 128).filterMap (fun i => (d.powerPair i).1)).foldl (fun (acc : Option (List (BitVec 8))) r =>
    if fieldLe r 2 1 != kind then acc
    else match acc with
      | some a => if fieldLe a 4 4 < fieldLe r 4 4 then some r else acc
      | none => some r) none

/-- Step 3: the counters area is read, with its intents completed; the power-cycle count stands at the value that step 6 writes. -/
def Dev.readCounters (d : Dev) : Dev :=
  let d := ({ d with cycle := d.lbkCounter 0 4 + 1 } : Dev)
  let d := counterCells.foldl (fun d c => d.lbkIntent c.1 c.2) d
  let d := { d with cycle := (d.lbkCounter 0 4 + 1) % 2 ^ 32, opSec := d.lbkCounter 32 5 }
  let d := ((d.setF DEV_DSC.COUNT (d.lbkCounter 64 4)).setF PWR_CNT.BROWNOUTS (d.lbkCounter 96 2)).setF PWR_CNT.INCOMPLETE (d.lbkCounter 128 2)
  let d := (d.setF DECK_STAT.PTR (d.lbkCounter 160 2)).setF LBK_STAT.REG_LOCKED (b2n d.fuse)
  let (v, y, ok) := d.lbkCsnRead
  let ok := ok && y + 1 = d.cycle
  { d with nextCsn := if ok then v else 0, nextCsn2 := if ok then v else 0, wch := { d.wch with prevCycleCsnOk := ok } }

/-- Step 4: the power log (R538, Table 14.12). -/
def Dev.readPowerLog (d : Dev) : Dev :=
  let d := d.setF PWR_CNT.TORN (Nat.min d.powerTorn 255)
  let d := match d.powerNewest with
    | some r =>
      let n := fieldLe r 4 4
      (({ d with pwr := { d.pwr with plNext := n + 1 } } : Dev).setF PWR_LOG.SEQ (n % 2 ^ 24)).setF PWR_LOG.NEXT ((n + 1) % 128)
    | none => d
  match d.powerLast 4 with
  | some r => d.setF PWR_BANK.CAP (fieldLe r 28 2)
  | none => d

/-- Step 5: the Chart choice (R475, R476). -/
def Dev.chartStep (d : Dev) (boot : Nat) : Dev :=
  if boot = 0 then
    (match d.chooseChart with
     | (some x, _) => d.chartChosen (some x) 0 0
     | (none, cause) => d.chartChosen none 0 cause)
  else d.chartChosen none 0 (if boot = 1 then 4 else 5)

/-- Effective seconds of the ticks in Dormant, in 2^-16 s (R112). -/
def Dev.dormSecs (d : Dev) : Nat := d.f WCH_DORM.COUNT * accel d.dormT / 32768

/-- The start is warm (R572): the last shut-down was orderly, a full phase has run since Watch power-on, no Chart slot was written,
and BOOT reads as before. (DEDUCED, log entry 95.) -/
def Dev.warmStart (d : Dev) (boot : Nat) : Bool :=
  d.pwr.orderly && d.wch.fullLoaded && !d.chart.written.any id && d.wch.straps.getD 0 0 == boot

/-- The option-load phase (R571): an abbreviated phase takes from the Watch domain what a full one reads again, with the same
result. Then power-up begins. (DEDUCED, log entry 93.) -/
def Dev.optionLoad (d : Dev) (straps : List Nat) : Dev :=
  let boot := straps.getD 0 0
  let warm := d.warmStart boot
  let n := d.dormSecs
  let d := (((d.latchStraps straps).readCounters.readPowerLog).chartStep boot).setF WCH_STAT.WARM (b2n warm)
  let d := d.lbkSetCounter 0 4 d.cycle
  let d := if d.f WCH_CAUSE.CODE = 4 then d.safeLow.setF SAF_STAT.ESCALATED 1 else d
  { d with
    phase := .powerUp
    patchOn := d.patchNext
    chart := { d.chart with written := [false, false] }
    pwr := { d.pwr with orderly := false }
    seqb := { d.seqb with heard := false, optEnd := d.wch.ticks }
    wch := { d.wch with
      startKind := b2n warm, startAt := 0, fullLoaded := true
      dormAdd := List.replicate 16 n, eclkApart := d.wch.eclkApart.map (· + n) } }

/-- OPTION_LOAD (R566, R571, R572): straps BOOT, CLKMODE, SEQROLE (1 master), SEQ_ID. The phase does not begin while RESET_N is
low; BOOT 11 selects an image that is outside the manual (R572), and nothing is done. -/
def execOptionLoad (straps : List Nat) (s : State) : Host.Outcome State Fault Refusal :=
  act (okOptionLoad straps) s (fun d => if d.phase != .optLoad || d.wch.resetPin || straps.getD 0 0 = 3 then d else d.optionLoad straps)

/-! ### Fast clocks, self-test, media initialisation (R549, R551, R573, R574, R596) -/

/-- What the measurement of the PLL reference shows of the PHY references (Table 15.1): that of the port whose REFCLK it is, or of both where
they are the local crystal. -/
def Dev.measureRefs (d : Dev) (usable present : Bool) : Dev :=
  match d.f CLK_CFG.CLKMODE with
  | 0 => d.modHead 0 (fun x => { x with phyRef := usable })
  | 1 => d.modHead 1 (fun x => { x with phyRef := usable })
  | 2 => (d.modHead 0 (fun x => { x with phyRef := present })).modHead 1 (fun x => { x with phyRef := present })
  | _ => d

/-- REFERENCE_CHECK (R549): the reference is measured against the option-load oscillator. Where CLKMODE selects the local crystal,
the crystal found is the reference. (DEDUCED, log entry 92.) -/
def execReferenceCheck (usable present : Bool) (s : State) : Host.Outcome State Fault Refusal :=
  act (okReferenceCheck usable present) s (fun d =>
    if d.phase != .clocks || d.wch.pllRef then d
    else
      let ok := if 2 ≤ d.f CLK_CFG.CLKMODE then present else usable
      let d := (d.setF CLK_CFG.XF_PRESENT (b2n present)).measureRefs usable present
      let ref (d : Dev) : Dev := ({ d with wch := { d.wch with pllRef := true } } : Dev).setF WCH_STAT.NOREF 0
      if ok then ref d
      else if present then (ref (d.setF CLK_STAT.REF_FALLBACK 1)).post0 0x0F2
      else d.setF WCH_STAT.NOREF 1)

/-- PLL_LOCK (R551): the three fast PLLs lock. -/
def execPllLock (s : State) : Host.Outcome State Fault Refusal :=
  act okPllLock s (fun d =>
    if d.phase != .clocks || !d.wch.pllRef then d
    else ({ d with phase := .selfTest, wch := { d.wch with pllRef := false } } : Dev).pllLocks 1)

/-- A latent-fault test run has failed mechanisms (R598): their FAIL bits, event 0x101 each, and Hove-to where no twin passes. The
scope that a mechanism protects is taken as every line. (DEDUCED, log entry 85.) -/
def Dev.latentFails (d : Dev) (fails : Nat) : Dev :=
  let d := if fails % 2 ^ 26 = 0 then d else d.orF SAF_LFT.FAIL (fails % 2 ^ 26)
  (List.range 26).foldl (fun d i =>
    if !fails.testBit i then d
    else if fails.testBit (26 + i) then d.hovePost { code := 0x101 } 0xFFFF
    else d.post0 0x101) d

/-- The device is Becalmed and holds (R573, R594). -/
def Dev.becalm (d : Dev) : Dev :=
  let d := (({ d with phase := .becalmed } : Dev).post { code := 0x0F4, detail := leBytes 1 (d.f ORD_CHART.CAUSE) }).safeRelease
  if d.on PWR_STAT.OFF_LATCH then d.beginDown 0 else d

/-- The mechanisms that Table 16.3 marks S, by their place in the table, in both halves of a result word: all but the scrub and the
capacitance test. -/
def startMask : Nat := (((List.range 26).filter (fun i => i != 7 && i != 18)).foldl (fun m i => m + 2 ^ i + 2 ^ (26 + i)) 0)

/-- BUILT_IN_SELF_TEST (R573, R596, R598): the start's latent-fault tests, whose passing clears FAIL; then media initialisation, or Becalmed. -/
def execBuiltInSelfTest (fails : Nat) (s : State) : Host.Outcome State Fault Refusal :=
  act (okBuiltInSelfTest fails) s (fun d =>
    if d.phase != .selfTest then d
    else
      let fails := Nat.land fails startMask
      let d := if fails % 2 ^ 26 = 0 then d.setF SAF_LFT.FAIL 0 else d.latentFails fails
      if d.noChart then d.becalm else { d with phase := .mediaInit })

/-- MEDIA_INITIALISATION (R104, R575): every die link trains in full; once none trains any longer, recovery begins. -/
def execMediaInitialisation (s : State) : Host.Outcome State Fault Refusal :=
  act okMediaInitialisation s (fun d =>
    if d.phase != .mediaInit then d
    else if (List.range 16).any (fun n => d.f (PNT_LINK.STATE n) = 0) then
      (List.range 16).foldl (fun d n => if d.f (PNT_LINK.STATE n) = 0 then d.setF (PNT_LINK.STATE n) 1 else d) d
    else if (List.range 16).any (fun n => d.f (PNT_LINK.STATE n) = 1) then d
    else { d with phase := .recovery })

/-! ### Active (R576, R577) -/

/-- Active is reached: `late` when no host link came up (R577). -/
def Dev.goActive (d : Dev) (late : Bool) : Dev :=
  let d : Dev := { d with
    phase := .active
    pwr := { d.pwr with faultRail := none }
    wch := { d.wch with wdogAt := d.time, wdogHeld := none, idleFrom := d.time, eligFrom := d.time, maint := false }
    groups := d.groups.map (fun (g : Group) => if g.st = 1 then { g with closedAt := d.time } else g)
    ord := { d.ord with startup := d.chart.pendingOrders, startupIdx := 0 }
    chart := { d.chart with pendingOrders := [] } }
  let kind := d.wch.startKind + (if late then 128 else 0)
  let d := (((d.countersRec 1).restartClears.padAuto).safeRelease).setF THM_STAT.THERMAL 0
  let d := d.post { code := 0x0F0, detail := leBytes 2 (d.reg 0x500) ++ leBytes 1 kind ++ leBytes 1 0 ++ leBytes 4 (toUs (d.time - d.wch.startAt)) }
  if d.on PWR_STAT.OFF_LATCH then d.beginOrderly else d

/-- ACTIVE_REACHED (R576): the first host link is in L0. -/
def execActiveReached (p : Nat) (s : State) : Host.Outcome State Fault Refusal :=
  act (okActiveReached p) s (fun d => if d.phase == .linkTrain && d.inL0 p then d.goActive false else d)

/-- NO_LINK_TIMEOUT (R577): no host link has reached L0 within 1 s. -/
def execNoLinkTimeout (s : State) : Host.Outcome State Fault Refusal :=
  act okNoLinkTimeout s (fun d =>
    if d.phase == .linkTrain && !d.inL0 0 && !d.inL0 1 && d.wch.linkWaitFrom + secUnits 1 ≤ d.time then d.goActive true else d)

end Sys2Proof.Machine
end

