-- ==== Sys2Proof/Machine/Inject.lean ====
section
/-! DEFINITION. What the safety mechanisms do on a detection that no other chapter describes (R591, R593, R595), and fault injection (R599). -/

namespace Sys2Proof.Machine

/-- A clock failure of R593 acts in Active: SAFE_N goes low, and every line is in Hove-to, with event 0x104. -/
def Dev.clockFail (d : Dev) : Dev := d.safeLow.hovePost { code := 0x104 } 0xFFFF

/-- The two counters of the commit sequencer, or the two copies of the home map, do not agree (R591). -/
def Dev.pairMismatch (d : Dev) : Dev := d.hovePost { code := 0x105 } 0xFFFF

/-- The level of SAFE_N read back differs from the level driven (R595). -/
def Dev.readbackFail (d : Dev) : Dev := (d.setF SAF_STAT.SAFEN_RB 1).post { code := 0x102 } (some 5)

/-- What the fault that SAF_INJ injects into mechanism `mech` (a row of Table 16.3) and instance `inst` does at once, where it is detected
without an access: as the real fault does (R599). None: it stands until an access finds it, and that access's own command says so. A VS
value out of its window is a free value. (DEDUCED, log entry 100.) -/
def Dev.injectAct (d : Dev) (mech inst : Nat) : Option Dev :=
  match mech with
  | 3 => if inst < 16 && d.linkUp inst then some (d.resendFirst inst 1) else none
  | 8 | 9 => some d.pairMismatch
  | 11 => if inst < 4 then some (d.crossbarFail inst) else none
  | 12 => some d.keyFail
  | 13 => if inst < 16 && d.mLockstep then some (d.engFault inst) else none
  | 15 => some (d.detect 0)
  | 16 =>
    if inst < 6 && d.pwr.enables.testBit inst then (let (v, d) := d.draw; some (d.railFaulted inst 2 (v.toNat % (vsWindow inst).1))) else none
  | 17 => some d.bankLow
  | 18 => some ((d.setF PWR_BANK.PASS 0).holdupLost 0x0E7)
  | 19 => if d.phase == .active then some d.clockFail else none
  | 20 => if d.on WCH_STAT.XTAL then some d.crystalFails else none
  | 21 => some d.escalate
  | 22 => some d.readbackFail
  | 24 => if inst < 16 then some (d.engFault inst) else none
  | _ => none

/-- A write to SAF_INJ (R599): only while SURVEY is in force. A fault that would stop the engine which writes stands until that write is
done. (DEDUCED, log entry 100.) -/
def Dev.safInj (d : Dev) (by_ mech inst : Nat) : Dev :=
  let own := decide (3 ≤ by_) && (mech == 13 || mech == 24) && (d.pairOf (by_ - 3)).contains inst
  if !d.mSurvey then d
  else match if own then none else d.injectAct mech inst with
    | some d' => d'
    | none => { d with saf := { d.saf with inj := d.saf.inj ++ [(mech, inst)] } }

end Sys2Proof.Machine
end

