-- ==== Sys2Proof/Machine/Seq.lean ====
section
/-! DEFINITION. The sequencing bus: frames that a slave receives and that a master sends (chapter 14). -/

namespace Sys2Proof.Machine

/-! ### The slave (R529 to R532) -/

/-- The device takes part in the bus as a slave (R529). -/
def Dev.seqSlave (d : Dev) : Bool := d.phase != .watchOff && d.wch.straps.getD 2 0 = 0 && d.wch.straps.getD 3 0 != 0

/-- A valid frame for this slave: acknowledged, and noted for R534. -/
def Dev.seqAck (d : Dev) : Dev := ({ d with seqb := { d.seqb with heard := true, lastFrame := d.wch.ticks } } : Dev).send (.seq [])

/-- A frame with an acknowledge, where the slave accepts it; else the acknowledge bit stays high and nothing happens (R531). -/
def Dev.seqFrame (d : Dev) (accept : Bool) (f : Dev → Dev) : Dev := if d.seqSlave && !d.seqDaLow && accept then f d.seqAck else d

/-- STEP (Table 14.8, R533): STEP 1 in Dormant is an on request; in power-up the step is admitted. -/
def execStep (k : Nat) (s : State) : Host.Outcome State Fault Refusal :=
  act (okStep k) s (fun d =>
    let accept := match d.phase with
      | .dormant => k == 1
      | .powerUp => decide (1 ≤ k) && decide (k ≤ 6) && decide (k ≤ d.railsOn + 1)
      | _ => false
    d.seqFrame accept (fun d =>
      let d := { d with seqb := { d.seqb with step := Nat.max k d.seqb.step } }
      if d.phase == .dormant then (d.wakePend 6).onRequest else d))

/-- DOWN (Table 14.8, R523): an off request. -/
def execDown (s : State) : Host.Outcome State Fault Refusal := act okDown s (fun d => d.seqFrame true (fun d => d.offRequest true))

/-- FLUSH (Table 14.8, R536): taken as brownout detected. -/
def execFlush (s : State) : Host.Outcome State Fault Refusal := act okFlush s (fun d => d.seqFrame true (fun d => d.detect 2))

/-- SEQ_FIX (Table 14.8, R605): a Fix of source bit 7, whose argument is recorded. -/
def execSeqFix (arg : Nat) (s : State) : Host.Outcome State Fault Refusal :=
  act (okSeqFix arg) s (fun d => d.seqFrame d.fixOn (fun d => (d.setF FIX_SRC.SEQARG arg).fix 7))

/-- The SEQ status word (Table 14.9). -/
def Dev.seqStatus (d : Dev) : Nat :=
  let st := d.f PWR_STAT.STEP
  d.stage * 4096 + st * 512 + bitIf 8 (st != 0 && (d.f PWR_STAT.PG).testBit (st - 1)) + bitIf 7 (d.pwr.attempts != 0) +
    bitIf 6 (d.phase == .becalmed) + bitIf 5 (d.phase == .becalmed && d.f ORD_CHART.CAUSE == 5) + bitIf 4 d.seqb.chartErr +
    bitIf 3 (d.on SAF_STAT.HOVE) + bitIf 2 d.mHoldup + bitIf 1 (d.on PWR_STAT.OFF_LATCH) + bitIf 0 (d.on SEQ_STAT.ORPHAN)

/-- STATUS (Table 14.8): the status word, most significant byte first, and its CRC-8. -/
def execStatus (s : State) : Host.Outcome State Fault Refusal :=
  act okStatus s (fun d => d.seqFrame true (fun d =>
    let b := (leBytes 2 d.seqStatus).reverse
    d.send (.seq (b ++ [crc8 b]))))

/-- The slot that a transferred Chart goes to (R476): an invalid one, else the one of lower sequence. -/
def Dev.seqSlot (d : Dev) : Nat :=
  if !d.slotValid 0 then 0 else if !d.slotValid 1 then 1 else if d.slotSeq 0 < d.slotSeq 1 then 0 else 1

/-- CHART (Table 14.8, R476, R532): a block of 256 B with its CRC-16, or the check of the slot. -/
def execChart (blk : Nat) (data : List Byte) (crc : Nat) (s : State) : Host.Outcome State Fault Refusal :=
  act (okChart blk data crc) s (fun d =>
    let await := d.phase == .becalmed && d.f ORD_CHART.CAUSE == 5
    if !d.seqSlave || !await || (511 < blk && blk != 0xFFFF) then d
    else if blk = 0xFFFF then
      let d := d.seqAck
      match d.chooseChart.1 with
      | some sl => ((({ d with seqb := { d.seqb with chartErr := false } } : Dev).setF SEQ_STAT.CHART_DONE 1).endBecalmed sl 2)
      | none => { d with seqb := { d.seqb with chartErr := true } }
    else if crc16Link data != crc then ({ d with seqb := { d.seqb with chartErr := true } } : Dev).cnt SEQ_ERR.CRC_ERR
    else
      let sl := d.seqSlot
      let (ok, d) := d.lbkWrite (slotSize * sl + 256 * blk) data
      if ok then
        ({ d with chart := { d.chart with written := listSet d.chart.written sl true }, seqb := { d.seqb with chartErr := false } } : Dev).seqAck
      else d)

/-- LINE_FLUSH (R535): SEQ_DA, not held by the device itself, is low for 5 µs without an edge of SEQ_CK. -/
def execLineFlush (s : State) : Host.Outcome State Fault Refusal :=
  act okLineFlush s (fun d => if d.seqDaLow || d.phase == .watchOff then d else (d.setF SEQ_STAT.LINE_FLUSH 1).detect 1)

/-- SEQ_ORPHAN (R534): a slave that has heard no frame within 1 s of the end of option load powers up alone. -/
def execSeqOrphan (s : State) : Host.Outcome State Fault Refusal :=
  act okSeqOrphan s (fun d =>
    if d.seqSlave && d.phase == .powerUp && !d.seqb.heard && !d.seqb.orphaned && decide (d.seqb.optEnd + 32768 ≤ d.wch.ticks) then
      (({ d with seqb := { d.seqb with orphaned := true } } : Dev).setF SEQ_STAT.ORPHAN 1).post0 0x0EB
    else d)

/-! ### The master (R530 to R533) -/

/-- The bytes of a frame: address, command, argument with its high byte first, CRC-8 (R530). -/
def seqBytes (addr cmd arg : Nat) : List (BitVec 8) :=
  let b := leBytes 1 addr ++ leBytes 1 cmd ++ (leBytes 2 arg).reverse
  b ++ [crc8 b]

/-- The master sends a frame. -/
def Dev.seqSend (d : Dev) (addr cmd arg : Nat) : Dev := d.send (.seq (seqBytes addr cmd arg))

/-- A slave is failed (R531): its bit, the count, event 0x0EA. -/
def Dev.seqFail (d : Dev) (i : Nat) : Dev :=
  let d := (d.orF SEQ_STAT.FAILED (2 ^ i)).cnt SEQ_ERR.NOACK
  ({ d.setF (SEQ_RESP.NOACK i) 1 with seqb := { d.seqb with pending := none, tries := 0 } } : Dev).post0 0x0EA

/-- SEQ_NOACK (R531): a frame to a slave is not acknowledged: repeated up to three times, then the slave is failed. -/
def execSeqNoack (addr cmd : Nat) (s : State) : Host.Outcome State Fault Refusal :=
  act (okSeqNoack addr cmd) s (fun d =>
    if !d.on SEQ_CFG.MASTER || addr = 0 || (d.f SEQ_STAT.FAILED).testBit addr then d
    else
      let n := match d.seqb.pending with
        | some (a, c, _) => if a = addr && c = cmd then d.seqb.tries + 1 else 1
        | none => 1
      if n ≥ 4 then d.seqFail addr
      else
        ({ d with seqb := { d.seqb with pending := some (addr, cmd, 0), tries := n } } : Dev).cnt SEQ_ERR.RETRIES)

/-- A slave's status word is recorded (Table 14.13). -/
def Dev.seqResp (d : Dev) (i w : Nat) : Dev :=
  let d := ((d.setF (SEQ_RESP.STATUS i) w).setF (SEQ_RESP.VALID i) 1).setF (SEQ_RESP.NOACK i) 0
  { d with seqb := { d.seqb with pending := none, tries := 0 } }

/-- Transfer the Chart in force to a slave that awaits one: its blocks in order, then the check (R532). (DEDUCED, log entry 81.) -/
def Dev.seqChart (d : Dev) (i w : Nat) : Dev :=
  match d.chart.slot with
  | some sl =>
    if !w.testBit 5 || (assocGet i d.seqb.chartNext).isSome then d
    else
      let n := (d.slotLen sl + 255) / 256
      let d := (List.range n).foldl (fun d b =>
        let data := d.slotRead sl (256 * b) 256
        d.send (.seq (seqBytes (0xA0 + i) 6 b ++ data ++ (leBytes 2 (crc16Link data)).reverse))) d
      let d := (d.seqSend (0xA0 + i) 6 0xFFFF).setF SEQ_STAT.CHART_DONE 1
      { d with seqb := { d.seqb with chartNext := assocSet i n d.seqb.chartNext } }
  | none => d

/-- The slaves that answer are recorded, and step 1 of the group starts (R532, R533). (DEDUCED, log entry 80.) -/
def Dev.discover (d : Dev) (resp : List (Option Nat)) : Dev :=
  let d := (List.range 7).foldl (fun d j =>
    let d := d.seqSend (0xA1 + j) 5 0
    match resp.getD j none with
    | some w => ((d.orF SEQ_STAT.PRESENT (2 ^ (j + 1))).seqResp (j + 1) w).seqChart (j + 1) w
    | none => d.setF (SEQ_RESP.NOACK (j + 1)) 1) d
  ({ d with seqb := { d.seqb with step := 1, lastFrame := d.wch.ticks } } : Dev).seqSend 0xAF 1 1

/-- SEQ_DISCOVERY (R532): at the end of option load the master asks addresses A1h to A7h for their status, records the slaves
that answer, transfers its Chart where one is awaited, and starts the group's first step (R533). -/
def execSeqDiscovery (resp : List (Option Nat)) (s : State) : Host.Outcome State Fault Refusal :=
  act (okSeqDiscovery resp) s (fun d =>
    if !d.on SEQ_CFG.MASTER || d.phase != .powerUp || d.railsOn != 0 || d.seqb.step != 0 then d
    else
      d.discover resp)

/-- The slaves that the master still waits for. -/
def Dev.seqActive (d : Dev) : List Nat := ((List.range 8).filter (fun i => (d.f SEQ_STAT.PRESENT).testBit i && !(d.f SEQ_STAT.FAILED).testBit i))

/-- The time in ticks after which a slave that has not reported PG_OK is failed: its PG timeout and 1 ms (R533). -/
def seqLate (k : Nat) : Nat := if k ≤ 4 then 66 else 99

/-- A poll of the group, and the next step where every slave and the master itself are ready (R533). -/
def Dev.pollGroup (d : Dev) (resp : List (Option Nat)) : Dev :=
  let k := d.seqb.step
  let late := decide (d.seqb.lastFrame + seqLate k ≤ d.wch.ticks)
  let d := d.seqActive.foldl (fun d i =>
    let d := d.seqSend (0xA0 + i) 5 0
    match resp.getD (i - 1) none with
    | none => d.seqFail i
    | some w =>
      let d := (d.seqResp i w).seqChart i w
      let ready := w.testBit 8 && w / 512 % 8 == k
      if w.testBit 7 || (late && !ready) then d.seqFail i else d) d
  let ready := d.seqActive.all (fun i => let w := d.f (SEQ_RESP.STATUS i); w.testBit 8 && w / 512 % 8 == k)
  if ready && d.railsOn = k && d.pwr.ramp.isNone && k < 6 then
    ({ d with seqb := { d.seqb with step := k + 1, lastFrame := d.wch.ticks } } : Dev).seqSend 0xAF 1 (k + 1)
  else d

/-- SEQ_GROUP_POLL (R533): the status of every present, unfailed slave; once all report the step with PG_OK, and the master's own
is done, the next step starts. -/
def execSeqGroupPoll (resp : List (Option Nat)) (s : State) : Host.Outcome State Fault Refusal :=
  act (okSeqGroupPoll resp) s (fun d =>
    if !d.on SEQ_CFG.MASTER || d.phase != .powerUp || d.seqb.step = 0 then d
    else
      d.pollGroup resp)

/-- Whether the master may send a frame to an address: every slave, or a slave that is not failed (R531). -/
def Dev.seqMaySend (d : Dev) (addr : Nat) : Bool :=
  d.on SEQ_CFG.MASTER && (addr == 0xAF || (decide (0xA1 ≤ addr) && decide (addr ≤ 0xA7) && !(d.f SEQ_STAT.FAILED).testBit (addr - 0xA0)))

/-- SEQ_CMD_FIX (Table 14.13): a master sends a FIX frame. -/
def execSeqCmdFix (by_ addr arg : Nat) (s : State) : Host.Outcome State Fault Refusal :=
  act (okSeqCmdFix by_ addr arg) s (fun d => if d.mayWrite by_ && d.seqMaySend addr then d.seqSend addr 4 arg else d)

/-- SEQ_CMD_STATUS (Table 14.13): a master sends a STATUS frame and records the reply; with none after four attempts the slave is
failed. -/
def execSeqCmdStatus (by_ addr : Nat) (resp : Option Nat) (s : State) : Host.Outcome State Fault Refusal :=
  act (okSeqCmdStatus by_ addr resp) s (fun d =>
    if d.mayWrite by_ && d.seqMaySend addr then
      let d := d.seqSend addr 5 0
      if addr = 0xAF then d
      else match resp with
        | some w => (d.seqResp (addr - 0xA0) w).seqChart (addr - 0xA0) w
        | none => d.seqFail (addr - 0xA0)
    else d)

end Sys2Proof.Machine
end

