-- ==== Sys2Proof/Machine/HelmSpace.lean ====
section
/-! DEFINITION. The Helm space: reads and writes of its registers by the ports, I3C and the engines (R328 to R336, and the write
rules of each chapter's registers). Requesters: 0 Port W, 1 Port E, 2 I3C, 3 + e engine e. -/

namespace Sys2Proof.Machine

/-! ### Access codes (R4, R332) -/

/-- The value of a register after a write of `v` to the bits of `mask`: RW, W1C, W1S, and RWL where it is not locked. -/
def RegRow.merge (r : RegRow) (locked : Bool) (old v mask : Nat) : Nat :=
  let set := Nat.land (Nat.lor r.rw (if locked then 0 else r.rwl)) mask
  let kept := old - Nat.land old (Nat.lor set (Nat.land (Nat.land r.w1c mask) v))
  Nat.lor (Nat.lor kept (Nat.land v set)) (Nat.land (Nat.land r.w1s mask) v)

/-! ### Writes that are ignored -/

/-- The seven weights of PNT_ARB obey R60. (DESIGN CHOICE, log entry 116.) -/
def arbGood (v : Nat) : Bool :=
  let w := (List.range 7).map (fun i => bits v (6 * i) 6)
  w.foldr (· + ·) 0 == 64 && decide (16 ≤ bits v 0 6) && w.all (fun x => decide (1 ≤ x))

/-- The stream holds a byte at or above FLOOR, a tail line or a window (R352). -/
def Stream.holds (x : Stream) : Bool := decide (x.floor < x.pos.end_) || !x.tail.isEmpty || !x.windows.isEmpty

/-- How many enabled streams have a non-zero PRE, stream `s` left out (R391). -/
def Dev.preStreams (d : Dev) (s : Nat) : Nat :=
  d.regs.countP (fun x => 0x8000 ≤ x.1 && x.1 < 0x10000 && x.1 != 0x8000 + 8 * s && x.2.getLsbD 0 && bits x.2.toNat 20 10 != 0)

/-- Why a write that would leave a register at `new` is ignored, as what the ignored write does: the checks of R60, R95, R134, R179,
R214, R256, R352, R391, R540 and R650. A limit out of range sets LIMIT_REJ whether the field is locked or not. None: the write takes effect.
(DEDUCED, log entry 72.) -/
def Dev.regRefuse (d : Dev) (off old new v : Nat) (lim : Bool) : Option Dev :=
  let f (lo w : Nat) : Nat := bits new lo w
  let g (x : Fld) : Nat := bits new x.lo x.w
  let no (bad : Bool) : Option Dev := if bad then some d else none
  if off = 0x204 then
    no (f 16 8 < 80 || 200 < f 16 8 || f 8 8 < 20 || 36 < f 8 8 || f 0 8 < 50 || 90 < f 0 8 || 10 * f 8 8 ≤ f 16 8)
  else if off = 0x248 then no (f 16 16 < 100 || 2000 < f 16 16 || f 0 16 < 47 || 1000 < f 0 16)
  else if off = 0x3008 then
    (if lim && (bits v 0 32 < 1000000 || 200000000 < bits v 0 32) then some (d.setF PNT_RETIRE.LIMIT_REJ 1) else none)
  else if 0x3100 ≤ off && off < 0x3140 then no (f 24 8 < 8 || 128 < f 24 8)
  else if 0x3180 ≤ off && off < 0x3200 then
    (if arbGood new then none else some (d.setF (PNT_STAT.ARB_REJ ((off - 0x3180) / 8)) 1))
  else if off = 0x3808 then no (g DRF_REFRESH.MARGIN ≤ g DRF_REFRESH.URGENT)
  else if off = 0x380C then
    no (g DRF_SAMPLE.PERIOD < 1 || 3600 < g DRF_SAMPLE.PERIOD ||
      g DRF_SAMPLE.READS < 256)
  else if off = 0x3C00 then
    no (g OVL_CTL.FOLD_SECT < 2 || 15 < g OVL_CTL.FOLD_SECT ||
      g OVL_CTL.REMAP_MIN < 8 || 15 < g OVL_CTL.REMAP_MIN)
  else if off = 0x3C04 then
    no (g OVL_MARK.HIGH ≤ g OVL_MARK.LOW || 16384 < g OVL_MARK.HIGH)
  else if off = 0x3E00 then
    no (g MAP_CTL.CKPT_PERIOD < 100 || 4000 < g MAP_CTL.CKPT_PERIOD ||
      g MAP_CTL.CKPT_LOGS < 4 || 64 < g MAP_CTL.CKPT_LOGS ||
      g MAP_CTL.DIRTY_MAX < 4 || 8 < g MAP_CTL.DIRTY_MAX)
  else if off = 0x4000 then no (g WLV_CTL.SPREAD < 100000)
  else if 0x8A0 ≤ off && off < 0x8E0 then no (decide (toSigned 16 (f 48 16) ≤ toSigned 16 (f 32 16)))
  else if 0xA40 ≤ off && off < 0xA80 then no (f 0 16 < 20 || 1000 < f 0 16 || f 40 12 < f 52 12)
  else if 0x8000 ≤ off then
    let s := (off - 0x8000) / 8
    let x := d.stm s
    if ((bits old 0 1 != bits new 0 1 || bits old 2 1 != bits new 2 1) && x.holds) || (bits old 0 1 == 0 && bits new 0 1 == 1 && !x.valid) then
      some (d.setF STR_GSTAT.CTL_REJ 1)
    else if bits new 0 1 == 1 && bits new 20 10 != 0 && !(bits old 0 1 == 1 && bits old 20 10 != 0) && d.preStreams s ≥ 64 then
      some (d.setF STR_GSTAT.PRE_REJ 1)
    else none
  else none

/-! ### What a write does beyond its register -/

/-- RELEASE (R563, R564): the pad hold ends, but for one whose latch falls in the same tick. -/
def Dev.padRelease (d : Dev) : Dev := if d.wch.entryTick = d.wch.ticks + 3 then d else d.setF WCH_PADHOLD.HELD 0

/-- A helm kick of the chip watchdog (Table 15.5). -/
def Dev.wdogKick (d : Dev) : Dev :=
  { d with wch := { d.wch with wdogAt := d.time, wdogHeld := d.wch.wdogHeld.map (fun _ => 0) } }

/-- VHOLD is written (R517): E follows from the last measured C; a result below 90 mJ acts as a failed test. PASS waits for the first
test of the start. (DEDUCED, log entry 96.) -/
def Dev.vholdSet (d : Dev) : Dev :=
  let pass := d.pwr.bankDone
  let e := d.setEnergy (d.f PWR_BANK.CAP)
  if !pass then e.setF PWR_BANK.PASS 0
  else if e.on PWR_BANK.PASS then e
  else e.holdupLost 0x0E7

/-- Show how many streams are enabled, and how many of them have a non-zero PRE (Table 10.9). -/
def Dev.strCounts (d : Dev) : Dev :=
  let en := d.regs.countP (fun x => 0x8000 ≤ x.1 && x.1 < 0x10000 && x.2.getLsbD 0)
  (d.setF STR_GSTAT.ENABLED en).setF STR_GSTAT.PRE_STREAMS (d.preStreams 4096)

/-- STR_ACT (Table 10.10): a trigger with the time of STR_TRIGTIME (R389), or a queue reset (R385), of an enabled stream. -/
def Dev.strAct (d : Dev) (act s : Nat) : Dev :=
  if act = 1 then (if d.on (STR_CTL.EN s) then (d.trigger s (d.reg 0x4650) false).2 else d)
  else if act = 2 then (if d.on (STR_CTL.EN s) then d.queueReset s else d)
  else d

/-- SEQ_CMD (Table 14.13): a master sends a FIX or a STATUS frame. The answer to STATUS comes with the row SEQ_CMD_STATUS.
(DEDUCED, log entry 97.) -/
def Dev.seqCmd (d : Dev) (v : Nat) : Dev :=
  let a := bits v 24 8
  let c := bits v 16 8
  if d.seqMaySend a && (c = 4 || c = 5) then d.seqSend a c (bits v 0 16) else d

/-- PWR_CTL (Table 14.12): an off request, and a bank test that falls due. -/
def Dev.pwrCtl (d : Dev) (v : Nat) : Dev :=
  let d : Dev := if v.testBit 1 then ({ d with pwr := { d.pwr with bankDue := true } } : Dev).setF PWR_CTL.BANKTEST 1 else d
  if v.testBit 0 then d.offRequest false else d

/-- The effects of a write beyond the register's new value. The alarm stays pending until its EN is cleared (Table 15.9). A write to STR_CTL takes effect at the stream's next join (R352); one that
changes EN or FRAMED, or of a stream not enabled, which holds nothing that could join, at once. (DEDUCED, log entry 173.) -/
def Dev.regAct (d : Dev) (by_ off old new v : Nat) : Dev :=
  if off = 0x18 then { d with locked := setAdd off d.locked }
  else if off = 0x204 then (if bits old 8 8 = bits new 8 8 then d else d.vholdSet)
  else if off = 0x408 then d.seqCmd v
  else if off = 0x518 then (if bits old 7 1 = 1 && d.on WCH_ALARM.EN then d.orF WCH_WAKESTAT.PEND 128 else d)
  else if off = 0x520 then
    (if d.on WCH_ALARM.EN then d else d.setF WCH_WAKESTAT.PEND (d.f WCH_WAKESTAT.PEND - d.f WCH_WAKESTAT.PEND / 128 % 2 * 128))
  else if off = 0x538 then (if v.testBit 1 then d.padRelease else d)
  else if off = 0x700 then (if 2 ≤ by_ && bits v 16 16 = 0xB0A7 && v.testBit 0 then d.resetAccept 7 else d)
  else if off = 0x708 then (if 3 ≤ by_ then d.wdogKick else d)
  else if off = 0xA00 then { d with ll := { d.ll with checkDue := true } }
  else if 0xA40 ≤ off && off < 0xA80 then d.llKeep off old
  else if off = 0xC20 then
    d.safInj by_ (bits v 16 8) (bits v 0 16)
  else if off = 0x1000 then (if v.testBit 0 then d.fix 3 else d)
  else if off = 0x2400 then { d with deck := { d.deck with tallyFrom := d.time, tallyLast := 0 } }
  else if 0x2440 ≤ off && off < 0x24F0 then (List.range 4).foldl (fun d m => d.setReg (0x2500 + 8 * (off - 0x2440 + m)) 0) d
  else if 0x3100 ≤ off && off < 0x3140 then d.floorReg ((off - 0x3100) / 4)
  else if off = 0x4658 then d.strAct (bits v 24 8) (bits v 0 12)
  else if 0x8000 ≤ off then
    (if bits old 0 1 != bits new 0 1 || bits old 2 1 != bits new 2 1 || bits new 0 1 == 0 then d.modStm ((off - 0x8000) / 8) (fun x => { x with ctl := new }) else d).strCounts
  else d

/-- Write the bits of `mask` of the register at `off` (R332), as a requester that is let in. -/
def Dev.regWrite (d : Dev) (by_ off mask v : Nat) : Dev :=
  match regRow? off with
  | none => d
  | some r =>
    let old := d.reg off
    let lim := Nat.land mask 0xFFFFFFFF != 0
    if off = 0x200 then d.pwrCtl v
    else if 0x5000 ≤ off && off < 0x5030 && off % 16 = 0 then d.sqTail ((off - 0x5000) / 16) v
    else if 0x5000 ≤ off && off < 0x5030 && off % 16 = 4 then d.cqHead ((off - 0x5000) / 16) v
    else if 0x4080 ≤ off && off < 0x4100 then
      (if 3 ≤ by_ then d.setReg off (old - Nat.land old mask + Nat.land v mask) else d)
    else
      let new := r.merge (d.locked.contains off) old v mask
      match d.regRefuse off old new v lim with
      | some d => d
      | none =>
        let d := d.setReg off new
        let d := if off = 0x3008 && lim then { d with locked := setAdd off d.locked } else d
        d.regAct by_ off old new v

/-- Ring and place within it of an offset of the order rings' memory (R458): ring and byte of a submission ring. (DEDUCED, log entry 73.) -/
def sqPlace (off : Nat) : Option (Nat × Nat) :=
  if 0x5800 ≤ off && off < 0x7000 && (off - 0x5800) % 0x800 < 0x400 then some ((off - 0x5800) / 0x800, (off - 0x5800) % 0x800) else none

/-- Write a word into an entry of a submission ring. -/
def Dev.sqWrite (d : Dev) (r byte n v : Nat) : Dev :=
  let i := 16 * r + byte / 64
  let e := padTo 64 (d.ord.sq.getD i [])
  let k := byte % 64
  { d with ord := { d.ord with sq := listSet d.ord.sq i (e.take k ++ leBytes n v ++ e.drop (k + n)) } }

/-- A 32-bit write (R330, R332). -/
def Dev.helm32 (d : Dev) (by_ off v : Nat) : Dev :=
  match sqPlace off with
  | some (r, k) => d.sqWrite r k 4 v
  | none =>
    match regRow? off with
    | none => d
    | some r =>
      let base := r.at off
      if r.width = 64 && off ≠ base then d.regWrite by_ base (0xFFFFFFFF * 2 ^ 32) (v * 2 ^ 32) else d.regWrite by_ base 0xFFFFFFFF v

/-- A write of `width` bits (R330): naturally aligned, 32 or 64 bits; anything else is ignored. -/
def Dev.helmWrite (d : Dev) (by_ off width v : Nat) : Dev :=
  if width = 32 && off % 4 = 0 then d.helm32 by_ off (v % 2 ^ 32)
  else if width = 64 && off % 8 = 0 then
    match sqPlace off with
    | some (r, k) => d.sqWrite r k 8 v
    | none =>
      if (regRow? off).any (fun r => r.width = 64) then d.regWrite by_ off (2 ^ 64 - 1) (v % 2 ^ 64)
      else (d.helm32 by_ off (v % 2 ^ 32)).helm32 by_ (off + 4) (v / 2 ^ 32 % 2 ^ 32)
  else d

/-! ### Reads -/

/-- The value that a register shows to a requester, where it is not as stored: DEV_ID.HEAD (R336), the views of the Watch domain, of
the newest Fix (R607), of the deck buffer, of the log-line writer and of the selected stream. -/
def Dev.regShow (d : Dev) (by_ off : Nat) : Nat :=
  if off = 0 then setBits (d.reg 0) 8 2 (Nat.min by_ 3)
  else if off = 0x208 then d.pwrStat
  else if 0x3040 ≤ off && off < 0x3080 then d.pntStat ((off - 0x3040) / 4)
  else if off = 0x3008 then setBits (d.reg off) 33 1 (b2n (decide (100000000 < bits (d.reg off) 0 32)))
  else if off = 0x230 then
    setBits (d.reg 0x230) 16 16 (if d.pwr.bankDone then Nat.min ((d.time - d.pwr.bankTestAt) / 2147483648) 65535 else 65535)
  else if off = 0x528 then d.wch.ticks
  else if off = 0xA04 then setBits (setBits (d.reg 0xA04) 0 1 (b2n d.llRecording)) 8 8 d.llActive
  else if 0xE00 ≤ off && off < 0xF00 then d.deck.snaps.getD (256 + (off - 0xE00) / 8) 0
  else if 0x1100 ≤ off && off < 0x1200 then d.deck.snaps.getD (288 + (off - 0x1100) / 8) 0
  else if 0x1800 ≤ off && off < 0x2000 then d.deck.snaps.getD ((off - 0x1800) / 8) 0
  else if off = 0x2008 then setBits (d.reg 0x2008) 32 16 (bufBytes d.deck.buf / 16)
  else if 0x2500 ≤ off && off < 0x2A80 then d.talCount ((off - 0x2500) / 8)
  else if 0x4610 ≤ off && off < 0x4650 then
    let x := d.stm (d.f STR_SEL.STREAM)
    [x.pos.end_, x.pos.rel, x.pos.rpos, x.pos.mark.getD allOnes64, x.pos.avail, x.pos.limit, x.floor, x.lbase * 2 ^ 32 + x.depth].getD ((off - 0x4610) / 8) 0
  else d.reg off

/-- Read STR_NOTE[p] (R400, Table 10.12): the oldest entry, which leaves the queue, and OVF, which the read clears. -/
def Dev.noteRead (d : Dev) (p : Nat) : Nat × Dev :=
  let q := d.str.note.getD p []
  (q.headD 0 + bitIf 30 (d.str.noteOvf.getD p false),
   { d with str := { d.str with note := listSet d.str.note p q.tail, noteOvf := listSet d.str.noteOvf p false } })

/-- A 32-bit word of an order ring's memory (R458). -/
def Dev.ringRead (d : Dev) (off n : Nat) : Nat :=
  let r := (off - 0x5800) / 0x800
  let k := (off - 0x5800) % 0x800
  if k < 0x400 then fieldLe (padTo 64 (d.ord.sq.getD (16 * r + k / 64) [])) (k % 64) n
  else if k < 0x600 then fieldLe (padTo 32 (d.ord.cq.getD (16 * r + (k - 0x400) / 32) [])) (k % 32) n
  else 0

/-- A 32-bit read (R330, R331): the low half of a 64-bit register latches the high half for that requester. -/
def Dev.helmRead32 (d : Dev) (by_ off : Nat) : Nat × Dev :=
  if 0x5800 ≤ off && off < 0x7000 then (d.ringRead off 4, d)
  else match regRow? off with
  | none => (0, d)
  | some r =>
    let base := r.at off
    if base = 0x4660 || base = 0x4668 then d.noteRead ((base - 0x4660) / 8)
    else if r.width = 32 then (d.regShow by_ base % 2 ^ 32, d)
    else if off = base then
      let v := d.regShow by_ base
      (v % 2 ^ 32, { d with halves := (by_, base, v / 2 ^ 32) :: d.halves.filter (fun h => !(h.1 = by_ && h.2.1 = base)) })
    else match d.halves.find? (fun h => h.1 = by_ && h.2.1 = base) with
      | some h => (h.2.2, { d with halves := d.halves.filter (fun h => !(h.1 = by_ && h.2.1 = base)) })
      | none => (d.regShow by_ base / 2 ^ 32, d)

/-- A read of `width` bits (R330): any other width or alignment gives all ones. -/
def Dev.helmRead (d : Dev) (by_ off width : Nat) : Nat × Dev :=
  if width = 32 && off % 4 = 0 then d.helmRead32 by_ off
  else if width = 64 && off % 8 = 0 then
    (if 0x5800 ≤ off && off < 0x7000 then (d.ringRead off 8, d)
     else if (regRow? off).any (fun r => r.width = 64) then (d.regShow by_ off, d)
     else
       let (a, d) := d.helmRead32 by_ off
       let (b, d) := d.helmRead32 by_ (off + 4)
       (a + b * 2 ^ 32, d))
  else (2 ^ width - 1, d)

/-! ### Requesters (R334, R335, R342) -/

/-- A write by a requester (R334). -/
def Dev.helmIn (d : Dev) (by_ off width v : Nat) : Dev := d.letWrite by_ (fun d => d.helmWrite by_ off width v)

/-- A write to the low half (0), the high half (1) or the whole (2) of a 64-bit register. -/
def Dev.halfIn (d : Dev) (by_ off half v : Nat) : Dev :=
  if half = 2 then d.helmIn by_ off 64 v
  else if half = 1 then d.helmIn by_ (off + 4) 32 v
  else d.helmIn by_ off 32 v

/-- A requester may read: its link is up. -/
def Dev.mayRead (d : Dev) (by_ : Nat) : Bool := d.helmOn by_ && (if by_ < 2 then d.inL0 by_ && !(d.head by_).d3hot else true)

/-- A 32-bit read by a requester, whose value is answered. -/
def Dev.readIn (d : Dev) (by_ off : Nat) : Dev :=
  if d.mayRead by_ then
    let (v, d) := (if by_ < 2 then d.touch else d).helmRead by_ off 32
    d.send (.helm by_ v)
  else d

/-! ### The commands -/

/-- HELM_SPACE_WRITE (R330, R332, R334). -/
def execHelmSpaceWrite (by_ off width : Nat) (v : Word) (s : State) : Host.Outcome State Fault Refusal :=
  act (okHelmSpaceWrite by_ off width v) s (fun d => d.helmIn by_ off width v.toNat)

/-- HALF_READ_LATCH (R331): a 32-bit read. -/
def execHalfReadLatch (by_ off : Nat) (s : State) : Host.Outcome State Fault Refusal :=
  act (okHalfReadLatch by_ off) s (fun d => d.readIn by_ off)

/-- PNT_ARB_WRITE (R60). (DESIGN CHOICE, log entry 116.) -/
def execPntArbWrite (by_ n half : Nat) (v : Word) (s : State) : Host.Outcome State Fault Refusal :=
  act (okPntArbWrite by_ n half v) s (fun d => d.halfIn by_ (0x3180 + 8 * n) half v.toNat)

/-- PNT_RETIRE_WRITE (R95). -/
def execPntRetireWrite (by_ half : Nat) (v : Word) (s : State) : Host.Outcome State Fault Refusal :=
  act (okPntRetireWrite by_ half v) s (fun d => d.halfIn by_ 0x3008 half v.toNat)

/-- WLV_PLACE_WRITE (R190). (DEDUCED, log entry 72.) -/
def execWlvPlaceWrite (by_ h half : Nat) (v : Word) (s : State) : Host.Outcome State Fault Refusal :=
  act (okWlvPlaceWrite by_ h half v) s (fun d => d.halfIn by_ (0x4080 + 8 * h) half v.toNat)

/-- STR_CTL_WRITE (R352, R391). -/
def execStrCtlWrite (by_ st half : Nat) (v : Word) (s : State) : Host.Outcome State Fault Refusal :=
  act (okStrCtlWrite by_ st half v) s (fun d => d.halfIn by_ (0x8000 + 8 * st) half v.toNat)

/-- STR_ACT_TRIGGER (R389). -/
def execStrActTrigger (by_ st : Nat) (s : State) : Host.Outcome State Fault Refusal :=
  act (okStrActTrigger by_ st) s (fun d => d.helmIn by_ 0x4658 32 (0x1000000 + st))

/-- STR_ACT_QUEUE_RESET (R385). -/
def execStrActQueueReset (by_ st : Nat) (s : State) : Host.Outcome State Fault Refusal :=
  act (okStrActQueueReset by_ st) s (fun d => d.helmIn by_ 0x4658 32 (0x2000000 + st))

/-- STR_NOTE_READ (R400). -/
def execStrNoteRead (by_ p : Nat) (s : State) : Host.Outcome State Fault Refusal :=
  act (okStrNoteRead by_ p) s (fun d => d.readIn by_ (0x4660 + 8 * p))

/-- PWR_CTL_OFF (R523). -/
def execPwrCtlOff (by_ : Nat) (s : State) : Host.Outcome State Fault Refusal :=
  act (okPwrCtlOff by_) s (fun d => d.helmIn by_ 0x200 32 1)

/-- PWR_CTL_BANKTEST (R515). -/
def execPwrCtlBanktest (by_ : Nat) (s : State) : Host.Outcome State Fault Refusal :=
  act (okPwrCtlBanktest by_) s (fun d => d.helmIn by_ 0x200 32 2)

/-- PWR_THR_WRITE (R517, R540). -/
def execPwrThrWrite (by_ : Nat) (v : Word) (s : State) : Host.Outcome State Fault Refusal :=
  act (okPwrThrWrite by_ v) s (fun d => d.helmIn by_ 0x204 32 v.toNat)

/-- FIX_CTL_TRIGGER (R601): the value written, with TRIGGER set. -/
def execFixCtlTrigger (by_ : Nat) (v : Word) (s : State) : Host.Outcome State Fault Refusal :=
  act (okFixCtlTrigger by_ v) s (fun d => d.helmIn by_ 0x1000 32 (Nat.lor v.toNat 1))

/-- RST_CTL_DEVICE (R579). -/
def execRstCtlDevice (by_ key : Nat) (s : State) : Host.Outcome State Fault Refusal :=
  act (okRstCtlDevice by_ key) s (fun d => d.helmIn by_ 0x700 32 (key * 65536 + 1))

/-- RST_WDOG_KICK (R579). -/
def execRstWdogKick (by_ : Nat) (v : Word) (s : State) : Host.Outcome State Fault Refusal :=
  act (okRstWdogKick by_ v) s (fun d => d.helmIn by_ 0x708 32 v.toNat)

/-- PADHOLD_RELEASE (R563, R564): the value written, with RELEASE set. -/
def execPadholdRelease (by_ : Nat) (v : Word) (s : State) : Host.Outcome State Fault Refusal :=
  act (okPadholdRelease by_ v) s (fun d => d.helmIn by_ 0x538 32 (Nat.lor v.toNat 2))

/-- TAL_SEL_WRITE (R614). -/
def execTalSelWrite (by_ j : Nat) (v : Word) (s : State) : Host.Outcome State Fault Refusal :=
  act (okTalSelWrite by_ j v) s (fun d => d.helmIn by_ (0x2440 + 4 * j) 32 v.toNat)

/-- TAL_CFG_WRITE (R616). -/
def execTalCfgWrite (by_ : Nat) (v : Word) (s : State) : Host.Outcome State Fault Refusal :=
  act (okTalCfgWrite by_ v) s (fun d => d.helmIn by_ 0x2400 32 v.toNat)

/-- SAF_INJ_WRITE (R599). (DEDUCED, log entry 100.) -/
def execSafInjWrite (by_ : Nat) (v : Word) (s : State) : Host.Outcome State Fault Refusal :=
  act (okSafInjWrite by_ v) s (fun d => d.helmIn by_ 0xC20 32 v.toNat)

/-- LLN_CH_WRITE (R650). -/
def execLlnChWrite (by_ i half : Nat) (v : Word) (s : State) : Host.Outcome State Fault Refusal :=
  act (okLlnChWrite by_ i half v) s (fun d => d.halfIn by_ (0xA40 + 8 * i) half v.toNat)

end Sys2Proof.Machine
end

