-- ==== Sys2Proof/Machine/ChartApply.lean ====
section
/-! DEFINITION. The Chart image in force and its application: sections, CONFIG records, the layout that a checkpoint keeps, stream
regions, and the first mode-change point (R473, R480 to R483, R489, R490, R351, R399, R588). -/

namespace Sys2Proof.Machine

/-! ### The image (Table 12.7) -/

/-- One row of a section table: kind, offset, length within the slot, load offset in the deck window. -/
structure ChartSec where
  kind : Nat
  off : Nat
  len : Nat
  load : Nat
  deriving DecidableEq, Repr

/-- The sections of the image in slot `sl`. -/
def Dev.chartSecs (d : Dev) (sl : Nat) : List ChartSec :=
  (List.range (Nat.min 64 (fieldLe (d.slotRead sl 6 2) 0 2))).map (fun i =>
    let b := d.slotRead sl (64 + 16 * i) 16
    let off := fieldLe b 4 4
    ⟨fieldLe b 0 2, off, Nat.min (fieldLe b 8 4) (slotSize - off), fieldLe b 12 4⟩)

/-- The records of `size` bytes of the sections of a kind, in image order. -/
def Dev.chartRecs (d : Dev) (sl kind size : Nat) : List (List (BitVec 8)) :=
  ((d.chartSecs sl).filter (·.kind = kind)).flatMap (fun (x : ChartSec) => (List.range (x.len / size)).map (fun i => d.slotRead sl (x.off + size * i) size))

/-- The sections of a kind, in image order: what a CODE or DATA index counts. -/
def Dev.secsOf (d : Dev) (sl kind : Nat) : List ChartSec := (d.chartSecs sl).filter (·.kind = kind)

/-! ### CONFIG records (Table 12.8, R480, R481) -/

/-- What the records ask for that takes effect once all are read: the mode word, W in GiB, the scrambler ranges, stream regions
(stream, LBASE, DEPTH), and the start-up orders of DECKPROG records. -/
structure ChartAsk where
  req : Nat := 0
  gib : Nat := 0
  ranges : List Nat := List.replicate 8 0
  regions : List (Nat × Nat × Nat) := []
  decks : List (List (BitVec 8)) := []
  deriving DecidableEq, Repr

/-- A write that is not applied (R481). -/
def Dev.recReject (d : Dev) (idx half : Nat) : Dev :=
  (d.cnt ORD_CHART.REC_REJ).post { code := 0x0C5, detail := leBytes 2 idx ++ leBytes 1 half }

/-- STR_CTL at Chart load: regions are checked once all records are read (R351), and a 65th PRE loads as zero (R391). -/
def Dev.chartStr (d : Dev) (off mask v : Nat) : Dev :=
  match regRow? off with
  | none => d
  | some r =>
    let new := r.merge false (d.reg off) v mask
    if bits new 0 1 = 1 && bits new 20 10 != 0 && decide (d.preStreams ((off - 0x8000) / 8) ≥ 64) then
      (d.setReg off (setBits new 20 10 0)).setF STR_GSTAT.PRE_REJ 1
    else d.setReg off new

/-- One write of a REG record to the bits of `mask` of the register at `off`. -/
def Dev.chartWrite (d : Dev) (a : ChartAsk) (idx half off mask v : Nat) : Dev × ChartAsk :=
  if off = 0x4 then (if bits v 0 9 > 384 then (d.recReject idx half, a) else (d, { a with gib := bits v 0 9 }))
  else if off = 0x100 then (d, { a with req := v % 4096 })
  else match regRow? off with
  | none => (if Nat.land v mask = 0 then d else d.recReject idx half, a)
  | some r =>
    if 0x4440 ≤ off && off < 0x4480 then
      let i := (off - 0x4440) / 8
      let old := a.ranges.getD i 0
      (d, { a with ranges := listSet a.ranges i ((old - Nat.land old mask) + Nat.land v mask) })
    else if Nat.land mask (r.rw ||| r.w1c ||| r.w1s ||| r.wo ||| r.rwo ||| r.rwl) = 0 then (d.recReject idx half, a)
    else if 0x8000 ≤ off then (d.chartStr off mask v, a)
    else if 0x5000 ≤ off && off < 0x5030 && off % 16 ≤ 4 then
      let x := d.regWrite 3 off mask v
      (if x.reg off % 16 = v % 16 then x else x.recReject idx half, a)
    else match d.regRefuse off (d.reg off) (r.merge (d.locked.contains off) (d.reg off) v mask) v (Nat.land mask 0xFFFFFFFF != 0) with
      | some x => (x.recReject idx half, a)
      | none => (d.regWrite 3 off mask v, a)

/-- One 32-bit write of a REG record (R481). -/
def Dev.chart32 (d : Dev) (a : ChartAsk) (idx half off v : Nat) : Dev × ChartAsk :=
  match sqPlace off with
  | some (r, k) => (d.sqWrite r k 4 v, a)
  | none =>
    match regRow? off with
    | some r =>
      if r.width = 64 && off ≠ r.at off then d.chartWrite a idx half (r.at off) (0xFFFFFFFF * 2 ^ 32) (v * 2 ^ 32)
      else d.chartWrite a idx half off 0xFFFFFFFF v
    | none => d.chartWrite a idx half off 0xFFFFFFFF v

/-- The order that a DECKPROG record stands for (R483). -/
def deckEntry (engine code budget : Nat) : List (BitVec 8) :=
  padTo 64 (leBytes 2 prgDeckRun ++ leBytes 1 0 ++ leBytes 1 engine ++ leBytes 4 0 ++ leBytes 8 code ++ leBytes 8 budget)

/-- Apply CONFIG record `idx`. Reserved kinds have no effect. (DEDUCED, log entry 108.) -/
def Dev.chartRec (x : Dev × ChartAsk) (idx : Nat) (b : List (BitVec 8)) : Dev × ChartAsk :=
  let d := x.1
  let a := x.2
  let w := fieldLe b 1 1
  let off := fieldLe b 2 2
  let v := fieldLe b 8 8
  match fieldLe b 0 1 with
  | 1 =>
    if w = 4 && off % 4 = 0 then d.chart32 a idx 0 off (v % 2 ^ 32)
    else if w = 8 && off % 8 = 0 then
      (if (regRow? off).any (fun r => r.width = 64) then d.chartWrite a idx 0 off (2 ^ 64 - 1) v
       else
         let y := d.chart32 a idx 0 off (v % 2 ^ 32)
         y.1.chart32 y.2 idx 1 (off + 4) (v / 2 ^ 32))
    else (d.recReject idx 0, a)
  | 2 =>
    if off < 4096 then (d, { a with regions := assocSet off (fieldLe b 4 4, fieldLe b 8 4) a.regions }) else (d.recReject idx 0, a)
  | 3 => (d, { a with decks := a.decks ++ [deckEntry w off (fieldLe b 4 4)] })
  | _ => (d, a)

/-! ### What the checkpoint keeps (R275, R482, R490) -/

/-- W in force that a Chart asks for: at most 384 GiB, 192 with TWIN, none without WINDOW. -/
def ChartAsk.win (a : ChartAsk) : Nat :=
  if a.req.testBit 0 then Nat.min a.gib (if a.req.testBit 5 then 192 else 384) else 0

/-- A value set aside (R482). -/
def Dev.chartKept (d : Dev) : Dev := (d.setF ORD_CHART.KEPT 1).post0 0x0C6

/-- The scrambler ranges (R275). -/
def Dev.chartRanges (d : Dev) (a : ChartAsk) : Dev :=
  if !d.chart.loaded then (List.range 8).foldl (fun d i => d.setReg (0x4440 + 8 * i) (a.ranges.getD i 0)) d
  else if (List.range 8).any (fun i => d.reg (0x4440 + 8 * i) != a.ranges.getD i 0) then (d.setF SCR_STAT.RANGE_KEPT 1).post0 0x08A
  else d

/-- The layout: W and the bits TWIN, WINDOW and STREAM of MODE_EFF (R482, R490). -/
def Dev.chartLayout (d : Dev) (a : ChartAsk) : Dev :=
  let want := Nat.land a.req 0x23
  let have_ := Nat.land (d.reg 0x104) 0x23
  let d :=
    if !d.chart.loaded then (d.setReg 0x104 (d.reg 0x104 - have_ + want)).setF DEV_LAYOUT.WIN_GIB a.win
    else if want != have_ || a.win != d.f DEV_LAYOUT.WIN_GIB then d.chartKept
    else d
  d.setF DEV_LAYOUT.TWIN (b2n d.mTwin)

/-- The stream regions (R350, R482). (DEDUCED, log entry 106.) -/
def Dev.chartRegions (d : Dev) (a : ChartAsk) : Dev :=
  let all := (d.str.ctx.map (·.1) ++ a.regions.map (·.1)).eraseDups
  all.foldl (fun d s =>
    let x := d.stm s
    let (l, n) := (assocGet s a.regions).getD (0, 0)
    if x.lbase = l && x.depth = n then d
    else if d.chart.loaded then d.chartKept
    else d.setStm s { x with lbase := l, depth := n }) d

/-- Two regions of extents overlap. -/
def Stream.overlaps (x y : Stream) : Bool := decide (x.lbase < y.lbase + y.depth) && decide (y.lbase < x.lbase + x.depth)

/-- The bounds of R351 on a stream's region. -/
def Dev.regionOk (d : Dev) (x : Stream) : Bool :=
  decide (8 ≤ x.depth) && decide (d.f DEV_LAYOUT.WIN_GIB * 262144 ≤ 16 * x.lbase) &&
    decide (16 * (x.lbase + x.depth) ≤ if d.mTwin then 50331648 else 100663296)

/-- Streams whose STR_CTL.EN is set, ascending. -/
def Dev.enabledStreams (d : Dev) : List Nat :=
  d.regs.filterMap (fun x => if 0x8000 ≤ x.1 && x.1 < 0x10000 && x.2.getLsbD 0 then some ((x.1 - 0x8000) / 8) else none)

/-- The check of R351, in ascending order: an enabled stream that fails is left disabled; a stream that is not enabled has a valid
region if it passes beside the enabled ones. (DEDUCED, log entry 107.) -/
def Dev.checkRegions (d : Dev) : Dev :=
  let good (d : Dev) (ok : List Nat) (s : Nat) : Bool := d.regionOk (d.stm s) && !ok.any (fun t => (d.stm s).overlaps (d.stm t))
  let (d, ok) := d.enabledStreams.foldl (fun (y : Dev × List Nat) s =>
    if good y.1 y.2 s then (y.1.modStm s (fun x => { x with valid := true }), y.2 ++ [s])
    else (((y.1.modStm s (fun x => { x with valid := false })).setF (STR_CTL.EN s) 0).post { code := 0x0AA, detail := strDetail s [] }, y.2)) (d, [])
  (d.str.ctx.map (·.1)).foldl (fun d s => if ok.contains s then d else d.modStm s (fun x => { x with valid := good d ok s })) d

/-! ### Streams go on (R398, R399) -/

/-- Walk the frames of a stream from `p` up to END: a framed stream's headers on media or in the tail, an unframed stream's slots.
The join time of a broken frame or of a slot stands nowhere on media: a free value. (DESIGN CHOICE, log entry 109.) -/
def Dev.walkFrames (d : Dev) (s : Nat) (framed : Bool) : Nat → Nat → Dev
  | 0, _ => d
  | fuel + 1, p =>
    let x := d.stm s
    if p ≥ x.pos.end_ then d.setStm s { x with pos := { x.pos with nexthdr := Nat.max p x.pos.nexthdr } }
    else if framed then
      let (g, d) := d.strLine s p ⟨[], true, true, false⟩
      let x := d.stm s
      match g with
      | some l =>
        (match hdrLen { data := l, mask := fullMask } with
         | some n =>
           let e := p + up64 (16 + n)
           (d.setStm s { x with frames := x.frames ++ [⟨p, e, fieldLe (lineBytes l) 8 8, false⟩] }).walkFrames s framed fuel e
         | none =>
           let (t, d) := d.draw
           let e := (p / 4096 + 1) * 4096
           (d.setStm s { x with frames := x.frames ++ [⟨p, e, t.toNat, true⟩] }).walkFrames s framed fuel e)
      | none =>
        let (t, d) := d.draw
        let e := (p / 4096 + 1) * 4096
        (d.setStm s { x with frames := x.frames ++ [⟨p, e, t.toNat, true⟩] }).walkFrames s framed fuel e
    else
      let (t, d) := d.draw
      (d.setStm s { x with frames := x.frames ++ [⟨p, p + 4096, t.toNat, false⟩] }).walkFrames s framed fuel (p + 4096)

/-- A restored stream goes on: its frames known again, the window that was open closed (R393), complete slots joined.
(DEDUCED, log entry 40.) -/
def Dev.resumeStream (d : Dev) (s : Nat) : Dev :=
  let x := d.stm s
  match x.frameFrom with
  | none => d
  | some p =>
    let framed := d.on (STR_CTL.FRAMED s)
    let last := x.frames.foldl (fun m f => Nat.max m f.end_) x.floor
    let d := d.walkFrames s framed (x.pos.end_ / 64 + 1) (if framed then p else last)
    let d := d.modStm s (fun x => { x with
      frameFrom := none
      windows := x.windows.map (fun (w : Window) => if w.pend.isSome then w else { w with pend := some (x.pendNow framed w) }) })
    (d.joinSlots s 4096).strSettle s

/-! ### CHART_APPLY -/

/-- Hove-to is entered again where its ground still holds once recovery completes (R588). -/
def Dev.hoveAgain (d : Dev) : Dev :=
  let d := (List.range 4).foldl (fun d q => if d.lostInQuad q ≥ 2 && !d.on SAF_STAT.HOVE then d.quadLost q else d) d
  if d.badKeys.isEmpty then d else d.keyFail

/-- A checkpoint in progress at the Chart load of a device without one holds the Chart's layout (R482). (DEDUCED, log entry 105.) -/
def Dev.saveLayout (d : Dev) : Dev :=
  if d.chart.loaded then d
  else { d with saving := d.saving.map (fun (c : Snap) => { c with
    layout := Nat.land (d.reg 0x104) 0x23, winGib := d.f DEV_LAYOUT.WIN_GIB, ranges := (List.range 8).map (fun i => d.reg (0x4440 + 8 * i))
    ctx := d.str.ctx.map (fun (x : Nat × Stream) => (x.1, { x.2 with tail := [] })), anchors := d.str.ctx.map (fun (x : Nat × Stream) => (x.1, x.2.anchor)) }) }

/-- The Chart in slot `sl` is applied (R480 to R483). -/
def Dev.applyChart (d : Dev) (sl : Nat) : Dev :=
  let old := d.reg 0x104
  let (d, a) := (d.chartRecs sl 1 16).zipIdx.foldl (fun x r => Dev.chartRec x r.2 r.1) (d, ({} : ChartAsk))
  let d := (((d.setReg 0x100 a.req).chartRanges a).chartLayout a).chartRegions a
  let d := d.checkRegions
  let d := ((d.str.ctx.map (·.1)).foldl (fun d s => d.modStm s (fun x => { x with ctl := d.reg (0x8000 + 8 * s) })) d).strCounts.saveLayout
  let d := (d.str.ctx.map (·.1)).foldl (fun d s => d.resumeStream s) d
  let d := d.hoveAgain
  let d := d.modePointFrom old false d.coldNow (Nat.land (d.reg 0x104) 0x23 != Nat.land a.req 0x23)
  { d with
    phase := .linkTrain
    chart := { d.chart with pendingOrders := a.decks ++ d.chartRecs sl 4 64 }
    wch := { d.wch with linkWaitFrom := d.time, dormAdd := List.replicate 16 0 } }

/-- CHART_APPLY (R480). -/
def execChartApply (s : State) : Host.Outcome State Fault Refusal :=
  act okChartApply s (fun d =>
    if d.phase != .chart then d
    else match d.chart.slot with
      | some sl => d.applyChart sl
      | none => d)

end Sys2Proof.Machine
end

