-- ==== Sys2Proof/Machine/Flags.lean ====
section
/-! DEFINITION. The engines' comparisons (Table 11.6) and the status words that media and queue instructions return
(Table 11.10, R438). An engine has no flag register. -/

namespace Sys2Proof.Machine

/-- Branch conditions of beq, bne, blt, bge, bltu, bgeu, in that order (Table 11.6). -/
def branchTaken (k : Nat) (a b : Word) : Bool :=
  match k with
  | 0 => a == b
  | 1 => a != b
  | 2 => decide (a.toInt < b.toInt)
  | 3 => decide (b.toInt ≤ a.toInt)
  | 4 => decide (a.toNat < b.toNat)
  | _ => decide (b.toNat ≤ a.toNat)

/-- A media status word (Table 11.10). -/
def mediaStatus (ticket result corr : Nat) (retried : Bool) (value : Nat) : Nat :=
  ticket % 32 * 2 ^ 59 + result % 256 * 2 ^ 48 + corr % 256 * 2 ^ 40 + b2n retried * 2 ^ 39 + value % 2 ^ 32

/-- The result of a refused queue instruction (R438): bit 63 and the result code of Table 10.5. -/
def queueRefused (code : Nat) : Word := BitVec.ofNat 64 (2 ^ 63 + code % 256)

/-- The result of a queue instruction that succeeded (R438): bit 63 clear. -/
def queueResult (v : Nat) : Word := BitVec.ofNat 64 (v % 2 ^ 63)

end Sys2Proof.Machine
end

