-- ==== Sys2Proof/Machine/Operands.lean ====
section
/-! DEFINITION. Operands of the engines: general registers, immediates, instruction words (Table 11.5), and the address map
(Table 11.1). -/

namespace Sys2Proof.Machine

/-! ### General registers (R402) -/

/-- Read a general register: g0 reads as zero (R402). -/
def Engine.rd (x : Engine) (i : Nat) : Word := if i = 0 then 0 else x.g.getD i 0

/-- Write a general register: a write to g0 is discarded (R402). -/
def Engine.wr (x : Engine) (i : Nat) (v : Word) : Engine := if i = 0 then x else { x with g := x.g.set i v }

/-- A general register of engine `e`. -/
def Dev.gr (d : Dev) (e i : Nat) : Word := (d.eng e).rd i

/-- Write a general register of engine `e`. -/
def Dev.setGr (d : Dev) (e i : Nat) (v : Word) : Dev := d.modEng e (fun x => x.wr i v)

/-! ### Immediates -/

/-- Sign extension of the low `w` bits of a number to 64 bits. -/
def sext (w v : Nat) : Word := BitVec.ofInt 64 (toSigned w v)

/-- The address that a base register and a 16-bit immediate name. -/
def effAddr (base : Word) (imm : Nat) : Word := base + sext 16 imm

/-- The target of a branch: the instruction's own address plus four times a signed word offset of `w` bits. -/
def branchTo (pc : Word) (w off : Nat) : Word := pc + 4 * sext w off

/-! ### Instruction words (Tables 11.5 and 11.6) -/

/-- Format A. -/
def encA (op d a b fn : Nat) : Nat := op * 2 ^ 26 + d * 2 ^ 21 + a * 2 ^ 16 + b * 2 ^ 11 + fn

/-- Formats I and S: D or B, then A, then IMM. -/
def encI (op d a imm : Nat) : Nat := op * 2 ^ 26 + d * 2 ^ 21 + a * 2 ^ 16 + imm

/-- Format J. -/
def encJ (op d off : Nat) : Nat := op * 2 ^ 26 + d * 2 ^ 21 + off

/-- Format M. -/
def encM (op d a b c fn : Nat) : Nat := op * 2 ^ 26 + d * 2 ^ 21 + a * 2 ^ 16 + b * 2 ^ 11 + c * 2 ^ 6 + fn

/-- Reserved bits of a word: D, A, B, C and FN of format M by name, for the fields that an instruction does not use. -/
def rsvD : Nat := 31 * 2 ^ 21
/-- The A field. -/
def rsvA : Nat := 31 * 2 ^ 16
/-- The B field. -/
def rsvB : Nat := 31 * 2 ^ 11
/-- The C field of format M. -/
def rsvC : Nat := 31 * 2 ^ 6
/-- The FN field of format M. -/
def rsvFn : Nat := 63

/-- A word as fetched: its encoded fields, with `rs` in the fields the instruction does not use. -/
def withRs (word mask rs : Nat) : Nat := word ||| Nat.land rs mask

/-- A field that the instruction does not use holds something (R422). -/
def rsBad (mask rs : Nat) : Bool := Nat.land rs mask != 0

/-! ### The engine address map (Table 11.1) -/

/-- What an engine address names. -/
inductive ERegion where
  | loc (off : Nat)
  | shared (q off : Nat)
  | rom (off : Nat)
  | helm (off : Nat)
  | dev (a : Nat)
  | unmapped
  deriving DecidableEq, Repr

/-- First engine address of device memory. -/
def devBase : Nat := 0x10000000000

/-- The region of an engine address (Table 11.1). -/
def eRegion (x : Nat) : ERegion :=
  if x < 0x40000 then .loc x
  else if 0x1000000 ≤ x && x < 0x1800000 then .shared ((x - 0x1000000) / 0x200000) (x % 0x200000)
  else if 0x2000000 ≤ x && x < 0x2080000 then .rom (x - 0x2000000)
  else if 0x3000000 ≤ x && x < 0x3010000 then .helm (x - 0x3000000)
  else if devBase ≤ x && x < 0x16110000000 then .dev (x - devBase)
  else .unmapped

/-- The deck pages of quadrant shared memory that an engine grants (R407). -/
def Engine.deckPage (x : Engine) (e q off : Nat) : Bool :=
  decide (q = e / 4) && decide (x.qbase ≤ off / 4096) && decide (off / 4096 < x.qbase + x.qpages)

/-- A device address that deck may load: WINDOW, apertures, survey area (Table 11.1). -/
def Dev.deckDev (d : Dev) (a : Nat) (store : Bool) : Bool :=
  decide (a < d.winBytes) || (decide (0x6000000000 ≤ a) && decide (a < 0x6100000000)) ||
    (!store && decide (0x6100000000 ≤ a) && decide (a < 0x6100100000))

/-- Table 11.1: whether engine `e` may load from, or store to, a region at its present privilege. -/
def Dev.mayAccess (d : Dev) (e : Nat) (r : ERegion) (store : Bool) : Bool :=
  let x := d.eng e
  let deck := x.priv = 1
  match r with
  | .loc off => !deck || decide (0x20000 ≤ off)
  | .shared q off => !deck || x.deckPage e q off
  | .rom _ => !deck && !store
  | .helm _ => !deck || !store
  | .dev a => !deck || d.deckDev a store
  | .unmapped => false

/-- Table 11.1: whether engine `e` may fetch at an address. -/
def Dev.mayFetch (d : Dev) (e pc : Nat) : Bool :=
  match eRegion pc with
  | .loc off => (d.eng e).priv = 0 || decide (0x20000 ≤ off)
  | .rom _ => (d.eng e).priv = 0
  | _ => false

/-- A local buffer of a media or queue instruction: `n` bytes of own local memory, at deck of the deck window (Table 11.2, R442); a buffer
of no bytes lies nowhere. -/
def Dev.bufOk (d : Dev) (e addr n : Nat) : Bool :=
  n == 0 || (decide (addr + n ≤ 0x40000) && ((d.eng e).priv = 0 || decide (0x20000 ≤ addr)))

end Sys2Proof.Machine
end

