-- ==== Sys2Proof/Machine/Engine.lean ====
section
/-! DEFINITION. How an engine executes one instruction: when it may, taking an exception, engine faults, LOCKSTEP (R403, R404,
R412 to R418, R445, Table 2.5). -/

namespace Sys2Proof.Machine

/-! ### Clocks and time -/

/-- The engines are powered and clocked: not in option load, nor while the rails or PLLs are down, nor in Doze, nor while QUIET gates the
clocks. -/
def Dev.engClk (d : Dev) : Bool :=
  !d.wch.gated &&
    (match d.phase with
     | .selfTest | .mediaInit | .recovery | .chart | .linkTrain | .becalmed | .active | .shutdown | .resetFlush | .flush => true
     | _ => false)

/-- Engine cycles in a span of ship's time, at 1.2 GHz. (DESIGN CHOICE, log entry 101.) -/
def cycles (t : Nat) : Nat := t * 1200000000 / 2147483648

/-- An engine executes instructions: it is clocked, runs, and is not the second of a LOCKSTEP pair, which follows the first (R445). -/
def Dev.engUp (d : Dev) (e : Nat) : Bool :=
  d.engClk && (d.eng e).state == .running && !(d.eng e).resetting && !(d.mLockstep && e % 2 == 1)

/-- Engine 2k + 1 has done in the same cycles what engine 2k did (R445). Its own requests do not leave the pair: its write merge, its
task and the deck program's order stay with engine 2k. -/
def Dev.lockCopy (d : Dev) (e : Nat) : Dev :=
  if d.mLockstep && e % 2 == 0 && ((d.eng (e + 1)).state == .running || (d.eng (e + 1)).state == .asleep) then
    d.modEng (e + 1) (fun y => { d.eng e with merge := y.merge, faultAt := y.faultAt, deck := none, deckOrder := 0, curTask := none })
  else d

/-! ### Exceptions (R412, R413) -/

/-- Cycles of the budget that are left at deck privilege; zero also where the budget is disabled (Table 11.4). -/
def Dev.budgetLeft (d : Dev) (e : Nat) : Nat := (d.eng e).budget - cycles (d.time - (d.eng e).budgetFrom)

/-- BUDGET is due: the register has counted to zero at deck privilege (Table 11.4). -/
def Dev.budgetDue (d : Dev) (e : Nat) : Bool := (d.eng e).priv = 1 && (d.eng e).budget != 0 && d.budgetLeft e == 0

/-- TAKING AN EXCEPTION (R412): epc, cause and badaddr are saved, PREV_PRIV receives PRIV and PRIV becomes helm, the reservation is
cleared, and execution continues at the handler. At deck, the budget stops counting where it stands (BUDGET: at zero), and the watchdog
runs on from what it had reached (R421). -/
def Dev.takeExc (d : Dev) (e code detail : Nat) (bad epc : Word) : Dev :=
  let left := if code = 9 then 0 else d.budgetLeft e
  d.modEng e (fun x => { x with
    epc := epc, causeCode := code, causeDetail := detail % 2 ^ 32, badaddr := bad, prev := x.priv, priv := 0, rsv := none, pc := x.ehandler
    budget := if x.priv = 1 then left else x.budget, kickAt := if x.priv = 1 then d.time - x.kickAt else x.kickAt, waiting := false })

/-- The cause register (Table 11.4). -/
def causeWord (code detail : Nat) : Nat := code % 256 + detail % 2 ^ 32 * 2 ^ 32

/-! ### Synchronous causes -/

/-- A synchronous cause 0x01 to 0x07 (R412, R414, R415): at helm an engine fault; at deck the exception, which also ends the program: its
order completes as a deck fault (Table 12.5), and event 0x0B1 carries CODE, DETAIL and epc. (DEDUCED, log entry 120.) -/
def Dev.syncExc (d : Dev) (e code detail : Nat) (bad : Word) : Dev :=
  let x := d.eng e
  if x.priv = 0 then d.engFault e
  else
    let d := (d.takeExc e code detail bad x.pc).endDeck e 8 (causeWord code detail) x.pc.toNat
    d.post { code := 0x0B1, point := e, detail := leBytes 4 code ++ leBytes 4 (detail % 2 ^ 32) ++ leBytes 8 x.pc.toNat }

/-! ### One instruction -/

/-- How an instruction ends: its effect, going on at the next instruction; at another address; where it stands, for an effect that moves
the pc itself or waits; not yet able to take effect; or a synchronous cause with DETAIL and address. -/
inductive EngRes where
  | done (d : Dev)
  | goto (d : Dev) (pc : Word)
  | stay (d : Dev)
  | wait
  | raise (d : Dev) (code detail : Nat) (bad : Word)

/-- The causes that come before an instruction's own (R413): FETCH_FAULT, ILLEGAL and PRIVILEGE. (DESIGN CHOICE, log entry 118.) -/
def Dev.engCheck (d : Dev) (e word : Nat) (bad helm : Bool) : Option (Nat × Nat) :=
  let pc := (d.eng e).pc.toNat
  if pc % 4 != 0 || !d.mayFetch e pc then some (3, 0)
  else if bad then some (1, word)
  else if helm && (d.eng e).priv = 1 then some (2, word)
  else none

/-- One instruction `word` at engine `e`: `bad` says that it is illegal, `helm` that it is for helm alone, and `f` is its effect. A barrier
that waits (`bar`) is the only instruction that goes on while it waits. An instruction that must wait has no effect yet. BUDGET is taken
before an instruction that raises nothing (R413). (DEDUCED, log entry 119.) -/
def Dev.engStep (d : Dev) (e word : Nat) (bad helm bar : Bool) (f : Dev → EngRes) : Dev :=
  if !d.engUp e || ((d.eng e).waiting && !bar) then d
  else
    let r := match d.engCheck e word bad helm with
      | some (c, t) => EngRes.raise d c t 0
      | none => f d
    match r with
    | .raise d' c t b => (d'.syncExc e c t b).lockCopy e
    | r =>
      if d.budgetDue e then (d.takeExc e 9 0 0 (d.eng e).pc).lockCopy e
      else match r with
        | .done d' => (d'.modEng e (fun x => { x with pc := (d.eng e).pc + 4 })).lockCopy e
        | .goto d' pc => (d'.modEng e (fun x => { x with pc := pc })).lockCopy e
        | .stay d' => d'.lockCopy e
        | .wait => d
        | .raise _ _ _ _ => d

/-- An instruction that only writes a general register. -/
def Dev.engSet (d : Dev) (e word rd : Nat) (bad : Bool) (v : Dev → Word) : Dev :=
  d.engStep e word bad false false (fun d => .done (d.setGr e rd (v d)))

end Sys2Proof.Machine
end

