-- ==== Sys2Proof/Machine/EngineMem.lean ====
section
/-! DEFINITION. Loads, stores, reservations and barriers of the engines, their write merge and the quadrants' forwarding buffers
(R406 to R411, R424, R447 to R457). -/

namespace Sys2Proof.Machine

/-! ### Lines on their way (R411, R450) -/

/-- The mask of `n` bytes from byte `off` of a line. -/
def byteMask (off n : Nat) : Mask := BitVec.ofNat 64 ((2 ^ n - 1) * 2 ^ off)

/-- A value of `n` bytes at byte `off` of a line. -/
def lineOfVal (off n v : Nat) : Line := BitVec.ofNat 512 (v % 256 ^ n * 256 ^ off)

/-- The `n` bytes at byte `off` of a line, as a number. -/
def lineVal (x : Line) (off n : Nat) : Nat := bits x.toNat (8 * off) (8 * n)

/-- What the lines of a list hold of a line, the newest bytes last: data and mask. -/
def overLines (l : List MLine) (line : Nat) (acc : Line × Mask) : Line × Mask :=
  l.foldl (fun acc m => if m.line = line then (mergeLine acc.1 m.data m.mask, acc.2 ||| m.mask) else acc) acc

/-- What the forwarding buffer of an engine's quadrant, and then its own write merge, hold of a line (R448, R450). -/
def Dev.onWay (d : Dev) (e line : Nat) : Line × Mask :=
  overLines (d.eng e).merge line (overLines (d.quad (e / 4)).fwd line (0, 0))

/-- A line enters the forwarding buffer of a quadrant. -/
def Dev.forward (d : Dev) (q : Nat) (m : MLine) : Dev := d.modQuad q (fun x => { x with fwd := x.fwd ++ [{ m with since := d.time }] })

/-- The forwarding buffer of a quadrant is full (chapter 12: 64 lines). -/
def Dev.fwdFull (d : Dev) (q : Nat) : Bool := decide ((d.quad q).fwd.length ≥ 64)

/-- R138 admits an engine's write at a device address: one of a WINDOW line while the slice of its home holds more than 128 free entries; one
of an aperture takes none. -/
def Dev.sliceAdmits (d : Dev) (a : Nat) : Bool :=
  match d.region a with
  | .window => decide (128 < d.sliceFree (homeOf a))
  | _ => true

/-- A merge line may leave: R138 admits it, and the forwarding buffer has a place (R411, R450). -/
def Dev.mayLeave (d : Dev) (e : Nat) (m : MLine) : Bool := d.sliceAdmits (64 * m.line - devBase) && !d.fwdFull (e / 4)

/-- A line of engine `e`'s write merge leaves it for the forwarding buffer with its line check (R411). (DEDUCED, log entry 195.) -/
def Dev.leave (d : Dev) (e : Nat) (m : MLine) : Dev :=
  (d.modEng e (fun x => { x with merge := x.merge.filter (fun y => y.line != m.line) })).forward (e / 4)
    { m with check := entryCheck (m.line - devBase / 64) m.data m.mask }

/-- Clear the reservations, of any engine, on a granule of engine addresses (R424). -/
def Dev.unreserve (d : Dev) (g : Nat) : Dev :=
  { d with engines := d.engines.map (fun (e : Engine) => if e.rsv = some g then { e with rsv := none } else e) }

/-- Clear an engine's own reservation on a granule (R424, R455). -/
def Dev.unreserveOwn (d : Dev) (e g : Nat) : Dev := d.modEng e (fun x => if x.rsv = some g then { x with rsv := none } else x)

/-- Bytes that a media or queue instruction brings to an engine's local memory; a write into the granule of its reservation ends it (R424). -/
def Engine.putLoc (x : Engine) (off : Nat) (bs : List Byte) : Engine :=
  { x with
    loc := Machine.memWrite x.loc off bs
    rsv := x.rsv.filter (fun g => decide (off + bs.length ≤ 256 * g) || decide (256 * g + 256 ≤ off) || bs.isEmpty) }

/-- The bytes of a line that a mask enables, written to a quadrant's shared memory. -/
def Dev.sharedMerge (d : Dev) (q off : Nat) (data : Line) (mask : Mask) : Dev :=
  (List.range 64).foldl (fun d i =>
    if mask.getLsbD i then d.modQuad q (fun x => { x with shared := memSet x.shared (off + i) (BitVec.ofNat 8 (lineVal data i 1)) }) else d) d

/-- The oldest line leaves the forwarding buffer of a quadrant (R450): a device line that R138 admits to the commit sequencer, where it
receives its CSN (R411), or to the hold buffer (R71); a shared-memory line to its quadrant's memory. -/
def Dev.drainOne (d : Dev) (q : Nat) : Dev :=
  match (d.quad q).fwd with
  | [] => d
  | m :: rest =>
    let go := d.modQuad q (fun x => { x with fwd := rest })
    match eRegion (64 * m.line) with
    | .dev a =>
      if !d.sliceAdmits a then d else
      let c := d.nextCsn
      let d := go.memWrite 2 m.eng a m.data m.mask false false cleanRead m.check
      if c < d.nextCsn then d.modEng m.eng (fun x => { x with lastcsn := c }) else d
    | .shared q' off => (go.sharedMerge q' off m.data m.mask).unreserve (64 * m.line / 256)
    | _ => go

/-- The forwarding buffer of its quadrant holds a line of engine `e`. -/
def Dev.forwarded (d : Dev) (e : Nat) : Bool := (d.quad (e / 4)).fwd.any (·.eng == e)

/-- Drain the forwarding buffer while it holds a line of engine `e`. -/
def Dev.drainOf (d : Dev) (e : Nat) : Nat → Dev
  | 0 => d
  | fuel + 1 => if d.forwarded e then (d.drainOne (e / 4)).drainOf e fuel else d

/-- Every line of an engine's write merge leaves it, in order, as far as it may. -/
def Dev.leaveAll (d : Dev) (e : Nat) : Dev :=
  (d.eng e).merge.foldl (fun d m => if d.mayLeave e m then d.leave e m else d) d

/-! ### Loads (R406, R409, R410, R412) -/

/-- A load of `n` bytes at device address `a`: from the lines on their way where they hold every byte, else over the line's current
content. It waits while the request must be held or its read waits for a retrain (R676), and raises DATA_ERROR on poison (3) or a failed line check (2). -/
def Dev.devLoad (d : Dev) (e a n : Nat) (ev : RdEnv) (k : Nat → Dev → EngRes) : EngRes :=
  let own := d.onWay e ((devBase + a) / 64)
  let need := byteMask (a % 64) n
  if own.2 &&& need = need then k (lineVal own.1 (a % 64) n) d
  else if d.mustHold 2 e a false then .wait
  else
    match d.memReadNow 2 a ev with
    | (none, d') =>
      if d'.blocked.isSome then .wait
      else
        let check := ev.egress && (d.memReadNow 2 a { ev with egress := false }).1.isSome
        .raise d' 7 (if check then 2 else 3) (BitVec.ofNat 64 (devBase + a))
    | (some v, d') => k (lineVal (mergeLine v own.1 own.2) (a % 64) n) d'

/-- A load of `n` bytes (R406): MISALIGNED, then LOAD_FAULT, then DATA_ERROR; `k` uses what was read. (DESIGN CHOICE, log entry 194.) -/
def Dev.engLoad (d : Dev) (e : Nat) (addr : Word) (n : Nat) (ev : RdEnv) (k : Nat → Dev → EngRes) : EngRes :=
  let x := addr.toNat
  let r := eRegion x
  if x % n != 0 then .raise d 6 n addr
  else if !d.mayAccess e r false then .raise d 4 0 addr
  else match r with
    | .loc off =>
      if ev.ue then .raise (d.post { code := 0x084, point := e }) 7 1 addr else k (ofLe (memRead (d.eng e).loc off n)) d
    | .shared q off =>
      if ev.ue then .raise (d.post { code := 0x084, point := e }) 7 1 addr
      else
        let own := d.onWay e (x / 64)
        let base := lineOfVal (x % 64) n (ofLe (memRead (d.quad q).shared off n))
        k (lineVal (mergeLine base own.1 own.2) (x % 64) n) d
    | .rom off => k (ofLe ((List.range n).map (fun i => Config.romByte (off + i)))) d
    | .helm off =>
      let r := d.helmRead (3 + e) off (8 * n)
      k r.1 r.2
    | .dev a => d.devLoad e a n ev k
    | .unmapped => .raise d 4 0 addr

/-- A load instruction: sign- or zero-extended to 64 bits (Table 11.6). -/
def Dev.loadOp (d : Dev) (e op rd a imm n : Nat) (signed : Bool) (ev : RdEnv) : Dev :=
  d.engStep e (encI op rd a imm) false false false (fun d =>
    d.engLoad e (effAddr (d.gr e a) imm) n ev (fun v d =>
      .done (d.setGr e rd (if signed then sext (8 * n) v else BitVec.ofNat 64 v))))

/-- LD8 (R423). -/
def execLd8 (e d a imm : Nat) (ev : RdEnv) (s : State) : Host.Outcome State Fault Refusal :=
  act (okLd8 e d a imm ev) s (fun m => m.loadOp e 0x10 d a imm 1 true ev)

/-- LD16 (R423). -/
def execLd16 (e d a imm : Nat) (ev : RdEnv) (s : State) : Host.Outcome State Fault Refusal :=
  act (okLd16 e d a imm ev) s (fun m => m.loadOp e 0x11 d a imm 2 true ev)

/-- LD32 (R423). -/
def execLd32 (e d a imm : Nat) (ev : RdEnv) (s : State) : Host.Outcome State Fault Refusal :=
  act (okLd32 e d a imm ev) s (fun m => m.loadOp e 0x12 d a imm 4 true ev)

/-- LD64 (R423). -/
def execLd64 (e d a imm : Nat) (ev : RdEnv) (s : State) : Host.Outcome State Fault Refusal :=
  act (okLd64 e d a imm ev) s (fun m => m.loadOp e 0x13 d a imm 8 true ev)

/-- LD8U (R423). -/
def execLd8u (e d a imm : Nat) (ev : RdEnv) (s : State) : Host.Outcome State Fault Refusal :=
  act (okLd8u e d a imm ev) s (fun m => m.loadOp e 0x14 d a imm 1 false ev)

/-- LD16U (R423). -/
def execLd16u (e d a imm : Nat) (ev : RdEnv) (s : State) : Host.Outcome State Fault Refusal :=
  act (okLd16u e d a imm ev) s (fun m => m.loadOp e 0x15 d a imm 2 false ev)

/-- LD32U (R423). -/
def execLd32u (e d a imm : Nat) (ev : RdEnv) (s : State) : Host.Outcome State Fault Refusal :=
  act (okLd32u e d a imm ev) s (fun m => m.loadOp e 0x16 d a imm 4 false ev)

/-! ### Stores (R406, R411) -/

/-- A store into the write merge (R411): into the line's own entry, else into a free place, else into the place of the oldest line, which
leaves; it waits while that line may not leave. -/
def Dev.mergeStore (d : Dev) (e line : Nat) (data : Line) (mask : Mask) : EngRes :=
  let l := (d.eng e).merge
  let add (d : Dev) (l : List MLine) : List MLine :=
    if l.any (fun m => m.line == line) then
      l.map (fun (m : MLine) => if m.line = line then { m with data := mergeLine m.data data mask, mask := m.mask ||| mask } else m)
    else l ++ [⟨line, mergeLine 0 data mask, mask, d.time, e, 0⟩]
  let put (d : Dev) : Dev := d.modEng e (fun x => { x with merge := add d x.merge })
  if l.any (·.line == line) || l.length < 8 then .done (put d)
  else match l with
    | [] => .done (put d)
    | m :: _ => if d.mayLeave e m then .done (put (d.leave e m)) else .wait

/-- A store of `n` bytes (R406): MISALIGNED, then STORE_FAULT. A store to another quadrant's shared memory goes by the forwarding buffer,
one to device memory by the write merge; an engine's own store ends its reservation of the granule (R455). -/
def Dev.engStore (d : Dev) (e : Nat) (addr : Word) (n v : Nat) : EngRes :=
  let x := addr.toNat
  let r := eRegion x
  if x % n != 0 then .raise d 6 n addr
  else if !d.mayAccess e r true then .raise d 5 0 addr
  else match r with
    | .loc off => .done ((d.modEng e (fun y => { y with loc := Machine.memWrite y.loc off (leBytes n v) })).unreserveOwn e (x / 256))
    | .shared q off =>
      if q = e / 4 then .done ((d.modQuad q (fun y => { y with shared := Machine.memWrite y.shared off (leBytes n v) })).unreserve (x / 256))
      else if d.fwdFull (e / 4) then .wait
      else .done ((d.forward (e / 4) ⟨x / 64, lineOfVal (x % 64) n v, byteMask (x % 64) n, d.time, e, 0⟩).unreserveOwn e (x / 256))
    | .helm off => .done (d.helmWrite (3 + e) off (8 * n) v)
    | .dev _ => (d.unreserveOwn e (x / 256)).mergeStore e (x / 64) (lineOfVal (x % 64) n v) (byteMask (x % 64) n)
    | .rom _ => .raise d 5 0 addr
    | .unmapped => .raise d 5 0 addr

/-- A store instruction (Table 11.6). -/
def Dev.storeOp (d : Dev) (e op b a imm n : Nat) : Dev :=
  d.engStep e (encI op b a imm) false false false (fun d =>
    d.engStore e (effAddr (d.gr e a) imm) n ((d.gr e b).toNat % 256 ^ n))

/-- ST8 (R423). -/
def execSt8 (e b a imm : Nat) (s : State) : Host.Outcome State Fault Refusal :=
  act (okSt8 e b a imm) s (fun m => m.storeOp e 0x18 b a imm 1)

/-- ST16 (R423). -/
def execSt16 (e b a imm : Nat) (s : State) : Host.Outcome State Fault Refusal :=
  act (okSt16 e b a imm) s (fun m => m.storeOp e 0x19 b a imm 2)

/-- ST32 (R423). -/
def execSt32 (e b a imm : Nat) (s : State) : Host.Outcome State Fault Refusal :=
  act (okSt32 e b a imm) s (fun m => m.storeOp e 0x1A b a imm 4)

/-- ST64 (R423). -/
def execSt64 (e b a imm : Nat) (s : State) : Host.Outcome State Fault Refusal :=
  act (okSt64 e b a imm) s (fun m => m.storeOp e 0x1B b a imm 8)

/-! ### Reservations (R424, R453 to R455) -/

/-- Whether a reservation may be made, or a conditional store decided, at an address: not in the Helm space or the ROM, and in device memory
only in the WINDOW range (R424, R453). -/
def Dev.rsvOk (d : Dev) (r : ERegion) : Bool :=
  match r with
  | .loc _ | .shared _ _ => true
  | .dev a => decide (a < d.winBytes)
  | _ => false

/-- LD_RSV (R424, R453). -/
def execLdRsv (e d a imm : Nat) (ev : RdEnv) (s : State) : Host.Outcome State Fault Refusal :=
  act (okLdRsv e d a imm ev) s (fun m => m.engStep e (encI 0x1C d a imm) false false false (fun m =>
    let addr := effAddr (m.gr e a) imm
    if addr.toNat % 8 = 0 && !m.rsvOk (eRegion addr.toNat) then .raise m 4 0 addr
    else m.engLoad e addr 8 ev (fun v m =>
      .done ((m.modEng e (fun x => { x with rsv := some (addr.toNat / 256) })).setGr e d (BitVec.ofNat 64 v)))))

/-- A conditional store to device memory (R454): the merge lines of its granule leave first, then the store takes its CSN at once. -/
def Dev.condDev (d : Dev) (e rd a : Nat) (v : Word) : EngRes :=
  let g := (devBase + a) / 256
  let lines := (d.eng e).merge.filter (fun m => decide (m.line / 4 = g))
  let go := lines.foldl (fun (acc : Bool × Dev) m => if acc.1 && acc.2.mayLeave e m then (true, acc.2.leave e m) else (false, acc.2)) (true, d)
  let d := go.2.drainOf e 65
  let x := lineOfVal (a % 64) 8 v.toNat
  let m := byteMask (a % 64) 8
  if !go.1 || d.forwarded e || d.mustHold 2 e a true || !d.sliceAdmits a then .wait
  else if (d.eng e).rsv = some g then
    let c := d.nextCsn
    let d := d.memWrite 2 e (a / 64 * 64) x m false false cleanRead (entryCheck (a / 64) x m)
    .done ((d.modEng e (fun x => { x with lastcsn := c, rsv := none })).setGr e rd 0)
  else .done ((d.modEng e (fun x => { x with rsv := none })).setGr e rd 1)

/-- ST_CND (R424, R454): g[D] is 0 where the store was made, else 1; the reservation is cleared in both cases. -/
def execStCnd (e d a b : Nat) (s : State) : Host.Outcome State Fault Refusal :=
  act (okStCnd e d a b) s (fun m => m.engStep e (encA 0x1D d a b 0) false false false (fun m =>
    let addr := m.gr e a
    let r := eRegion addr.toNat
    if addr.toNat % 8 != 0 then .raise m 6 8 addr
    else if !m.mayAccess e r true || !m.rsvOk r then .raise m 5 0 addr
    else match r with
      | .dev x => m.condDev e d x (m.gr e b)
      | _ =>
        if (m.eng e).rsv = some (addr.toNat / 256) then
          (match m.engStore e addr 8 (m.gr e b).toNat with
           | .done m => .done ((m.modEng e (fun x => { x with rsv := none })).setGr e d 0)
           | x => x)
        else .done ((m.modEng e (fun x => { x with rsv := none })).setGr e d 1)))

/-! ### Barriers (R451, R456, R457) -/

/-- A barrier's word and its reserved fields. -/
def barWord (fn rs : Nat) : Nat := withRs (encA 0x1E 0 0 0 fn) (rsvD + rsvA + rsvB) rs

/-- bar.core and bar.quad: the write merge passes every line to the forwarding buffer; what an engine stores to its own quadrant's shared
memory is written at once in this model (Table 12.1). -/
def Dev.barLocal (d : Dev) (e : Nat) : EngRes :=
  let d := d.leaveAll e
  if (d.eng e).merge.isEmpty then .done d else .stay d

/-- The stores of an engine that wait in a hold buffer. -/
def Dev.heldOf (d : Dev) (e : Nat) : List Req := d.hold.filter (fun r => r.port == 2 && r.tag == e && r.wr.isSome)

/-- The serving Point of a held request is DYING. -/
def Dev.dyingReq (d : Dev) (r : Req) : Bool := d.f (PNT_STAT.STATE (d.serving (d.homeAt r.a))) == 1

/-- BAR_CHIP's wait (R451, R456): complete once every line of the engine has left its merge and its quadrant's forwarding buffer and none
waits in a hold buffer; DRAINING shows while one waits for a dying Point. (DEDUCED, log entry 134.) -/
def Dev.barChip (d : Dev) (e : Nat) : EngRes :=
  let d := d.leaveAll e
  if !(d.eng e).merge.isEmpty then .stay d
  else
    let d := d.drainOf e 65
    if (d.heldOf e).isEmpty && !d.forwarded e then .done (d.modEng e (fun x => { x with waiting := false, draining := 0 }))
    else
      let dying := (d.heldOf e).any (fun r => d.dyingReq r)
      .stay (d.modEng e (fun x => { x with
        waiting := true, draining := b2n dying, barAt := if dying && x.draining = 0 then d.time else x.barAt }))

/-- BAR_CORE (R451). -/
def execBarCore (e rs : Nat) (s : State) : Host.Outcome State Fault Refusal :=
  act (okBarCore e rs) s (fun m => m.engStep e (barWord 0 rs) (rsBad (rsvD + rsvA + rsvB) rs) false false (fun m => m.barLocal e))

/-- BAR_QUAD (R451). -/
def execBarQuad (e rs : Nat) (s : State) : Host.Outcome State Fault Refusal :=
  act (okBarQuad e rs) s (fun m => m.engStep e (barWord 1 rs) (rsBad (rsvD + rsvA + rsvB) rs) false false (fun m => m.barLocal e))

/-- BAR_CHIP (R451, R456). -/
def execBarChip (e rs : Nat) (s : State) : Host.Outcome State Fault Refusal :=
  act (okBarChip e rs) s (fun m => m.engStep e (barWord 2 rs) (rsBad (rsvD + rsvA + rsvB) rs) false true (fun m => m.barChip e))

/-- A store that a barrier's drain timeout discards (R456): it leaves the hold buffer without a CSN, its line is lost, event 0x0C1 carries the
engine, the address, the mask and the line check, and bstat.FAULT is set, with the address where FAULT was clear. (DEDUCED, log entry 120.) -/
def Dev.discardStore (d : Dev) (e : Nat) (r : Req) : Dev :=
  match r.wr with
  | none => d
  | some (x, m) =>
    let d := (({ d with hold := d.hold.filter (fun y => y != r) } : Dev).markPoison (r.a / 64) 2).supersede (r.a / 64)
    let d := d.post { code := 0x0C1, point := e, addr := r.a, sev := 2,
                      detail := leBytes 2 e ++ leBytes 2 (lineCheck x (termDev (r.a / 64))) ++ leBytes 4 0 ++ leBytes 8 r.a ++ leBytes 8 m.toNat }
    d.modEng e (fun y => { y with bstatAddr := if y.bfault then y.bstatAddr else r.a, bfault := true })

/-- BARRIER_DRAIN_TIMEOUT (R456): 50 µs after a bar.chip began to wait on a store held for a dying Point. -/
def execBarrierDrainTimeout (e : Nat) (s : State) : Host.Outcome State Fault Refusal :=
  act (okBarrierDrainTimeout e) s (fun d =>
    let x := d.eng e
    if !x.waiting || x.draining = 0 || d.time < x.barAt + usUnits 50 then d
    else
      let d := ((d.heldOf e).filter (fun r => d.dyingReq r)).foldl (fun d r => d.discardStore e r) d
      let d := d.modEng e (fun y => { y with draining := 0 })
      let d := if (d.heldOf e).isEmpty then d.modEng e (fun y => { y with waiting := false, pc := y.pc + 4 }) else d
      d.lockCopy e)

/-- WRITE_MERGE_DRAIN (R411): a line leaves the write merge 1 µs after its first store; `line` is its number among the lines of engine
addresses. -/
def execWriteMergeDrain (e line : Nat) (s : State) : Host.Outcome State Fault Refusal :=
  act (okWriteMergeDrain e line) s (fun d =>
    match (d.eng e).merge.find? (fun m => m.line == line) with
    | some m => if d.engClk && decide (m.since + usUnits 1 ≤ d.time) && d.mayLeave e m then d.leave e m else d
    | none => d)

/-- FORWARDING_BUFFER_DRAIN (R450). -/
def execForwardingBufferDrain (q : Nat) (s : State) : Host.Outcome State Fault Refusal :=
  act (okForwardingBufferDrain q) s (fun d => if d.engClk then d.drainOne q else d)

end Sys2Proof.Machine
end

