-- ==== Sys2Proof/Machine/EngineMedia.lean ====
section
/-! DEFINITION. Media instructions and their tickets (R427 to R436). -/

namespace Sys2Proof.Machine

/-! ### Tickets (R427) -/

/-- The lowest-numbered free ticket of an engine. -/
def Engine.freeTicket (x : Engine) : Option Nat := (List.range 32).find? (fun i => x.tickets.all (fun t => t.num != i))

/-- A media operation is issued: it takes a ticket, whose number goes to g[D]; `f` gives the ticket and the device. Without a free ticket
nothing is issued and g[D] is all ones. -/
def Dev.issue (d : Dev) (e rd : Nat) (f : Nat → Dev → Ticket × Dev) : EngRes :=
  match (d.eng e).freeTicket with
  | none => .done (d.setGr e rd (BitVec.allOnes 64))
  | some t =>
    let r := f t d
    .done ((r.2.modEng e (fun x => { x with tickets := x.tickets ++ [r.1] })).setGr e rd (BitVec.ofNat 64 t))

/-- A ticket whose operation ends with a result alone. -/
def ticketOf (t result : Nat) : Ticket := { num := t, pend := mediaStatus t result 0 false 0 }

/-- Why a media operation on a physical sector ends at once (R429): 0x05 invalid address, 0x06 die dead or link retraining, 0x0A a clear in
progress on its segment. -/
def Dev.psaRefused (d : Dev) (a : Nat) (clear : Bool) : Option Nat :=
  if !psaValid a then some 5
  else if d.dieGone (psaPoint a) then some 6
  else if !clear && (d.seg (psaSeg a)).state == 1 then some 0x0A
  else none

/-- A media operation on the sector that g[A] names: refused under R429, or carried out by `f`. -/
def Dev.issueAt (d : Dev) (e rd a : Nat) (clear : Bool) (f : Nat → Nat → Dev → Ticket × Dev) : EngRes :=
  let p := (d.gr e a).toNat
  d.issue e rd (fun t d => match d.psaRefused p clear with | some r => (ticketOf t r, d) | none => f p t d)

/-- The checks on a buffer of a media instruction (Table 11.2): 16 B aligned, inside the ranges permitted. (DEDUCED, log entry 121.) -/
def Dev.bufCheck (d : Dev) (e : Nat) (buf : Word) (n : Nat) (k : EngRes) : EngRes :=
  if buf.toNat % 16 != 0 then .raise d 6 16 buf
  else if !d.bufOk e buf.toNat n then .raise d 4 0 buf
  else k

/-! ### Reads (R430, R433) -/

/-- The two bits that a storage element of a level reads as (Table 3.3). (DEDUCED, log entry 130.) -/
def levelBits (k : Nat) : Nat := [3, 2, 0, 1].getD k 0

/-- The 304 B image of a service row (R80): 512 lodestone cells, element e at level e mod 4, element e in bits 2e and 2e + 1; the header;
bytes at L0. (DESIGN CHOICE, log entry 129.) -/
def Dev.serviceRow (d : Dev) (sg : Nat) : List (BitVec 8) :=
  List.replicate 128 (BitVec.ofNat 8 (levelBits 0 + 4 * levelBits 1 + 16 * levelBits 2 + 64 * levelBits 3)) ++ d.segHeader sg ++
    List.replicate 112 0xFF

/-- `n` free bytes. (DESIGN CHOICE, log entry 129.) -/
def Dev.freeBytes (d : Dev) : Nat → List (BitVec 8) × Dev
  | 0 => ([], d)
  | n + 1 =>
    let r := d.draw
    let t := r.2.freeBytes n
    (r.1.setWidth 8 :: t.1, t.2)

/-- A row as sensed: its image where no bit reads wrong (`ev`), else free bytes. -/
def Dev.sensed (d : Dev) (image : List (BitVec 8)) (ev : RdEnv) : List (BitVec 8) × Dev :=
  match (popBch ev).1 with
  | some 0 => (image, d)
  | _ => d.freeBytes 304

/-- Under OVERRIDE the command of a read carries the references of mrefs (R430). -/
def Dev.refCmd (d : Dev) (e psa row : Nat) (override : Bool) : Dev :=
  let m := (d.eng e).mrefs
  if override then d.linkSend (psaPoint psa) 1 (psaCell psa) row (bits m 0 8) (bits m 8 8) (bits m 16 8) else d

/-- What a row that does not decode reads as is free, and may be a blank row (R86). (DESIGN CHOICE, log entry 129.) -/
def Dev.readsBlank (d : Dev) (ev : RdEnv) : Bool × Dev :=
  match (popBch ev).1 with
  | some _ => (false, d)
  | none => let (b, d) := d.freeBytes 304; (fewBits 16 (2 ^ 2432 - 1 - ofLe b), d)

/-- The bits that BCH corrects in a read, and whether the drift fallback retry is made (R127, Table 11.10). -/
def corrOf (ev : RdEnv) (retry : Bool) : Nat × Bool :=
  match (popBch ev).1 with
  | some c => (c, false)
  | none => if retry then (((popBch (popBch ev).2).1).getD 0, true) else (0, false)

/-- The check of a sector as a read of logical sector `l` (R430): window and stream sectors at their own terms, the others at the physical
term. -/
def Dev.expected (d : Dev) (psa l : Nat) (x : Sector) : Bool :=
  let kind := metaKind x.md
  if kind ≤ 1 then d.metaFits psa x l (kind = 1) && (List.range 4).all (fun q => (d.lineOf psa x l q (kind = 1)).isSome)
  else (List.range 4).all (fun q => lineCheck (secLine x.data q) (termPhys psa q) == metaCheck x.md q)

/-- MREAD's operation (R430): `fn` holds RAW, SERVICE, NORETRY, OVERRIDE in bits 0 to 3; `want` is the logical sector expected, or all ones.
The parity and TWIN copies are not consulted. (DESIGN CHOICE, log entry 129; DEDUCED, log entry 131.) -/
def Dev.mreadOp (d : Dev) (e t psa buf want fn : Nat) (ev : RdEnv) : Ticket × Dev :=
  let ov := fn.testBit 3
  if fn.testBit 1 then
    let row := psaSeg psa % 8192 * 513 + 512
    let d := (d.senseRow psa row (driftX (d.loadAge (psaSeg psa)))).refCmd e psa row ov
    let r := d.sensed (d.serviceRow (psaSeg psa)) ev
    ({ num := t, pend := mediaStatus t 0 0 false 0, buf := buf, bytes := r.1 }, r.2)
  else if fn.testBit 0 then
    let d := (d.sense psa).refCmd e psa (linkRow psa) ov
    match d.row psa with
    | none =>
      match assocGet psa d.sectors with
      | none => ({ num := t, pend := mediaStatus t 0 0 false 0, buf := buf, bytes := List.replicate 304 0xFF }, d)
      | some _ =>
        let r := d.freeBytes 304
        ({ num := t, pend := mediaStatus t 0 0 false 0, buf := buf, bytes := r.1 }, r.2)
    | some x =>
      let r := d.sensed x.image ev
      ({ num := t, pend := mediaStatus t 0 0 false 0, buf := buf, bytes := r.1 }, r.2)
  else
    let retry := !fn.testBit 2
    match d.row psa with
    | none => (ticketOf t 1, (d.sense psa).refCmd e psa (linkRow psa) ov)
    | some _ =>
      let (blank, d) := if ov then d.readsBlank ev else (false, d)
      if blank then (ticketOf t 1, (d.sense psa).refCmd e psa (linkRow psa) ov) else
      let c := corrOf ev retry
      let r := d.decode psa retry ev
      let d := r.2.1.refCmd e psa (linkRow psa) (ov && !c.2)
      match r.1.sec with
      | none => ({ num := t, pend := mediaStatus t 2 c.1 c.2 0 }, d)
      | some x =>
        let bytes := secBytes (d.clearData psa x) ++ leBytes 16 x.md.toNat
        if want = 2 ^ 64 - 1 || d.expected psa want x then
          ({ num := t, pend := mediaStatus t 0 c.1 c.2 0, buf := buf, bytes := bytes }, d)
        else ({ num := t, pend := mediaStatus t 7 c.1 c.2 0, buf := buf, bytes := bytes }, d.secAlarm { secEv 0x081 1 psa with sev := 2 })

/-- MREAD (R430). -/
def execMread (e d a b c fn : Nat) (ev : RdEnv) (s : State) : Host.Outcome State Fault Refusal :=
  act (okMread e d a b c fn ev) s (fun m =>
    m.engStep e (encM 0x20 d a b c fn) (decide (fn ≥ 16)) (!m.mSurvey) false (fun m =>
      let buf := m.gr e b
      let want := (m.gr e c).toNat
      m.bufCheck e buf (if fn % 4 = 0 then 272 else 304)
        (m.issueAt e d a false (fun p t m => m.mreadOp e t p buf.toNat want fn ev))))

/-- MVERIFY's operation (R433). -/
def Dev.mverifyOp (d : Dev) (t psa : Nat) (ev : RdEnv) : Ticket × Dev :=
  match d.row psa with
  | none => (ticketOf t 1, d.sense psa)
  | some _ =>
    let c := corrOf ev true
    let r := d.decode psa true ev
    let res := if r.1.sec.isNone then 2 else if c.1 ≤ d.f OVL_VERIFY.MARGIN_BITS then 0 else 0x0D
    ({ num := t, pend := mediaStatus t res c.1 c.2 0 }, r.2.1)

/-- MVERIFY (R433). -/
def execMverify (e d a rs : Nat) (ev : RdEnv) (s : State) : Host.Outcome State Fault Refusal :=
  act (okMverify e d a rs ev) s (fun m =>
    m.engStep e (withRs (encM 0x23 d a 0 0 0) (rsvB + rsvC + rsvFn) rs) (rsBad (rsvB + rsvC + rsvFn) rs) true false (fun m =>
      m.issueAt e d a false (fun p t m => m.mverifyOp t p ev)))

/-! ### Programs and clears (R431, R432) -/

/-- The sector that MWRITE makes of its buffer: the program's data, high part and KIND; checks at the physical term; the segment's clear
count (R431). -/
def Dev.mwriteSector (d : Dev) (psa : Nat) (buf : List (BitVec 8)) : Sector :=
  let data := secOfBytes (buf.take 256)
  let md : BitVec 128 := BitVec.ofNat 128 (ofLe (buf.drop 256))
  let x := physSector d psa (metaKind md) data .raw
  let checks := (List.range 4).map (fun q => lineCheck (secLine data q) (termPhys psa q))
  { x with md := mkMeta checks (d.seg (psaSeg psa)).count (metaHigh md) false 0 0 (metaKind md) }

/-- MWRITE's operation (R431): 0x03 on a row already programmed (R88); after a verify failure the next free sector of the same open segment
takes the data, with 0x04; where none is free the manual states no result, and it is a free value. With COMMIT it completes at media commit.
(DESIGN CHOICE, log entry 126; DESIGN CHOICE, log entry 127.) -/
def Dev.mwriteOp (d : Dev) (t psa : Nat) (buf : List (BitVec 8)) (commit ok : Bool) : Ticket × Dev :=
  let kind := metaKind (BitVec.ofNat 128 (ofLe (buf.drop 256)))
  if kind != 4 && kind != 5 && kind != 7 then (ticketOf t 5, d)
  else if d.programmed psa || d.skipped psa then (ticketOf t 3, d.program psa (d.mwriteSector psa buf) 0)
  else
    let n := psaPoint psa
    let waits (p : Nat) : TicketWait := if commit then .commit p else .now
    if ok then
      ({ num := t, pend := mediaStatus t 0 0 false psa, waits := waits psa }, (d.program psa (d.mwriteSector psa buf) 0).addLive psa 1)
    else
      let d := d.program psa { d.mwriteSector psa buf with failed := true } 0
      let d := (d.cnt (PNT_MEDSTAT.VFY_RELOC n)).post (secEv 0x012 0 psa)
      match d.metaSector n with
      | none =>
        let r := d.draw
        (ticketOf t (r.1.toNat % 256), r.2)
      | some p =>
        ({ num := t, pend := mediaStatus t 4 0 false p, waits := waits p }, (d.program p (d.mwriteSector p buf) 0).addLive p 1)

/-- MWRITE (R431). -/
def execMwrite (e d a b fn rs : Nat) (ok : Bool) (s : State) : Host.Outcome State Fault Refusal :=
  act (okMwrite e d a b fn rs ok) s (fun m =>
    m.engStep e (withRs (encM 0x21 d a b 0 fn) rsvC rs) (decide (fn ≥ 2) || rsBad rsvC rs) true false (fun m =>
      let buf := m.gr e b
      let bytes := memRead (m.eng e).loc buf.toNat 272
      if m.noClear then .wait else m.bufCheck e buf 272 (m.issueAt e d a false (fun p t m => m.mwriteOp t p bytes (fn.testBit 0) ok))))

/-- MCLEAR's operation (R432): 0x05 where the sector field is not zero, 0x09 on a count that may not be; else the CLEAR record with the
count, and the clear, which ends with its ticket. (DEDUCED, log entry 128.) -/
def Dev.mclearOp (d : Dev) (t psa count retired : Nat) : Ticket × Dev :=
  let sg := psaSeg psa
  if psaSec psa != 0 then (ticketOf t 5, d)
  else if count > d.f PNT_RETIRE.LIMIT || count ≤ (d.seg sg).leaf || count = 0xFFFFFFFF then (ticketOf t 9, d)
  else
    let all := Nat.lor (d.seg sg).retired retired
    let k := (List.range 32).countP (fun c => all.testBit c)
    ({ num := t, pend := mediaStatus t (if k ≥ 5 then 8 else 0) 0 false k, waits := .clear sg retired }, d.beginClear sg count)

/-- MCLEAR (R432). -/
def execMclear (e d a b rs retired : Nat) (s : State) : Host.Outcome State Fault Refusal :=
  act (okMclear e d a b rs retired) s (fun m =>
    m.engStep e (withRs (encM 0x22 d a b 0 0) (rsvC + rsvFn) rs) (rsBad (rsvC + rsvFn) rs) true false (fun m =>
      let count := (m.gr e b).toNat
      if m.noClear then .wait else m.issueAt e d a true (fun p t m => m.mclearOp t p count retired)))

/-! ### Folds and relocations (R434) -/

/-- Start the image of a fold (R434), where its page is free for it; under REFRESH it is graded as a refresh (Table 11.9).
(DEDUCED, log entry 192.) -/
def Dev.foldStart (d : Dev) (mode target place : Nat) (refresh : Bool) (ev : RdEnv) : Dev :=
  let had := d.imgs.length
  let d := match mode with
    | 0 => (d.startFold target 2 [] ev).1
    | 1 => match assocGet target d.overlay with | some o => (d.startSecMove target o ev).1 | none => d
    | _ =>
      match d.seals.find? (fun x => x.num = target) with
      | some sl => (d.startSealedMove sl (sl.psas.getD place 0 / 16) ev).1
      | none => d
  if had < d.imgs.length && refresh then { d with imgs := listMod d.imgs had (fun x => { x with refresh := true }) } else d

/-- The image of a fold stands. -/
def Dev.foldOpen (d : Dev) (mode target place : Nat) : Bool :=
  match mode with
  | 0 => d.imgs.any (fun x => x.pg == target && x.whole && (x.why == 2 || x.why == 3))
  | 1 => d.imgs.any (fun x => x.why == 4 && x.secs.any (·.l == target))
  | _ =>
    match d.seals.find? (fun x => x.num = target) with
    | some sl => d.imgs.any (fun x => x.why == 5 && x.old.contains (sl.psas.getD place 0))
    | none => false

/-- The target of a fold holds something live. -/
def Dev.foldLive (d : Dev) (mode target place : Nat) : Bool :=
  match mode with
  | 0 => d.occupies target
  | 1 => (assocGet target d.overlay).isSome
  | _ => d.seals.any (fun x => x.num == target && decide (place < x.psas.length))

/-- The physical address of sector 0 of what a fold placed. -/
def Dev.foldAddr (d : Dev) (mode target place : Nat) : Nat :=
  match mode with
  | 0 => (match assocGet (16 * target) d.overlay with | some o => o.phys | none => 16 * (d.pageAt target 0).getD 0)
  | 1 => (match assocGet target d.overlay with | some o => o.phys | none => 0)
  | _ => (match d.seals.find? (fun x => x.num = target) with | some sl => sl.psas.getD place 0 | none => 0)

/-- MFOLD's operation on its descriptor (Table 11.9): 0x05 where a field that must be zero is not, 0x0B where the target holds nothing
live; else it starts its image, joins the fold of its page that is under way (R176), or waits. (DEDUCED, log entry 192.) -/
def Dev.mfoldOp (d : Dev) (t mode : Nat) (desc : List (BitVec 8)) (ev : RdEnv) : Ticket × Dev :=
  let target := fieldLe desc 0 8
  let flags := fieldLe desc 8 1
  let src := fieldLe desc 16 8
  let zero := fieldLe desc 9 7 = 0 && fieldLe desc 24 8 = 0 && flags < 4 && target < 2 ^ (if mode = 1 then 31 else 27) && (mode = 2 || src = 0)
  if !zero || (mode = 2 && !psaValid src) then (ticketOf t 5, d)
  else
    let pick : Option (Nat × Nat) :=
      if mode = 2 then (d.seals.find? (fun x => x.target = 0 && x.psas.contains (src / 16 * 16))).map
        (fun x => (x.num, x.psas.findIdx (· == src / 16 * 16)))
      else some (target, 0)
    match pick with
    | none => (ticketOf t 0x0B, d)
    | some (g, k) =>
      if !d.foldLive mode g k then (ticketOf t 0x0B, d)
      else
        let rf := flags % 2 = 1
        let d' := d.foldStart mode g k rf ev
        ({ num := t, pend := 0, waits := .fold mode g k rf ev (d'.foldOpen mode g k) }, d')

/-- An mfold instruction of a mode (R434). -/
def Dev.mfold (d : Dev) (e rd a mode rs : Nat) (ev : RdEnv) : Dev :=
  d.engStep e (withRs (encM 0x24 rd a 0 0 mode) (rsvB + rsvC) rs) (rsBad (rsvB + rsvC) rs) true false (fun d =>
    let buf := d.gr e a
    let desc := memRead (d.eng e).loc buf.toNat 32
    d.bufCheck e buf 32 (d.issue e rd (fun t d => d.mfoldOp t mode desc ev)))

/-- MFOLD_PAGE (R434). -/
def execMfoldPage (e d a rs : Nat) (ev : RdEnv) (s : State) : Host.Outcome State Fault Refusal :=
  act (okMfoldPage e d a rs ev) s (fun m => m.mfold e d a 0 rs ev)

/-- MFOLD_SECTOR (R434). -/
def execMfoldSector (e d a rs : Nat) (ev : RdEnv) (s : State) : Host.Outcome State Fault Refusal :=
  act (okMfoldSector e d a rs ev) s (fun m => m.mfold e d a 1 rs ev)

/-- MFOLD_SEALED (R434). -/
def execMfoldSealed (e d a rs : Nat) (ev : RdEnv) (s : State) : Host.Outcome State Fault Refusal :=
  act (okMfoldSealed e d a rs ev) s (fun m => m.mfold e d a 2 rs ev)

/-! ### References and lodestones (R435) -/

/-- MREF (R435): references A, B and C from the data age, or from the lodestone age. -/
def execMref (e d a fn rs : Nat) (s : State) : Host.Outcome State Fault Refusal :=
  act (okMref e d a fn rs) s (fun m =>
    m.engStep e (withRs (encM 0x25 d a 0 0 fn) (rsvB + rsvC) rs) (decide (fn ≥ 2) || rsBad (rsvB + rsvC) rs) (!m.mSurvey) false (fun m =>
      m.issueAt e d a false (fun p t m =>
        let r := m.refs (driftX (if fn = 0 then m.dataAge (psaSeg p) else m.loadAge (psaSeg p)))
        ({ num := t, pend := mediaStatus t 0 0 false (r.1 + r.2.1 * 2 ^ 8 + r.2.2 * 2 ^ 16) }, m))))

/-- MSENSE (R85, R435): one lodestone sense step at the code, and the lodestones of each level that read below it. -/
def execMsense (e d a b rs : Nat) (els : List Nat) (s : State) : Host.Outcome State Fault Refusal :=
  act (okMsense e d a b rs els) s (fun m =>
    m.engStep e (withRs (encM 0x26 d a b 0 0) (rsvC + rsvFn) rs) (rsBad (rsvC + rsvFn) rs) (!m.mSurvey) false (fun m =>
      let code := (m.gr e b).toNat % 256
      m.issueAt e d a false (fun p t m =>
        let m := (m.linkSend (psaPoint p) 5 (psaCell p) (psaSeg p % 8192 * 513 + 512) code 0 0).grant (psaPoint p) 6 1
        let v := senseVec els code
        ({ num := t, pend := mediaStatus t 0 0 false ((List.range 4).foldl (fun acc k => acc + levelCount v k * 2 ^ (8 * k)) 0) }, m))))

/-! ### Completion and wait (R427, R436) -/

/-- A ticket completes: its status stands, its bytes are in local memory, and a TICKET event is pending. -/
def Dev.ticketDone (d : Dev) (e t status : Nat) : Dev :=
  d.modEng e (fun x => { (x.tickets.filter (fun y => y.num == t)).foldl (fun x y => x.putLoc y.buf y.bytes) x with
    tickets := x.tickets.map (fun (y : Ticket) => if y.num = t then { y with status := some status } else y), events := x.events ||| 8 })

/-- What a ticket waits for has come about, or moves on. -/
def Dev.ticketStep (d : Dev) (e : Nat) (t : Ticket) : Dev :=
  match t.waits with
  | .now => d.ticketDone e t.num t.pend
  | .commit p => if d.parityCovers p then d.ticketDone e t.num t.pend else d
  | .clear sg r => if d.noClear || d.clearWaits sg then d else (if (d.seg sg).state = 1 then d.clearDone sg r else d).ticketDone e t.num t.pend
  | .fold mode g k rf ev started =>
    if started then
      (if d.foldOpen mode g k then d else d.ticketDone e t.num (mediaStatus t.num 0 0 false (d.foldAddr mode g k)))
    else if !d.foldLive mode g k then d.ticketDone e t.num (mediaStatus t.num 0x0B 0 false 0)
    else
      let d' := d.foldStart mode g k rf ev
      d'.modEng e (fun x => { x with tickets := x.tickets.map (fun (y : Ticket) =>
        if y.num = t.num then { y with waits := .fold mode g k rf ev (d'.foldOpen mode g k) } else y) })

/-- MEDIA_TICKET_COMPLETE (R427). -/
def execMediaTicketComplete (e t : Nat) (s : State) : Host.Outcome State Fault Refusal :=
  act (okMediaTicketComplete e t) s (fun d =>
    match (d.eng e).tickets.find? (fun y => y.num == t && y.status.isNone) with
    | some y => if d.engClk then (d.ticketStep e y).lockCopy e else d
    | none => d)

/-- The ticket that wait collects (R436): the one named, or the lowest-numbered completed one. (DEDUCED, log entry 133.) -/
def Engine.waitPick (x : Engine) (a : Nat) : Option Ticket :=
  if a < 32 then x.tickets.find? (fun t => t.num == a)
  else ((List.range 32).filterMap (fun i => x.tickets.find? (fun t => t.num == i && t.status.isSome))).head?

/-- WAIT (R436): `timeout` says that g[B] cycles have passed. -/
def execWait (e d a b : Nat) (timeout : Bool) (s : State) : Host.Outcome State Fault Refusal :=
  act (okWait e d a b timeout) s (fun m => m.engStep e (encA 0x31 d a b 0) false false false (fun m =>
    let n := (m.gr e a).toNat
    let out (m : Dev) (v : Nat) : EngRes := .done (m.setGr e d (BitVec.ofNat 64 v))
    let late (num : Nat) : EngRes := if timeout || m.gr e b = 0 then out m (mediaStatus num 0xFF 0 false 0) else .wait
    match (m.eng e).waitPick n with
    | none => if n < 32 then out m (mediaStatus n 0x0F 0 false 0) else late 0
    | some t =>
      match t.status with
      | some v => out (m.modEng e (fun x => { x with tickets := x.tickets.filter (fun y => y.num != t.num) })) v
      | none => late t.num))

end Sys2Proof.Machine
end

