-- ==== Sys2Proof/Machine/EngineQueue.lean ====
section
/-! DEFINITION. Queue instructions of the engines (R437 to R442). -/

namespace Sys2Proof.Machine

/-- The stream that a register names (R437). -/
def Dev.qStream (d : Dev) (e a : Nat) : Nat := (d.gr e a).toNat % 4096

/-- Why a queue instruction on stream `s` is refused before it acts (R438, R372, R386, R587): 06h for a disabled or FAILED stream, or one in a
range affected by Hove-to; 03h where engines may not consume it. (DEDUCED, log entry 132.) -/
def Dev.qRefused (d : Dev) (s : Nat) : Option Nat :=
  if !(d.mStream && d.on (STR_CTL.EN s) && (d.stm s).valid) || (d.stm s).failed || d.hove (homeOfStream s) then some 6
  else if !d.mayConsume s 2 then some 3
  else none

/-- An operation of Table 10.5 by an engine, with its CSN (R437): result code, the stream after it, the device. -/
def Dev.qOp (d : Dev) (e s op arg : Nat) : Nat × Stream × Dev :=
  let c := d.nextCsn
  let r := (d.takeCsn.modEng e (fun x => { x with lastcsn := c })).strOp s 2 op arg
  (r.1, r.2.stm s, r.2)

/-- qmark, qrewind, qrelease and qdrop (R441): the operation, and the position it returns. The engine waits while the stream's home is held. -/
def Dev.qPlain (d : Dev) (e op rd a : Nat) (arg : Nat) (show_ : Stream → Nat) : EngRes :=
  let s := d.qStream e a
  if d.mustHold 2 e (apBase s) true then .wait
  else match d.qRefused s with
    | some c => .done (d.setGr e rd (queueRefused c))
    | none =>
      let r := d.qOp e s op arg
      .done (r.2.2.setGr e rd (if r.1 = 0 then queueResult (show_ r.2.1) else queueRefused r.1))

/-- QMARK (R441). -/
def execQmark (e d a b rs : Nat) (s : State) : Host.Outcome State Fault Refusal :=
  act (okQmark e d a b rs) s (fun m => m.engStep e (withRs (encM 0x2A d a b 0 0) (rsvC + rsvFn) rs) (b != 0 || rsBad (rsvC + rsvFn) rs) false false
    (fun m => m.qPlain e 2 d a 0 (fun x => x.pos.mark.getD 0)))

/-- QREWIND (R441). -/
def execQrewind (e d a b rs : Nat) (s : State) : Host.Outcome State Fault Refusal :=
  act (okQrewind e d a b rs) s (fun m => m.engStep e (withRs (encM 0x2B d a b 0 0) (rsvC + rsvFn) rs) (b != 0 || rsBad (rsvC + rsvFn) rs) false false
    (fun m => m.qPlain e 3 d a 0 (fun x => x.pos.rpos)))

/-- QRELEASE (R441): argument g[B]. -/
def execQrelease (e d a b rs : Nat) (s : State) : Host.Outcome State Fault Refusal :=
  act (okQrelease e d a b rs) s (fun m => m.engStep e (withRs (encM 0x2C d a b 0 0) (rsvC + rsvFn) rs) (rsBad (rsvC + rsvFn) rs) false false
    (fun m => m.qPlain e 4 d a (m.gr e b).toNat (fun x => x.pos.rel)))

/-- QDROP (R441). -/
def execQdrop (e d a b rs : Nat) (s : State) : Host.Outcome State Fault Refusal :=
  act (okQdrop e d a b rs) s (fun m => m.engStep e (withRs (encM 0x2D d a b 0 0) (rsvC + rsvFn) rs) (b != 0 || rsBad (rsvC + rsvFn) rs) false false
    (fun m => m.qPlain e 5 d a 0 (fun x => x.pos.rpos)))

/-- QCREDIT (R441): a position, permitted whatever CONS holds. -/
def execQcredit (e d a fn rs : Nat) (s : State) : Host.Outcome State Fault Refusal :=
  act (okQcredit e d a fn rs) s (fun m => m.engStep e (withRs (encM 0x2E d a 0 0 fn) (rsvB + rsvC) rs) (decide (fn > 5) || rsBad (rsvB + rsvC) rs) false
    false (fun m =>
      let st := m.qStream e a
      let p := (m.stm st).pos
      if m.mustHold 2 e (apBase st) false then .wait
      else match m.qRefused st with
        | some 6 => .done (m.setGr e d (queueRefused 6))
        | _ => .done (m.setGr e d (queueResult (match fn with
            | 0 => p.limit - p.end_ / 4096
            | 1 => p.end_
            | 2 => p.limit
            | 3 => p.avail
            | 4 => p.rpos
            | _ => p.rel)))))

/-- The lines of a stream from a position, `k` of them (R439): none where one is poison or fails its check at delivery. -/
def Dev.qLines (d : Dev) (s : Nat) : Nat → Nat → RdEnv → Option (List Line) × Dev
  | 0, _, _ => (some [], d)
  | k + 1, pos, ev =>
    let r := d.strLine s pos ev
    match d.egress ((d.stm s).line pos) r.1 ev.egress |>.1 with
    | none => (none, (r.2.egress ((d.stm s).line pos) r.1 ev.egress).2)
    | some x =>
      let t := r.2.qLines s k (pos + 64) { ev with bch := ev.bch.drop 1, egress := false }
      (t.1.map (fun l => x :: l), t.2)

/-- qpeek and qtake (R439, R440, R442): refused with 01h on a bad length; the local buffer is checked over the bytes to be copied; `k` goes
on with how many were copied. -/
def Dev.qCopy (d : Dev) (e rd a b c : Nat) (ev : RdEnv) (k : Nat → Dev → EngRes) : EngRes :=
  let s := d.qStream e a
  let buf := d.gr e b
  let len := (d.gr e c).toNat
  let p := (d.stm s).pos
  let n := Nat.min len (p.avail - p.rpos)
  if d.mustHold 2 e (apBase s) true then .wait
  else if buf.toNat % 64 != 0 then .raise d 6 64 buf
  else if !d.bufOk e buf.toNat (if len % 64 = 0 && len ≤ 4096 then n else 0) then .raise d 4 0 buf
  else match d.qRefused s with
    | some r => .done (d.setGr e rd (queueRefused r))
    | none =>
      if len % 64 != 0 || len > 4096 then .done (d.setGr e rd (queueRefused 1))
      else match d.qLines s (n / 64) p.rpos ev with
        | (none, d') => if d'.blocked.isSome then .wait else .raise d' 7 (if ev.egress then 2 else 3) buf
        | (some l, d') => k n (d'.modEng e (fun x => x.putLoc buf.toNat (l.flatMap lineBytes)))

/-- QPEEK (R439). -/
def execQpeek (e d a b c fn : Nat) (ev : RdEnv) (s : State) : Host.Outcome State Fault Refusal :=
  act (okQpeek e d a b c fn ev) s (fun m => m.engStep e (encM 0x28 d a b c fn) (fn != 0) false false (fun m =>
    m.qCopy e d a b c ev (fun n m => .done (m.setGr e d (queueResult n)))))

/-- QTAKE (R440): the copy, then READ with n, or with 0 where g[C] is 0. -/
def execQtake (e d a b c fn : Nat) (ev : RdEnv) (s : State) : Host.Outcome State Fault Refusal :=
  act (okQtake e d a b c fn ev) s (fun m => m.engStep e (encM 0x29 d a b c fn) (fn != 0) false false (fun m =>
    let st := m.qStream e a
    m.qCopy e d a b c ev (fun n m =>
      let r := m.qOp e st 1 n
      .done (r.2.2.setGr e d (if r.1 = 0 then queueResult r.2.1.pos.rpos else queueRefused r.1)))))

end Sys2Proof.Machine
end

