-- ==== Sys2Proof/Machine/EngineSys.lean ====
section
/-! DEFINITION. Traps, system registers, sleep, fix, tasks, watchdogs and faults of the engines (R414 to R421, R443 to R446, R64, R68). -/

namespace Sys2Proof.Machine

/-! ### Traps and eret (R414 to R418) -/

/-- The trap instruction (R414, R416, Table 11.3). At helm: a code below 0x8000 is an engine fault, any other a firmware call. At deck: EXIT
ends the program with g1, g2, g3; EVENT posts 0x0B0 with them; YIELD gives up the slice; any other code is a deck fault with CODE 0x01. -/
def Dev.trapOp (d : Dev) (e code word : Nat) : EngRes :=
  let x := d.eng e
  if x.priv = 0 then
    if code < 0x8000 then .stay (d.engFault e) else .stay (d.takeExc e 8 code 0 (x.pc + 4))
  else
    let t := d.takeExc e 8 code 0 (x.pc + 4)
    match code with
    | 0 => .stay (t.endDeck e (65536 + (x.rd 1).toNat % 65536) (x.rd 2).toNat (x.rd 3).toNat)
    | 1 =>
      .stay (t.post { code := 0x0B0, point := e,
                      detail := leBytes 4 0 ++ leBytes 8 (x.rd 1).toNat ++ leBytes 8 (x.rd 2).toNat ++ leBytes 8 (x.rd 3).toNat })
    | 2 => .stay t
    | _ => .raise d 1 word 0

/-- A trap with the reserved fields of its word. (DEDUCED, log entry 122.) -/
def Dev.trap (d : Dev) (e code rs : Nat) : Dev :=
  let w := withRs (encI 0x33 0 0 code) (rsvD + rsvA) rs
  d.engStep e w (rsBad (rsvD + rsvA) rs) false false (fun d => d.trapOp e code w)

/-- TRAP (R414, R416). -/
def execTrap (e code rs : Nat) (s : State) : Host.Outcome State Fault Refusal := act (okTrap e code rs) s (fun d => d.trap e code rs)

/-- EXIT (R416): the trap instruction with code 0. -/
def execExit (e : Nat) (s : State) : Host.Outcome State Fault Refusal := act (okExit e) s (fun d => d.trap e 0 0)

/-- EVENT (R416): the trap instruction with code 1. -/
def execEvent (e : Nat) (s : State) : Host.Outcome State Fault Refusal := act (okEvent e) s (fun d => d.trap e 1 0)

/-- YIELD (R416): the trap instruction with code 2. -/
def execYield (e : Nat) (s : State) : Host.Outcome State Fault Refusal := act (okYield e) s (fun d => d.trap e 2 0)

/-- RETURN FROM AN EXCEPTION (R418): PRIV receives PREV_PRIV, the reservation is cleared, and execution continues at epc. At deck the budget
counts from now, and the watchdog pauses with what it has run (R421). -/
def Dev.eret (d : Dev) (e : Nat) : Dev :=
  d.modEng e (fun x => { x with
    priv := x.prev, rsv := none, pc := x.epc, budgetFrom := d.time, kickAt := if x.prev = 1 then d.time - x.kickAt else x.kickAt })

/-- ERET (R418). -/
def execEret (e rs : Nat) (s : State) : Host.Outcome State Fault Refusal :=
  act (okEret e rs) s (fun d =>
    let m := rsvD + rsvA + rsvB
    d.engStep e (withRs (encA 0x34 0 0 0 0) m rs) (rsBad m rs) true false (fun d => .stay (d.eret e)))

/-! ### Tasks (R64) -/

/-- A fold task of a bank at HIGH, which goes ahead of other tasks (R174). -/
def Dev.goesAhead (d : Dev) (t : Task) : Bool := t.kind == 0 && d.bankHigh (homeOfPage t.arg)

/-- The task that comes first among the queues of some Points, with its Point (R64, R174): one that goes ahead, else the oldest. -/
def Dev.firstTask (d : Dev) (ps : List Nat) : Option (Nat × Task) :=
  let all := ps.flatMap (fun n => (d.pt n).tasks.map (fun t => (n, t)))
  let ahead := all.filter (fun x => d.goesAhead x.2)
  (if ahead.isEmpty then all else ahead).foldl (fun (acc : Option (Nat × Task)) x =>
    match acc with
    | none => some x
    | some b => if x.2.since < b.2.since then some x else acc) none

/-- Where an engine looks for a task (R64, Table 2.5), in turn: its own Point, the other Points of its quadrant, and those of the quadrant
before it where no engine of that quadrant works. -/
def Dev.taskPlaces (d : Dev) (e : Nat) : List (List Nat) :=
  let q := e / 4
  let before := (q + 3) % 4
  [[e], ((List.range 4).map (4 * q + ·)).filter (· != e), if d.quadWorks before then [] else (List.range 4).map (4 * before + ·)]

/-- A LOCKSTEP pair of which an engine is halted or retired takes no task (R503). -/
def Dev.mayTask (d : Dev) (e : Nat) : Bool :=
  (d.pairOf e).all (fun i => (d.eng i).state != .halted && (d.eng i).state != .retired)

/-- The work of a task of Point `n` (R64): a fold (R175), a collection (R176), a refresh (R121), the relocation of a page off a failed cell (R68); that
of the other kinds are commands of their own. At most one exempt refresh runs on a Point (R122). The Bool says that some of it could not be
started yet. (DESIGN CHOICE, log entry 125.) -/
def Dev.perform (d : Dev) (n : Nat) (t : Task) (ev : RdEnv) : Bool × Dev :=
  let fold (why : Nat) : Bool × Dev :=
    let d := (d.startFold t.arg why [] ev).1
    (d.occupies t.arg && !d.imgs.any (fun x => x.pg == t.arg && x.whole && (x.why == 2 || x.why == 3)), d)
  match t.kind with
  | 0 => fold 2
  | 1 => d.evacuate t.arg ev
  | 2 => if (d.seg t.arg).lowMargin && (d.exemptSeg n).any (· != t.arg) then (true, d) else d.evacuate t.arg ev
  | 7 => fold 3
  | _ => (false, d)

/-- An engine takes its next task and does it; one that cannot all be started goes back to its queue. The result is the descriptor's address
in its quadrant's shared memory, which the manual leaves to helm (a free value), or zero when there is none (Table 11.4).
(DESIGN CHOICE, log entry 125.) -/
def Dev.takeTask (d : Dev) (e : Nat) (ev : RdEnv) : Word × Dev :=
  match if d.mayTask e then (d.taskPlaces e).findSome? d.firstTask else none with
  | none => (0, d)
  | some (n, t) =>
    let d := d.modPt n (fun p => { p with tasks := p.tasks.erase t })
    let (left, d) := d.perform n t ev
    let d := if left then d.queueTask n t else d
    let d := d.modEng e (fun x => { x with curTask := if left then none else some t })
    let d := if n ≠ e then d.tally 0x45 (e / 4) 1 else d
    let r := d.draw
    (BitVec.ofNat 64 (0x1000000 + e / 4 * 0x200000 + 64 * (1 + r.1.toNat % 32767)), r.2)

/-! ### System registers (Table 11.4, R419, R420) -/

/-- The value of a system register other than task. -/
def Dev.sysVal (d : Dev) (e n : Nat) : Nat :=
  let x := d.eng e
  match n with
  | 0x00 => let i := if d.mLockstep then e / 2 * 2 else e
            i / 4 * 16 + i
  | 0x01 => x.priv + 2 * x.prev
  | 0x02 => x.epc.toNat
  | 0x03 => causeWord x.causeCode x.causeDetail
  | 0x04 => x.badaddr.toNat
  | 0x05 => x.ehandler.toNat
  | 0x06 => d.time
  | 0x07 => x.lastcsn
  | 0x08 => d.engCycles e
  | 0x09 => x.bstatAddr * 2 ^ 16 + x.draining % 2 * 2 + b2n x.bfault
  | 0x0A => x.mrefs
  | 0x0B => x.qpages % 512 * 2 ^ 16 + x.qbase % 512
  | 0x0C => if x.priv = 1 then d.budgetLeft e else x.budget
  | 0x0D => x.wakeEn % 16 * 2 ^ 16 + x.wakeStream % 4096
  | 0x10 => match x.rsv with | some g => 2 ^ 63 + g % 2 ^ 40 * 256 | none => 0
  | _ => 0

/-- The system registers that deck may read, and write (R419). -/
def sysDeckGet (n : Nat) : Bool := [0x00, 0x06, 0x07, 0x08, 0x09, 0x0A, 0x0B, 0x0D, 0x10].contains n
/-- The system registers that deck may write (R419). -/
def sysDeckPut (n : Nat) : Bool := [0x09, 0x0A, 0x0D].contains n

/-- getsys: a read of task takes the next task. -/
def Dev.getsys (d : Dev) (e n : Nat) (ev : RdEnv) : Word × Dev := if n = 0x0E then d.takeTask e ev else (BitVec.ofNat 64 (d.sysVal e n), d)

/-- putsys (Table 11.4, R420): only RW fields change; a write to wdog restarts the watchdog. -/
def Dev.putsys (d : Dev) (e n v : Nat) : Dev :=
  let deck := (d.eng e).priv = 1
  d.modEng e (fun x =>
    match n with
    | 0x01 => { x with prev := bits v 1 1 }
    | 0x02 => { x with epc := BitVec.ofNat 64 v }
    | 0x05 => { x with ehandler := BitVec.ofNat 64 (v / 4 * 4) }
    | 0x09 => { x with bfault := x.bfault && !v.testBit 0 }
    | 0x0A => if deck && !d.mSurvey then x else { x with mrefs := v % 2 ^ 24 }
    | 0x0B => { x with qbase := bits v 0 9, qpages := bits v 16 9 }
    | 0x0C => { x with budget := v }
    | 0x0D =>
      if deck then { x with wakeStream := bits v 0 12, wakeEn := bits v 16 1 + bits x.wakeEn 1 2 * 2 + bits v 19 1 * 8 }
      else { x with wakeStream := bits v 0 12, wakeEn := bits v 16 4 }
    | 0x0F => { x with kickAt := d.time }
    | _ => x)

/-- A getsys instruction. -/
def Dev.getsysOp (d : Dev) (e rd n rs : Nat) (ev : RdEnv) : Dev :=
  d.engStep e (withRs (encI 0x35 rd 0 n) rsvA rs) (rsBad rsvA rs) (!sysDeckGet n) false (fun d =>
    let r := d.getsys e n ev
    .done (r.2.setGr e rd r.1))

/-- A putsys instruction. -/
def Dev.putsysOp (d : Dev) (e a n rs : Nat) : Dev :=
  d.engStep e (withRs (encI 0x36 0 a n) rsvD rs) (rsBad rsvD rs) (!sysDeckPut n) false (fun d => .done (d.putsys e n (d.gr e a).toNat))

/-- GETSYS (R419). -/
def execGetsys (e d n rs : Nat) (ev : RdEnv) (s : State) : Host.Outcome State Fault Refusal :=
  act (okGetsys e d n rs ev) s (fun m => m.getsysOp e d n rs ev)

/-- PUTSYS (R419, R420). -/
def execPutsys (e a n rs : Nat) (s : State) : Host.Outcome State Fault Refusal :=
  act (okPutsys e a n rs) s (fun m => m.putsysOp e a n rs)

/-- TASK_TAKE (R64): getsys of task. -/
def execTaskTake (e d : Nat) (ev : RdEnv) (s : State) : Host.Outcome State Fault Refusal :=
  act (okTaskTake e d ev) s (fun m => m.getsysOp e d 0x0E 0 ev)

/-- WDOG_KICK (R421): putsys to wdog. -/
def execWdogKick (e a : Nat) (s : State) : Host.Outcome State Fault Refusal :=
  act (okWdogKick e a) s (fun m => m.putsysOp e a 0x0F 0)

/-! ### Sleep and Fix (R443, R444) -/

/-- The pending events that an engine has enabled. -/
def Engine.awake (x : Engine) : Nat := Nat.land x.events x.wakeEn

/-- An engine consumes events: they go to g[D]. -/
def Dev.consume (d : Dev) (e rd m : Nat) : Dev :=
  (d.modEng e (fun x => { x with events := x.events - Nat.land x.events m })).setGr e rd (BitVec.ofNat 64 m)

/-- SLEEP (R443): at deck the exception DECK_SLEEP (Table 11.2). -/
def execSleep (e d a rs : Nat) (s : State) : Host.Outcome State Fault Refusal :=
  act (okSleep e d a rs) s (fun m => m.engStep e (withRs (encA 0x32 d a 0 0) rsvB rs) (rsBad rsvB rs) false false (fun m =>
    let x := m.eng e
    let us := (x.rd a).toNat
    if x.priv = 1 then .stay (m.takeExc e 0x0A us 0 x.pc)
    else if x.awake != 0 then .done (m.consume e d x.awake)
    else if us = 0 && x.wakeEn = 0 then .done (m.setGr e d 0)
    else .stay (m.modEng e (fun y => { y with
      state := .asleep, sleepD := d, sleepUntil := if us = 0 then none else some (m.time + usUnits us) }))))

/-- SLEEP_END (R443). -/
def execSleepEnd (e : Nat) (s : State) : Host.Outcome State Fault Refusal :=
  act (okSleepEnd e) s (fun d =>
    let x := d.eng e
    let late := match x.sleepUntil with | some t => decide (t ≤ d.time) | none => false
    if x.state != .asleep || !d.engClk || (x.awake = 0 && !late) then d
    else ((d.modEng e (fun y => { y with state := .running, sleepUntil := none, pc := y.pc + 4 })).consume e x.sleepD x.awake).lockCopy e)

/-- FIX_INSTRUCTION (R444): a Fix of source bit 1 (Table 17.1), whose number goes to g[D]. -/
def execFixInstruction (e d rs : Nat) (s : State) : Host.Outcome State Fault Refusal :=
  act (okFixInstruction e d rs) s (fun m =>
    let k := rsvA + rsvB
    m.engStep e (withRs (encA 0x30 d 0 0 0) k rs) (rsBad k rs) false false (fun m =>
      let m := m.fix 1
      .done (m.setGr e d (BitVec.ofNat 64 (m.f FIX_NUM.NUMBER)))))

/-! ### Budget, watchdog, faults (R413, R421, R445, Table 2.5) -/

/-- BUDGET (R413, R417): the budget has counted to zero before the next instruction. -/
def execBudget (e : Nat) (s : State) : Host.Outcome State Fault Refusal :=
  act (okBudget e) s (fun d => if d.engUp e && d.budgetDue e then (d.takeExc e 9 0 0 (d.eng e).pc).lockCopy e else d)

/-- An engine works: it runs or sleeps, and awaits no self-test. -/
def Dev.working (d : Dev) (e : Nat) : Bool := ((d.eng e).state == .running || (d.eng e).state == .asleep) && !(d.eng e).resetting

/-- ENGINE_WATCHDOG (R421): 50 ms at helm without a write to wdog. -/
def execEngineWatchdog (e : Nat) (s : State) : Host.Outcome State Fault Refusal :=
  act (okEngineWatchdog e) s (fun d =>
    if d.engClk && d.working e && (d.eng e).priv = 0 && decide ((d.eng e).kickAt + msUnits 50 ≤ d.time) then d.engFault e else d)

/-- LOCKSTEP_MISMATCH (R445): the pair halts as an engine fault of both. -/
def execLockstepMismatch (e : Nat) (s : State) : Host.Outcome State Fault Refusal :=
  act (okLockstepMismatch e) s (fun d =>
    if d.mLockstep && d.engClk && (d.pairOf e).all (fun i => d.working i) then d.engFault e else d)

/-- ENGINE_FAULT (R68, Table 2.5). -/
def execEngineFault (e : Nat) (s : State) : Host.Outcome State Fault Refusal :=
  act (okEngineFault e) s (fun d => if d.engClk && d.working e then d.engFault e else d)

/-- ENGINE_SELF_TEST_DONE (R68, Table 2.5): on pass the engine rejoins; in Hove-to it stays halted, as does one
whose recovery program has failed (R586). -/
def execEngineSelfTestDone (e : Nat) (pass : Bool) (s : State) : Host.Outcome State Fault Refusal :=
  act (okEngineSelfTestDone e pass) s (fun d =>
    if !d.engClk || !(d.eng e).resetting then d
    else
      let st : EState := if !pass || d.on SAF_STAT.HOVE then .halted else .running
      d.modEng e (fun _ => { d.freshEngine e st with resetting := false }))

end Sys2Proof.Machine
end

