-- ==== Sys2Proof/Machine/DeckRun.lean ====
section
/-! DEFINITION. DECK_RUN and DECK_STOP (R405, R471, R472). -/

namespace Sys2Proof.Machine

/-- The engine that a deck program goes to: the one the entry names, or the lowest-numbered working engine with no resident program (R471);
under LOCKSTEP at most one for each pair, on its even engine. None where it holds a program or does not work. -/
def Dev.deckEngine (d : Dev) (x : Order) : Option Nat :=
  let free (e : Nat) : Bool := (d.eng e).deck.isNone && d.working e && !(d.mLockstep && e % 2 == 1)
  if x.engine < 16 then (if free x.engine then some x.engine else none) else (List.range 16).find? free

/-- A section fits the deck window, 128 KiB from 0x20000. -/
def ChartSec.fits (x : ChartSec) : Bool := decide (x.load + x.len ≤ 0x20000)

/-- Load a section into the deck window of an engine. -/
def Dev.loadSec (d : Dev) (e sl : Nat) (x : ChartSec) : Dev :=
  d.modEng e (fun y => { y with loc := Machine.memWrite y.loc (0x20000 + x.load) (d.slotRead sl x.off x.len) })

/-- The registers of a deck program at its start (R405): g1 the copy of the order entry, g29 the top of the deck window, all others zero, pc
its entry; at deck privilege with its budget slice. -/
def Dev.deckStart (d : Dev) (e k id copy entry slice : Nat) : Dev :=
  d.modEng e (fun y => { y with
    g := ((List.replicate 32 (0 : Word)).set 1 (BitVec.ofNat 64 copy)).set 29 0x40000, pc := BitVec.ofNat 64 entry
    epc := BitVec.ofNat 64 entry, priv := 1, prev := 1, budget := slice, budgetFrom := d.time, kickAt := d.time - y.kickAt, rsv := none
    deck := some k, deckOrder := id, state := .running, sleepUntil := none, waiting := false })

/-- DECK_RUN (R471): 0x0006 where the engine already holds a program, 0x0002 where the section does not exist or does not fit. The DATA
section of the same index is loaded beside the code. The image gives no entry address and no place for the copy of the entry: the first
instruction of the section is the entry, and the place of the copy, above the sections, is a free value. (DEDUCED, log entry 117.) -/
def Dev.deckRun (d : Dev) (x : Order) : Dev :=
  match d.deckEngine x with
  | none => d.endOrder x.id 6 0 0
  | some e =>
    match d.chart.slot.bind (fun sl => ((d.secsOf sl 2)[x.arg 0]?).map (fun c => (sl, c))) with
    | none => d.endOrder x.id 2 0 0
    | some (sl, c) =>
      let data := (d.secsOf sl 3)[x.arg 0]?
      let top := Nat.max (c.load + c.len) (match data with | some y => y.load + y.len | none => 0)
      let base := up64 top
      if !c.fits || !(data.all ChartSec.fits) || base + 64 > 0x20000 then d.endOrder x.id 2 0 0
      else
        let r := d.draw
        let copy := 0x20000 + base + 64 * (r.1.toNat % ((0x20000 - base) / 64))
        let d := r.2.loadSec e sl c
        let d := match data with | some y => d.loadSec e sl y | none => d
        let d := d.modEng e (fun y => { y with loc := Machine.memWrite y.loc copy (padTo 64 x.entry) })
        let slice := if x.arg 1 = 0 then 1000000 else x.arg 1
        (d.deckStart e (x.arg 0) x.id copy (0x20000 + c.load) slice).lockCopy e

/-- The order that runs a deck program is under way: its command has been carried out. -/
def Dev.deckOf (d : Dev) (id : Nat) : Bool := d.engines.any (fun y => y.deck.isSome && y.deckOrder == id)

/-- DECK_RUN (R471). -/
def execDeckRun (o : OrdReq) (s : State) : Host.Outcome State Fault Refusal :=
  act (okDeckRun o) s (fun d => d.asOrder o prgDeckRun 0 true parseNone answerBg (fun d x => if d.deckOf x.id then d else d.deckRun x))

/-- DECK_STOP (R472): the program of the named engine ends at its next instruction boundary, with 0x0009 and its pc; an engine that was at
deck privilege goes back to helm. (DEDUCED, log entry 124.) -/
def Dev.deckStop (d : Dev) (x : Order) : Dev :=
  let e := x.arg 0
  if e ≥ 16 || (d.eng e).deck.isNone then d.endOrder x.id 2 0 0
  else
    let y := d.eng e
    let d := d.endDeck e 9 y.deckPc 0
    let d := if y.priv = 1 then (d.takeExc e 9 0 0 y.pc).lockCopy e else d
    d.endOrder x.id 0 0 0

/-- DECK_STOP (R472). -/
def execDeckStop (o : OrdReq) (s : State) : Host.Outcome State Fault Refusal :=
  act (okDeckStop o) s (fun d => d.asOrder o prgDeckStop 0 true parseNone answerBg (fun d x => d.deckStop x))

end Sys2Proof.Machine
end

