-- ==== Sys2Proof/Machine/EngineAlu.lean ====
section
/-! DEFINITION. Arithmetic, logic, branches and jumps of the engines (Table 11.6). -/

namespace Sys2Proof.Machine

/-- A format A instruction of OP 0x00 on two registers. -/
def Dev.aluOp (d : Dev) (e rd a b fn : Nat) (f : Word → Word → Word) : Dev :=
  d.engSet e (encA 0 rd a b fn) rd false (fun d => f (d.gr e a) (d.gr e b))

/-- A format I instruction on a register and an immediate. -/
def Dev.immOp (d : Dev) (e op rd a imm : Nat) (f : Word → Word) : Dev :=
  d.engSet e (encI op rd a imm) rd false (fun d => f (d.gr e a))

/-- A shift amount (Table 11.6): bits [5:0]. -/
def shiftBy (b : Word) : Nat := b.toNat % 64

/-- mulh: the high 64 bits of the signed 128-bit product. -/
def mulHigh (a b : Word) : Word := BitVec.ofInt 64 (a.toInt * b.toInt / 2 ^ 64)

/-- div: the signed quotient truncated towards zero; all ones for divisor zero (Table 11.6). -/
def divSigned (a b : Word) : Word := if b = 0 then BitVec.allOnes 64 else BitVec.ofInt 64 (a.toInt.tdiv b.toInt)

/-- rem: the remainder with the sign of g[A]; g[A] for divisor zero (Table 11.6). -/
def remSigned (a b : Word) : Word := if b = 0 then a else BitVec.ofInt 64 (a.toInt.tmod b.toInt)

/-- ADD (R423). -/
def execAdd (e d a b : Nat) (s : State) : Host.Outcome State Fault Refusal :=
  act (okAdd e d a b) s (fun m => m.aluOp e d a b 0 (fun x y => x + y))

/-- SUB (R423). -/
def execSub (e d a b : Nat) (s : State) : Host.Outcome State Fault Refusal :=
  act (okSub e d a b) s (fun m => m.aluOp e d a b 1 (fun x y => x - y))

/-- AND (R423). -/
def execAnd (e d a b : Nat) (s : State) : Host.Outcome State Fault Refusal :=
  act (okAnd e d a b) s (fun m => m.aluOp e d a b 2 (fun x y => x &&& y))

/-- OR (R423). -/
def execOr (e d a b : Nat) (s : State) : Host.Outcome State Fault Refusal :=
  act (okOr e d a b) s (fun m => m.aluOp e d a b 3 (fun x y => x ||| y))

/-- XOR (R423). -/
def execXor (e d a b : Nat) (s : State) : Host.Outcome State Fault Refusal :=
  act (okXor e d a b) s (fun m => m.aluOp e d a b 4 (fun x y => x ^^^ y))

/-- SHL (R423). -/
def execShl (e d a b : Nat) (s : State) : Host.Outcome State Fault Refusal :=
  act (okShl e d a b) s (fun m => m.aluOp e d a b 5 (fun x y => x <<< shiftBy y))

/-- SHR (R423). -/
def execShr (e d a b : Nat) (s : State) : Host.Outcome State Fault Refusal :=
  act (okShr e d a b) s (fun m => m.aluOp e d a b 6 (fun x y => x >>> shiftBy y))

/-- SAR (R423). -/
def execSar (e d a b : Nat) (s : State) : Host.Outcome State Fault Refusal :=
  act (okSar e d a b) s (fun m => m.aluOp e d a b 7 (fun x y => x.sshiftRight (shiftBy y)))

/-- MUL (R423). -/
def execMul (e d a b : Nat) (s : State) : Host.Outcome State Fault Refusal :=
  act (okMul e d a b) s (fun m => m.aluOp e d a b 8 (fun x y => x * y))

/-- MULH (R423). -/
def execMulh (e d a b : Nat) (s : State) : Host.Outcome State Fault Refusal :=
  act (okMulh e d a b) s (fun m => m.aluOp e d a b 9 mulHigh)

/-- DIV (R423). -/
def execDiv (e d a b : Nat) (s : State) : Host.Outcome State Fault Refusal :=
  act (okDiv e d a b) s (fun m => m.aluOp e d a b 10 divSigned)

/-- REM (R423). -/
def execRem (e d a b : Nat) (s : State) : Host.Outcome State Fault Refusal :=
  act (okRem e d a b) s (fun m => m.aluOp e d a b 11 remSigned)

/-- ADDI (R423). -/
def execAddi (e d a imm : Nat) (s : State) : Host.Outcome State Fault Refusal :=
  act (okAddi e d a imm) s (fun m => m.immOp e 0x01 d a imm (fun x => x + sext 16 imm))

/-- ANDI (R423). -/
def execAndi (e d a imm : Nat) (s : State) : Host.Outcome State Fault Refusal :=
  act (okAndi e d a imm) s (fun m => m.immOp e 0x02 d a imm (fun x => x &&& BitVec.ofNat 64 imm))

/-- ORI (R423). -/
def execOri (e d a imm : Nat) (s : State) : Host.Outcome State Fault Refusal :=
  act (okOri e d a imm) s (fun m => m.immOp e 0x03 d a imm (fun x => x ||| BitVec.ofNat 64 imm))

/-- XORI (R423). -/
def execXori (e d a imm : Nat) (s : State) : Host.Outcome State Fault Refusal :=
  act (okXori e d a imm) s (fun m => m.immOp e 0x04 d a imm (fun x => x ^^^ BitVec.ofNat 64 imm))

/-- LHI (R423): A must be zero. -/
def execLhi (e d imm rs : Nat) (s : State) : Host.Outcome State Fault Refusal :=
  act (okLhi e d imm rs) s (fun m => m.engSet e (withRs (encI 0x05 d 0 imm) rsvA rs) d (rsBad rsvA rs) (fun _ => sext 16 imm <<< 16))

/-- A conditional branch (Table 11.6): `k` as in `branchTaken`. -/
def Dev.branch (d : Dev) (e k b a imm : Nat) : Dev :=
  d.engStep e (encI (8 + k) b a imm) false false false (fun d =>
    if branchTaken k (d.gr e a) (d.gr e b) then .goto d (branchTo (d.eng e).pc 16 imm) else .done d)

/-- BEQ (R423). -/
def execBeq (e b a imm : Nat) (s : State) : Host.Outcome State Fault Refusal :=
  act (okBeq e b a imm) s (fun m => m.branch e 0 b a imm)

/-- BNE (R423). -/
def execBne (e b a imm : Nat) (s : State) : Host.Outcome State Fault Refusal :=
  act (okBne e b a imm) s (fun m => m.branch e 1 b a imm)

/-- BLT (R423). -/
def execBlt (e b a imm : Nat) (s : State) : Host.Outcome State Fault Refusal :=
  act (okBlt e b a imm) s (fun m => m.branch e 2 b a imm)

/-- BGE (R423). -/
def execBge (e b a imm : Nat) (s : State) : Host.Outcome State Fault Refusal :=
  act (okBge e b a imm) s (fun m => m.branch e 3 b a imm)

/-- BLTU (R423). -/
def execBltu (e b a imm : Nat) (s : State) : Host.Outcome State Fault Refusal :=
  act (okBltu e b a imm) s (fun m => m.branch e 4 b a imm)

/-- BGEU (R423). -/
def execBgeu (e b a imm : Nat) (s : State) : Host.Outcome State Fault Refusal :=
  act (okBgeu e b a imm) s (fun m => m.branch e 5 b a imm)

/-- JAL (R423). -/
def execJal (e d off : Nat) (s : State) : Host.Outcome State Fault Refusal :=
  act (okJal e d off) s (fun m => m.engStep e (encJ 0x0E d off) false false false (fun m =>
    let pc := (m.eng e).pc
    .goto (m.setGr e d (pc + 4)) (branchTo pc 21 off)))

/-- JR (R423): the target is taken before the link is written. -/
def execJr (e d a imm : Nat) (s : State) : Host.Outcome State Fault Refusal :=
  act (okJr e d a imm) s (fun m => m.engStep e (encI 0x0F d a imm) false false false (fun m =>
    let t := effAddr (m.gr e a) imm
    .goto (m.setGr e d ((m.eng e).pc + 4)) t))

end Sys2Proof.Machine
end

