-- ==== Sys2Proof/Machine/I3c.lean ====
section
/-! DEFINITION. The I3C target (R337 to R342, R345): private frames and their responses, CCCs, in-band interrupts. -/

namespace Sys2Proof.Machine

/-- Status codes of Table 9.8. -/
abbrev i3cDone : Nat := 0
/-- CRC failed. -/
abbrev i3cCrc : Nat := 1
/-- Offset, count or alignment invalid. -/
abbrev i3cBad : Nat := 2
/-- Write not permitted under R334. -/
abbrev i3cDenied : Nat := 3
/-- No request pending. -/
abbrev i3cNone : Nat := 4
/-- Device not ready. -/
abbrev i3cNotReady : Nat := 5

/-- The target is powered and its bus pads are not held: not in Dormant, at rest, or in Doze, where it answers nothing (R342).
(DEDUCED, log entry 98.) -/
def Dev.i3cOn (d : Dev) : Bool :=
  (match d.phase with
   | .watchOff | .dormant | .optLoad | .railsDown | .doze => false
   | _ => true) && !d.on WCH_PADHOLD.HELD

/-- The target takes private transfers: it has a dynamic address (R337). -/
def Dev.i3cPrivate (d : Dev) : Bool := d.i3cOn && d.i3c.addr.isSome

/-- A response frame: status, data, CRC (Table 9.8). -/
def i3cReply (status : Nat) (data : List (BitVec 8)) : List (BitVec 8) :=
  let b := leBytes 1 status ++ data
  b ++ [crc8 b]

/-- The response that the next private read returns. -/
def Dev.i3cAnswer (d : Dev) (status : Nat) (data : List (BitVec 8)) : Dev := { d with i3c := { d.i3c with resp := some (i3cReply status data) } }

/-- The CRC of a frame holds (R338). -/
def frameOk (f : List (BitVec 8)) : Bool :=
  match f.getLast? with
  | some c => c == crc8 f.dropLast
  | none => false

/-- A frame names aligned words that lie in the Helm space, from 1 to 64. -/
def i3cRange (off n : Nat) : Bool := off % 4 == 0 && decide (1 ≤ n) && decide (n ≤ 64) && decide (off + 4 * n ≤ 65536)

/-- Read `n` words in ascending order. -/
def Dev.i3cWords (d : Dev) (off : Nat) : Nat → List (BitVec 8) × Dev
  | 0 => ([], d)
  | n + 1 =>
    let (v, e) := d.helmRead 2 off 32
    let (t, e) := e.i3cWords (off + 4) n
    (leBytes 4 v ++ t, e)

/-- Apply words in ascending offset order; two words that form one 64-bit register are one 64-bit write (R340). -/
def Dev.i3cPut (d : Dev) (off : Nat) : List Nat → Dev
  | [] => d
  | [x] => d.helmIn 2 off 32 x
  | x :: y :: t =>
    if off % 8 = 0 && (regRow? off).any (fun r => r.width = 64) then (d.helmIn 2 off 64 (x + y * 2 ^ 32)).i3cPut (off + 8) t
    else (d.helmIn 2 off 32 x).i3cPut (off + 4) (y :: t)

/-- The words of a byte list. -/
def wordsLe (bs : List (BitVec 8)) : List Nat := (List.range (bs.length / 4)).map (fun i => fieldLe bs (4 * i) 4)

/-- The outcome of a WRITE frame is kept for STATUS, and the next response reports it (R339). -/
def Dev.i3cWrote (d : Dev) (status : Nat) : Dev :=
  ({ d with i3c := { d.i3c with lastWrite := status } } : Dev).i3cAnswer status []

/-- A private transfer of frame kind `k` reaches the target: frames of other kinds are other commands. (DEDUCED, log entry 110.) -/
def Dev.i3cFrame (d : Dev) (k : Nat) (f : List (BitVec 8)) (eff : Dev → Dev) : Dev :=
  if !d.i3cPrivate || fieldLe f 0 1 != k then d else eff d

/-- I3C_READ (R338). The words are read as the request arrives. -/
def execI3cRead (frame : List Byte) (s : State) : Host.Outcome State Fault Refusal :=
  act (okI3cRead frame) s (fun d => d.i3cFrame 1 frame (fun d =>
    let off := fieldLe frame 1 2
    let n := fieldLe frame 3 1
    if !frameOk frame then d.i3cAnswer i3cCrc []
    else if frame.length != 5 || !i3cRange off n then d.i3cAnswer i3cBad []
    else if !d.helmOn 2 then d.i3cAnswer i3cNotReady []
    else
      let (b, d) := d.i3cWords off n
      d.i3cAnswer i3cDone b))

/-- I3C_WRITE (R339, R340). -/
def execI3cWrite (frame : List Byte) (s : State) : Host.Outcome State Fault Refusal :=
  act (okI3cWrite frame) s (fun d => d.i3cFrame 2 frame (fun d =>
    let off := fieldLe frame 1 2
    let n := fieldLe frame 3 1
    if !frameOk frame then d.i3cWrote i3cCrc
    else if frame.length != 5 + 4 * n || !i3cRange off n then d.i3cWrote i3cBad
    else if !d.mayWrite 2 then d.i3cWrote i3cDenied
    else if !d.helmOn 2 then d.i3cWrote i3cNotReady
    else (d.i3cWrote i3cDone).i3cPut off (wordsLe ((frame.drop 4).take (4 * n)))))

/-- I3C_STATUS (R338): the status of the last write frame. -/
def execI3cStatus (frame : List Byte) (s : State) : Host.Outcome State Fault Refusal :=
  act (okI3cStatus frame) s (fun d => d.i3cFrame 3 frame (fun d =>
    if !frameOk frame then d.i3cAnswer i3cCrc []
    else if frame.length != 2 then d.i3cAnswer i3cBad []
    else d.i3cAnswer d.i3c.lastWrite []))

/-- I3C_RESPONSE (R341): a private read is NACKed until the response is ready, and gives each response once. -/
def execI3cResponse (ready : Bool) (s : State) : Host.Outcome State Fault Refusal :=
  act (okI3cResponse ready) s (fun d =>
    if !d.i3cPrivate then d
    else match d.i3c.resp with
      | some b => if ready then ({ d with i3c := { d.i3c with resp := none } } : Dev).send (.i3c b) else d.send .i3cNack
      | none => d.send (.i3c (i3cReply i3cNone [])))

/-- I3C_ADDRESS_IN_DOZE (R342): the dynamic address is NACKed and the return to Active starts. (DEDUCED, log entry 112.) -/
def execI3cAddressInDoze (s : State) : Host.Outcome State Fault Refusal :=
  act okI3cAddressInDoze s (fun d => if d.phase == .doze && d.i3c.addr.isSome then (d.send .i3cNack).dozeExit false else d)

/-! ### CCCs (R337) -/

/-- ENTDAA: a dynamic address for a target that has none. -/
def execEntdaa (addr : Nat) (s : State) : Host.Outcome State Fault Refusal :=
  act (okEntdaa addr) s (fun d => if d.i3cOn && d.i3c.addr.isNone then { d with i3c := { d.i3c with addr := some addr } } else d)

/-- SETDASA: a dynamic address for the static address, while the target has none. (PRESUMED, log entry 111.) -/
def execSetdasa (addr : Nat) (s : State) : Host.Outcome State Fault Refusal :=
  act (okSetdasa addr) s (fun d => if d.i3cOn && d.i3c.addr.isNone then { d with i3c := { d.i3c with addr := some addr } } else d)

/-- RSTDAA: the dynamic address is lost. -/
def execRstdaa (s : State) : Host.Outcome State Fault Refusal :=
  act okRstdaa s (fun d => if d.i3cOn then { d with i3c := { d.i3c with addr := none } } else d)

/-- ENEC: bit 0 enables IBIs. -/
def execEnec (b : Nat) (s : State) : Host.Outcome State Fault Refusal :=
  act (okEnec b) s (fun d => if d.i3cOn && b.testBit 0 then { d with i3c := { d.i3c with ibiOn := true } } else d)

/-- DISEC: bit 0 disables IBIs. -/
def execDisec (b : Nat) (s : State) : Host.Outcome State Fault Refusal :=
  act (okDisec b) s (fun d => if d.i3cOn && b.testBit 0 then { d with i3c := { d.i3c with ibiOn := false } } else d)

/-- A direct GET CCC is answered at the dynamic address. -/
def Dev.i3cGet (d : Dev) (b : List (BitVec 8)) : Dev := if d.i3cPrivate then d.send (.i3c b) else d

/-- A 16-bit value, most significant byte first, as a CCC carries it. -/
def ccc16 (n : Nat) : List (BitVec 8) := (leBytes 2 n).reverse

/-- GETPID: the provisioned ID, 6 B. -/
def execGetpid (s : State) : Host.Outcome State Fault Refusal :=
  act okGetpid s (fun d => d.i3cGet ((List.range 6).map Config.i3cId))

/-- GETBCR: the bus characteristics register. -/
def execGetbcr (s : State) : Host.Outcome State Fault Refusal := act okGetbcr s (fun d => d.i3cGet [Config.i3cId 6])

/-- GETDCR: the device characteristics register. -/
def execGetdcr (s : State) : Host.Outcome State Fault Refusal := act okGetdcr s (fun d => d.i3cGet [Config.i3cId 7])

/-- GETSTATUS: the manual gives the status word no content: a free value. -/
def execGetstatus (s : State) : Host.Outcome State Fault Refusal :=
  act okGetstatus s (fun d =>
    let (v, d) := d.draw
    d.i3cGet (ccc16 (v.toNat % 65536)))

/-- GETMRL: the maximum read length. -/
def execGetmrl (s : State) : Host.Outcome State Fault Refusal :=
  act okGetmrl s (fun d => d.i3cGet (ccc16 (d.i3c.mrl.getD (Config.i3cMax 0).toNat)))

/-- SETMRL. -/
def execSetmrl (n : Nat) (s : State) : Host.Outcome State Fault Refusal :=
  act (okSetmrl n) s (fun d => if d.i3cOn then { d with i3c := { d.i3c with mrl := some n } } else d)

/-- GETMWL: the maximum write length. -/
def execGetmwl (s : State) : Host.Outcome State Fault Refusal :=
  act okGetmwl s (fun d => d.i3cGet (ccc16 (d.i3c.mwl.getD (Config.i3cMax 1).toNat)))

/-- SETMWL. -/
def execSetmwl (n : Nat) (s : State) : Host.Outcome State Fault Refusal :=
  act (okSetmwl n) s (fun d => if d.i3cOn then { d with i3c := { d.i3c with mwl := some n } } else d)

/-- RSTACT: the target reset action, kept; the manual names no reset by I3C. -/
def execRstact (v : Nat) (s : State) : Host.Outcome State Fault Refusal :=
  act (okRstact v) s (fun d => if d.i3cOn then { d with i3c := { d.i3c with rstact := v } } else d)

/-- IBI_RETRY (R345): an IBI that the controller NACKed is sent again while its bits are set, until it is accepted. -/
def execIbiRetry (nacked : Bool) (s : State) : Host.Outcome State Fault Refusal :=
  act (okIbiRetry nacked) s (fun d =>
    let keep (b : Bool) (d : Dev) : Dev := { d with i3c := { d.i3c with ibiHeld := b } }
    if !d.i3cPrivate || !d.i3c.ibiOn || !d.i3c.ibiHeld then d
    else if d.f (DEV_INTSTAT.PEND 2) = 0 then keep false d
    else keep nacked (d.send (.ibi (d.f (DEV_INTSTAT.PEND 2)))))

end Sys2Proof.Machine
end

