-- ==== Sys2Proof/Machine/SafetyRows.lean ====
section
/-! DEFINITION. The commands of functional safety: clock monitors, the duplicated sequencer, the SAFE_N readback, the hourly latent-fault
test (chapter 16). -/

namespace Sys2Proof.Machine

/-- The lock bit of a fast PLL: 0 fabric, 1 engine, 2 media. -/
def pllLockBit (which : Nat) : Fld := if which = 0 then CLK_STAT.FAB_LOCK else if which = 1 then CLK_STAT.ENG_LOCK else CLK_STAT.MED_LOCK

/-- PLL_UNLOCK (R593, Table 15.11): a fast PLL loses lock in Active. (DEDUCED, log entry 148.) -/
def execPllUnlock (which : Nat) (s : State) : Host.Outcome State Fault Refusal :=
  act (okPllUnlock which) s (fun d =>
    if d.phase == .active && d.on (pllLockBit which) then ((d.setF (pllLockBit which) 0).cnt CLK_STAT.UNLOCKS).clockFail else d)

/-- CLOCK_DEVIATION (R593): two successive counts of the fabric clock deviate by more than 2 %. -/
def execClockDeviation (s : State) : Host.Outcome State Fault Refusal :=
  act okClockDeviation s (fun d => if d.phase == .active && d.clocksOn then d.clockFail else d)

/-- SEQUENCER_MISMATCH (R591): the two counters of the commit sequencer, or the two copies of the home map, do not agree. -/
def execSequencerMismatch (s : State) : Host.Outcome State Fault Refusal :=
  act okSequencerMismatch s (fun d => if d.powered then d.pairMismatch else d)

/-- SAFE_N_READBACK (R595): the level read back differs from the level driven for 10 µs. -/
def execSafeNReadback (s : State) : Host.Outcome State Fault Refusal :=
  act okSafeNReadback s (fun d => if d.phase == .watchOff then d else d.readbackFail)

/-- The mechanisms that Table 16.3 marks H, by their place in the table, in both halves of a result word. -/
def hourlyMask : Nat :=
  ([0, 1, 3, 5, 6, 8, 9, 10, 11, 12, 13, 15, 16, 17, 19, 21, 25] : List Nat).foldl (fun m i => m + 2 ^ i + 2 ^ (26 + i)) 0

/-- LATENT_FAULT_TEST (R597, R598): the hourly run falls due when operating seconds have passed a multiple of 3,600; in Doze it waits for the
maintenance wake. `fails` names the mechanisms whose test fails, and above them those whose twin fails too or does not exist. -/
def execLatentFaultTest (fails : Nat) (s : State) : Host.Outcome State Fault Refusal :=
  act (okLatentFaultTest fails) s (fun d =>
    match d.phase with
    | .active | .becalmed | .dozeEntry | .shutdown =>
      if d.saf.lftDue then
        (({ d with saf := { d.saf with lftDue := false } } : Dev).setF SAF_LFTOPS.LAST_OPSEC d.opSec).latentFails (Nat.land fails hourlyMask)
      else d
    | _ => d)

end Sys2Proof.Machine
end

