-- ==== Sys2Proof/Machine/Logs.lean ====
section
/-! DEFINITION. FIX_N, deck-log flushes and DECK_CLEAR, Tally dumps, Logbook segments, operating seconds (chapter 17), and the Reset
mailbox command (R565). -/

namespace Sys2Proof.Machine

/-- FIX_N_EDGE (R601, R605): a falling edge on FIX_N that the device does not drive. -/
def execFixNEdge (s : State) : Host.Outcome State Fault Refusal :=
  act okFixNEdge s (fun d => d.fix 0)

/-! ### Deck log (R610, R613) -/

/-- An event of R610 asks for a flush: 0 a record of failure or fatal severity, 1 the buffer holds 32 KiB, 2 PERIOD seconds have passed,
3 the recovery program of Hove-to runs. Step 4 of the orderly shut-down is its own command. (DEDUCED, log entry 152.) -/
def Dev.deckDue (d : Dev) (cause : Nat) : Bool :=
  match cause with
  | 0 => d.deck.flushDue
  | 1 => decide (32768 ≤ bufBytes d.deck.buf)
  | 2 => decide (d.deck.lastFlush + secUnits (Nat.max 1 (d.f DECK_CFG.PERIOD)) ≤ d.time)
  | _ => d.on SAF_STAT.HOVE && d.recoveryEngine.isSome

/-- DECK_LOG_FLUSH (R610, R611). -/
def execDeckLogFlush (cause : Nat) (s : State) : Host.Outcome State Fault Refusal :=
  act (okDeckLogFlush cause) s (fun d => if d.canPost && d.deckDue cause then d.deckFlush else d)

/-- A DECK_CLEAR order (R613): the log begins again at its start. -/
def Dev.deckClearOrder (d : Dev) (x : Order) : Dev :=
  let d := (d.setF DECK_STAT.PTR 0).lbkSetCounter 160 2 0
  ((d.setF DECK_STAT.FULL 0).setF DECK_STAT.DROPPED 0).endOrder x.id 0 0 0

/-- DECK_CLEAR (R613): PTR, FULL and DROPPED are cleared; the records in the buffer stay. A flush is never half done between two
commands. -/
def execDeckClear (o : OrdReq) (s : State) : Host.Outcome State Fault Refusal :=
  act (okDeckClear o) s (fun d => d.asOrder o prgDeckClear 0xC042 true parseNone answerBg Dev.deckClearOrder)

/-! ### Tally dumps (R616, R617) -/

/-- TAL_CFG.PERIOD as it acts, in ms (R616). -/
def Dev.tallyPeriod (d : Dev) : Nat := Nat.min 10000 (d.f TAL_CFG.PERIOD)

/-- The bytes of dump `n` (Table 17.9). The fabric cycles since the previous latch are a free value. -/
def Dev.dumpBytes (d : Dev) (n : Nat) (cycles : BitVec 64) : List (BitVec 8) :=
  [0x54#8, 0x44#8, 1#8] ++ leBytes 1 (b2n d.deck.tallyWrap) ++ leBytes 2 176 ++ leBytes 2 (Nat.min 65535 d.deck.tallyMiss) ++ leBytes 8 n ++
    leBytes 8 d.time ++ leBytes 8 d.csn ++ leBytes 8 cycles.toNat ++ leBytes 4 d.cycle ++ leBytes 5 d.opSec ++ List.replicate 15 0 ++
    (List.range 176).flatMap (fun i => leBytes 6 (d.talCount i) ++ leBytes 1 (d.f (TAL_SEL.EVENT (i / 4) (i % 4))) ++ [0#8])

/-- A dump is written into survey buffer (dump number mod 2). (DEDUCED, log entry 144.) -/
def Dev.tallyDump (d : Dev) : Dev :=
  let n := d.f TAL_STAT.DUMPS + 1
  let r := d.draw
  let b := r.2.dumpBytes n r.1
  let d := r.2.setF TAL_STAT.DUMPS n
  { d with deck := { d.deck with survey := listSet d.deck.survey (n % 2) b, tallyMiss := 0, tallyWrap := false } }

/-- TALLY_DUMP (R616): a multiple of PERIOD ms has passed since the last write to TAL_CFG. While the fast clocks are gated, and in Doze,
the dump is not made, and counted. -/
def execTallyDump (s : State) : Host.Outcome State Fault Refusal :=
  act okTallyDump s (fun d =>
    let p := d.tallyPeriod
    if p = 0 || d.time < d.deck.tallyFrom + msUnits ((d.deck.tallyLast + 1) * p) then d
    else
      let d : Dev := { d with deck := { d.deck with tallyLast := Nat.max (d.deck.tallyLast + 1) ((d.time - d.deck.tallyFrom) / msUnits p) } }
      match d.phase with
      | .doze => { d.cnt TAL_STAT.MISSED with deck := { d.deck with tallyMiss := d.deck.tallyMiss + 1 } }
      | .selfTest | .mediaInit | .recovery | .chart | .linkTrain | .becalmed | .active | .dozeEntry | .shutdown =>
        if d.wch.gated then { d.cnt TAL_STAT.MISSED with deck := { d.deck with tallyMiss := d.deck.tallyMiss + 1 } } else d.tallyDump
      | _ => d)

/-! ### Logbook (R618 to R625) -/

/-- Pages of the Logbook that a plain segment may change: not the spare pages, which nothing writes, not the key, identity and locator
pages, whose contents the model holds apart, and not the registry page once it is locked (Table 17.10, R621). -/
def Dev.segmentPage (d : Dev) (page : Nat) : Bool :=
  decide (page < 2688) || page == 2704 || page == 2705 || page == 2710 || page == 2711 || (decide (2720 ≤ page) && decide (page < 3744)) ||
    (page == 4095 && !d.fuse)

/-- LOGBOOK_SEGMENT_WRITE (R619, R620): one segment of a Logbook write, which lies in one page. It starts where VSYS and WCAP suffice;
otherwise the write fails. -/
def execLogbookSegmentWrite (addr : Nat) (data : List Byte) (s : State) : Host.Outcome State Fault Refusal :=
  act (okLogbookSegmentWrite addr data) s (fun d =>
    if d.phase == .watchOff || data.isEmpty || addr % 256 + data.length > 256 || !d.segmentPage (addr / 256) then d
    else (d.lbkWrite addr data).2)

/-- OPERATING_SECOND (R625): a second of ship's time ends in which rail step 1 was enabled. Operating seconds that reach a multiple of
3,600 make an hourly test run due (R597). -/
def execOperatingSecond (s : State) : Host.Outcome State Fault Refusal :=
  act okOperatingSecond s (fun d =>
    if d.phase == .watchOff || d.phase == .dormant || d.time < secUnits (d.wch.opSecs + 1) then d
    else
      let d : Dev := { d with wch := { d.wch with opSecs := d.wch.opSecs + 1 } }
      if !d.pwr.enables.testBit 0 then d
      else
        let n := (d.opSec + 1) % 2 ^ 40
        ({ d with opSec := n, saf := { d.saf with lftDue := d.saf.lftDue || n % 3600 == 0 } } : Dev).lbkSetCounter 32 5 n)

/-! ### RESET (Table 9.5, R565) -/

/-- RESET (C060h): the completion is sent before the reset begins; scope 0 resets the port, scope 1 the device. (DEDUCED, log entry 151.) -/
def execReset (h : Nat) (inp : List Byte) (s : State) : Host.Outcome State Fault Refusal :=
  act (okReset h inp) s (fun d =>
    let scope := fieldLe inp 0 1
    let rc := if inp.length ≠ 1 then rcLength else if scope ≥ 2 then rcInvalidInput else rcSuccess
    let go := d.mboxOn h && (d.mboxGate 0xC060).isNone && rc == rcSuccess
    let d := d.mailbox h 0xC060 (fun d => (rc, [], d))
    if !go then d
    else if scope = 0 then d.portReset h 0 false
    else d.resetAccept (5 + h))

end Sys2Proof.Machine
end

