-- ==== Sys2Proof/Machine/Thermal.lean ====
section
/-! DEFINITION. Temperature sensors, throttling, critical temperatures, cold stop, and the effective clocks (chapter 18, R110 to R113).
Temperatures are in 0.01 degree. Sensors are numbered as the bits of THM_EXCL: media dies 0 to 15, controller 16 to 23, remote diodes 24 to
27, thermistors 28 to 31. -/

namespace Sys2Proof.Machine

/-- Where the media die sensors are read: from media initialisation on (R110, R575). (DEDUCED, log entry 140.) -/
def Dev.mediaSensed (d : Dev) : Bool :=
  match d.phase with
  | .mediaInit | .recovery | .chart | .linkTrain | .active | .dozeEntry | .shutdown => true
  | _ => false

/-- Where the converters of the other sensors run: the chip is clocked. -/
def Dev.chipSensed (d : Dev) : Bool := d.mediaSensed || d.phase == .selfTest || d.phase == .becalmed

/-- Detail of events 0x120 to 0x12B (Table 18.8, last paragraph). -/
def thmDetail (num : Nat) (v : Int) : List (BitVec 8) := leBytes 4 num ++ leBytes 2 (ofSigned 16 v)

/-- The median of a list, the mean of the middle two where its length is even (R631), rounded down. -/
def median (l : List Int) : Int :=
  let s := l.insertionSort (· ≤ ·)
  (s.getD ((s.length - 1) / 2) 0 + s.getD (s.length / 2) 0) / 2

/-- Values of the media neighbours of die `n` (R631): n − 1 and n + 1 in its stack of eight, and n xor 8. -/
def Dev.mediaNear (d : Dev) (n : Nat) : List Int :=
  (d.mediaUse.filter (fun x => x.1.read && ((x.2 + 1 == n || x.2 == n + 1) && x.2 / 8 == n / 8 || x.2 == Nat.xor n 8))).map (·.1.value)

/-- Values of the neighbours of controller sensor `s` (R631): the other of its quadrant, and both of quadrant q xor 1. -/
def Dev.ctrlNear (d : Dev) (s : Nat) : List Int :=
  (d.thm.ctrl.zipIdx.filter (fun x => x.1.read && x.1.excl == 0 && x.2 != s && (x.2 / 2 == s / 2 || x.2 / 2 == Nat.xor (s / 2) 1))).map (·.1.value)

/-- No usable media die sensor remains (R633). -/
def Dev.allLost (d : Dev) : Bool := d.mediaUse.isEmpty

/-- The value of an excluded media die sensor (R632, R633). Where sensors remain of which none has been read, a free value.
(DESIGN CHOICE, log entry 139.) -/
def Dev.mediaSub (d : Dev) (n : Nat) : Int × Dev :=
  if d.allLost then (12000, d)
  else
    let near := d.mediaNear n
    if !near.isEmpty then (median near, d)
    else match (d.mediaUse.map (·.1)).filter (·.read) with
      | x :: t => (t.foldl (fun m y => max m y.value) x.value, d)
      | [] => let r := d.draw; (toSigned 16 (r.1.toNat % 65536), r.2)

/-- The value of an excluded controller sensor (R632). Without a neighbour the manual states none: a free value. -/
def Dev.ctrlSub (d : Dev) (s : Nat) : Int × Dev :=
  let near := d.ctrlNear s
  if !near.isEmpty then (median near, d) else let r := d.draw; (toSigned 16 (r.1.toNat % 65536), r.2)

/-- Change a sensor of a kind: 0 media, 1 controller, 2 auxiliary. -/
def Dev.modSensor (d : Dev) (kind i : Nat) (f : Sensor → Sensor) : Dev :=
  { d with thm :=
      (if kind = 0 then { d.thm with media := listMod d.thm.media i f }
       else if kind = 1 then { d.thm with ctrl := listMod d.thm.ctrl i f }
       else { d.thm with aux := listMod d.thm.aux i f }) }

/-- A sensor of a kind. -/
def Dev.sensor (d : Dev) (kind i : Nat) : Sensor := (if kind = 0 then d.thm.media else if kind = 1 then d.thm.ctrl else d.thm.aux).getD i {}

/-- The bit of THM_EXCL, and number, of a sensor. (DEDUCED, log entry 138.) -/
def sensorNum (kind i : Nat) : Nat := if kind = 0 then i else if kind = 1 then 16 + i else 24 + i

/-- A sensor's register shows a reading. -/
def Dev.showSensor (d : Dev) (kind i : Nat) (v : Int) : Dev :=
  d.setF (if kind = 0 then THM_MEDIA.VALUE i else if kind = 1 then THM_CTRL.VALUE i else THM_AUX.VALUE i) (ofSigned 16 v)

/-- A reading, or the substitute, of a sensor is taken (R110, R628, R634). -/
def Dev.takeReading (d : Dev) (kind i : Nat) (v : Int) : Dev :=
  (d.modSensor kind i (fun x => { x with
    value := v, read := true, sum := x.sum + v, cnt := x.cnt + 1, secSum := x.secSum + v, secCnt := x.secCnt + 1
    after := if x.before.isSome && x.after.isNone then some v else x.after })).showSensor kind i v

/-- Every media die is taken to be at 120 °C (R633). -/
def Dev.loseAll (d : Dev) : Dev :=
  (List.range 16).foldl (fun d n => d.takeReading 0 n 12000) (d.setF THM_STAT.ALL_LOST 1)

/-- A sensor is excluded (R632) for a cause: 1 open, 2 short, 3 deviation. -/
def Dev.exclude (d : Dev) (kind i cause : Nat) : Dev :=
  let d := d.modSensor kind i (fun x => { x with excl := cause, devFrom := none })
  let d := d.setReg 0x810 (Nat.lor (d.reg 0x810) (2 ^ sensorNum kind i))
  let show_ (e c : Fld) (d : Dev) : Dev := (d.setF e 1).setF c cause
  let (v, d) :=
    if kind = 0 then
      let (v, d) := (show_ (THM_MEDIA.EXCL i) (THM_MEDIA.CAUSE i) d).mediaSub i
      (v, if d.allLost then d.loseAll else d.takeReading 0 i v)
    else if kind = 1 then
      let (v, d) := (show_ (THM_CTRL.EXCL i) (THM_CTRL.CAUSE i) d).ctrlSub i
      (v, d.takeReading 1 i v)
    else ((d.sensor 2 i).value, show_ (THM_AUX.EXCL i) (THM_AUX.CAUSE i) d)
  d.post { code := 0x120, detail := thmDetail (sensorNum kind i) v } (some 4)

/-- A sensor reads open or short (R630); which of the two is what its converter found, a free value. (DESIGN CHOICE, log entry 137.) -/
def Dev.openShort (d : Dev) (kind i : Nat) : Dev :=
  let r := d.draw
  r.2.exclude kind i (1 + r.1.toNat % 2)

/-- A reading of a media die or controller sensor: its deviation from its neighbours is watched for 500 ms (R632). -/
def Dev.watchReading (d : Dev) (kind i : Nat) (near : List Int) (t : Int) : Dev :=
  if !near.isEmpty && decide (1000 < (t - median near).natAbs) then
    let from_ := ((d.sensor kind i).devFrom).getD d.time
    if from_ + msUnits 500 ≤ d.time then d.exclude kind i 3
    else (d.modSensor kind i (fun x => { x with devFrom := some from_ })).takeReading kind i t
  else (d.modSensor kind i (fun x => { x with devFrom := none })).takeReading kind i t

/-! ### Thresholds on single readings (R635, R638, R640, R641) -/

/-- Cold stop begins below −45 °C, and ends once every media die reads at or above −40 °C (Table 18.3); what waited is then
programmed. -/
def Dev.coldCheck (d : Dev) (n : Nat) : Dev :=
  let t := (d.sensor 0 n).value
  if !d.coldStop && t < -4500 then (d.setF THM_STAT.COLDSTOP 1).post { code := 0x126, detail := thmDetail n t } (some 4)
  else if d.coldStop && d.thm.media.zipIdx.all (fun x => !x.1.read || d.f (PNT_LINK.STATE x.2) == 4 || decide (-4000 ≤ x.1.value)) then
    ((d.setF THM_STAT.COLDSTOP 0).post { code := 0x127, detail := thmDetail n t }).drainRecords
  else d

/-- The hottest controller value read. -/
def Dev.ctrlMax (d : Dev) : Option Int :=
  match d.thm.ctrl.filter (·.read) with
  | x :: t => some (t.foldl (fun m y => max m y.value) x.value)
  | [] => none

/-- Controller hot and controller critical (Table 18.3, R638). `was` is the hottest controller value before this reading. -/
def Dev.ctrlCheck (d : Dev) (i : Nat) (was : Option Int) : Dev :=
  match d.ctrlMax with
  | none => d
  | some m =>
    let d := d.setF THM_HOT.CTRL (ofSigned 16 m)
    let d :=
      if !d.on THM_STAT.CTRL_HOT && decide (11500 ≤ m) then
        (d.setF THM_STAT.CTRL_HOT 1).post { code := 0x125, detail := thmDetail (16 + i) m } (some 4)
      else if m < 11300 then d.setF THM_STAT.CTRL_HOT 0
      else d
    if 12500 ≤ m && (match was with | some w => decide (w < 12500) | none => true) then (d.setF THM_STAT.THERMAL 1).offRequest false else d

/-- The limits of an auxiliary sensor (R641). -/
def Dev.auxCheck (d : Dev) (i : Nat) : Dev :=
  let t := (d.sensor 2 i).value
  let hi := toSigned 16 (d.f (THM_AUX.HI i))
  let lo := toSigned 16 (d.f (THM_AUX.LO i))
  if (d.sensor 2 i).out then
    (if lo + 200 ≤ t && t ≤ hi - 200 then d.modSensor 2 i (fun x => { x with out := false }) else d)
  else if hi < t || t < lo then
    (d.modSensor 2 i (fun x => { x with out := true })).post { code := 0x128, detail := thmDetail (24 + i) t } (some 4)
  else d

/-! ### SENSOR_READ -/

/-- A value that a media die or controller sensor can report in order (R630). -/
def inSensorRange (t : Int) : Bool := decide (-6000 ≤ t) && decide (t ≤ 16000)

/-- A media die sensor is read. -/
def Dev.readMedia (d : Dev) (n : Nat) (v : Option Nat) : Dev :=
  if !d.mediaSensed || !d.linkUp n then d
  else
    let d :=
      if d.allLost then d.takeReading 0 n 12000
      else if (d.sensor 0 n).excl != 0 then (let (t, d) := d.mediaSub n; d.takeReading 0 n t)
      else match v.map (toSigned 16) with
        | some t => if inSensorRange t then d.watchReading 0 n (d.mediaNear n) t else d.openShort 0 n
        | none => d.openShort 0 n
    d.coldCheck n

/-- A controller sensor is read. -/
def Dev.readCtrl (d : Dev) (i : Nat) (v : Option Nat) : Dev :=
  if !d.chipSensed then d
  else
    let was := d.ctrlMax
    let d :=
      if (d.sensor 1 i).excl != 0 then (let (t, d) := d.ctrlSub i; d.takeReading 1 i t)
      else match v.map (toSigned 16) with
        | some t => if inSensorRange t then d.watchReading 1 i (d.ctrlNear i) t else d.openShort 1 i
        | none => d.openShort 1 i
    d.ctrlCheck i was

/-- A remote diode or thermistor in use is read; an excluded one is no longer evaluated (R632). -/
def Dev.readAux (d : Dev) (i : Nat) (v : Option Nat) : Dev :=
  if !d.chipSensed || !d.on (THM_AUX.EN i) || (d.sensor 2 i).excl != 0 then d
  else match v.map (toSigned 16) with
    | some t => (d.takeReading 2 i t).auxCheck i
    | none => d.openShort 2 i

/-- SENSOR_READ (R628 to R633): kind 0 media die, 1 controller, 2 auxiliary (TD0 to TD3, TH0 to TH3); none where it reads open or short. -/
def execSensorRead (kind i : Nat) (v : Option Nat) (s : State) : Host.Outcome State Fault Refusal :=
  act (okSensorRead kind i v) s (fun d =>
    match kind with
    | 0 => d.readMedia i v
    | 1 => d.readCtrl i v
    | _ => d.readAux i v)

/-! ### Throttle and media critical (R634 to R637) -/

/-- Sum and number of the readings of the hottest media die of the last 10 ms, with its Point (R634). -/
def Dev.hotMean (d : Dev) : Option (Int × Nat × Nat) :=
  (d.thm.media.zipIdx.filter (fun x => decide (0 < x.1.cnt))).foldl (fun (acc : Option (Int × Nat × Nat)) x =>
    match acc with
    | none => some (x.1.sum, x.1.cnt, x.2)
    | some (s, c, n) => if s * x.1.cnt < x.1.sum * c then some (x.1.sum, x.1.cnt, x.2) else some (s, c, n)) none

/-- The throttle factor of R636 in 1/1,000, of T_hot in 0.01 degree: max(0.1, 1 − 0.06 (T_hot − 100 °C)), rounded down. -/
def throttleFactor (t : Int) : Nat := if t < 10000 then 1000 else (max 100 (1000 - (3 * (t - 10000) + 4) / 5)).toNat

/-- A threshold of Table 18.3 on T_hot is entered or left: its THM_STAT bit and event codes; entry sets alert class 4. -/
def Dev.hotCross (d : Dev) (bit : Fld) (in_ : Bool) (enter leave n : Nat) (t : Int) : Dev :=
  if in_ && !d.on bit then (d.setF bit 1).post { code := enter, detail := thmDetail n t } (some 4)
  else if !in_ && d.on bit then (d.setF bit 0).post { code := leave, detail := thmDetail n t }
  else d

/-- T_hot has been formed. (DEDUCED, log entry 141.) -/
def Dev.hotFormed (d : Dev) (s : Int) (c n : Nat) : Dev :=
  let t := s / c
  let old := toSigned 16 (d.f THM_HOT.T_HOT)
  let d := (d.setF THM_HOT.T_HOT (ofSigned 16 t)).setF THM_HOT.POINT n
  let thr : Int := 100 * d.alertCfg.2.2
  let d := if d.alertCfg.1.testBit 1 && decide (old < thr) && decide (thr ≤ t) then d.logBoth 1 (.memModule 2 d.hostTime) else d
  let d := d.hotCross THM_STAT.THROTTLE (decide (10000 * c ≤ s)) 0x121 0x122 n t
  let was := d.on THM_STAT.CRIT
  let d := d.hotCross THM_STAT.CRIT (decide (12000 * c ≤ s)) 0x123 0x124 n t
  let d : Dev := { d with thm := { d.thm with critFrom := if d.on THM_STAT.CRIT then (if was then d.thm.critFrom else some d.time) else none } }
  d.setF THM_STAT.FACTOR (throttleFactor t)

/-- THERMAL_EVALUATION (R634 to R637): every 10 ms. -/
def execThermalEvaluation (s : State) : Host.Outcome State Fault Refusal :=
  act okThermalEvaluation s (fun d =>
    if !d.mediaSensed || d.time < d.thm.evalAt + msUnits 10 then d
    else
      let h := d.hotMean
      let d : Dev := { d with thm := { d.thm with evalAt := d.time, media := d.thm.media.map (fun (x : Sensor) => { x with sum := 0, cnt := 0 }) } }
      match h with
      | some (s, c, n) => d.hotFormed s c n
      | none => d)

/-- CRITICAL_TIMEOUT (R637): media critical has lasted CRIT_S seconds without a break. -/
def execCriticalTimeout (s : State) : Host.Outcome State Fault Refusal :=
  act okCriticalTimeout s (fun d =>
    match d.thm.critFrom with
    | some t =>
      if d.mediaSensed && d.on THM_STAT.CRIT && t + secUnits (Nat.max 1 (d.f THM_CTL.CRIT_S)) ≤ d.time then (d.setF THM_STAT.THERMAL 1).offRequest false
      else d
    | none => d)

/-- COOL_DOWN_END (R639): the cooling time since Dormant was reached has passed, with the minimum off time in it, and a latched on request is
acted on. (DEDUCED, log entry 143.) -/
def execCoolDownEnd (s : State) : Host.Outcome State Fault Refusal :=
  act okCoolDownEnd s (fun d =>
    if d.phase == .dormant && d.on THM_STAT.THERMAL && d.pwr.minOffEnd ≤ d.wch.ticks && d.on PWR_STAT.ON_LATCH && !d.pwr.locked then d.startOption
    else d)

/-! ### Effective clocks (R110 to R113) -/

/-- The second `k` of the power cycle has ended in the newest Doze (R629). -/
def Dev.dozeSec (d : Dev) (k : Nat) : Bool :=
  let t := secUnits (k + 1)
  decide (d.wch.dozeSpan.1 < t) && decide (t ≤ d.wch.dozeSpan.2)

/-- The temperature of die `n` over second `k` in degrees, to the nearest, halves upwards (R110, R111): DORM_T where its sensor has not been
read at this start; for a second spent in Doze the mean of the last reading before it and the first after it (R629); the substitute of an
excluded sensor; else the mean of the second's readings, or the last reading where it has none. (DEDUCED, log entry 142.) -/
def Dev.dieT (d : Dev) (n k : Nat) : Int :=
  let x := d.sensor 0 n
  if !x.read then d.dormT
  else if d.dozeSec k && x.before.isSome && x.after.isSome then (x.before.getD 0 + x.after.getD 0 + 100) / 200
  else if x.excl != 0 || x.secCnt = 0 then (x.value + 50) / 100
  else (x.secSum + 50 * x.secCnt) / (100 * x.secCnt)

/-- A second that has ended waits for the readings it is computed from: in Doze, and after it until every sensor in use has been read
(R554, R629). -/
def Dev.eclkWaits (d : Dev) (k : Nat) : Bool :=
  d.phase == .doze ||
    (d.mediaSensed && d.dozeSec k && (List.range 16).any (fun n =>
      let x := d.sensor 0 n
      d.linkUp n && x.before.isSome && x.after.isNone))

/-- ECLK_UPDATE (R110): the end of a second. Before the restore the seconds are held apart (R113). (DEDUCED, log entry 142.) -/
def execEclkUpdate (s : State) : Host.Outcome State Fault Refusal :=
  act okEclkUpdate s (fun d =>
    if d.phase == .watchOff || d.phase == .dormant || d.time < secUnits (d.wch.eclkSecs + 1) || d.eclkWaits d.wch.eclkSecs then d
    else
      let add := (List.range 16).map (fun n => accel (d.dieT n d.wch.eclkSecs))
      let d : Dev := { d with
        wch := { d.wch with eclkSecs := d.wch.eclkSecs + 1 }
        thm := { d.thm with media := d.thm.media.map (fun (x : Sensor) => { x with secSum := 0, secCnt := 0 }) } }
      if d.seqOn then (List.range 16).foldl (fun d n => d.setReg (0x3880 + 8 * n) (d.eclk n + add.getD n 0)) d
      else { d with wch := { d.wch with eclkApart := d.wch.eclkApart.zipIdx.map (fun x => x.1 + add.getD x.2 0) } })

end Sys2Proof.Machine
end

