-- ==== Sys2Proof/Machine/LogLine.lean ====
section
/-! DEFINITION. The commands of log-line: samples, window excursions, edges, frames, the stream check, and level wake (chapter 18). -/

namespace Sys2Proof.Machine

/-- The log-line writer checks its stream (R644). (DEDUCED, log entry 99.) -/
def Dev.llCheck (d : Dev) : Dev :=
  let d : Dev := { d with ll := { d.ll with checkDue := false } }
  if !d.mLogline then d
  else
    let s := d.f LLN_CTL.STREAM
    if d.on (STR_CTL.EN s) && d.on (STR_CTL.FRAMED s) && d.f (STR_CTL.PROD s) = 3 then d.setF LLN_STAT.NOSTREAM 0
    else (d.setF LLN_STAT.NOSTREAM 1).post0 0x12A

/-- LL_STREAM_CHECK (R644): a mode-change point has passed, or LLN_CTL has been written. -/
def execLlStreamCheck (s : State) : Host.Outcome State Fault Refusal :=
  act okLlStreamCheck s (fun d => if d.powered && d.ll.checkDue then d.llCheck else d)

/-- Where the ADC samples the LL channels: the chip is clocked, or in Doze (R642, R643, R648). -/
def Dev.llSensed (d : Dev) : Bool := d.chipSensed || d.phase == .doze

/-- Samples in a row outside the window, and the end of an excursion (R642). -/
def Dev.llWindow (d : Dev) (i code : Nat) : Dev :=
  if code < d.f (LLN_WIN.LO i) || d.f (LLN_WIN.HI i) < code then
    { d with ll := { d.ll with winCnt := listMod d.ll.winCnt i (fun n => Nat.min 8 (n + 1)) } }
  else { d with ll := { d.ll with winCnt := listSet d.ll.winCnt i 0, winOut := listSet d.ll.winOut i false } }

/-- A sample enters the open SAMPLE record of its channel; the fourth completes it (R643, R645). -/
def Dev.llRecord (d : Dev) (i v : Nat) : Dev :=
  let (l, t) := d.ll.smp.getD i ([], 0)
  let t := if l.isEmpty then d.time else t
  if l.length < 3 then { d with ll := { d.ll with smp := listSet d.ll.smp i (l ++ [v], t) } }
  else ({ d with ll := { d.ll with smp := listSet d.ll.smp i ([], 0) } } : Dev).llPlace i 4 false (sampleRec i t (l ++ [v]))

/-- A sample is taken: its value shown, the window checked without LOGLINE, and recorded where the channel samples to the stream (R642, R643). -/
def Dev.llTake (d : Dev) (i code : Nat) (clip smp : Bool) : Dev :=
  let code := if clip then 4095 else code
  let d := (d.setF (LLN_VAL.CODE i) code).setF (LLN_VAL.CLIP i) (b2n clip)
  let d := if d.mLogline then d else d.llWindow i code
  if d.llRecording && smp && d.phase != .doze then d.llRecord i (code + if clip then 32768 else 0) else d

/-- LL_SAMPLE (R642, R643): a sample of a channel; an input at or above full scale gives code 4,095 with CLIP. -/
def execLlSample (i code : Nat) (clip : Bool) (s : State) : Host.Outcome State Fault Refusal :=
  act (okLlSample i code clip) s (fun d =>
    let smp := d.llOn i (LLN_CH.SAMPLE 0)
    if !d.llSensed || !d.llOn i (LLN_CH.EN 0) || (d.mLogline && !smp && d.phase != .doze) then d
    else
      d.llTake i code clip smp)

/-- LL_WINDOW_EXCURSION (R642): 8 samples in a row lie outside the window. -/
def execLlWindowExcursion (i : Nat) (s : State) : Host.Outcome State Fault Refusal :=
  act (okLlWindowExcursion i) s (fun d =>
    if d.mLogline || !d.on (LLN_CH.EN i) || d.ll.winCnt.getD i 0 < 8 || d.ll.winOut.getD i false then d
    else
      let d : Dev := { d with ll := { d.ll with winOut := listSet d.ll.winOut i true } }
      (d.orF LLN_STAT.WIN (2 ^ i)).post { code := 0x12B, detail := thmDetail i (d.f (LLN_VAL.CODE i)) })

/-- The edges that a channel records: 1 rising, 2 falling, 3 both (Table 18.7). -/
def edgeWanted (kind : Nat) (level : Bool) : Bool := kind.testBit (if level then 0 else 1)

/-- An edge at ship's time `at_` that the channel records (R643, R647, R648). -/
def Dev.llEdgeTaken (d : Dev) (i : Nat) (level : Bool) (at_ : Nat) : Dev :=
  let code := d.f (LLN_VAL.CODE i)
  let wakes := d.llOn i (LLN_CH.WAKE_EDGE 0)
  match d.phase with
  | .doze =>
    let d : Dev := { d with ll := { d.ll with dozeEdges := d.ll.dozeEdges ++ [(i, level, d.ticks * 65536, code)] } }
    if wakes then d.wake 5 true else d
  | .dozeEntry =>
    let d := d.llEdgeAt i level at_ code
    if wakes && !(d.wch.entryTick != 0 && d.inWindow d.wch.ticks) then d.wake 5 true else d
  | _ => d.llEdgeAt i level at_ code

/-- LL_EDGE (R643, R647, R648): the comparator's new state has held for DEB µs from `since`. In Doze the edge is stamped at the tick at which it is
found, and its record waits. -/
def execLlEdge (i : Nat) (level : Bool) (since : Nat) (s : State) : Host.Outcome State Fault Refusal :=
  act (okLlEdge i level since) s (fun d =>
    if !d.mLogline || !d.llSensed || !d.llOn i (LLN_CH.EN 0) || !d.llOn i (LLN_CH.EDGE 0) || d.f (LLN_VAL.LEVEL i) = b2n level ||
        d.time < since + usUnits (d.llF i (LLN_CH.DEB 0)) then d
    else
      let d := d.setF (LLN_VAL.LEVEL i) (b2n level)
      if !edgeWanted (d.llF i (LLN_CH.EDGE 0)) level then d
      else
        d.llEdgeTaken i level since)

/-- LL_FRAME_CLOSE (R645, R646): CLOSE ms have passed since the first record of a frame; frames that wait are written where the stream has
credit. -/
def execLlFrameClose (s : State) : Host.Outcome State Fault Refusal :=
  act okLlFrameClose s (fun d =>
    match d.phase with
    | .active | .dozeEntry | .shutdown =>
      let d := if !d.ll.recs.isEmpty && d.ll.frameFrom + msUnits (Nat.max 1 (d.f LLN_CTL.CLOSE)) ≤ d.time then d.llTimeout else d
      (d.llSend 16).llGap
    | _ => d)

/-- LL_LEVEL_WAKE (R649, R558 to R560): a channel has held its active level for DEB ticks in Dormant or Doze; or it has returned to the
inactive level for as long, which is an off request where OFFREQ is set. -/
def execLlLevelWake (i : Nat) (active : Bool) (since : Nat) (s : State) : Host.Outcome State Fault Refusal :=
  act (okLlLevelWake i active since) s (fun d =>
    if !(d.f WCH_LLWAKE.EN).testBit i || !d.held since (d.f WCH_LLWAKE.DEB) then d
    else if active then
      (match d.phase with
       | .dormant | .doze => d.wake 4 false
       | _ => d)
    else if (d.f WCH_LLWAKE.OFFREQ).testBit i then
      (match d.phase with
       | .active | .doze | .dozeEntry => d.offRequest false
       | _ => d)
    else d)

end Sys2Proof.Machine
end

