-- ==== Sys2Proof/Machine/Mailbox.lean ====
section
/-! DEFINITION. Mailbox commands that answer at once (Tables 9.4 and 9.5). Where the manual leaves the layout of a standard
payload to CXL 3.1, that layout is used, and what neither gives is a free value. -/

namespace Sys2Proof.Machine

/-- `n` bytes that the manual leaves to CXL 3.1 or to the implementation. (PRESUMED, log entry 27.) -/
def openBytes (k n : Nat) : List (BitVec 8) := (List.range n).map (fun i => Config.cxlByte (4096 * k + i))

/-- Return code of an operation on a slot that it does not allow, as CXL 3.1 numbers it. -/
abbrev rcInvalidSlot : Nat := 0xB

/-- Persistent capacity W in units of 256 MiB. -/
def Dev.winUnits (d : Dev) : Nat := d.winBytes / 2 ^ 28

/-! ### Identity, events -/

/-- IDENTIFY (Table 9.4). -/
def execIdentify (h : Nat) (s : State) : Host.Outcome State Fault Refusal :=
  act (okIdentify h) s (fun d =>
    d.mailbox h 0x0001 (fun d =>
      (rcSuccess, leBytes 2 0x1E7A ++ leBytes 2 0x5016 ++ openBytes 1 4 ++ leBytes 8 Config.serial.toNat ++ leBytes 1 12 ++ leBytes 1 3, d)))

/-- GET_EVENT_RECORDS (R313 to R315): the oldest records that the payload holds. -/
def execGetEventRecords (h log : Nat) (s : State) : Host.Outcome State Fault Refusal :=
  act (okGetEventRecords h log) s (fun d =>
    d.mailbox h 0x0100 (fun d =>
      let l := (d.head h).logs.getD log {}
      let rs := l.recs.take 31
      let flags := b2n (decide (0 < l.overflow)) + 2 * b2n (decide (31 < l.recs.length))
      (rcSuccess, leBytes 1 flags ++ leBytes 1 0 ++ leBytes 2 l.overflow ++ leBytes 8 l.firstOv ++ leBytes 8 l.lastOv ++ leBytes 2 rs.length ++
        List.replicate 10 0 ++ rs.flatMap (CxlRec.bytes log), d)))

/-- CLEAR_EVENT_RECORDS (R316): this head's copy only. -/
def execClearEventRecords (h log : Nat) (all : Bool) (handles : List Nat) (s : State) : Host.Outcome State Fault Refusal :=
  act (okClearEventRecords h log all handles) s (fun d =>
    d.mailbox h 0x0101 (fun d =>
      let l := (d.head h).logs.getD log {}
      let put (l' : CxlLog) : Dev := d.modHead h (fun x => { x with logs := listSet x.logs log l' })
      if all then (rcSuccess, [], put { l with recs := [], overflow := 0, firstOv := 0, lastOv := 0 })
      else if handles.all (fun k => l.recs.any (fun r => r.1 = k)) then
        (rcSuccess, [], put { l with recs := l.recs.filter (fun r => !handles.contains r.1), overflow := 0, firstOv := 0, lastOv := 0 })
      else (rcInvalidHandle, [], d)))

/-- GET_EVENT_INTERRUPT_POLICY (Table 9.4): mode 1 is MSI or MSI-X on vector 1. -/
def execGetEventInterruptPolicy (h : Nat) (s : State) : Host.Outcome State Fault Refusal :=
  act (okGetEventInterruptPolicy h) s (fun d =>
    d.mailbox h 0x0102 (fun d => (rcSuccess, (d.head h).policy.map (fun m => if m = 1 then 0x11#8 else 0#8), d)))

/-- SET_EVENT_INTERRUPT_POLICY (Table 9.4): the firmware-interrupt mode is refused. -/
def execSetEventInterruptPolicy (h : Nat) (policy : List Nat) (s : State) : Host.Outcome State Fault Refusal :=
  act (okSetEventInterruptPolicy h policy) s (fun d =>
    d.mailbox h 0x0103 (fun d =>
      if policy.any (fun m => decide (2 ≤ m)) then (rcInvalidInput, [], d)
      else (rcSuccess, [], d.modHead h (fun x => { x with policy := policy }))))

/-! ### Firmware, time, logs -/

/-- GET_FW_INFO (Table 9.4): slot 1 the Almanac ROM, slot 2 the helm patch area. -/
def execGetFwInfo (h : Nat) (s : State) : Host.Outcome State Fault Refusal :=
  act (okGetFwInfo h) s (fun d =>
    d.mailbox h 0x0200 (fun d =>
      (rcSuccess, leBytes 1 2 ++ leBytes 1 ((if d.patchOn then 2 else 1) + 8 * (if d.patchNext then 2 else 0)) ++ leBytes 1 0 ++ List.replicate 13 0 ++ openBytes 2 64, d)))

/-- TRANSFER_FW (Table 9.4): slot 2 only, into the Logbook helm patch area. (DEDUCED, log entry 63.) -/
def execTransferFw (h slot off : Nat) (data : List Byte) (s : State) : Host.Outcome State Fault Refusal :=
  act (okTransferFw h slot off data) s (fun d =>
    d.mailbox h 0x0201 (fun d =>
      if slot != 2 then (rcInvalidSlot, [], d)
      else if off + data.length > 262144 then (rcInvalidInput, [], d)
      else
        let (ok, d) := d.lbkWrite (2720 * 256 + off) data
        (if ok then rcSuccess else rcInternal, [], d)))

/-- ACTIVATE_FW (Table 9.4): slot 2, at the next start only. -/
def execActivateFw (h action slot : Nat) (s : State) : Host.Outcome State Fault Refusal :=
  act (okActivateFw h action slot) s (fun d =>
    d.mailbox h 0x0202 (fun d =>
      if slot != 2 then (rcInvalidSlot, [], d)
      else if action != 1 then (rcInvalidInput, [], d)
      else (rcSuccess, [], { d with patchNext := true })))

/-- GET_TIMESTAMP (R317). -/
def execGetTimestamp (h : Nat) (s : State) : Host.Outcome State Fault Refusal :=
  act (okGetTimestamp h) s (fun d => d.mailbox h 0x0300 (fun d => (rcSuccess, leBytes 8 d.hostTime, d)))

/-- SET_TIMESTAMP (R317). -/
def execSetTimestamp (h ns : Nat) (s : State) : Host.Outcome State Fault Refusal :=
  act (okSetTimestamp h ns) s (fun d => d.mailbox h 0x0301 (fun d => (rcSuccess, [], { d with stamp := some (ns, d.time) })))

/-- The commands that the mailbox supports (Tables 9.4 and 9.5). -/
def supportedOps : List Nat :=
  [0x0001, 0x0100, 0x0101, 0x0102, 0x0103, 0x0200, 0x0201, 0x0202, 0x0300, 0x0301, 0x0400, 0x0401, 0x4000, 0x4100, 0x4102, 0x4103, 0x4200,
   0x4201, 0x4202, 0x4203, 0x4204, 0x4300, 0x4301, 0x4302, 0x4400, 0x4401, 0xC000, 0xC001, 0xC002, 0xC010, 0xC011, 0xC012, 0xC020, 0xC021,
   0xC030, 0xC031, 0xC032, 0xC033, 0xC034, 0xC035, 0xC036, 0xC040, 0xC041, 0xC042, 0xC043, 0xC044, 0xC045, 0xC046, 0xC050, 0xC060]

/-- The Command Effects Log: an entry of opcode and effects for each supported command; the manual does not give the effects. -/
def effectsLog : List (BitVec 8) := supportedOps.flatMap (fun op => leBytes 2 op ++ openBytes (0x10000 + op) 2)

/-- The UUID of the Command Effects Log, as CXL 3.1 gives it. -/
def uuidEffects : List (BitVec 8) :=
  [0x0D, 0xA9, 0xC0, 0xB5, 0xBF, 0x41, 0x4B, 0x78, 0x8F, 0x79, 0x96, 0xB1, 0x62, 0x3B, 0x3F, 0x17]

/-- GET_SUPPORTED_LOGS (Table 9.4): the Command Effects Log only. -/
def execGetSupportedLogs (h : Nat) (s : State) : Host.Outcome State Fault Refusal :=
  act (okGetSupportedLogs h) s (fun d =>
    d.mailbox h 0x0400 (fun d => (rcSuccess, leBytes 2 1 ++ List.replicate 6 0 ++ uuidEffects ++ leBytes 4 (4 * supportedOps.length), d)))

/-- GET_LOG (Table 9.4): bytes of the Command Effects Log. -/
def execGetLog (h off len : Nat) (s : State) : Host.Outcome State Fault Refusal :=
  act (okGetLog h off len) s (fun d =>
    d.mailbox h 0x0401 (fun d =>
      if off + len > 4 * supportedOps.length || len > 4096 then (rcInvalidInput, [], d)
      else (rcSuccess, (effectsLog.drop off).take len, d)))

/-! ### Memory device -/

/-- IDENTIFY_MEMORY_DEVICE (Table 9.4). -/
def execIdentifyMemoryDevice (h : Nat) (s : State) : Host.Outcome State Fault Refusal :=
  act (okIdentifyMemoryDevice h) s (fun d =>
    d.mailbox h 0x4000 (fun d =>
      (rcSuccess, openBytes 3 16 ++ leBytes 8 d.winUnits ++ leBytes 8 0 ++ leBytes 8 d.winUnits ++ leBytes 8 0 ++ leBytes 2 256 ++ leBytes 2 256 ++ leBytes 2 256 ++
        leBytes 2 256 ++ leBytes 4 131072 ++ leBytes 3 65536 ++ leBytes 2 64 ++ leBytes 1 1 ++ leBytes 1 0, d)))

/-- GET_PARTITION_INFO (Table 9.4). -/
def execGetPartitionInfo (h : Nat) (s : State) : Host.Outcome State Fault Refusal :=
  act (okGetPartitionInfo h) s (fun d =>
    d.mailbox h 0x4100 (fun d => (rcSuccess, leBytes 8 0 ++ leBytes 8 d.winUnits ++ leBytes 8 0 ++ leBytes 8 0, d)))

/-- SET_PARTITION_INFO (Table 9.4): unsupported. -/
def execSetPartitionInfo (h : Nat) (inp : List Byte) (s : State) : Host.Outcome State Fault Refusal :=
  act (okSetPartitionInfo h inp) s (fun d => d.mailbox h 0x4101 (fun d => (rcUnsupported, [], d)))

/-- GET_LSA (Table 9.4): the Logbook label storage area. -/
def execGetLsa (h off len : Nat) (s : State) : Host.Outcome State Fault Refusal :=
  act (okGetLsa h off len) s (fun d =>
    d.mailbox h 0x4102 (fun d =>
      if off + len > 131072 || len > 4096 then (rcInvalidInput, [], d)
      else (rcSuccess, memRead d.lbk (1024 * 256 + off) len, d)))

/-- SET_LSA (Table 9.4): a write once started completes. -/
def execSetLsa (h off : Nat) (data : List Byte) (s : State) : Host.Outcome State Fault Refusal :=
  act (okSetLsa h off data) s (fun d =>
    d.mailbox h 0x4103 (fun d =>
      if off + data.length > 131072 then (rcInvalidInput, [], d)
      else
        let (ok, d) := d.lbkWrite (1024 * 256 + off) data
        (if ok then rcSuccess else rcInternal, [], d)))

/-- Health status bits (Table 9.4): maintenance needed, performance degraded, replacement needed. -/
def Dev.healthBits (d : Dev) : Nat :=
  let cap := d.f WLV_CAP.STATE
  b2n (cap == 1 || cap == 2) + 2 * b2n ((List.range 16).any d.dead || d.on THM_STAT.THROTTLE || d.mLockstep) + 4 * b2n (cap == 2 || d.on SAF_STAT.HOVE)

/-- Media status (Table 9.4): 01h, Not Ready, where R321 or R322 applies. -/
def Dev.mediaStatus (d : Dev) : Nat := b2n (d.phase == .becalmed || d.starting || d.sanitize.isSome)

/-- GET_HEALTH_INFO (Table 9.4). (DEDUCED, log entry 62.) -/
def execGetHealthInfo (h : Nat) (s : State) : Host.Outcome State Fault Refusal :=
  act (okGetHealthInfo h) s (fun d =>
    d.mailbox h 0x4200 (fun d =>
      (rcSuccess, leBytes 1 d.healthBits ++ leBytes 1 d.mediaStatus ++ openBytes 4 1 ++ leBytes 1 (d.f WLV_CAP.LIFE_USED) ++
        leBytes 2 (ofSigned 16 ((hottest d.thm.media).1 / 100)) ++ leBytes 4 (d.f DEV_DSC.COUNT) ++
        leBytes 4 (d.f SCR_ECC.BYTE_CE + d.f SCR_ECC.TABLE_CE) ++ leBytes 4 d.corrected, d)))

/-- GET_ALERT_CONFIGURATION (Table 9.4): life-used and over-temperature warning thresholds. -/
def execGetAlertConfiguration (h : Nat) (s : State) : Host.Outcome State Fault Refusal :=
  act (okGetAlertConfiguration h) s (fun d =>
    d.mailbox h 0x4201 (fun d =>
      (rcSuccess, leBytes 1 d.alertCfg.1 ++ leBytes 1 3 ++ openBytes 5 1 ++ leBytes 1 d.alertCfg.2.1 ++ openBytes 6 4 ++ leBytes 2 d.alertCfg.2.2 ++ openBytes 7 6, d)))

/-- SET_ALERT_CONFIGURATION (Table 9.4): bit 0 life used, bit 1 over-temperature; a bit of `valid` says that it is set. -/
def execSetAlertConfiguration (h valid enable life temp : Nat) (s : State) : Host.Outcome State Fault Refusal :=
  act (okSetAlertConfiguration h valid enable life temp) s (fun d =>
    d.mailbox h 0x4202 (fun d =>
      if valid ≥ 4 || enable ≥ 4 then (rcInvalidInput, [], d)
      else
        let (en, l, t) := d.alertCfg
        let en' := (en - (en &&& valid)) ||| (enable &&& valid)
        (rcSuccess, [], { d with alertCfg := (en', if valid.testBit 0 then life else l, if valid.testBit 1 then temp else t) })))

/-- Byte address of the Shutdown State (Table 17.11). -/
def shutdownAddr : Nat := 2705 * 256 + 16

/-- GET_SHUTDOWN_STATE (R308). -/
def execGetShutdownState (h : Nat) (s : State) : Host.Outcome State Fault Refusal :=
  act (okGetShutdownState h) s (fun d => d.mailbox h 0x4203 (fun d => (rcSuccess, memRead d.lbk shutdownAddr 1, d)))

/-- SET_SHUTDOWN_STATE (R308): kept across power cycles. -/
def execSetShutdownState (h v : Nat) (s : State) : Host.Outcome State Fault Refusal :=
  act (okSetShutdownState h v) s (fun d =>
    d.mailbox h 0x4204 (fun d =>
      let (ok, d) := d.lbkWrite shutdownAddr (leBytes 1 v)
      (if ok then rcSuccess else rcInternal, [], d)))

/-! ### Poison -/

/-- Source codes of CXL 3.1 for the sources of R310. -/
def poisonCode (src : Nat) : Nat := if src = 0 then 1 else if src = 1 then 3 else 2

/-- The runs of poisoned lines of a range (R310): first line, length, source; a run lies in one page and has one source.
(DEDUCED, log entry 59.) -/
def Dev.poisonRuns (d : Dev) (first n : Nat) : List (Nat × Nat × Nat) :=
  let lines := d.poison.flatMap (fun p => (((List.range 64).filter p.2.testBit).map (64 * p.1 + ·)).filter (fun l => decide (first ≤ l) && decide (l < first + n)))
  let src (l : Nat) : Nat := (assocGet l d.poisonSrc).getD 2
  (lines.foldl (fun (acc : List (Nat × Nat × Nat)) l =>
    match acc with
    | (a, k, c) :: t => if a + k = l && a / 64 = l / 64 && c = src l then (a, k + 1, c) :: t else (l, 1, src l) :: acc
    | [] => [(l, 1, src l)]) []).reverse

/-- GET_POISON_LIST (R310): a device address and a length in lines. -/
def execGetPoisonList (h start len : Nat) (s : State) : Host.Outcome State Fault Refusal :=
  act (okGetPoisonList h start len) s (fun d =>
    d.mailbox h 0x4300 (fun d =>
      let rs := d.poisonRuns (start / 64) len
      let out := rs.take 254
      (rcSuccess, leBytes 1 (b2n (decide (254 < rs.length))) ++ leBytes 1 0 ++ leBytes 8 0 ++ leBytes 2 out.length ++ List.replicate 20 0 ++
        out.flatMap (fun r => leBytes 8 (64 * r.1 + poisonCode r.2.2) ++ leBytes 4 r.2.1 ++ leBytes 4 0), d)))

/-- Lines that Inject Poison poisoned and that still are. -/
def Dev.injected (d : Dev) : Nat := d.poisonSrc.countP (fun x => x.2 = 1)

/-- INJECT_POISON (R311). (DEDUCED, log entry 60.) -/
def execInjectPoison (h dpa : Nat) (s : State) : Host.Outcome State Fault Refusal :=
  act (okInjectPoison h dpa) s (fun d =>
    d.mailbox h 0x4301 (fun d =>
      if d.region dpa != .window then (rcInvalidAddr, [], d)
      else if !d.mSurvey || d.seals.any (fun x => x.meets (dpa / 64 * 64) 64) then (rcInvalidInput, [], d)
      else if d.injected ≥ 64 then (rcInjectLimit, [], d)
      else (rcSuccess, [], (d.markPoison (dpa / 64) 1).supersede (dpa / 64))))

/-- CLEAR_POISON (R312): a full-line write, answered when that write is persistent. -/
def execClearPoison (h dpa : Nat) (data : Line) (s : State) : Host.Outcome State Fault Refusal :=
  act (okClearPoison h dpa data) s (fun d =>
    if !d.mboxOn h then d
    else match d.mboxGate 0x4302 with
      | some rc => d.reply h 0x4302 rc []
      | none =>
        if d.region dpa != .window then d.reply h 0x4302 rcInvalidAddr []
        else d.touch.memWrite (4 + h) 0x4302 (dpa / 64 * 64) data fullMask false false cleanRead (entryCheck (dpa / 64) data fullMask))

/-- SCAN_MEDIA (Table 9.4): unsupported. -/
def execScanMedia (h op : Nat) (s : State) : Host.Outcome State Fault Refusal :=
  act (okScanMedia h op) s (fun d => d.mailbox h op (fun d => (rcUnsupported, [], d)))

/-- PERSISTENT_MEMORY_SECURITY (Table 9.4): unsupported. -/
def execPersistentMemorySecurity (h op : Nat) (s : State) : Host.Outcome State Fault Refusal :=
  act (okPersistentMemorySecurity h op) s (fun d => d.mailbox h op (fun d => (rcUnsupported, [], d)))

/-! ### Vendor commands (Table 9.5) -/

/-- A vendor command whose input has a fixed length: another length returns Invalid Payload Length (R326). -/
def Dev.vendor (d : Dev) (h op n : Nat) (inp : List (BitVec 8)) (f : Dev → Nat × List (BitVec 8) × Dev) : Dev :=
  d.mailbox h op (fun d => if inp.length = n then f d else (rcLength, [], d))

/-- GET_DEVICE_IDENTITY (Table 9.5). -/
def execGetDeviceIdentity (h : Nat) (inp : List Byte) (s : State) : Host.Outcome State Fault Refusal :=
  act (okGetDeviceIdentity h inp) s (fun d =>
    d.vendor h 0xC000 0 inp (fun d =>
      (rcSuccess, padTo 64 (leBytes 2 0x5016 ++ leBytes 1 2 ++ leBytes 1 h ++ leBytes 8 Config.serial.toNat ++ leBytes 4 (d.f ORD_ALMANAC.VERSION) ++
        leBytes 4 (if d.patchOn then Config.patchVersion.toNat else 0) ++ leBytes 4 (d.f ORD_CHART.SEQ) ++
        leBytes 4 (match d.chart.slot with | some c => d.slotCrc c | none => 0) ++ leBytes 4 d.cycle ++ leBytes 5 d.opSec), d)))

/-- GET_MODE (Table 9.5). -/
def execGetMode (h : Nat) (inp : List Byte) (s : State) : Host.Outcome State Fault Refusal :=
  act (okGetMode h inp) s (fun d =>
    d.vendor h 0xC001 0 inp (fun d => (rcSuccess, leBytes 2 (d.reg 0x100 % 4096) ++ leBytes 2 (d.reg 0x104 % 4096), d)))

/-- READ_SEAL_RECORD (Table 9.5): a record that is on media; Sanitize clears those before its own. -/
def execReadSealRecord (h : Nat) (inp : List Byte) (s : State) : Host.Outcome State Fault Refusal :=
  act (okReadSealRecord h inp) s (fun d =>
    d.vendor h 0xC034 8 inp (fun d =>
      let n := fieldLe inp 0 8
      match assocGet n d.chain with
      | some b => (rcSuccess, b, d)
      | none =>
        if n = 0 && (d.sealHead = 0 || (assocGet 1 d.chain).isSome) then (rcSuccess, genesis, d) else (rcInvalidInput, [], d)))

/-- A read of an area of the Logbook by offset and length (C041h, C043h). -/
def Dev.readArea (d : Dev) (base size : Nat) (inp : List (BitVec 8)) : Nat × List (BitVec 8) × Dev :=
  let off := fieldLe inp 0 4
  let len := fieldLe inp 4 4
  if off % 256 != 0 || len % 256 != 0 || len > 4096 || off + len > size then (rcInvalidInput, [], d)
  else (rcSuccess, memRead d.lbk (base + off) len, d)

/-- READ_DECK_LOG (R613): the area's bytes as stored. -/
def execReadDeckLog (h : Nat) (inp : List Byte) (s : State) : Host.Outcome State Fault Refusal :=
  act (okReadDeckLog h inp) s (fun d => d.vendor h 0xC041 8 inp (fun d => d.readArea deckArea 262144 inp))

/-- READ_POWER_LOG (R538). -/
def execReadPowerLog (h : Nat) (inp : List Byte) (s : State) : Host.Outcome State Fault Refusal :=
  act (okReadPowerLog h inp) s (fun d => d.vendor h 0xC043 8 inp (fun d => d.readArea (2560 * 256) 32768 inp))

/-- The 256 bytes of a checkpoint locator (Table 7.6). The digest, and how many blocks and index pages there are and where,
are free values: the manual leaves the block layout open. -/
def Locator.bytes (l : Locator) : List (BitVec 8) :=
  let b := [0x56#8, 0x43#8, 0x4B#8, 0x4C#8] ++ leBytes 4 1 ++ leBytes 8 l.gen ++ leBytes 1 l.copy ++ leBytes 3 0 ++ leBytes 4 l.cycle ++
    leBytes 8 l.csn ++ leBytes 8 l.time ++ leBytes 5 l.opSec ++ leBytes 3 0 ++ leBytes 4 (1 + (Config.ckptDigest (4 * l.gen + 2)).toNat % 13312) ++
    leBytes 4 l.digest.toNat ++ (List.range 26).flatMap (fun i => leBytes 4 ((Config.ckptDigest (64 * (2 * l.gen + l.copy) + 4096 + i)).toNat % 2 ^ 27)) ++ List.replicate 92 0
  b ++ leBytes 4 (crc32c b)

/-- A page of the Logbook as C044h returns it: the locators stand in pages 2,706 to 2,709. -/
def Dev.logbookPage (d : Dev) (p : Nat) : List (BitVec 8) :=
  if 2706 ≤ p && p < 2710 then (match assocGet (p - 2706) d.locs with | some l => l.bytes | none => List.replicate 256 0)
  else memRead d.lbk (256 * p) 256

/-- READ_LOGBOOK_PAGE (R618, Table 17.10). -/
def execReadLogbookPage (h : Nat) (inp : List Byte) (s : State) : Host.Outcome State Fault Refusal :=
  act (okReadLogbookPage h inp) s (fun d =>
    d.vendor h 0xC044 2 inp (fun d =>
      let p := fieldLe inp 0 2
      if p ≥ 4096 || (2688 ≤ p && p < 2704) then (rcInvalidInput, [], d) else (rcSuccess, d.logbookPage p, d)))

/-- WRITE_REGISTRY_PAGE (R621). -/
def execWriteRegistryPage (h : Nat) (inp : List Byte) (s : State) : Host.Outcome State Fault Refusal :=
  act (okWriteRegistryPage h inp) s (fun d =>
    d.vendor h 0xC045 256 inp (fun d =>
      if d.fuse then (rcInvalidInput, [], d)
      else
        let (ok, d) := d.lbkWrite (4095 * 256) inp
        (if ok then rcSuccess else rcInternal, [], d)))

/-- LOCK_REGISTRY_PAGE (R621): the lock fuse is programmed, with event 0x114 (Table 17.16). -/
def execLockRegistryPage (h : Nat) (inp : List Byte) (s : State) : Host.Outcome State Fault Refusal :=
  act (okLockRegistryPage h inp) s (fun d =>
    d.vendor h 0xC046 4 inp (fun d =>
      if fieldLe inp 0 4 != 0x4B434F4C then (rcInvalidInput, [], d)
      else (rcSuccess, [], if d.fuse then d else ({ d.setF LBK_STAT.REG_LOCKED 1 with fuse := true } : Dev).post0 0x114)))

/-- GET_CAPACITY (Table 9.5). -/
def execGetCapacity (h : Nat) (inp : List Byte) (s : State) : Host.Outcome State Fault Refusal :=
  act (okGetCapacity h inp) s (fun d =>
    d.vendor h 0xC050 0 inp (fun d =>
      (rcSuccess, leBytes 8 (d.reg 0x4008) ++ leBytes 8 (d.reg 0x4010) ++ leBytes 8 (d.reg 0x3000) ++ leBytes 2 (d.livePts.foldl (fun m n => m + 2 ^ n) 0), d)))

end Sys2Proof.Machine
end

