-- ==== Sys2Proof/Machine/StreamRows.lean ====
section
/-! DEFINITION. Stream commands: aperture accesses, consumer operations, credits, spill, head, RING, protect windows (chapter 10). -/

namespace Sys2Proof.Machine

/-! ### Aperture accesses (R353 to R357, R372) -/

/-- The offset in an aperture that a device address names, if it is that of an enabled stream. -/
def Dev.apOff (d : Dev) (a : Nat) : Option Nat :=
  match d.region a with
  | .aperture _ off => some off
  | _ => none

/-- PRODUCER_WRITE (R354, R360 to R363). -/
def execProducerWrite (p tag a : Nat) (data : Line) (mask : Mask) (poison : Bool) (s : State) : Host.Outcome State Fault Refusal :=
  act (okProducerWrite p tag a data mask poison) s (fun d =>
    if d.portReady p && (d.apOff a).any (fun o => decide (0x1000 ≤ o) && decide (o < 0x80000)) then
      d.touch.memWrite p tag a data mask poison false cleanRead (entryCheck (a / 64) data mask)
    else d)

/-- CONSUMER_READ (R355, R356). -/
def execConsumerRead (p tag a : Nat) (ev : RdEnv) (s : State) : Host.Outcome State Fault Refusal :=
  act (okConsumerRead p tag a ev) s (fun d =>
    if d.portReady p && (d.apOff a).any (fun o => decide (0x81000 ≤ o)) then d.touch.memReadReq p tag a ev else d)

/-- PRODUCER_WINDOW_READ (R356). -/
def execProducerWindowRead (p tag a : Nat) (s : State) : Host.Outcome State Fault Refusal :=
  act (okProducerWindowRead p tag a) s (fun d =>
    if d.portReady p && (d.apOff a).any (fun o => decide (0x1000 ≤ o) && decide (o < 0x80000)) then
      d.touch.memReadReq p tag a cleanRead
    else d)

/-- TRIGGER_LINE_WRITE (R389): a write of the TRIGGER line with the trigger time in bytes 0 to 7. -/
def execTriggerLineWrite (p tag st t : Nat) (s : State) : Host.Outcome State Fault Refusal :=
  act (okTriggerLineWrite p tag st t) s (fun d =>
    if d.portReady p then
      let x := lineOfBytes (padTo 64 (leBytes 8 t))
      d.touch.memWrite p tag (apBase st + 64) x fullMask false false cleanRead (entryCheck (apBase st / 64 + 1) x fullMask)
    else d)

/-- An operation asked by agent `p`: a port by a write of the OP line, an engine (2) by its queue instruction's form (R372, R375). -/
def Dev.consumerOp (d : Dev) (p st op arg mask : Nat) : Dev :=
  if p < 2 then
    (if d.portReady p then
       let x := lineOfBytes (padTo 64 (leBytes 8 op ++ leBytes 8 arg))
       let m := BitVec.ofNat 64 mask
       d.touch.memWrite p 0 (apBase st + 0x80040) x m false false cleanRead (entryCheck (apBase st / 64 + 0x2001) x m)
     else d)
  else if d.memOn && d.mStream then (d.takeCsn.strOp st p op arg).2
  else d

/-- READ (R373). -/
def execRead (p st n : Nat) (s : State) : Host.Outcome State Fault Refusal :=
  act (okRead p st n) s (fun d => d.consumerOp p st 1 n 0xFFFF)

/-- MARK (R373). -/
def execMark (p st : Nat) (s : State) : Host.Outcome State Fault Refusal :=
  act (okMark p st) s (fun d => d.consumerOp p st 2 0 0xFFFF)

/-- REWIND (R373). -/
def execRewind (p st : Nat) (s : State) : Host.Outcome State Fault Refusal :=
  act (okRewind p st) s (fun d => d.consumerOp p st 3 0 0xFFFF)

/-- RELEASE (R373). -/
def execRelease (p st t : Nat) (s : State) : Host.Outcome State Fault Refusal :=
  act (okRelease p st t) s (fun d => d.consumerOp p st 4 t 0xFFFF)

/-- DROP (R373). -/
def execDrop (p st : Nat) (s : State) : Host.Outcome State Fault Refusal :=
  act (okDrop p st) s (fun d => d.consumerOp p st 5 0 0xFFFF)

/-- OP_RESET (R385, R386). -/
def execOpReset (p st : Nat) (s : State) : Host.Outcome State Fault Refusal :=
  act (okOpReset p st) s (fun d => d.consumerOp p st 6 0 0xFFFF)

/-- OP_INVALID (R372, R373): another opcode is refused with 01h, and a write that does not enable bytes 0 to 15 is dropped. -/
def execOpInvalid (p st code : Nat) (full : Bool) (s : State) : Host.Outcome State Fault Refusal :=
  act (okOpInvalid p st code full) s (fun d => d.consumerOp p st code 0 (if full then 0xFFFF else 0xFF))

/-- QUEUE_RESET (R383, R385, R386): cause 0 the two copies of a value disagree, 1 OP RESET, 2 STR_ACT, 3 the anchor record fails its
CRC at a reset. A FAILED stream is restored by causes 1 and 2 alone. -/
def execQueueReset (st cause : Nat) (s : State) : Host.Outcome State Fault Refusal :=
  act (okQueueReset st cause) s (fun d =>
    let x := d.stm st
    if !d.on (STR_CTL.EN st) || !x.valid || (x.failed && (cause = 0 || cause = 3)) then d
    else if cause = 3 then (d.setStm st { x with anchorOk := false }).queueReset st
    else d.queueReset st)

/-! ### Credits and the head (R364, R376) -/

/-- CREDIT_RAISE (R364, R365). -/
def execCreditRaise (st : Nat) (s : State) : Host.Outcome State Fault Refusal :=
  act (okCreditRaise st) s (fun d => d.creditRaise st)

/-- HEAD_REFILL (R376): the lines from RPOS up to RPOS + 1 KiB below AVAIL. -/
def execHeadRefill (st : Nat) (s : State) : Host.Outcome State Fault Refusal :=
  act (okHeadRefill st) s (fun d =>
    let x := d.stm st
    if !d.on (STR_CTL.EN st) || x.failed then d
    else d.setStm st x.refill)

/-! ### Spill (R377 to R379, R204, R205) -/

/-- Logical sector high part of sector `j` of a stream page for slot `q` (R379). -/
def Stream.spillHigh (x : Stream) (framed : Bool) (q j : Nat) : Nat :=
  let hs := if framed then (x.frames.filter (fun f => !f.broken && decide (4096 * q ≤ f.start) && decide (f.start < 4096 * (q + 1)))).map (·.start) else []
  let first := match hs with
    | [] => 0
    | h :: t => 64 + t.foldl Nat.min h % 4096 / 64
  (16 * x.page (4096 * q) + j) / 16384 % 2 ^ 17 * 128 + first

/-- The Point that the earlier pages of a slot's extent went to (R377). -/
def Dev.extentPoint (d : Dev) (x : Stream) (q : Nat) : Option Nat :=
  if q % 16 = 0 then none
  else
    let pg := x.page (4096 * (q - 1))
    match d.imgs.find? (fun i => i.pg = pg && i.why = 6) with
    | some i => some (psaPoint i.baseA)
    | none => (d.pageAt pg 0).map (fun b => psaPoint (16 * b))

/-- Place a stream page: on the Point of its extent where that is alive and offers a whole slot, else by the rotation. -/
def Dev.placeSpill (d : Dev) (x : Stream) (q : Nat) (im : Img) : Option (Img × Dev) :=
  match (d.extentPoint x q).filter (fun n => d.canTake 2 n true) with
  | none => d.placeImg im
  | some n =>
    match (d.queue 2 n).takeWhole with
    | none => d.placeImg im
    | some (sl, qu) =>
      let b := mkPsa sl.seg (16 * sl.slot)
      let d := d.modQueue 2 n (fun _ => qu)
      let put (o : Option Nat) : Img := { im with
        baseA := b, baseB := o.getD 0
        secs := im.secs.zipIdx.map (fun t => { t.1 with psa := some (b + t.2), psb := o.map (· + t.2) }) }
      if !im.twin then some (put none, d)
      else match d.takeTwin n 2 true with
        | none => none
        | some (b2, d) => some (put (some b2), d)

/-- The open stream group closes. (DEDUCED, log entry 113.) -/
def Dev.closeStreamGroup (d : Dev) : Dev := match d.openGroup 2 with | some g => d.closeGroup g.num | none => d

/-- Helm forms the protected-frame stream group from one last-berth segment of each live Point (R205): none where a share is empty.
(DEDUCED, log entry 113.) -/
def Dev.formLoan (d : Dev) : Option Dev :=
  let segs := if d.canLend then d.livePts.map (fun n => d.pickSeg false (d.clearedList n 1)) else []
  if segs.isEmpty || segs.any (·.isNone) then none
  else
    let l := segs.filterMap id
    let d := d.closeStreamGroup
    let d := l.foldl (fun d sg => (d.modSeg sg (fun y => { y with berthLoan := true })).setPool sg 0) d
    some (d.formGroup 2 l).berthCheck

/-- The group that a spill is placed in (R204, R205), and the units its home's allowance gives: an extent's first page takes them while
ANCHORED; a protected one that cannot goes to the protected-frame group. None: the spill waits. -/
def Dev.spillSpace (d : Dev) (st q : Nat) (x : Stream) : Option (Nat × Dev) :=
  let normal (d : Dev) : Dev := if d.loanOpen then d.closeStreamGroup.openGroupOf 2 else d
  if d.extentHeld x q then some (0, d)
  else if d.f WLV_CAP.STATE != 3 then some (0, normal d)
  else if !d.allowShort st then some (16 * d.copies, normal d)
  else if !x.protects q then none
  else if d.loanOpen then some (0, d)
  else d.formLoan.map (fun d => (0, d))

/-- The image of the page of slot `slot` of a stream, from its tail (R377), with the line checks its lines carry (R259): poisoned lines as zeros. -/
def Dev.spillImg (d : Dev) (st slot : Nat) : Img :=
  let x := d.stm st
  let pg := x.page (4096 * slot)
  let line (i : Nat) : Option Carried := ((x.tailAt (4096 * slot + 64 * i)).filter (fun t => !t.poison)).map (fun t => (t.data, t.check))
  let secs := (List.range 16).map (fun j => imgSecOf (16 * pg + j) 15 termStream ((List.range 4).map (fun k => line (4 * j + k))) [])
  { d.newImg pg 2 6 true secs with high := (List.range 16).map (x.spillHigh (d.on (STR_CTL.FRAMED st)) slot), old := [st, slot] }

/-- A joined slot of a stream can go to its page: the slot lies below END, its lines stand in the tail, and the page has no other image. -/
def Dev.spillDue (d : Dev) (st slot : Nat) : Bool :=
  let x := d.stm st
  x.valid && x.joined.contains slot && !d.pageBusy (x.page (4096 * slot))

/-- STREAM_PAGE_SPILL (R377 to R379, R204, R205): the image of a joined slot's page is placed, and its units are taken; until a Point offers a
whole slot, the group formed for it waits. A merge read is not needed, so `ev` has no part. -/
def execStreamPageSpill (st slot : Nat) (ev : RdEnv) (s : State) : Host.Outcome State Fault Refusal :=
  act (okStreamPageSpill st slot ev) s (fun d =>
    if !d.spillDue st slot then d
    else match d.spillSpace st slot (d.stm st) with
      | none => d
      | some (n, e) => match e.placeSpill (d.stm st) slot (d.spillImg st slot) with
        | none => e
        | some (im, e) =>
          let h := homeOfStream st
          let e := if n = 0 then e else e.setF (WLV_ALLOW.ALLOW h) (e.f (WLV_ALLOW.ALLOW h) - n)
          { e with imgs := e.imgs ++ [im] })

/-! ### RING and protect windows (R387 to R396) -/

/-- RING_RECLAIM (R387, R388). -/
def execRingReclaim (st : Nat) (s : State) : Host.Outcome State Fault Refusal :=
  act (okRingReclaim st) s (fun d => d.ringReclaim st)

/-- At the boundary at ship's time `at_`, each enabled stream whose PRE is not zero keeps the start of the newest frame that had joined by
it, and the newest 1,024 such records (R391). -/
def Dev.boundAll (d : Dev) (at_ : Nat) : Dev :=
  (d.str.ctx.map (·.1)).foldl (fun d st =>
    if d.on (STR_CTL.EN st) && d.inForce st STR_CTL.PRE != 0 then
      d.modStm st (fun x =>
        let h := ({ x with frames := x.frames.filter (fun f => f.stamp ≤ at_) } : Stream).newestFrame
        let l := x.bounds ++ [(at_, h)]
        { x with bounds := l.drop (l.length - 1024) })
    else d) d

/-- BOUNDARY_RECORD (R391): at a boundary of 4,096 ticks not yet recorded. -/
def execBoundaryRecord (s : State) : Host.Outcome State Fault Refusal :=
  act okBoundaryRecord s (fun d =>
    let k := d.ticks / 4096
    if k ≤ d.str.lastBound then d
    else ({ d with str := { d.str with lastBound := k } } : Dev).boundAll (k * 4096 * 65536))

/-- WINDOW_CLOSE (R393). -/
def execWindowClose (st : Nat) (s : State) : Host.Outcome State Fault Refusal :=
  act (okWindowClose st) s (fun d =>
    let x := d.stm st
    if x.windows.any (fun w => w.pend.isNone && decide (w.t1 ≤ d.time)) then
      d.setStm st { x with windows := x.windows.map (fun (w : Window) =>
        if w.pend.isNone && decide (w.t1 ≤ d.time) then { w with pend := some (x.pendAt w) } else w) }
    else d)

/-- The digest of a window's record (R394): of its bytes while SEAL is in force, else zero. Bytes that cannot be read leave the digest
open: a free value. -/
def Dev.windowDigest (d : Dev) (st a n : Nat) : List (BitVec 8) × Dev :=
  if !d.mSeal then (List.replicate 32 0, d)
  else
    match d.sealedFrames ⟨0, 1, st, a, n, 0, 0, []⟩ cleanRead with
    | (.ok bs, d) => (extentDigest bs, d.hashedBytes bs.length)
    | (.error _, d) =>
      let k := d.freeCtr
      ((List.range 4).flatMap (fun i => leBytes 8 (Config.freeValue (k + i)).toNat), { d with freeCtr := k + 4 })

/-- The oldest closed window of a stream whose record can be appended: END has reached its PEND (R394). -/
def Stream.dueWindow (x : Stream) : Option (Window × Nat) :=
  x.windows.findSome? (fun w => match w.pend with
    | some e => if w.sealNo.isNone && decide (e ≤ x.pos.end_) then some (w, e) else none
    | none => none)

/-- The record of a closed window `w` that ends at `e` in the seal chain, under its own CSN (R394). The detail of event 0x0A6 is the stream and
PSTART's mark in bytes 0 to 3, then seal number, PSTART, PEND. (DEDUCED, log entry 115.) -/
def Dev.recordWindow (d : Dev) (st : Nat) (w : Window) (e : Nat) : Dev :=
  let csn := d.nextCsn
  let n := e - w.pstart
  let (dg, d) := d.takeCsn.windowDigest st w.pstart n
  let d := d.chainAppend 1 1 csn st w.pstart n dg
  let num := d.sealHead
  let d := d.modStm st (fun x => { x with
    windows := x.windows.map (fun (v : Window) => if v == w then { v with sealNo := some num } else v)
    lastTrig := if w.viaLine then (num, x.lastTrig.2) else x.lastTrig })
  let d : Dev := { d with seals := d.seals ++ [(⟨num, 1, st, w.pstart, n, csn, ofLe dg, []⟩ : Seal)] }
  let d := d.post { code := 0x0A6, detail := leBytes 2 st ++ leBytes 2 (b2n w.raised) ++ leBytes 8 num ++ leBytes 8 w.pstart ++ leBytes 8 e }
  d.notify st 4 true true

/-- WINDOW_RECORD (R394). -/
def execWindowRecord (st : Nat) (s : State) : Host.Outcome State Fault Refusal :=
  act (okWindowRecord st) s (fun d =>
    match (d.stm st).dueWindow with
    | none => d
    | some (w, e) => if !d.chainReady || !d.seqOn then d else d.recordWindow st w e)

end Sys2Proof.Machine
end

