-- ==== Sys2Proof/Machine/Dispatch.lean ====
section
/-! DEFINITION. The command dispatcher: one arm per constructor. -/

namespace Sys2Proof.Machine

def exec (i : Instr) (s : State) : Host.Outcome State Fault Refusal :=
  match i with
  | .memRd p tag a ev => Sys2Proof.Machine.execMemRd p tag a ev s
  | .memRdData p tag a ev => Sys2Proof.Machine.execMemRdData p tag a ev s
  | .memWr p tag a data poison bad => Sys2Proof.Machine.execMemWr p tag a data poison bad s
  | .memWrPtl p tag a data mask poison bad ev => Sys2Proof.Machine.execMemWrPtl p tag a data mask poison bad ev s
  | .unsupportedM2sOpcode p tag op a => Sys2Proof.Machine.execUnsupportedM2sOpcode p tag op a s
  | .globalPersistentFlush p => Sys2Proof.Machine.execGlobalPersistentFlush p s
  | .perst p cause => Sys2Proof.Machine.execPerst p cause s
  | .linkTraining p rate width flit256 ref => Sys2Proof.Machine.execLinkTraining p rate width flit256 ref s
  | .l1Entry p => Sys2Proof.Machine.execL1Entry p s
  | .l1Exit p => Sys2Proof.Machine.execL1Exit p s
  | .d3hotEntry p => Sys2Proof.Machine.execD3hotEntry p s
  | .decoderCommit p idx base size dpa ways gran => Sys2Proof.Machine.execDecoderCommit p idx base size dpa ways gran s
  | .msixUnmask p v => Sys2Proof.Machine.execMsixUnmask p v s
  | .identify h => Sys2Proof.Machine.execIdentify h s
  | .getEventRecords h log => Sys2Proof.Machine.execGetEventRecords h log s
  | .clearEventRecords h log all handles => Sys2Proof.Machine.execClearEventRecords h log all handles s
  | .getEventInterruptPolicy h => Sys2Proof.Machine.execGetEventInterruptPolicy h s
  | .setEventInterruptPolicy h policy => Sys2Proof.Machine.execSetEventInterruptPolicy h policy s
  | .getFwInfo h => Sys2Proof.Machine.execGetFwInfo h s
  | .transferFw h slot off data => Sys2Proof.Machine.execTransferFw h slot off data s
  | .activateFw h action slot => Sys2Proof.Machine.execActivateFw h action slot s
  | .getTimestamp h => Sys2Proof.Machine.execGetTimestamp h s
  | .setTimestamp h ns => Sys2Proof.Machine.execSetTimestamp h ns s
  | .getSupportedLogs h => Sys2Proof.Machine.execGetSupportedLogs h s
  | .getLog h off len => Sys2Proof.Machine.execGetLog h off len s
  | .identifyMemoryDevice h => Sys2Proof.Machine.execIdentifyMemoryDevice h s
  | .getPartitionInfo h => Sys2Proof.Machine.execGetPartitionInfo h s
  | .setPartitionInfo h inp => Sys2Proof.Machine.execSetPartitionInfo h inp s
  | .getLsa h off len => Sys2Proof.Machine.execGetLsa h off len s
  | .setLsa h off data => Sys2Proof.Machine.execSetLsa h off data s
  | .getHealthInfo h => Sys2Proof.Machine.execGetHealthInfo h s
  | .getAlertConfiguration h => Sys2Proof.Machine.execGetAlertConfiguration h s
  | .setAlertConfiguration h valid enable life temp => Sys2Proof.Machine.execSetAlertConfiguration h valid enable life temp s
  | .getShutdownState h => Sys2Proof.Machine.execGetShutdownState h s
  | .setShutdownState h v => Sys2Proof.Machine.execSetShutdownState h v s
  | .getPoisonList h start len => Sys2Proof.Machine.execGetPoisonList h start len s
  | .injectPoison h dpa => Sys2Proof.Machine.execInjectPoison h dpa s
  | .clearPoison h dpa data => Sys2Proof.Machine.execClearPoison h dpa data s
  | .scanMedia h op => Sys2Proof.Machine.execScanMedia h op s
  | .persistentMemorySecurity h op => Sys2Proof.Machine.execPersistentMemorySecurity h op s
  | .sanitize h step rngOk fails => Sys2Proof.Machine.execSanitize h step rngOk fails s
  | .secureErase h step rngOk fails => Sys2Proof.Machine.execSecureErase h step rngOk fails s
  | .getDeviceIdentity h inp => Sys2Proof.Machine.execGetDeviceIdentity h inp s
  | .getMode h inp => Sys2Proof.Machine.execGetMode h inp s
  | .getChartSlots h inp => Sys2Proof.Machine.execGetChartSlots h inp s
  | .writeChartChunk h inp => Sys2Proof.Machine.execWriteChartChunk h inp s
  | .runOrder h inp => Sys2Proof.Machine.execRunOrder h inp s
  | .getOrderResult h inp => Sys2Proof.Machine.execGetOrderResult h inp s
  | .readSealRecord h inp => Sys2Proof.Machine.execReadSealRecord h inp s
  | .readDeckLog h inp => Sys2Proof.Machine.execReadDeckLog h inp s
  | .readPowerLog h inp => Sys2Proof.Machine.execReadPowerLog h inp s
  | .readLogbookPage h inp => Sys2Proof.Machine.execReadLogbookPage h inp s
  | .writeRegistryPage h inp => Sys2Proof.Machine.execWriteRegistryPage h inp s
  | .lockRegistryPage h inp => Sys2Proof.Machine.execLockRegistryPage h inp s
  | .getCapacity h inp => Sys2Proof.Machine.execGetCapacity h inp s
  | .reset h inp => Sys2Proof.Machine.execReset h inp s
  | .sqTailWrite by_ r v => Sys2Proof.Machine.execSqTailWrite by_ r v s
  | .cqHeadWrite by_ r v => Sys2Proof.Machine.execCqHeadWrite by_ r v s
  | .orderDispatch r => Sys2Proof.Machine.execOrderDispatch r s
  | .orderCompletion id => Sys2Proof.Machine.execOrderCompletion id s
  | .modeChange o => Sys2Proof.Machine.execModeChange o s
  | .checkpoint o => Sys2Proof.Machine.execCheckpoint o s
  | .discard o => Sys2Proof.Machine.execDiscard o s
  | .secureDiscard o step => Sys2Proof.Machine.execSecureDiscard o step s
  | .sealRange o ev => Sys2Proof.Machine.execSealRange o ev s
  | .unseal o => Sys2Proof.Machine.execUnseal o s
  | .sealVerify o ev => Sys2Proof.Machine.execSealVerify o ev s
  | .sealExport o ev => Sys2Proof.Machine.execSealExport o ev s
  | .trigger o => Sys2Proof.Machine.execTrigger o s
  | .streamReset o => Sys2Proof.Machine.execStreamReset o s
  | .rekey o step rngOk => Sys2Proof.Machine.execRekey o step rngOk s
  | .fix o => Sys2Proof.Machine.execFix o s
  | .deckClear o => Sys2Proof.Machine.execDeckClear o s
  | .deckRun o => Sys2Proof.Machine.execDeckRun o s
  | .deckStop o => Sys2Proof.Machine.execDeckStop o s
  | .chartCheck o => Sys2Proof.Machine.execChartCheck o s
  | .helmSpaceWrite by_ off width v => Sys2Proof.Machine.execHelmSpaceWrite by_ off width v s
  | .halfReadLatch by_ off => Sys2Proof.Machine.execHalfReadLatch by_ off s
  | .pntArbWrite by_ n half v => Sys2Proof.Machine.execPntArbWrite by_ n half v s
  | .pntRetireWrite by_ half v => Sys2Proof.Machine.execPntRetireWrite by_ half v s
  | .wlvPlaceWrite by_ h half v => Sys2Proof.Machine.execWlvPlaceWrite by_ h half v s
  | .strCtlWrite by_ st half v => Sys2Proof.Machine.execStrCtlWrite by_ st half v s
  | .strActTrigger by_ st => Sys2Proof.Machine.execStrActTrigger by_ st s
  | .strActQueueReset by_ st => Sys2Proof.Machine.execStrActQueueReset by_ st s
  | .strNoteRead by_ p => Sys2Proof.Machine.execStrNoteRead by_ p s
  | .pwrCtlOff by_ => Sys2Proof.Machine.execPwrCtlOff by_ s
  | .pwrCtlBanktest by_ => Sys2Proof.Machine.execPwrCtlBanktest by_ s
  | .pwrThrWrite by_ v => Sys2Proof.Machine.execPwrThrWrite by_ v s
  | .fixCtlTrigger by_ v => Sys2Proof.Machine.execFixCtlTrigger by_ v s
  | .seqCmdFix by_ addr arg => Sys2Proof.Machine.execSeqCmdFix by_ addr arg s
  | .seqCmdStatus by_ addr resp => Sys2Proof.Machine.execSeqCmdStatus by_ addr resp s
  | .rstCtlDevice by_ key => Sys2Proof.Machine.execRstCtlDevice by_ key s
  | .rstWdogKick by_ v => Sys2Proof.Machine.execRstWdogKick by_ v s
  | .padholdRelease by_ v => Sys2Proof.Machine.execPadholdRelease by_ v s
  | .talSelWrite by_ j v => Sys2Proof.Machine.execTalSelWrite by_ j v s
  | .talCfgWrite by_ v => Sys2Proof.Machine.execTalCfgWrite by_ v s
  | .safInjWrite by_ v => Sys2Proof.Machine.execSafInjWrite by_ v s
  | .llnChWrite by_ k half v => Sys2Proof.Machine.execLlnChWrite by_ k half v s
  | .i3cRead frame => Sys2Proof.Machine.execI3cRead frame s
  | .i3cWrite frame => Sys2Proof.Machine.execI3cWrite frame s
  | .i3cStatus frame => Sys2Proof.Machine.execI3cStatus frame s
  | .i3cResponse ready => Sys2Proof.Machine.execI3cResponse ready s
  | .entdaa addr => Sys2Proof.Machine.execEntdaa addr s
  | .setdasa addr => Sys2Proof.Machine.execSetdasa addr s
  | .rstdaa => Sys2Proof.Machine.execRstdaa s
  | .enec b => Sys2Proof.Machine.execEnec b s
  | .disec b => Sys2Proof.Machine.execDisec b s
  | .getpid => Sys2Proof.Machine.execGetpid s
  | .getbcr => Sys2Proof.Machine.execGetbcr s
  | .getdcr => Sys2Proof.Machine.execGetdcr s
  | .getstatus => Sys2Proof.Machine.execGetstatus s
  | .getmrl => Sys2Proof.Machine.execGetmrl s
  | .setmrl n => Sys2Proof.Machine.execSetmrl n s
  | .getmwl => Sys2Proof.Machine.execGetmwl s
  | .setmwl n => Sys2Proof.Machine.execSetmwl n s
  | .rstact v => Sys2Proof.Machine.execRstact v s
  | .ibiRetry nacked => Sys2Proof.Machine.execIbiRetry nacked s
  | .i3cAddressInDoze => Sys2Proof.Machine.execI3cAddressInDoze s
  | .producerWrite p tag a data mask poison => Sys2Proof.Machine.execProducerWrite p tag a data mask poison s
  | .creditRaise st => Sys2Proof.Machine.execCreditRaise st s
  | .streamPageSpill st slot ev => Sys2Proof.Machine.execStreamPageSpill st slot ev s
  | .headRefill st => Sys2Proof.Machine.execHeadRefill st s
  | .consumerRead p tag a ev => Sys2Proof.Machine.execConsumerRead p tag a ev s
  | .producerWindowRead p tag a => Sys2Proof.Machine.execProducerWindowRead p tag a s
  | .triggerLineWrite p tag st t => Sys2Proof.Machine.execTriggerLineWrite p tag st t s
  | .read p st n => Sys2Proof.Machine.execRead p st n s
  | .mark p st => Sys2Proof.Machine.execMark p st s
  | .rewind p st => Sys2Proof.Machine.execRewind p st s
  | .release p st t => Sys2Proof.Machine.execRelease p st t s
  | .drop p st => Sys2Proof.Machine.execDrop p st s
  | .opReset p st => Sys2Proof.Machine.execOpReset p st s
  | .opInvalid p st code full => Sys2Proof.Machine.execOpInvalid p st code full s
  | .queueReset st cause => Sys2Proof.Machine.execQueueReset st cause s
  | .ringReclaim st => Sys2Proof.Machine.execRingReclaim st s
  | .boundaryRecord => Sys2Proof.Machine.execBoundaryRecord s
  | .windowClose st => Sys2Proof.Machine.execWindowClose st s
  | .windowRecord st => Sys2Proof.Machine.execWindowRecord st s
  | .add e d a b => Sys2Proof.Machine.execAdd e d a b s
  | .sub e d a b => Sys2Proof.Machine.execSub e d a b s
  | .and e d a b => Sys2Proof.Machine.execAnd e d a b s
  | .or e d a b => Sys2Proof.Machine.execOr e d a b s
  | .xor e d a b => Sys2Proof.Machine.execXor e d a b s
  | .shl e d a b => Sys2Proof.Machine.execShl e d a b s
  | .shr e d a b => Sys2Proof.Machine.execShr e d a b s
  | .sar e d a b => Sys2Proof.Machine.execSar e d a b s
  | .mul e d a b => Sys2Proof.Machine.execMul e d a b s
  | .mulh e d a b => Sys2Proof.Machine.execMulh e d a b s
  | .div e d a b => Sys2Proof.Machine.execDiv e d a b s
  | .rem e d a b => Sys2Proof.Machine.execRem e d a b s
  | .addi e d a imm => Sys2Proof.Machine.execAddi e d a imm s
  | .andi e d a imm => Sys2Proof.Machine.execAndi e d a imm s
  | .ori e d a imm => Sys2Proof.Machine.execOri e d a imm s
  | .xori e d a imm => Sys2Proof.Machine.execXori e d a imm s
  | .lhi e d imm rs => Sys2Proof.Machine.execLhi e d imm rs s
  | .beq e b a imm => Sys2Proof.Machine.execBeq e b a imm s
  | .bne e b a imm => Sys2Proof.Machine.execBne e b a imm s
  | .blt e b a imm => Sys2Proof.Machine.execBlt e b a imm s
  | .bge e b a imm => Sys2Proof.Machine.execBge e b a imm s
  | .bltu e b a imm => Sys2Proof.Machine.execBltu e b a imm s
  | .bgeu e b a imm => Sys2Proof.Machine.execBgeu e b a imm s
  | .jal e d off => Sys2Proof.Machine.execJal e d off s
  | .jr e d a imm => Sys2Proof.Machine.execJr e d a imm s
  | .ld8 e d a imm ev => Sys2Proof.Machine.execLd8 e d a imm ev s
  | .ld16 e d a imm ev => Sys2Proof.Machine.execLd16 e d a imm ev s
  | .ld32 e d a imm ev => Sys2Proof.Machine.execLd32 e d a imm ev s
  | .ld64 e d a imm ev => Sys2Proof.Machine.execLd64 e d a imm ev s
  | .ld8u e d a imm ev => Sys2Proof.Machine.execLd8u e d a imm ev s
  | .ld16u e d a imm ev => Sys2Proof.Machine.execLd16u e d a imm ev s
  | .ld32u e d a imm ev => Sys2Proof.Machine.execLd32u e d a imm ev s
  | .st8 e b a imm => Sys2Proof.Machine.execSt8 e b a imm s
  | .st16 e b a imm => Sys2Proof.Machine.execSt16 e b a imm s
  | .st32 e b a imm => Sys2Proof.Machine.execSt32 e b a imm s
  | .st64 e b a imm => Sys2Proof.Machine.execSt64 e b a imm s
  | .ldRsv e d a imm ev => Sys2Proof.Machine.execLdRsv e d a imm ev s
  | .stCnd e d a b => Sys2Proof.Machine.execStCnd e d a b s
  | .barCore e rs => Sys2Proof.Machine.execBarCore e rs s
  | .barQuad e rs => Sys2Proof.Machine.execBarQuad e rs s
  | .barChip e rs => Sys2Proof.Machine.execBarChip e rs s
  | .mread e d a b c fn ev => Sys2Proof.Machine.execMread e d a b c fn ev s
  | .mwrite e d a b fn rs ok => Sys2Proof.Machine.execMwrite e d a b fn rs ok s
  | .mclear e d a b rs retired => Sys2Proof.Machine.execMclear e d a b rs retired s
  | .mverify e d a rs ev => Sys2Proof.Machine.execMverify e d a rs ev s
  | .mfoldPage e d a rs ev => Sys2Proof.Machine.execMfoldPage e d a rs ev s
  | .mfoldSector e d a rs ev => Sys2Proof.Machine.execMfoldSector e d a rs ev s
  | .mfoldSealed e d a rs ev => Sys2Proof.Machine.execMfoldSealed e d a rs ev s
  | .mref e d a fn rs => Sys2Proof.Machine.execMref e d a fn rs s
  | .msense e d a b rs els => Sys2Proof.Machine.execMsense e d a b rs els s
  | .mediaTicketComplete e t => Sys2Proof.Machine.execMediaTicketComplete e t s
  | .qpeek e d a b c fn ev => Sys2Proof.Machine.execQpeek e d a b c fn ev s
  | .qtake e d a b c fn ev => Sys2Proof.Machine.execQtake e d a b c fn ev s
  | .qmark e d a b rs => Sys2Proof.Machine.execQmark e d a b rs s
  | .qrewind e d a b rs => Sys2Proof.Machine.execQrewind e d a b rs s
  | .qrelease e d a b rs => Sys2Proof.Machine.execQrelease e d a b rs s
  | .qdrop e d a b rs => Sys2Proof.Machine.execQdrop e d a b rs s
  | .qcredit e d a fn rs => Sys2Proof.Machine.execQcredit e d a fn rs s
  | .fixInstruction e d rs => Sys2Proof.Machine.execFixInstruction e d rs s
  | .wait e d a b timeout => Sys2Proof.Machine.execWait e d a b timeout s
  | .sleep e d a rs => Sys2Proof.Machine.execSleep e d a rs s
  | .sleepEnd e => Sys2Proof.Machine.execSleepEnd e s
  | .trap e code rs => Sys2Proof.Machine.execTrap e code rs s
  | .exit e => Sys2Proof.Machine.execExit e s
  | .event e => Sys2Proof.Machine.execEvent e s
  | .yield e => Sys2Proof.Machine.execYield e s
  | .eret e rs => Sys2Proof.Machine.execEret e rs s
  | .getsys e d n rs ev => Sys2Proof.Machine.execGetsys e d n rs ev s
  | .putsys e a n rs => Sys2Proof.Machine.execPutsys e a n rs s
  | .taskTake e d ev => Sys2Proof.Machine.execTaskTake e d ev s
  | .wdogKick e a => Sys2Proof.Machine.execWdogKick e a s
  | .budget e => Sys2Proof.Machine.execBudget e s
  | .engineWatchdog e => Sys2Proof.Machine.execEngineWatchdog e s
  | .lockstepMismatch e => Sys2Proof.Machine.execLockstepMismatch e s
  | .engineFault e => Sys2Proof.Machine.execEngineFault e s
  | .engineSelfTestDone e pass => Sys2Proof.Machine.execEngineSelfTestDone e pass s
  | .writeMergeDrain e line => Sys2Proof.Machine.execWriteMergeDrain e line s
  | .forwardingBufferDrain q => Sys2Proof.Machine.execForwardingBufferDrain q s
  | .barrierDrainTimeout e => Sys2Proof.Machine.execBarrierDrainTimeout e s
  | .sectorReady l cause => Sys2Proof.Machine.execSectorReady l cause s
  | .pageRoute pg => Sys2Proof.Machine.execPageRoute pg s
  | .mergeReadDone pg ev => Sys2Proof.Machine.execMergeReadDone pg ev s
  | .sectorProgramDone psa ok => Sys2Proof.Machine.execSectorProgramDone psa ok s
  | .overlayInstall l => Sys2Proof.Machine.execOverlayInstall l s
  | .pageInstall pg => Sys2Proof.Machine.execPageInstall pg s
  | .placementLogClose n ok => Sys2Proof.Machine.execPlacementLogClose n ok s
  | .lineLogClose h cause => Sys2Proof.Machine.execLineLogClose h cause s
  | .lineLogCommit h okA okB => Sys2Proof.Machine.execLineLogCommit h okA okB s
  | .watermark h => Sys2Proof.Machine.execWatermark h s
  | .rowComplete g r fails => Sys2Proof.Machine.execRowComplete g r fails s
  | .rowTimeout g r fails => Sys2Proof.Machine.execRowTimeout g r fails s
  | .groupClose g cause => Sys2Proof.Machine.execGroupClose g cause s
  | .groupOpen kind => Sys2Proof.Machine.execGroupOpen kind s
  | .segmentAgeClose sg => Sys2Proof.Machine.execSegmentAgeClose sg s
  | .settleEnd g => Sys2Proof.Machine.execSettleEnd g s
  | .verifyReadDone psa ev => Sys2Proof.Machine.execVerifyReadDone psa ev s
  | .parityRelease g => Sys2Proof.Machine.execParityRelease g s
  | .clearSchedule n => Sys2Proof.Machine.execClearSchedule n s
  | .segmentClearDone sg retired => Sys2Proof.Machine.execSegmentClearDone sg retired s
  | .collectionStart n => Sys2Proof.Machine.execCollectionStart n s
  | .foldQueue pg cause => Sys2Proof.Machine.execFoldQueue pg cause s
  | .mapFlush h mp => Sys2Proof.Machine.execMapFlush h mp s
  | .checkpointStart cause => Sys2Proof.Machine.execCheckpointStart cause s
  | .checkpointComplete => Sys2Proof.Machine.execCheckpointComplete s
  | .spareRecompute => Sys2Proof.Machine.execSpareRecompute s
  | .berthLow => Sys2Proof.Machine.execBerthLow s
  | .metadataPoolTopup n => Sys2Proof.Machine.execMetadataPoolTopup n s
  | .staticLevelling n => Sys2Proof.Machine.execStaticLevelling n s
  | .poolWearExchange n => Sys2Proof.Machine.execPoolWearExchange n s
  | .marginSweep => Sys2Proof.Machine.execMarginSweep s
  | .refreshQueue sg => Sys2Proof.Machine.execRefreshQueue sg s
  | .lodestoneSample n g els => Sys2Proof.Machine.execLodestoneSample n g els s
  | .eclkUpdate => Sys2Proof.Machine.execEclkUpdate s
  | .scrubPass ce ues => Sys2Proof.Machine.execScrubPass ce ues s
  | .keySweep bad => Sys2Proof.Machine.execKeySweep bad s
  | .burstCrcFail n read_ resend => Sys2Proof.Machine.execBurstCrcFail n read_ resend s
  | .ackTimeout n resend => Sys2Proof.Machine.execAckTimeout n resend s
  | .quickRetrain n cause => Sys2Proof.Machine.execQuickRetrain n cause s
  | .quickRetrainDone n ok => Sys2Proof.Machine.execQuickRetrainDone n ok s
  | .fullTrainingDone n ok => Sys2Proof.Machine.execFullTrainingDone n ok s
  | .dieFatalStatus n => Sys2Proof.Machine.execDieFatalStatus n s
  | .stuckCell n c => Sys2Proof.Machine.execStuckCell n c s
  | .pointDeath n cause => Sys2Proof.Machine.execPointDeath n cause s
  | .rehomingComplete n selfTestOk => Sys2Proof.Machine.execRehomingComplete n selfTestOk s
  | .deadDieRecovery n pg ev => Sys2Proof.Machine.execDeadDieRecovery n pg ev s
  | .crossbarSelfCheck q ok => Sys2Proof.Machine.execCrossbarSelfCheck q ok s
  | .secureDiscardResume => Sys2Proof.Machine.execSecureDiscardResume s
  | .rekeyResume => Sys2Proof.Machine.execRekeyResume s
  | .bankTest v1 t => Sys2Proof.Machine.execBankTest v1 t s
  | .bankTestDue cause => Sys2Proof.Machine.execBankTestDue cause s
  | .bankVoltageLow => Sys2Proof.Machine.execBankVoltageLow s
  | .automaticModeChange => Sys2Proof.Machine.execAutomaticModeChange s
  | .brownout => Sys2Proof.Machine.execBrownout s
  | .flushEnd cut pos => Sys2Proof.Machine.execFlushEnd cut pos s
  | .commitEnd => Sys2Proof.Machine.execCommitEnd s
  | .supplyReturn => Sys2Proof.Machine.execSupplyReturn s
  | .vinOvervoltage => Sys2Proof.Machine.execVinOvervoltage s
  | .railStep k => Sys2Proof.Machine.execRailStep k s
  | .railStepDone k vs => Sys2Proof.Machine.execRailStepDone k vs s
  | .railStepFail k cause => Sys2Proof.Machine.execRailStepFail k cause s
  | .railFault k cause vs => Sys2Proof.Machine.execRailFault k cause vs s
  | .railDischarged k timeout => Sys2Proof.Machine.execRailDischarged k timeout s
  | .railsDownComplete => Sys2Proof.Machine.execRailsDownComplete s
  | .minimumOffTimeEnd => Sys2Proof.Machine.execMinimumOffTimeEnd s
  | .orderlyShutdown step => Sys2Proof.Machine.execOrderlyShutdown step s
  | .step k => Sys2Proof.Machine.execStep k s
  | .down => Sys2Proof.Machine.execDown s
  | .flush => Sys2Proof.Machine.execFlush s
  | .seqFix arg => Sys2Proof.Machine.execSeqFix arg s
  | .status => Sys2Proof.Machine.execStatus s
  | .chart blk data crc => Sys2Proof.Machine.execChart blk data crc s
  | .seqNoack addr cmd => Sys2Proof.Machine.execSeqNoack addr cmd s
  | .lineFlush => Sys2Proof.Machine.execLineFlush s
  | .seqOrphan => Sys2Proof.Machine.execSeqOrphan s
  | .seqDiscovery resp => Sys2Proof.Machine.execSeqDiscovery resp s
  | .seqGroupPoll resp => Sys2Proof.Machine.execSeqGroupPoll resp s
  | .watchPowerOn => Sys2Proof.Machine.execWatchPowerOn s
  | .watchStop => Sys2Proof.Machine.execWatchStop s
  | .crystalSwitch => Sys2Proof.Machine.execCrystalSwitch s
  | .crystalFail cause => Sys2Proof.Machine.execCrystalFail cause s
  | .wakeEdge k since => Sys2Proof.Machine.execWakeEdge k since s
  | .wakeLevel k since => Sys2Proof.Machine.execWakeLevel k since s
  | .wakeReleaseOff k since => Sys2Proof.Machine.execWakeReleaseOff k since s
  | .wchAlarm => Sys2Proof.Machine.execWchAlarm s
  | .resetN => Sys2Proof.Machine.execResetN s
  | .deviceReset code => Sys2Proof.Machine.execDeviceReset code s
  | .resetFlushEnd cut pos => Sys2Proof.Machine.execResetFlushEnd cut pos s
  | .chipWatchdog => Sys2Proof.Machine.execChipWatchdog s
  | .dozeEntry => Sys2Proof.Machine.execDozeEntry s
  | .dozeReached => Sys2Proof.Machine.execDozeReached s
  | .padHoldLatch => Sys2Proof.Machine.execPadHoldLatch s
  | .maintenanceWake => Sys2Proof.Machine.execMaintenanceWake s
  | .dozeWake src => Sys2Proof.Machine.execDozeWake src s
  | .optionLoad straps => Sys2Proof.Machine.execOptionLoad straps s
  | .referenceCheck usable present => Sys2Proof.Machine.execReferenceCheck usable present s
  | .pllLock => Sys2Proof.Machine.execPllLock s
  | .mediaInitialisation => Sys2Proof.Machine.execMediaInitialisation s
  | .recovery ev => Sys2Proof.Machine.execRecovery ev s
  | .chartApply => Sys2Proof.Machine.execChartApply s
  | .activeReached p => Sys2Proof.Machine.execActiveReached p s
  | .noLinkTimeout => Sys2Proof.Machine.execNoLinkTimeout s
  | .heartbeatTimeout => Sys2Proof.Machine.execHeartbeatTimeout s
  | .pllUnlock which => Sys2Proof.Machine.execPllUnlock which s
  | .clockDeviation => Sys2Proof.Machine.execClockDeviation s
  | .sequencerMismatch => Sys2Proof.Machine.execSequencerMismatch s
  | .safeNReadback => Sys2Proof.Machine.execSafeNReadback s
  | .latentFaultTest fails => Sys2Proof.Machine.execLatentFaultTest fails s
  | .fixNEdge => Sys2Proof.Machine.execFixNEdge s
  | .deckLogFlush cause => Sys2Proof.Machine.execDeckLogFlush cause s
  | .tallyDump => Sys2Proof.Machine.execTallyDump s
  | .logbookSegmentWrite addr data => Sys2Proof.Machine.execLogbookSegmentWrite addr data s
  | .operatingSecond => Sys2Proof.Machine.execOperatingSecond s
  | .sensorRead kind k v => Sys2Proof.Machine.execSensorRead kind k v s
  | .thermalEvaluation => Sys2Proof.Machine.execThermalEvaluation s
  | .criticalTimeout => Sys2Proof.Machine.execCriticalTimeout s
  | .coolDownEnd => Sys2Proof.Machine.execCoolDownEnd s
  | .llWindowExcursion k => Sys2Proof.Machine.execLlWindowExcursion k s
  | .llSample k code clip => Sys2Proof.Machine.execLlSample k code clip s
  | .llEdge k level since => Sys2Proof.Machine.execLlEdge k level since s
  | .llFrameClose => Sys2Proof.Machine.execLlFrameClose s
  | .llLevelWake k active since => Sys2Proof.Machine.execLlLevelWake k active since s
  | .llStreamCheck => Sys2Proof.Machine.execLlStreamCheck s
  | .builtInSelfTest fails => Sys2Proof.Machine.execBuiltInSelfTest fails s
  | .quietClockGate => Sys2Proof.Machine.execQuietClockGate s
  | .sanitizeRestart => Sys2Proof.Machine.execSanitizeRestart s
  | .brownoutWatch vin => Sys2Proof.Machine.execBrownoutWatch vin s
  | .resetNRelease => Sys2Proof.Machine.execResetNRelease s
  | .placementQueueRefill n kind => Sys2Proof.Machine.execPlacementQueueRefill n kind s

end Sys2Proof.Machine
end

