-- ==== Sys2Proof/Safety.lean ====
section
/-! DEFINITION. What a safe run is, and the words in which the claims speak of commands, services and the invariant. -/

namespace Sys2Proof.Machine

/-! ### Commands that complete -/

/-- `c`, at a device `d` and with whatever queue behind it, ANSWERS A NEXT STATE: the device becomes `d'` and the queue stands as it was. -/
def Runs (c : Instr) (d d' : Dev) : Prop := ∀ q : List Instr, exec c ⟨q, d⟩ = .next ⟨q, d'⟩

/-- Some next state follows, and its device satisfies `P`. -/
def RunsTo (c : Instr) (d : Dev) (P : Dev → Prop) : Prop := ∃ d' : Dev, Runs c d d' ∧ P d'

/-- A command that is outside its row's operand ranges stops, whatever the state. -/
def Stops (c : Instr) (d : Dev) : Prop := ∀ q : List Instr, exec c ⟨q, d⟩ = .fault .illFormed

/-! ### Services -/

/-- The mailbox of a head is served without restriction: Active, no Hove-to, no Sanitize (R321, R322, R587). -/
def Dev.served (d : Dev) (h : Nat) : Bool := d.mboxOn h && d.phase == .active && !d.on SAF_STAT.HOVE && d.sanitize.isNone

/-- A head's mailbox is reached, and nothing turns the command of an opcode away (R321, R322, R587, R669). -/
def Dev.serves (d : Dev) (h op : Nat) : Bool := d.mboxOn h && (d.mboxGate op).isNone

/-- Order `id` runs program `prog`, has not ended, and nothing holds it back (R461 to R465). -/
def Dev.orderReady (d : Dev) (id prog : Nat) (x : Order) : Prop :=
  d.order id = some x ∧ x.prog = prog ∧ x.done = none ∧ d.ordBlocked x = false

/-- A background command of Table 9.5 that a head's mailbox takes as an order (R325, R327): it is answered Background Command Started, its
order takes the next CSN and is let in, and has its effect unless it has ended or is held back. -/
def Dev.asked (d : Dev) (h op prog : Nat) (args : List Nat) (eff : Dev → Order → Dev) : Dev :=
  let n := d.touch.newOrder (4 + h) 0 (mkEntry prog args)
  let e := ((n.2.modHead h (fun y => { y with bg := some (op, n.1.id) })).reply h op rcBackground []).letIn n.1
  match e.order n.1.id with
  | some y => if y.done.isNone && !e.ordBlocked y then eff e y else e
  | none => e

/-- Engine `e` executes an instruction that is legal where it stands (R413): it runs and does not wait, its pc may be fetched from, it may
execute an instruction that `helm` reserves to helm, and its budget is not exhausted. -/
def Dev.engReady (d : Dev) (e : Nat) (helm : Bool) : Bool :=
  d.engUp e && !(d.eng e).waiting && (d.eng e).pc.toNat % 4 == 0 && d.mayFetch e (d.eng e).pc.toNat && !d.budgetDue e &&
    (!helm || (d.eng e).priv != 1)

/-- The engine goes on at the next word, and the second engine of a LOCKSTEP pair with it (R445). -/
def Dev.engNext (d0 d : Dev) (e : Nat) : Dev := (d.modEng e (fun x => { x with pc := (d0.eng e).pc + 4 })).lockCopy e

/-- The engine goes on at an address. -/
def Dev.engAt (d : Dev) (e : Nat) (pc : Word) : Dev := (d.modEng e (fun x => { x with pc := pc })).lockCopy e

/-! ### The invariant -/

/-- Register offsets rise strictly, and no register that stands at its reset value is listed. -/
def regsWf : List (Nat × BitVec 64) → Bool
  | [] => true
  | [x] => x.2 != BitVec.ofNat 64 (resetVal x.1)
  | x :: y :: t => decide (x.1 < y.1) && x.2 != BitVec.ofNat 64 (resetVal x.1) && regsWf (y :: t)

/-- What every step keeps: the two counters of the duplicated commit sequencer agree (R591), the register file and the Logbook stand in
their canonical form. -/
def Dev.Inv (d : Dev) : Prop := d.nextCsn = d.nextCsn2 ∧ regsWf d.regs = true ∧ Memory.wf d.lbk = true

/-- The invariant of a state. -/
def State.Inv (s : State) : Prop := s.dev.Inv

/-! ### Safe runs -/

/-- Every command that waits is one the hardware can receive. -/
def State.queueOk (s : State) : Bool := s.pending.all Instr.wf

/-- `n` steps, stopping at the first fault or refusal. -/
def runSteps : Nat → State → Host.Outcome State Fault Refusal
  | 0, s => .next s
  | n + 1, s =>
    match step s with
    | .next t => runSteps n t
    | .fault f => .fault f
    | .refused r => .refused r

/-- A run of `n` steps is safe: none of its steps faults or is refused, and it ends in a state that keeps the invariant. -/
def SafeRun (n : Nat) (s : State) : Prop := ∃ t, runSteps n s = .next t ∧ t.Inv

end Sys2Proof.Machine
end

