-- ==== Sys2Proof/Certificates/Slice0/Obligations.lean ====
section
/-! DEFINITION. The statements for the provers. Each says what a command or the machine does by the numbered rules its docstring names;
where it rests on a choice of the model, its docstring says so. -/

open Sys2Proof Sys2Proof.Machine

/-! ### The block -/

/-- A step takes the command at the front of the queue and runs it on the state with the queue's rest (the block's own form, log entry 1).
-/
def Obligations.StepRunsFront : Prop :=
  ∀ (c : Instr) (q : List Instr) (d : Dev), step ⟨c :: q, d⟩ = exec c ⟨q, d⟩

/-- On an empty queue time passes (DESIGN CHOICE, log entry 2): nothing while the Watch domain is stopped; one unit of ship's time while the
fabric clock runs and the unit does not end a Watch tick; else one Watch tick, which counts in WCH_TICKS, and in ship's time unless the
device is Dormant. While an activity keeps a running device out of Doze, R552's count begins again (log entry 90). Nothing else changes. -/
def Obligations.IdleStep : Prop :=
  ∀ d : Dev,
    let busy (e : Dev) : Dev := if d.phase = .active ∧ e.quiet = false then { e with wch := { e.wch with eligFrom := e.time } } else e
    (d.phase = .watchOff → step ⟨[], d⟩ = .next ⟨[], d⟩) ∧
    (d.phase ≠ .watchOff → d.fabricOn = true → (d.time + 1) % 65536 ≠ 0 → step ⟨[], d⟩ = .next ⟨[], busy { d with time := d.time + 1 }⟩) ∧
    (d.phase ≠ .watchOff → (d.fabricOn = false ∨ (d.time + 1) % 65536 = 0) →
      step ⟨[], d⟩ = .next ⟨[], busy { d with wch := { d.wch with ticks := (d.wch.ticks + 1) % 2 ^ 48 },
                                              time := if d.phase = .dormant then d.time else (d.time / 65536 + 1) * 65536 }⟩)

/-- Every command within its row's operand ranges answers a next state in every state, and leaves the queue as it stands; every other
command stops by name. No command is refused. -/
def Obligations.EveryCommandCompletes : Prop :=
  ∀ (c : Instr) (d : Dev), (c.wf = true → ∃ d', Runs c d d') ∧ (c.wf = false → Stops c d)

/-- The state right after reset: no command waits, the device is in the option-load phase of a Watch power-on, no register differs from the
reset value of its table, no row of the medium is programmed, no Hove-to stands and no seal. The phase after reset and the zeros of what the
manual gives no reset value are the model's choices (log entries 11, 12 and 14). -/
def Obligations.ResetState : Prop :=
  State.reset.pending = [] ∧ State.reset.dev.phase = .optLoad ∧ (∀ off, State.reset.dev.reg off = resetVal off) ∧
  State.reset.dev.sectors = [] ∧ State.reset.dev.binn = [] ∧ State.reset.dev.seals = [] ∧ State.reset.dev.f SAF_STAT.HOVE = 0 ∧
  State.reset.dev.reg 0x3000 = 0xFEDCBA9876543210 ∧ State.reset.dev.reg 0x100 = 0 ∧ State.reset.dev.reg 0x104 = 0 ∧
  State.reset.dev.f PWR_THR.VBO = 56 ∧ State.reset.dev.f MAP_CKPT.GEN = 0

/-- The invariant holds in the state after reset. -/
def Obligations.ResetKeepsInv : Prop :=
  State.reset.Inv

/-- Every step keeps the invariant, from every state that meets it: the counters of the duplicated commit sequencer agree (R591), and the
register file and the Logbook stay in their canonical form. -/
def Obligations.StepKeepsInv : Prop :=
  ∀ s t : State, s.Inv → step s = .next t → t.Inv

/-- The registry lock fuse is never unblown: no command, no power loss, no reset and no Sanitize clears it (R621). -/
def Obligations.RegistryLockIsPermanent : Prop :=
  ∀ s t : State, s.dev.fuse = true → step s = .next t → t.dev.fuse = true

/-! ### CXL.mem (chapters 01, 05, 09) -/

/-- A read that arrives on a credit and that nothing holds back at its home (R34, R71, R210): it is answered with what its region holds, or,
where it must wait for the retrain of a die's link, it waits in the front end and nothing of it has happened (R102, R676). The reads of an
aperture's consumer and producer windows are the same requests. -/
def Obligations.MemReads : Prop :=
  ∀ (p tag a : Nat) (ev : RdEnv) (d e : Dev), p < 2 → tag < 65536 → a < 2 ^ 48 →
    let r (e : Dev) := e.touch.memReadNow p a ev
    let after (e : Dev) := (r e).2.send (match (r e).1 with | some v => .rd p tag v | none => .rdPoison p tag)
    (d.creditFor p false = some e → e.touch.mustHold p tag a false = false →
      ((r e).2.blocked = none → Runs (.memRd p tag a ev) d (after e) ∧ Runs (.memRdData p tag a ev) d (after e)) ∧
      (∀ w, (r e).2.blocked = some w → RunsTo (.memRd p tag a ev) d (fun t => t.fe = d.fe ++
        [(w, ⟨d.serving (d.homeAt a) / 4, p, tag, d.ordTag p tag, a, none, false, false, ev, 0⟩)] ∧ t.out = d.out ∧ t.regs = d.regs ∧ t.sectors = d.sectors))) ∧
    (d.portReady p = true → d.touch.mustHold p tag a false = false → (r d).2.blocked = none →
      ((d.apOff a).any (fun o => decide (0x81000 ≤ o)) = true → Runs (.consumerRead p tag a ev) d (after d)) ∧
      (ev = ⟨[], false, false, false⟩ → (d.apOff a).any (fun o => decide (0x1000 ≤ o) && decide (o < 0x80000)) = true →
        Runs (.producerWindowRead p tag a) d (after d)))

/-- R32 for a line that stands whole in the Binnacle by a full write, or stands whole there and is not poisoned: the read delivers the
newest write, and changes neither the Binnacle nor the medium. -/
def Obligations.ReadSeesNewestWrite : Prop :=
  ∀ (p tag a : Nat) (d e : Dev) (b : BEntry), p < 2 → tag < 65536 → a < 2 ^ 48 → d.creditFor p false = some e → d.blocked = none →
    d.mustHold p tag a false = false → d.region a = .window → d.hove (homeOf (64 * (a / 64))) = false →
    d.binnAt (a / 64) = some b → b.mask = fullMask → (b.whole = true ∨ d.poisoned (a / 64) = false) →
    RunsTo (.memRd p tag a ⟨[], false, false, false⟩) d (fun t => t.out = .rd p tag b.data :: d.out ∧ t.binn = d.binn ∧ t.sectors = d.sectors)

/-- A write that arrives on a credit and is not held (R9, R10, R30): it is accepted by the region of its address, under the line check of
its bytes (Table 8.2); where its merge read must wait for the retrain of a die's link it waits in the front end (R676). -/
def Obligations.MemWrites : Prop :=
  ∀ (p tag a : Nat) (data : Line) (mask : Mask) (poison bad : Bool) (ev : RdEnv) (d e : Dev), p < 2 → tag < 65536 → a < 2 ^ 48 →
    d.creditFor p true = some e → e.touch.mustHold p tag a true = false → d.region a = .window →
    let w (mask : Mask) (ev : RdEnv) := e.touch.acceptWrite p tag a data mask poison bad ev (entryCheck (a / 64) data mask)
    ((w fullMask ⟨[], false, false, false⟩).blocked = none →
      Runs (.memWr p tag a data poison bad) d (w fullMask ⟨[], false, false, false⟩)) ∧
    ((w mask ev).blocked = none → Runs (.memWrPtl p tag a data mask poison bad ev) d (w mask ev)) ∧
    (∀ n, (w mask ev).blocked = some n → RunsTo (.memWrPtl p tag a data mask poison bad ev) d (fun t => t.out = d.out ∧ t.binn = d.binn ∧
      t.nextCsn = d.nextCsn ∧ t.fe = d.fe ++ [(n, ⟨d.serving (homeOf a) / 4, p, tag, d.ordTag p tag, a, some (data, mask), poison, bad, ev,
        entryCheck (a / 64) data mask⟩)]))

/-- R9 and R136: with HOLDUP in force, a sound full-line write to a line that nothing stands against takes the next CSN, stands in the
Binnacle under it with the line check of its bytes, and completes at once. Every other line of the Binnacle, and the medium, stay as they
are. -/
def Obligations.HoldupWriteCompletes : Prop :=
  ∀ (p tag a : Nat) (data : Line) (d e : Dev), p < 2 → tag < 65536 → a < 2 ^ 48 → d.creditFor p true = some e → d.blocked = none →
    d.mustHold p tag a true = false → d.region a = .window → d.hove (homeOf (64 * (a / 64))) = false → d.mHoldup = true →
    d.f WLV_CAP.BERTH_LOW = 0 → d.f WLV_CAP.STATE = 0 → d.binnAt (a / 64) = none →
    RunsTo (.memWr p tag a data false false) d (fun t =>
      t.out = .wrDone p tag :: d.out ∧ t.nextCsn = d.nextCsn + 1 ∧
      t.binnAt (a / 64) = some { line := a / 64, data := data, mask := fullMask, csn := d.nextCsn, st := .pending, since := d.time,
                                 check := lineCheck data (termDev (a / 64)), first := d.nextCsn, whole := true } ∧
      (∀ l, l ≠ a / 64 → t.binnAt l = d.binnAt l) ∧ t.sectors = d.sectors ∧ t.lbk = d.lbk)

/-- R71: a request that must be held is held in order of arrival, in the hold buffer of its quadrant, or, where only a write of its ordering
tag holds it (R34), in that of the write (R72); it is not answered. A request without a credit, while credits are withheld, changes nothing:
it waits at its sender (R26, R138). R294, R19, R20: an unsupported opcode is completed and changes no memory; a Global Persistent Flush
waits for the writes with a CSN up to the present one, and a write still held makes the shutdown dirty. That any held write counts is the
model's reading (log entry 36). -/
def Obligations.OtherMemRequests : Prop :=
  (
  ∀ (p tag a : Nat) (data : Line) (poison bad : Bool) (ev : RdEnv) (d e : Dev), p < 2 → tag < 65536 → a < 2 ^ 48 →
    let own := d.serving (d.homeAt a) / 4
    (d.creditFor p false = some e → d.mustHold p tag a false = true → RunsTo (.memRd p tag a ev) d (fun t =>
      t.hold = d.hold ++ [⟨own, p, tag, d.ordTag p tag, a, none, false, false, ev, 0⟩] ∧ t.out = d.out)) ∧
    (d.creditFor p true = some e → d.mustHold p tag a true = true → ∀ q,
      (d.mustHold p tag a false = true → q = own) → (d.mustHold p tag a false = false → ∃ r, d.aheadOf p tag = some r ∧ q = r.quad) →
      RunsTo (.memWr p tag a data poison bad) d (fun t =>
        t.hold = d.hold ++ [⟨q, p, tag, d.ordTag p tag, a, some (data, fullMask), poison, bad, ⟨[], false, false, false⟩,
          entryCheck (a / 64) data fullMask⟩] ∧ t.out = d.out)) ∧
    (d.creditFor p false = none → Runs (.memRd p tag a ev) d d ∧ Runs (.memRdData p tag a ev) d d) ∧
    (d.creditFor p true = none → Runs (.memWr p tag a data poison bad) d d)) ∧
  (
  ∀ (p tag op a : Nat) (d e : Dev), (Instr.unsupportedM2sOpcode p tag op a).wf = true →
    d.creditFor p false = some e → Runs (.unsupportedM2sOpcode p tag op a) d (e.touch.send (.otherDone p tag op))) ∧
  (
  ∀ (p : Nat) (d : Dev), p < 2 → d.portReady p = true →
    (d.hold.any (fun r => r.wr.isSome) = false →
      Runs (.globalPersistentFlush p) d ({ d.touch with gpf := d.gpf ++ [(p, d.csn)] } : Dev).gpfSettle) ∧
    (d.hold.any (fun r => r.wr.isSome) = true →
      Runs (.globalPersistentFlush p) d
        ({ d.dirtyShutdown.touch with gpf := d.dirtyShutdown.gpf ++ [(p, d.dirtyShutdown.csn)] } : Dev).gpfSettle))

/-! ### The ports (chapter 09) -/

/-- R293, R300, R347, R349, R304, R305, R343, R550: port resets, link training at every rate and width and its failure, with event 0x091 below x8 at 64 GT/s, the port whose PHY reference is
not usable, L1 and D3hot, the commit of a decoder, and the unmasking of a vector. That L1_EXIT ends D3hot is the model's reading (log entry 61). -/
def Obligations.PortRows : Prop :=
  ∀ (p : Nat) (d : Dev), p < 2 →
    (d.f (DEV_PORTSTAT.PERST p) = 0 → Runs (.perst p 0) d (d.touch.portReset p 0 true)) ∧
    (d.f (DEV_PORTSTAT.RATE p) ≠ 0 → Runs (.perst p 1) d (d.touch.portReset p 1 false)) ∧
    (∀ (rate width : Nat) (flit ref : Bool) (e : Dev), (Instr.linkTraining p rate width flit ref).wf = true → d.portsOn = true →
      d.phase ≠ .doze → ((d.takeRef p ref).head p).phyRef = true →
      e = (if d.f (DEV_PORTSTAT.RATE p) = 0 then d.takeRef p ref else (d.takeRef p ref).cnt (DEV_PORTSTAT.RETRAINS p)) →
      (rate ≠ 0 → width ≠ 0 → ∀ t : Dev,
        t = ((((e.setF (DEV_PORTSTAT.RATE p) rate).setF (DEV_PORTSTAT.WIDTH p) width).setF (DEV_PORTSTAT.FLIT256 p)
          (if rate = 5 then 1 else b2n flit)).setF (DEV_PORTSTAT.L1 p) 0).setF (DEV_PORTSTAT.PERST p) 0 →
        Runs (.linkTraining p rate width flit ref) d ((if rate = 5 ∧ width = 4 then t else t.post0 0x091).touch.linkReady p)) ∧
      (rate = 0 ∨ width = 0 → Runs (.linkTraining p rate width flit ref) d
        (((((e.setF (DEV_PORTSTAT.RATE p) 0).setF (DEV_PORTSTAT.WIDTH p) 0).setF (DEV_PORTSTAT.FLIT256 p) 0).setF (DEV_PORTSTAT.L1 p) 0).touch.linkReady p))) ∧
    (∀ (rate width : Nat) (flit ref : Bool), (Instr.linkTraining p rate width flit ref).wf = true → d.portsOn = true → d.phase ≠ .doze →
      ((d.takeRef p ref).head p).phyRef = false →
      Runs (.linkTraining p rate width flit ref) d
        (if d.f (DEV_PORTSTAT.RATE p) = 0 then d.takeRef p ref else (d.takeRef p ref).touch.portReset p 1 false)) ∧
    (d.inL0 p = true → Runs (.l1Entry p) d (({ d with wch := { d.wch with eligFrom := d.time } } : Dev).setF (DEV_PORTSTAT.L1 p) 1)) ∧
    (d.f (DEV_PORTSTAT.L1 p) ≠ 0 → d.phase = .active →
      Runs (.l1Exit p) d
        ((((({ d with wch := { d.wch with idleFrom := d.time, eligFrom := d.time, maint := false } } : Dev).wdogRun.setF (DEV_PORTSTAT.L1 p) 0).modHead p
          (fun x => { x with d3hot := false })).linkReady p))) ∧
    (d.inL0 p = true → Runs (.d3hotEntry p) d
      ((({ d with wch := { d.wch with eligFrom := d.time } } : Dev).modHead p (fun x => { x with d3hot := true })).setF (DEV_PORTSTAT.L1 p) 1)) ∧
    (∀ idx base size dpa ways gran, (Instr.decoderCommit p idx base size dpa ways gran).wf = true → d.inL0 p = true →
      d.decoderFails p idx size dpa ways = false →
      Runs (.decoderCommit p idx base size dpa ways gran) d
        (d.modHead p (fun x => { x with decoders := assocSet idx ⟨base, size, dpa, ways, gran⟩ x.decoders }))) ∧
    (∀ v, v < 8 → (d.head p).pend.testBit v = true → (d.f (DEV_INTSTAT.PEND p)).testBit v = true →
      Runs (.msixUnmask p v) d
        ((d.modHead p (fun x => { x with mask := x.mask - (x.mask &&& 2 ^ v), pend := x.pend - (x.pend &&& 2 ^ v) })).sendVec p v))

/-! ### The mailbox (chapter 09) -/

/-- R319 and Table 9.9: a mailbox command that ends places its answer before the head and sets vector 0 pending; it changes no other head,
no register but the head's pending bits, and nothing of the medium or the Logbook. R321, R322, R587: the commands outside Table 9.4's early
ones are turned away with Media Disabled while the device starts or is Becalmed and, but for four, in Hove-to; with Busy while a Sanitize
runs. The numbers of the return codes are PRESUMED (log entry 13). -/
def Obligations.MailboxAnswer : Prop :=
  (
  ∀ (h op rc : Nat) (payload : List (BitVec 8)) (d : Dev), h < 2 →
    .mbox h op rc payload ∈ (d.reply h op rc payload).out ∧ (d.reply h op rc payload).f (DEV_INTSTAT.PEND h) % 2 = 1 ∧
    (∀ off, off ≠ (DEV_INTSTAT.PEND h).off → (d.reply h op rc payload).reg off = d.reg off) ∧
    (d.reply h op rc payload).head (1 - h) = d.head (1 - h) ∧ (d.reply h op rc payload).sectors = d.sectors ∧
    (d.reply h op rc payload).lbk = d.lbk ∧ (d.reply h op rc payload).nextCsn = d.nextCsn) ∧
  (
  ∀ (op : Nat) (d : Dev),
    (earlyOps.contains op = true → d.mboxGate op = none) ∧
    (earlyOps.contains op = false → (d.phase = .becalmed ∨ d.starting = true) → d.mboxGate op = some rcMediaDisabled) ∧
    (earlyOps.contains op = false → d.phase = .active → d.f SAF_STAT.HOVE ≠ 0 → hoveOps.contains op = false → d.mboxGate op = some rcMediaDisabled) ∧
    (earlyOps.contains op = false → d.phase = .active → d.f SAF_STAT.HOVE = 0 → d.sanitize ≠ none → d.mboxGate op = some rcBusy))

/-- The reports of Table 9.4, wherever the mailbox serves the command. Bytes that the manual leaves to CXL 3.1 are free (`openBytes`, log
entry 27). The commands of Table 9.4 that read a log, the label storage or the poison list: within its bounds each gives what it names, and
beyond them Invalid Input. Return codes and layouts are those of CXL 3.1 (PRESUMED, log entry 13). -/
def Obligations.MailboxReports : Prop :=
  (
  ∀ (h : Nat) (d : Dev), h < 2 →
    let ok (op : Nat) (b : List (BitVec 8)) : Dev := d.touch.reply h op rcSuccess b
    (d.serves h 0x0001 = true → Runs (.identify h) d
      (ok 0x0001 (leBytes 2 0x1E7A ++ leBytes 2 0x5016 ++ openBytes 1 4 ++ leBytes 8 Config.serial.toNat ++ leBytes 1 12 ++ leBytes 1 3))) ∧
    (d.serves h 0x0102 = true →
      Runs (.getEventInterruptPolicy h) d (ok 0x0102 ((d.head h).policy.map (fun m => if m = 1 then 0x11#8 else 0#8)))) ∧
    (d.serves h 0x0200 = true → Runs (.getFwInfo h) d
      (ok 0x0200 (leBytes 1 2 ++ leBytes 1 ((if d.patchOn then 2 else 1) + 8 * (if d.patchNext then 2 else 0)) ++ leBytes 1 0 ++
        List.replicate 13 0 ++ openBytes 2 64))) ∧
    (d.serves h 0x0300 = true → Runs (.getTimestamp h) d (ok 0x0300 (leBytes 8 d.hostTime))) ∧
    (d.serves h 0x0400 = true →
      Runs (.getSupportedLogs h) d (ok 0x0400 (leBytes 2 1 ++ List.replicate 6 0 ++ uuidEffects ++ leBytes 4 (4 * supportedOps.length)))) ∧
    (d.serves h 0x4000 = true → Runs (.identifyMemoryDevice h) d
      (ok 0x4000 (openBytes 3 16 ++ leBytes 8 d.winUnits ++ leBytes 8 0 ++ leBytes 8 d.winUnits ++ leBytes 8 0 ++ leBytes 2 256 ++ leBytes 2 256 ++
        leBytes 2 256 ++ leBytes 2 256 ++ leBytes 4 131072 ++ leBytes 3 65536 ++ leBytes 2 64 ++ leBytes 1 1 ++ leBytes 1 0))) ∧
    (d.serves h 0x4100 = true → Runs (.getPartitionInfo h) d (ok 0x4100 (leBytes 8 0 ++ leBytes 8 d.winUnits ++ leBytes 8 0 ++ leBytes 8 0))) ∧
    (d.serves h 0x4200 = true → Runs (.getHealthInfo h) d
      (ok 0x4200 (leBytes 1 d.healthBits ++ leBytes 1 d.mediaStatus ++ openBytes 4 1 ++ leBytes 1 (d.f WLV_CAP.LIFE_USED) ++
        leBytes 2 (ofSigned 16 ((hottest d.thm.media).1 / 100)) ++ leBytes 4 (d.f DEV_DSC.COUNT) ++
        leBytes 4 (d.f SCR_ECC.BYTE_CE + d.f SCR_ECC.TABLE_CE) ++ leBytes 4 d.corrected))) ∧
    (d.serves h 0x4201 = true → Runs (.getAlertConfiguration h) d
      (ok 0x4201 (leBytes 1 d.alertCfg.1 ++ leBytes 1 3 ++ openBytes 5 1 ++ leBytes 1 d.alertCfg.2.1 ++ openBytes 6 4 ++ leBytes 2 d.alertCfg.2.2 ++
        openBytes 7 6))) ∧
    (d.serves h 0x4203 = true → Runs (.getShutdownState h) d (ok 0x4203 (memRead d.lbk shutdownAddr 1)))) ∧
  (
  ∀ (h : Nat) (d : Dev), h < 2 →
    let ok (op : Nat) (b : List (BitVec 8)) : Dev := d.touch.reply h op rcSuccess b
    (∀ log, log < 4 → d.serves h 0x0100 = true →
      let l := (d.head h).logs.getD log {}
      Runs (.getEventRecords h log) d
        (ok 0x0100 (leBytes 1 (b2n (decide (0 < l.overflow)) + 2 * b2n (decide (31 < l.recs.length))) ++ leBytes 1 0 ++ leBytes 2 l.overflow ++
          leBytes 8 l.firstOv ++ leBytes 8 l.lastOv ++ leBytes 2 (l.recs.take 31).length ++ List.replicate 10 0 ++
          (l.recs.take 31).flatMap (CxlRec.bytes log)))) ∧
    (∀ off len, (Instr.getLog h off len).wf = true → d.serves h 0x0401 = true →
      (off + len ≤ 4 * supportedOps.length → len ≤ 4096 → Runs (.getLog h off len) d (ok 0x0401 ((effectsLog.drop off).take len))) ∧
      (4 * supportedOps.length < off + len ∨ 4096 < len → Runs (.getLog h off len) d (d.touch.reply h 0x0401 rcInvalidInput []))) ∧
    (∀ off len, (Instr.getLsa h off len).wf = true → d.serves h 0x4102 = true →
      (off + len ≤ 131072 → len ≤ 4096 → Runs (.getLsa h off len) d (ok 0x4102 (memRead d.lbk (1024 * 256 + off) len))) ∧
      (131072 < off + len ∨ 4096 < len → Runs (.getLsa h off len) d (d.touch.reply h 0x4102 rcInvalidInput []))) ∧
    (∀ start len, (Instr.getPoisonList h start len).wf = true → d.serves h 0x4300 = true →
      let rs := d.poisonRuns (start / 64) len
      Runs (.getPoisonList h start len) d
        (ok 0x4300 (leBytes 1 (b2n (decide (254 < rs.length))) ++ leBytes 1 0 ++ leBytes 8 0 ++ leBytes 2 (rs.take 254).length ++ List.replicate 20 0 ++
          (rs.take 254).flatMap (fun r => leBytes 8 (64 * r.1 + poisonCode r.2.2) ++ leBytes 4 r.2.1 ++ leBytes 4 0)))))

/-- The commands of Table 9.4 that change what a head or the device holds, wherever the mailbox serves them, and what each refuses. A
Logbook write of these commands completes, with Success, while the supply allows it (R620). Clear Poison is a full-line write to its line,
answered by that write (R312); while it must wait for a held write of the line's home it is held like any write. R292: Set Partition Info,
the media scans and the persistent-memory security commands answer Unsupported and change nothing else. Return codes are PRESUMED (log entry
13); the slots of Transfer FW and what injected poison supersedes are the model's reading (log entries 60 and 63). -/
def Obligations.MailboxSets : Prop :=
  (
  ∀ (h : Nat) (d : Dev), h < 2 →
    let ok (op : Nat) (d' : Dev) : Dev := d'.reply h op rcSuccess []
    let no (op rc : Nat) : Dev := d.touch.reply h op rc []
    let stored (op : Nat) (w : Bool × Dev) : Dev := w.2.reply h op (if w.1 then rcSuccess else rcInternal) []
    (∀ log handles, log < 4 → d.serves h 0x0101 = true →
      let l := (d.head h).logs.getD log {}
      let put (l' : CxlLog) : Dev := d.touch.modHead h (fun x => { x with logs := listSet x.logs log l' })
      ((Instr.clearEventRecords h log true handles).wf = true →
        Runs (.clearEventRecords h log true handles) d (ok 0x0101 (put { l with recs := [], overflow := 0, firstOv := 0, lastOv := 0 }))) ∧
      ((Instr.clearEventRecords h log false handles).wf = true →
        (handles.all (fun k => l.recs.any (fun r => r.1 = k)) = true → Runs (.clearEventRecords h log false handles) d
          (ok 0x0101 (put { l with recs := l.recs.filter (fun r => !handles.contains r.1), overflow := 0, firstOv := 0, lastOv := 0 }))) ∧
        (handles.all (fun k => l.recs.any (fun r => r.1 = k)) = false →
          Runs (.clearEventRecords h log false handles) d (no 0x0101 rcInvalidHandle)))) ∧
    (∀ policy : List Nat, (Instr.setEventInterruptPolicy h policy).wf = true → d.serves h 0x0103 = true →
      (policy.any (fun m => decide (2 ≤ m)) = false →
        Runs (.setEventInterruptPolicy h policy) d (ok 0x0103 (d.touch.modHead h (fun x => { x with policy := policy })))) ∧
      (policy.any (fun m => decide (2 ≤ m)) = true → Runs (.setEventInterruptPolicy h policy) d (no 0x0103 rcInvalidInput))) ∧
    (∀ slot off data, (Instr.transferFw h slot off data).wf = true → d.serves h 0x0201 = true →
      (slot ≠ 2 → Runs (.transferFw h slot off data) d (no 0x0201 rcInvalidSlot)) ∧
      (slot = 2 → 262144 < off + data.length → Runs (.transferFw h slot off data) d (no 0x0201 rcInvalidInput)) ∧
      (slot = 2 → off + data.length ≤ 262144 →
        Runs (.transferFw h slot off data) d (stored 0x0201 (d.touch.lbkWrite (2720 * 256 + off) data)))) ∧
    (∀ action slot, (Instr.activateFw h action slot).wf = true → d.serves h 0x0202 = true →
      (slot = 2 → action = 1 → Runs (.activateFw h action slot) d (ok 0x0202 { d.touch with patchNext := true })) ∧
      (slot ≠ 2 → Runs (.activateFw h action slot) d (no 0x0202 rcInvalidSlot)) ∧
      (slot = 2 → action ≠ 1 → Runs (.activateFw h action slot) d (no 0x0202 rcInvalidInput))) ∧
    (∀ ns, (Instr.setTimestamp h ns).wf = true → d.serves h 0x0301 = true →
      Runs (.setTimestamp h ns) d (ok 0x0301 { d.touch with stamp := some (ns, d.time) })) ∧
    (∀ off data, (Instr.setLsa h off data).wf = true → d.serves h 0x4103 = true →
      (off + data.length ≤ 131072 → Runs (.setLsa h off data) d (stored 0x4103 (d.touch.lbkWrite (1024 * 256 + off) data))) ∧
      (131072 < off + data.length → Runs (.setLsa h off data) d (no 0x4103 rcInvalidInput))) ∧
    (∀ valid enable life temp, (Instr.setAlertConfiguration h valid enable life temp).wf = true → d.serves h 0x4202 = true →
      (valid < 4 → enable < 4 →
        Runs (.setAlertConfiguration h valid enable life temp) d
          (ok 0x4202 { d.touch with alertCfg :=
            ((d.alertCfg.1 - (d.alertCfg.1 &&& valid)) ||| (enable &&& valid), if valid.testBit 0 then life else d.alertCfg.2.1,
              if valid.testBit 1 then temp else d.alertCfg.2.2) })) ∧
      (4 ≤ valid ∨ 4 ≤ enable → Runs (.setAlertConfiguration h valid enable life temp) d (no 0x4202 rcInvalidInput))) ∧
    (∀ v, (Instr.setShutdownState h v).wf = true → d.serves h 0x4204 = true →
      Runs (.setShutdownState h v) d (stored 0x4204 (d.touch.lbkWrite shutdownAddr (leBytes 1 v)))) ∧
    (∀ dpa, (Instr.injectPoison h dpa).wf = true → d.serves h 0x4301 = true →
      (d.region dpa = .window → d.mSurvey = true → d.seals.any (fun x => x.meets (dpa / 64 * 64) 64) = false →
        (d.injected < 64 → Runs (.injectPoison h dpa) d (ok 0x4301 ((d.touch.markPoison (dpa / 64) 1).supersede (dpa / 64)))) ∧
        (64 ≤ d.injected → Runs (.injectPoison h dpa) d (no 0x4301 rcInjectLimit))) ∧
      (d.region dpa = .window → (d.mSurvey = false ∨ d.seals.any (fun x => x.meets (dpa / 64 * 64) 64) = true) →
        Runs (.injectPoison h dpa) d (no 0x4301 rcInvalidInput)) ∧
      (d.region dpa ≠ .window → Runs (.injectPoison h dpa) d (no 0x4301 rcInvalidAddr))) ∧
    (∀ dpa data, (Instr.clearPoison h dpa data).wf = true → d.serves h 0x4302 = true →
      (d.region dpa = .window → Runs (.clearPoison h dpa data) d
        (d.touch.memWrite (4 + h) 0x4302 (dpa / 64 * 64) data fullMask false false ⟨[], false, false, false⟩ (entryCheck (dpa / 64) data fullMask))) ∧
      (d.region dpa ≠ .window → Runs (.clearPoison h dpa data) d (d.reply h 0x4302 rcInvalidAddr [])))) ∧
  (
  ∀ (h : Nat) (d : Dev), h < 2 →
    (∀ inp, (Instr.setPartitionInfo h inp).wf = true → d.serves h 0x4101 = true →
      Runs (.setPartitionInfo h inp) d (d.touch.reply h 0x4101 rcUnsupported [])) ∧
    (∀ op, (Instr.scanMedia h op).wf = true → d.serves h op = true → Runs (.scanMedia h op) d (d.touch.reply h op rcUnsupported [])) ∧
    (∀ op, (Instr.persistentMemorySecurity h op).wf = true → d.serves h op = true →
      Runs (.persistentMemorySecurity h op) d (d.touch.reply h op rcUnsupported [])))

/-- The vendor commands of Table 9.5 that answer at once, wherever the mailbox serves them: with an input of another length, Invalid
Payload Length; with a field out of the table's range, Invalid Input; else what the table gives (R325, R326). Read Seal Record gives a
record that is on media, else Invalid Input. R621: the registry page is written while it is unlocked and refused once it is locked; the lock
programs the fuse, with the confirmation LOCK only; a reset of one head's port or of the device is answered before it begins; a Chart chunk
is written to a slot that is not in force (R479). Return codes are PRESUMED (log entry 13). -/
def Obligations.VendorCommands : Prop :=
  (
  ∀ (h : Nat) (d : Dev), h < 2 →
    let ok (op : Nat) (b : List (BitVec 8)) : Dev := d.touch.reply h op rcSuccess b
    let no (op rc : Nat) : Dev := d.touch.reply h op rc []
    (d.serves h 0xC000 = true → Runs (.getDeviceIdentity h []) d
      (ok 0xC000 (padTo 64 (leBytes 2 0x5016 ++ leBytes 1 2 ++ leBytes 1 h ++ leBytes 8 Config.serial.toNat ++ leBytes 4 (d.f ORD_ALMANAC.VERSION) ++
        leBytes 4 (if d.patchOn then Config.patchVersion.toNat else 0) ++ leBytes 4 (d.f ORD_CHART.SEQ) ++
        leBytes 4 (match d.chart.slot with | some c => d.slotCrc c | none => 0) ++ leBytes 4 d.cycle ++ leBytes 5 d.opSec)))) ∧
    (d.serves h 0xC001 = true → Runs (.getMode h []) d (ok 0xC001 (leBytes 2 (d.reg 0x100 % 4096) ++ leBytes 2 (d.reg 0x104 % 4096)))) ∧
    (d.serves h 0xC010 = true → Runs (.getChartSlots h []) d (ok 0xC010 (d.slotInfo 0 ++ d.slotInfo 1))) ∧
    (d.serves h 0xC021 = true → Runs (.getOrderResult h []) d (ok 0xC021 (padTo 64 (d.head h).lastOrder))) ∧
    (d.serves h 0xC050 = true → Runs (.getCapacity h []) d
      (ok 0xC050 (leBytes 8 (d.reg 0x4008) ++ leBytes 8 (d.reg 0x4010) ++ leBytes 8 (d.reg 0x3000) ++ leBytes 2 (d.livePts.foldl (fun m n => m + 2 ^ n) 0)))) ∧
    (∀ inp, inp.length = 8 → d.serves h 0xC034 = true →
      (∀ b, assocGet (fieldLe inp 0 8) d.chain = some b → Runs (.readSealRecord h inp) d (ok 0xC034 b)) ∧
      (assocGet (fieldLe inp 0 8) d.chain = none → fieldLe inp 0 8 ≠ 0 → Runs (.readSealRecord h inp) d (no 0xC034 rcInvalidInput))) ∧
    (∀ inp, inp.length = 8 →
      let off := fieldLe inp 0 4
      let len := fieldLe inp 4 4
      let fits (n : Nat) : Prop := off % 256 = 0 ∧ len % 256 = 0 ∧ len ≤ 4096 ∧ off + len ≤ n
      (d.serves h 0xC041 = true → (fits 262144 → Runs (.readDeckLog h inp) d (ok 0xC041 (memRead d.lbk (deckArea + off) len))) ∧
        (¬ fits 262144 → Runs (.readDeckLog h inp) d (no 0xC041 rcInvalidInput))) ∧
      (d.serves h 0xC043 = true → (fits 32768 → Runs (.readPowerLog h inp) d (ok 0xC043 (memRead d.lbk (2560 * 256 + off) len))) ∧
        (¬ fits 32768 → Runs (.readPowerLog h inp) d (no 0xC043 rcInvalidInput)))) ∧
    (∀ inp, inp.length = 2 → d.serves h 0xC044 = true →
      let p := fieldLe inp 0 2
      (p < 4096 → ¬ (2688 ≤ p ∧ p < 2704) → Runs (.readLogbookPage h inp) d (ok 0xC044 (d.logbookPage p))) ∧
      (4096 ≤ p ∨ (2688 ≤ p ∧ p < 2704) → Runs (.readLogbookPage h inp) d (no 0xC044 rcInvalidInput))) ∧
    (∀ inp : List (BitVec 8), inp.length ≤ 4096 →
      ∀ c op n, (c, op, n) ∈ [(Instr.getDeviceIdentity h inp, 0xC000, 0), (.getMode h inp, 0xC001, 0), (.getChartSlots h inp, 0xC010, 0),
          (.getOrderResult h inp, 0xC021, 0), (.readSealRecord h inp, 0xC034, 8), (.readDeckLog h inp, 0xC041, 8), (.readPowerLog h inp, 0xC043, 8),
          (.readLogbookPage h inp, 0xC044, 2), (.writeRegistryPage h inp, 0xC045, 256), (.lockRegistryPage h inp, 0xC046, 4),
          (.getCapacity h inp, 0xC050, 0), (.reset h inp, 0xC060, 1)] →
        (d.serves h op = true → inp.length ≠ n → Runs c d (no op rcLength)) ∧
        (∀ rc, d.mboxOn h = true → d.mboxGate op = some rc → Runs c d (d.reply h op rc [])) ∧ (d.mboxOn h = false → Runs c d d))) ∧
  (
  ∀ (h : Nat) (inp : List (BitVec 8)) (d : Dev), h < 2 →
    (inp.length = 256 → d.serves h 0xC045 = true →
      (d.fuse = false → Runs (.writeRegistryPage h inp) d
        ((d.touch.lbkWrite (4095 * 256) inp).2.reply h 0xC045 (if (d.touch.lbkWrite (4095 * 256) inp).1 then rcSuccess else rcInternal) [])) ∧
      (d.fuse = true → Runs (.writeRegistryPage h inp) d (d.touch.reply h 0xC045 rcInvalidInput []))) ∧
    (inp.length = 4 → d.serves h 0xC046 = true →
      (fieldLe inp 0 4 = 0x4B434F4C → d.fuse = false →
        Runs (.lockRegistryPage h inp) d ((({ d.touch.setF LBK_STAT.REG_LOCKED 1 with fuse := true } : Dev).post0 0x114).reply h 0xC046 rcSuccess [])) ∧
      (fieldLe inp 0 4 = 0x4B434F4C → d.fuse = true → Runs (.lockRegistryPage h inp) d (d.touch.reply h 0xC046 rcSuccess [])) ∧
      (fieldLe inp 0 4 ≠ 0x4B434F4C → Runs (.lockRegistryPage h inp) d (d.touch.reply h 0xC046 rcInvalidInput []))) ∧
    (inp.length = 1 → d.serves h 0xC060 = true →
      (fieldLe inp 0 1 = 0 → Runs (.reset h inp) d ((d.touch.reply h 0xC060 rcSuccess []).portReset h 0 false)) ∧
      (fieldLe inp 0 1 = 1 → Runs (.reset h inp) d ((d.touch.reply h 0xC060 rcSuccess []).resetAccept (5 + h))) ∧
      (2 ≤ fieldLe inp 0 1 → Runs (.reset h inp) d (d.touch.reply h 0xC060 rcInvalidInput []))) ∧
    (d.serves h 0xC011 = true → inp.length ≤ 4096 →
      let n := inp.length - 8
      let fits : Prop := fieldLe inp 0 1 ≤ 1 ∧ fieldLe inp 1 3 = 0 ∧ fieldLe inp 4 4 % 256 = 0 ∧ fieldLe inp 4 4 + n ≤ slotSize ∧
        d.chart.slot ≠ some (fieldLe inp 0 1)
      let w := d.touch.lbkWrite (slotSize * fieldLe inp 0 1 + fieldLe inp 4 4) (inp.drop 8)
      (264 ≤ inp.length → n ≤ 3840 → n % 256 = 0 → fits →
        Runs (.writeChartChunk h inp) d
          (if w.1 then ({ w.2 with chart := { w.2.chart with written := listSet w.2.chart.written (fieldLe inp 0 1) true } } : Dev).reply h 0xC011 rcSuccess []
           else w.2.reply h 0xC011 rcInternal [])) ∧
      (264 ≤ inp.length → n ≤ 3840 → n % 256 = 0 → ¬ fits → Runs (.writeChartChunk h inp) d (d.touch.reply h 0xC011 rcInvalidInput [])) ∧
      (inp.length < 264 ∨ 3840 < n ∨ n % 256 ≠ 0 → Runs (.writeChartChunk h inp) d (d.touch.reply h 0xC011 rcLength []))))

/-- R327: Run Order takes its 64 B entry as a background command, and the order it makes is admitted; another length, or a background
command that runs, turns it away. R323, R324: Sanitize and Secure Erase start as background commands (Secure Erase not while a seal stands,
neither while a background command of the head runs), draw all 16 range keys as their first step, empty the queues as their second, clear
the media as their third, take down the seals as their fourth once the seal chain can take a record, and end with their fifth; an operation
that a cut or reset interrupted before step 5 starts again at step 1. Return codes are PRESUMED (log entry 13). -/
def Obligations.MailboxBackground : Prop :=
  ∀ (h : Nat) (d : Dev), h < 2 →
    (∀ inp : List (BitVec 8), inp.length ≤ 4096 → d.serves h 0xC020 = true →
      (inp.length = 64 → (d.head h).bg = none →
        let n := d.touch.newOrder (4 + h) 0 inp
        Runs (.runOrder h inp) d
          (((n.2.modHead h (fun y => { y with bg := some (0xC020, n.1.id) })).reply h 0xC020 rcBackground []).letIn n.1)) ∧
      (inp.length ≠ 64 → Runs (.runOrder h inp) d (d.reply h 0xC020 rcLength [])) ∧
      (inp.length = 64 → (d.head h).bg ≠ none → Runs (.runOrder h inp) d (d.reply h 0xC020 rcBusy []))) ∧
    (∀ (rngOk sec : Bool) (fails : List (Nat × Nat)),
      let op := if sec then 0x4401 else 0x4400
      let c (k : Nat) : Instr := if sec then .secureErase h k rngOk fails else .sanitize h k rngOk fails
      (c 0).wf = true →
      (d.serves h op = true → (d.head h).bg = none → (sec = true → d.seals.any (fun x => decide (x.num < 2 ^ 64)) = false) →
        Runs (c 0) d
          ((({ d.touch with sanitize := some (h, 0, sec) } : Dev).modHead h (fun y => { y with bg := some (op, 0) })).reply h op rcBackground [])) ∧
      (d.serves h op = true → (d.head h).bg ≠ none → Runs (c 0) d (d.reply h op rcBusy [])) ∧
      (sec = true → d.serves h op = true → (d.head h).bg = none → d.seals.any (fun x => decide (x.num < 2 ^ 64)) = true →
        Runs (c 0) d (d.reply h op rcSecurity [])) ∧
      (d.phase = .active →
        (d.sanitize = some (h, 0, sec) → rngOk = true →
          Runs (c 1) d { (List.range 16).foldl (fun e i => e.drawKey (i / 2) (i % 2)) d with sanitize := some (h, 1, sec) }) ∧
        (d.sanitize = some (h, 0, sec) → rngOk = false →
          Runs (c 1) d (({ d.post0 0x089 with sanitize := none } : Dev).bgEnd h op rcInternal).releaseHold) ∧
        (d.sanitize = some (h, 1, sec) → Runs (c 2) d { d.sanitizeQueues with sanitize := some (h, 2, sec) }) ∧
        (d.noClear = false →
          (d.sanitize = some (h, 2, sec) → Runs (c 3) d { d.sanitizeMedia fails with sanitize := some (h, 3, sec) }) ∧
          (d.sanitize = some (h, 3, sec) → d.chainReady = true → Runs (c 4) d { d.sanitizeSeals with sanitize := some (h, 4, sec) }) ∧
          (d.sanitize = some (h, 4, sec) → Runs (c 5) d (d.sanitizeEnd.bgEnd h op rcSuccess).releaseHold)))) ∧
    (∀ sec, d.sanitize = some (h, 6, sec) → d.phase = .active → Runs .sanitizeRestart d { d with sanitize := some (h, 0, sec) })

/-! ### Orders (chapter 12) -/

/-- R459 to R467: a TAIL write that does not step back moves TAIL; a HEAD write within what was written moves HEAD, and ends a stall for which
it makes room; the entry at HEAD of a ring with room is dispatched, and HEAD advances; without room in the completion ring it stalls; an
order that has ended is answered in the completion ring of its source, whose TAIL advances. R462, R465: at dispatch an order of a running
device takes the next CSN; what ends it is its code and two data words, and nothing else about it changes. -/
def Obligations.OrderRings : Prop :=
  (
  ∀ (by_ r v : Nat) (d : Dev), r < 3 → (Instr.sqTailWrite by_ r v).wf = true → d.helmOn by_ = true → d.mayWrite by_ = true →
    let w := if by_ < 2 then d.touch else d
    ((v % 16 + 16 - d.f (ORD_SQ.HEAD r)) % 16 ≥ (d.f (ORD_SQ.TAIL r) + 16 - d.f (ORD_SQ.HEAD r)) % 16 →
      Runs (.sqTailWrite by_ r v) d (w.setF (ORD_SQ.TAIL r) (v % 16))) ∧
    ((d.f (ORD_CQ.TAIL r) + 16 - d.f (ORD_CQ.HEAD r)) % 16 ≥ (v % 16 + 16 - d.f (ORD_CQ.HEAD r)) % 16 →
      let e := w.setF (ORD_CQ.HEAD r) (v % 16)
      Runs (.cqHeadWrite by_ r v) d (if e.cqFree r then e.setF (ORD_STAT.STALL r) 0 else e)) ∧
    ((d.f (ORD_CQ.TAIL r) + 16 - d.f (ORD_CQ.HEAD r)) % 16 < (v % 16 + 16 - d.f (ORD_CQ.HEAD r)) % 16 →
      ∃ detail, Runs (.cqHeadWrite by_ r v) d ((w.setF (ORD_STAT.BAD_HEAD r) 1).post { code := 0x0C8, detail := detail })) ∧
    (d.takesOrders = true → d.f (ORD_SQ.HEAD r) ≠ d.f (ORD_SQ.TAIL r) → (d.runOf r).length < 4 → d.ord.ringReset.contains r = false →
      let e := padTo 64 (d.ord.sq.getD (16 * r + d.f (ORD_SQ.HEAD r)) [])
      d.fenced r e = false →
      (d.cqFree r = true → Runs (.orderDispatch r) d
        (((d.setF (ORD_STAT.STALL r) 0).setF (ORD_SQ.HEAD r) (d.f (ORD_SQ.HEAD r) + 1)).take r (d.f (ORD_SQ.HEAD r)) e)) ∧
      (d.cqFree r = false → Runs (.orderDispatch r) d (d.setF (ORD_STAT.STALL r) 1))) ∧
    (∀ (id : Nat) (o : Order) (x : Nat × Nat × Nat), regsWf d.regs = true → d.order id = some o → o.done = some x → o.src = r → d.ord.ringReset.contains r = false →
      RunsTo (.orderCompletion id) d (fun t =>
        t.ord.cq = listSet d.ord.cq (16 * r + d.f (ORD_CQ.TAIL r)) (o.completion (d.f (ORD_CQ.PHASE r))) ∧
        t.f (ORD_CQ.TAIL r) = (d.f (ORD_CQ.TAIL r) + 1) % 16 ∧ t.order id = none ∧ t.sectors = d.sectors))) ∧
  (
  ∀ (d : Dev) (id code d0 d1 : Nat) (o : Order), d.order id = some o →
    (d.endOrder id code d0 d1).order id = some { o with done := some (code, d0, d1) } ∧
    (∀ src idx entry, d.seqOn = true → (d.newOrder src idx entry).1.csn = d.nextCsn ∧ (d.newOrder src idx entry).2.nextCsn = d.nextCsn + 1))

/-- The orders that act at once, each on an order of its program that is ready: CHECKPOINT (R232), MODE_CHANGE (R496), TRIGGER (R389),
STREAM_RESET (R385), FIX (R602), DECK_CLEAR (R613), UNSEAL of a seal that does not stand (R470), CHART_CHECK (R477), which starts a Becalmed
device on a valid slot; and where their arguments name no stream or slot, code 2. The mailbox forms of Table 9.5: turned away by the gate,
by a wrong length, or by a background command that runs (R325 to R327); else taken as an order. -/
def Obligations.OrdersAtOnce : Prop :=
  (
  ∀ (id : Nat) (x : Order) (d : Dev),
    (d.orderReady id 0x11 x → Runs (.checkpoint (.run id)) d d.startCkpt) ∧
    (d.orderReady id 0x10 x → Runs (.modeChange (.run id)) d (d.modeChange x)) ∧
    (d.orderReady id prgTrigger x →
      (x.arg 0 < 4096 → d.f (STR_CTL.EN (x.arg 0)) ≠ 0 →
        Runs (.trigger (.run id)) d ((d.trigger (x.arg 0) (x.arg 1) false).2.endOrder x.id 0 (d.trigger (x.arg 0) (x.arg 1) false).1 0)) ∧
      (4096 ≤ x.arg 0 ∨ d.f (STR_CTL.EN (x.arg 0)) = 0 → Runs (.trigger (.run id)) d (d.endOrder x.id 2 0 0))) ∧
    (d.orderReady id prgStreamReset x →
      (x.arg 0 < 4096 → (d.stm (x.arg 0)).valid = true →
        Runs (.streamReset (.run id)) d ((d.queueReset (x.arg 0)).endOrder x.id 0 ((d.queueReset (x.arg 0)).stm (x.arg 0)).resets 0)) ∧
      (4096 ≤ x.arg 0 ∨ (d.stm (x.arg 0)).valid = false → Runs (.streamReset (.run id)) d (d.endOrder x.id 2 0 0))) ∧
    (d.orderReady id prgFix x → Runs (.fix (.run id)) d ((d.fix 2).endOrder x.id 0 ((d.fix 2).f FIX_NUM.NUMBER) 0)) ∧
    (d.orderReady id prgDeckClear x →
      Runs (.deckClear (.run id)) d
        ((((d.setF DECK_STAT.PTR 0).lbkSetCounter 160 2 0).setF DECK_STAT.FULL 0).setF DECK_STAT.DROPPED 0 |>.endOrder x.id 0 0 0)) ∧
    (d.orderReady id prgUnseal x → d.sealOf x = none → Runs (.unseal (.run id)) d (d.endOrder x.id 2 0 0)) ∧
    (d.orderReady id prgChartCheck x →
      (x.arg 0 < 2 → d.phase ≠ .becalmed ∨ d.slotState (x.arg 0) ≠ 1 →
        Runs (.chartCheck (.run id)) d (d.endOrder x.id 0 (d.slotState (x.arg 0)) 0)) ∧
      (x.arg 0 < 2 → d.phase = .becalmed → d.slotState (x.arg 0) = 1 →
        Runs (.chartCheck (.run id)) d ((d.endOrder x.id 0 1 0).endBecalmed (x.arg 0) 1)) ∧
      (2 ≤ x.arg 0 → Runs (.chartCheck (.run id)) d (d.endOrder x.id 2 0 0)))) ∧
  (
  ∀ (h : Nat) (inp : List (BitVec 8)) (rngOk : Bool) (d : Dev), h < 2 → inp.length ≤ 4096 →
    let o : OrdReq := .mbox h inp
    (∀ c op n, (c, op, n) ∈ [(Instr.checkpoint o, 0xC036, 0), (.modeChange o, 0xC002, 4), (.discard o, 0xC030, 16), (.secureDiscard o 1, 0xC031, 16),
        (.unseal o, 0xC033, 8), (.rekey o 1 rngOk, 0xC035, 1), (.deckClear o, 0xC042, 0), (.fix o, 0xC040, 0), (.chartCheck o, 0xC012, 1)] →
      (d.mboxOn h = false → Runs c d d) ∧ (∀ rc, d.mboxOn h = true → d.mboxGate op = some rc → Runs c d (d.reply h op rc [])) ∧
      (d.serves h op = true → inp.length ≠ n → Runs c d (d.reply h op rcLength []))) ∧
    (∀ c op prog n eff, (c, op, prog, n, eff) ∈ ([(Instr.checkpoint o, 0xC036, prgCheckpoint, 0, fun e _ => e.startCkpt),
        (.discard o, 0xC030, prgDiscard, 2, Dev.discardOrder), (.secureDiscard o 1, 0xC031, prgSdisc, 2, Dev.sdiscOrder),
        (.unseal o, 0xC033, prgUnseal, 1, Dev.unsealOrder), (.deckClear o, 0xC042, prgDeckClear, 0, Dev.deckClearOrder)] :
          List (Instr × Nat × Nat × Nat × (Dev → Order → Dev))) →
      d.serves h op = true → inp.length = 8 * n →
      ((d.head h).bg ≠ none → Runs c d (d.reply h op rcBusy [])) ∧
      ((d.head h).bg = none → Runs c d (d.asked h op prog ((List.range n).map (fun i => fieldLe inp (8 * i) 8)) eff))))

/-- The orders on a range or a seal, each on an order of its program that is ready: DISCARD (R208, R209), which waits while a seal of its
range is being made or its record has no place; the start and the resumption of SECURE_DISCARD (R210 to R213), SEAL_RANGE (R286), UNSEAL
(R288), SEAL_VERIFY (R470) and SEAL_EXPORT (R471). A command whose reads must wait for the retrain of a die's link comes again once they can
be made (R676). The completion codes of a seal that is refused, and how a standing seal's end is announced, are the model's choices (log
entries 58 and 64). -/
def Obligations.RangeOrders : Prop :=
  ∀ (id : Nat) (x : Order) (ev : RdEnv) (d : Dev),
    (d.orderReady id prgDiscard x → d.rangeBad (x.arg 0) (x.arg 1) = none →
      (d.rangeWaits (x.arg 0) (x.arg 1) = true → Runs (.discard (.run id)) d d) ∧
      (d.rangeWaits (x.arg 0) (x.arg 1) = false →
        (∀ e, d.discardRange (x.arg 0) (x.arg 1) x.csn 0 = some e → Runs (.discard (.run id)) d (e.endOrder x.id 0 0 0)) ∧
        (d.discardRange (x.arg 0) (x.arg 1) x.csn 0 = none → Runs (.discard (.run id)) d d))) ∧
    (∀ c v, d.rangeBad (x.arg 0) (x.arg 1) = some (c, v) →
      (d.orderReady id prgDiscard x → Runs (.discard (.run id)) d (d.endOrder x.id c v 0)) ∧
      (d.orderReady id prgSdisc x → Runs (.secureDiscard (.run id) 1) d (d.endOrder x.id c v 0))) ∧
    (d.orderReady id prgSdisc x → d.rangeBad (x.arg 0) (x.arg 1) = none → d.rangeWaits (x.arg 0) (x.arg 1) = false →
      d.sdisc.any (·.order = x.id) = false →
      Runs (.secureDiscard (.run id) 1) d ({ d with sdisc := d.sdisc ++ [⟨x.id, x.arg 0, x.arg 1, x.csn, 0, []⟩] } : Dev).sdiscBegin) ∧
    (∀ y rest, d.sdisc = y :: rest → d.phase = .active → y.order = 0 → 0 < y.step → d.f WLV_SDISC.BUSY = 0 →
      Runs .secureDiscardResume d
        (((d.modSdisc (fun z => { z with step := 1, cands := [] })).setF WLV_SDISC.BUSY 1).setF WLV_SDISC.RESUMED 1)) ∧
    (d.orderReady id prgSeal x →
      ((d.sealRange x ev).blocked = none → Runs (.sealRange (.run id) ev) d (d.sealRange x ev)) ∧
      ((d.sealRange x ev).blocked ≠ none → Runs (.sealRange (.run id) ev) d d)) ∧
    (d.orderReady id prgUnseal x → ∀ sl, d.sealOf x = some sl → d.chainReady = true →
      Runs (.unseal (.run id)) d
        (((d.endSeal sl).chainAppend 2 sl.target x.csn sl.stream sl.start sl.len
          (match assocGet sl.num d.chain with | some b => sha256 b | none => [])).sealGoneEvent.endOrder x.id 0 0 0)) ∧
    (d.orderReady id prgVerify x → ∀ sl r d', d.sealOf x = some sl → d.sealBytes sl ev = (r, d') →
      (d'.blocked ≠ none → Runs (.sealVerify (.run id) ev) d d) ∧
      (d'.blocked = none →
        (∀ bs, r = .ok bs → Runs (.sealVerify (.run id) ev) d
          ((d'.hashedBytes bs.length).endOrder x.id 0 (b2n (ofLe (extentDigest bs) != sl.digest)) (ofLe (extentDigest bs) % 2 ^ 64))) ∧
        (∀ a, r = .error a → Runs (.sealVerify (.run id) ev) d (d'.endOrder x.id 7 a 0)))) ∧
    (d.orderReady id prgExport x → ∀ sl, d.sealOf x = some sl → x.arg 1 % 4096 = 0 → x.arg 1 + sl.len ≤ d.winBytes →
      (∀ y, d.seals.find? (fun y => y.meets (x.arg 1) sl.len) = some y → y.num < 2 ^ 64 →
        Runs (.sealExport (.run id) ev) d (if d.blocked = none then d.endOrder x.id 5 y.num 0 else d)) ∧
      (d.seals.find? (fun y => y.meets (x.arg 1) sl.len) = none → ∀ r d', d.sealBytes sl ev = (r, d') →
        (∀ a, r = .error a → d'.blocked = none → Runs (.sealExport (.run id) ev) d (d'.endOrder x.id 7 a 0)) ∧
        (∀ bs, r = .ok bs →
          let piece (i : Nat) : List (BitVec 8) := (bs.drop (64 * i)).take 64
          let e := (List.range ((sl.len + 63) / 64)).foldl (fun d i => d.orderWrite x.csn (x.arg 1 / 64 + i) (lineOfBytes (padTo 64 (piece i)))
            (BitVec.ofNat 64 (2 ^ (piece i).length - 1)) ev) d'
          (e.blocked = none → Runs (.sealExport (.run id) ev) d (e.endOrder x.id 0 sl.len 0)) ∧
          (e.blocked ≠ none → Runs (.sealExport (.run id) ev) d d))))

/-- REKEY (R281, R282): a healthy start draws the key of the other generation of the slot and makes it current; the operation is resumed
after a cut; the key sweep finds and reports a key whose copies differ (R279), and the scrub counts the words it corrects (R270) and does with
each uncorrectable word what Table 8.5 says (R273). DECK_RUN and DECK_STOP (R471, R472) run the deck program, or stop it. The deck program's entry and the way DECK_STOP returns are the model's reading
(log entries 117 and 124). -/
def Obligations.KeysAndDeckOrders : Prop :=
  ∀ (id : Nat) (x : Order) (d : Dev),
    (regsWf d.regs = true → d.orderReady id prgRekey x → x.arg 0 < 8 → d.f (SCR_RANGE.EN (x.arg 0)) ≠ 0 → d.rekey = none →
      RunsTo (.rekey (.run id) 1 true) d (fun t =>
        t.rekey = some ⟨x.id, x.arg 0, 1, []⟩ ∧ t.keyCur = setBits d.keyCur (x.arg 0) 1 (1 - b2n (d.keyCur.testBit (x.arg 0))) ∧
        t.f SCR_KEYSTAT.REKEY_BUSY = 1 ∧ t.f SCR_KEYSTAT.REKEY_SLOT = x.arg 0 ∧ t.sectors = d.sectors)) ∧
    (∀ r, d.rekey = some r → d.phase = .active → r.order = 0 → d.f SCR_KEYSTAT.REKEY_BUSY = 0 →
      Runs .rekeyResume d
        (((({ d with rekey := some { r with step := 1, cands := [] } } : Dev).setF SCR_KEYSTAT.REKEY_BUSY 1).setF SCR_KEYSTAT.REKEY_RESUMED 1).setF
          SCR_KEYSTAT.REKEY_SLOT r.slot)) ∧
    (d.powered = true → d.badKeys ≠ [] → Runs (.keySweep false) d d.keyFail) ∧
    (d.powered = true → d.badKeys = [] → Runs (.keySweep false) d d) ∧
    (d.powered = true → let r := d.draw
      Runs (.keySweep true) d ({ r.2 with badKeys := setAdd (r.1.toNat % 16) r.2.badKeys } : Dev).keyRegs.keyFail) ∧
    (∀ ce ues, (Instr.scrubPass ce ues).wf = true → d.powered = true →
      Runs (.scrubPass ce ues) d (ues.foldl Dev.tableUe (d.cnt SCR_ECC.TABLE_CE ce))) ∧
    (d.orderReady id prgDeckRun x → d.deckOf x.id = false → Runs (.deckRun (.run id)) d (d.deckRun x)) ∧
    (d.orderReady id prgDeckStop x → 16 ≤ x.arg 0 → Runs (.deckStop (.run id)) d (d.endOrder x.id 2 0 0)) ∧
    (d.orderReady id prgDeckStop x → x.arg 0 < 16 → (d.eng (x.arg 0)).deck ≠ none → (d.eng (x.arg 0)).priv = 0 →
      Runs (.deckStop (.run id)) d ((d.endDeck (x.arg 0) 9 (d.eng (x.arg 0)).deckPc 0).endOrder x.id 0 0 0))

/-! ### The Helm space (chapter 09) -/

/-- R330, R332, R334: a write that is let in acts on the register it names, by its access codes; one to an unassigned word is ignored, and
one that R334 turns away changes nothing. A write of a 64-bit register in one piece acts on all its bits. R334: a write that is not let in
changes nothing, whichever register it names. -/
def Obligations.HelmWrites : Prop :=
  (
  ∀ (by_ : Nat) (v : Word) (d : Dev), by_ < 4 → d.helmOn by_ = true → d.mayWrite by_ = true →
    let w := if by_ < 2 then d.touch else d
    (∀ off, off < 65536 → off % 4 = 0 → sqPlace off = none → regRow? off = none → Runs (.helmSpaceWrite by_ off 32 v) d w) ∧
    (∀ off r, off < 65536 → off % 4 = 0 → sqPlace off = none → regRow? off = some r → r.width = 32 → r.at off = off →
      Runs (.helmSpaceWrite by_ off 32 v) d (w.regWrite by_ off 0xFFFFFFFF (v.toNat % 2 ^ 32))) ∧
    (∀ n, n < 16 → Runs (.pntArbWrite by_ n 2 v) d (w.regWrite by_ (0x3180 + 8 * n) (2 ^ 64 - 1) v.toNat)) ∧
    Runs (.pntRetireWrite by_ 2 v) d (w.regWrite by_ 0x3008 (2 ^ 64 - 1) v.toNat) ∧
    (∀ st, st < 4096 → Runs (.strCtlWrite by_ st 2 v) d (w.regWrite by_ (0x8000 + 8 * st) (2 ^ 64 - 1) v.toNat)) ∧
    (∀ i, i < 8 → Runs (.llnChWrite by_ i 2 v) d (w.regWrite by_ (0xA40 + 8 * i) (2 ^ 64 - 1) v.toNat)) ∧
    Runs (.pwrThrWrite by_ v) d (w.regWrite by_ 0x204 0xFFFFFFFF (v.toNat % 2 ^ 32)) ∧
    Runs (.talCfgWrite by_ v) d (w.regWrite by_ 0x2400 0xFFFFFFFF (v.toNat % 2 ^ 32)) ∧
    (∀ j, j < 44 → Runs (.talSelWrite by_ j v) d (w.regWrite by_ (0x2440 + 4 * j) 0xFFFFFFFF (v.toNat % 2 ^ 32))) ∧
    Runs (.safInjWrite by_ v) d (w.regWrite by_ 0xC20 0xFFFFFFFF (v.toNat % 2 ^ 32)) ∧
    Runs (.rstWdogKick by_ v) d (w.regWrite by_ 0x708 0xFFFFFFFF (v.toNat % 2 ^ 32))) ∧
  (
  ∀ (by_ off width : Nat) (v : Word) (d : Dev), by_ < 4 → off < 65536 → width ≤ 64 → (d.helmOn by_ = false ∨ d.mayWrite by_ = false) →
    Runs (.helmSpaceWrite by_ off width v) d d)

/-- The command registers: an off request (R523), a bank test (R515), a Fix (R602), the release of the pad hold (R564), a device reset by
I3C or an engine with its key (Table 15.7), a protect-window trigger (R389), a queue reset (R385), and the placement rotation, which only
engines write (R190). What a write to a command register does beyond its register. That only engines write WLV_PLACE, and that an injected
fault that the mechanism can detect where it stands acts at once, and any other is held for the command that shows it, are the model's
choices (log entries 72 and 100). -/
def Obligations.HelmCommands : Prop :=
  (
  ∀ (by_ : Nat) (d : Dev), by_ < 4 → d.helmOn by_ = true → d.mayWrite by_ = true →
    let w := if by_ < 2 then d.touch else d
    Runs (.pwrCtlOff by_) d (w.offRequest false) ∧
    Runs (.pwrCtlBanktest by_) d (({ w with pwr := { w.pwr with bankDue := true } } : Dev).setF PWR_CTL.BANKTEST 1) ∧
    (∀ v : Word, Runs (.fixCtlTrigger by_ v) d (w.regWrite by_ 0x1000 0xFFFFFFFF (Nat.lor v.toNat 1 % 2 ^ 32))) ∧
    (∀ v : Word, Runs (.padholdRelease by_ v) d (w.regWrite by_ 0x538 0xFFFFFFFF (Nat.lor v.toNat 2 % 2 ^ 32))) ∧
    (∀ key, key < 65536 → Runs (.rstCtlDevice by_ key) d (w.regWrite by_ 0x700 0xFFFFFFFF (key * 65536 + 1))) ∧
    (∀ st, st < 4096 → Runs (.strActTrigger by_ st) d (w.regWrite by_ 0x4658 0xFFFFFFFF (0x1000000 + st))) ∧
    (∀ st, st < 4096 → Runs (.strActQueueReset by_ st) d (w.regWrite by_ 0x4658 0xFFFFFFFF (0x2000000 + st))) ∧
    (∀ (h : Nat) (v : Word), h < 16 → 3 ≤ by_ →
      Runs (.wlvPlaceWrite by_ h 2 v) d
        (w.setReg (0x4080 + 8 * h) (w.reg (0x4080 + 8 * h) - Nat.land (w.reg (0x4080 + 8 * h)) (2 ^ 64 - 1) + Nat.land v.toNat (2 ^ 64 - 1)))) ∧
    (∀ (h : Nat) (v : Word), h < 16 → by_ < 3 → Runs (.wlvPlaceWrite by_ h 2 v) d w)) ∧
  (
  ∀ (by_ old new v : Nat) (d : Dev),
    (v % 2 = 1 → d.regAct by_ 0x1000 old new v = d.fix 3) ∧
    (v.testBit 1 = true → d.regAct by_ 0x538 old new v = d.padRelease) ∧
    (2 ≤ by_ → d.regAct by_ 0x700 old new (0xB0A7 * 65536 + 1) = d.resetAccept 7) ∧
    (∀ key, key < 65536 → key ≠ 0xB0A7 → d.regAct by_ 0x700 old new (key * 65536 + 1) = d) ∧
    (∀ s, s < 4096 → d.f (STR_CTL.EN s) ≠ 0 → d.regAct by_ 0x4658 old new (0x1000000 + s) = (d.trigger s (d.reg 0x4650) false).2) ∧
    (∀ s, s < 4096 → d.f (STR_CTL.EN s) ≠ 0 → d.regAct by_ 0x4658 old new (0x2000000 + s) = d.queueReset s) ∧
    (3 ≤ by_ → (d.regAct by_ 0x708 old new v).wch.wdogAt = d.time) ∧ (by_ < 3 → d.regAct by_ 0x708 old new v = d) ∧
    (d.mSurvey = true → d.injectAct (bits v 16 8) (bits v 0 16) = none →
      (d.regAct by_ 0xC20 old new v).saf.inj = d.saf.inj ++ [(bits v 16 8, bits v 0 16)]) ∧
    (∀ d', d.mSurvey = true → by_ < 3 → d.injectAct (bits v 16 8) (bits v 0 16) = some d' → d.regAct by_ 0xC20 old new v = d') ∧
    (d.mSurvey = false → d.regAct by_ 0xC20 old new v = d) ∧
    (d.regAct by_ 0x2400 old new v).deck.tallyFrom = d.time)

/-- R331 and R400: a 32-bit read is answered; the low half of a 64-bit register latches the high half for its requester, and the next read
of the high half by that requester gives what was latched; a read of STR_NOTE takes the oldest entry off the queue and clears OVF. -/
def Obligations.HelmReads : Prop :=
  ∀ (by_ : Nat) (d : Dev), by_ < 4 → d.mayRead by_ = true →
    let w := if by_ < 2 then d.touch else d
    (∀ off r, off < 65536 → off % 8 = 0 → ¬ (0x5800 ≤ off ∧ off < 0x7000) → off ≠ 0x4660 → off ≠ 0x4668 → regRow? off = some r → r.width = 64 →
      r.at off = off →
      Runs (.halfReadLatch by_ off) d
        (({ w with halves := (by_, off, w.regShow by_ off / 2 ^ 32) :: w.halves.filter (fun h => !(h.1 = by_ && h.2.1 = off)) } : Dev).send
          (.helm by_ (w.regShow by_ off % 2 ^ 32)))) ∧
    (∀ off r x, off < 65536 → off % 8 = 4 → ¬ (0x5800 ≤ off ∧ off < 0x7000) → off ≠ 0x4664 → off ≠ 0x466C → regRow? off = some r → r.width = 64 →
      r.at off = off - 4 → w.halves.find? (fun h => h.1 = by_ && h.2.1 = off - 4) = some x →
      Runs (.halfReadLatch by_ off) d
        (({ w with halves := w.halves.filter (fun h => !(h.1 = by_ && h.2.1 = off - 4)) } : Dev).send (.helm by_ x.2.2))) ∧
    (∀ p, p < 2 → Runs (.strNoteRead by_ p) d ((w.noteRead p).2.send (.helm by_ (w.noteRead p).1)))

/-! ### I3C (chapter 09) -/

/-- R338 to R341: the private frames, with a right CRC and in range, and the private read that takes the response. R337 and R345: the CCCs
of a target whose bus is served, the answers of the GET codes at its dynamic address (identity, lengths not yet set and status are values
the manual leaves open: Config, log entries 34 and 35), and a pending in-band interrupt that is offered again. R342: in Doze the dynamic
address is not acknowledged, and the return to Active begins. SETDASA and ENTDAA set an address only where none is set (PRESUMED, log entry
111). -/
def Obligations.I3cTarget : Prop :=
  (
  ∀ (frame : List (BitVec 8)) (d : Dev), frame.length ≤ 264 → d.i3cPrivate = true → frameOk frame = true →
    (fieldLe frame 0 1 = 1 → frame.length = 5 → i3cRange (fieldLe frame 1 2) (fieldLe frame 3 1) = true → d.helmOn 2 = true →
      let r := d.i3cWords (fieldLe frame 1 2) (fieldLe frame 3 1)
      Runs (.i3cRead frame) d (r.2.i3cAnswer i3cDone r.1)) ∧
    (fieldLe frame 0 1 = 2 → frame.length = 5 + 4 * fieldLe frame 3 1 → i3cRange (fieldLe frame 1 2) (fieldLe frame 3 1) = true →
      d.mayWrite 2 = true → d.helmOn 2 = true →
      Runs (.i3cWrite frame) d ((d.i3cWrote i3cDone).i3cPut (fieldLe frame 1 2) (wordsLe ((frame.drop 4).take (4 * fieldLe frame 3 1))))) ∧
    (fieldLe frame 0 1 = 2 → frame.length = 5 + 4 * fieldLe frame 3 1 → i3cRange (fieldLe frame 1 2) (fieldLe frame 3 1) = true →
      d.mayWrite 2 = false → Runs (.i3cWrite frame) d (d.i3cWrote i3cDenied)) ∧
    (fieldLe frame 0 1 = 3 → frame.length = 2 → Runs (.i3cStatus frame) d (d.i3cAnswer d.i3c.lastWrite [])) ∧
    (∀ b, d.i3c.resp = some b →
      Runs (.i3cResponse true) d (({ d with i3c := { d.i3c with resp := none } } : Dev).send (.i3c b)) ∧
      Runs (.i3cResponse false) d (d.send .i3cNack)) ∧
    (d.i3c.resp = none → ∀ ready, Runs (.i3cResponse ready) d (d.send (.i3c (i3cReply i3cNone []))))) ∧
  (
  ∀ d : Dev, d.i3cOn = true →
    (∀ a, a < 128 → d.i3c.addr = none →
      Runs (.entdaa a) d { d with i3c := { d.i3c with addr := some a } } ∧ Runs (.setdasa a) d { d with i3c := { d.i3c with addr := some a } }) ∧
    Runs .rstdaa d { d with i3c := { d.i3c with addr := none } } ∧
    (∀ b, b < 256 → b % 2 = 1 →
      Runs (.enec b) d { d with i3c := { d.i3c with ibiOn := true } } ∧ Runs (.disec b) d { d with i3c := { d.i3c with ibiOn := false } }) ∧
    (∀ n, n < 65536 → Runs (.setmrl n) d { d with i3c := { d.i3c with mrl := some n } } ∧ Runs (.setmwl n) d { d with i3c := { d.i3c with mwl := some n } }) ∧
    (∀ v, v < 256 → Runs (.rstact v) d { d with i3c := { d.i3c with rstact := v } }) ∧
    (d.i3c.addr ≠ none →
      Runs .getpid d (d.send (.i3c ((List.range 6).map Config.i3cId))) ∧ Runs .getbcr d (d.send (.i3c [Config.i3cId 6])) ∧
      Runs .getdcr d (d.send (.i3c [Config.i3cId 7])) ∧ Runs .getstatus d (d.draw.2.send (.i3c (ccc16 (d.draw.1.toNat % 65536)))) ∧
      Runs .getmrl d (d.send (.i3c (ccc16 (d.i3c.mrl.getD (Config.i3cMax 0).toNat)))) ∧
      Runs .getmwl d (d.send (.i3c (ccc16 (d.i3c.mwl.getD (Config.i3cMax 1).toNat)))) ∧
      (∀ nacked, d.i3c.ibiOn = true → d.i3c.ibiHeld = true → d.f (DEV_INTSTAT.PEND 2) ≠ 0 →
        RunsTo (.ibiRetry nacked) d (fun t => t.out = .ibi (d.f (DEV_INTSTAT.PEND 2)) :: d.out ∧ t.i3c.ibiHeld = nacked ∧ t.regs = d.regs)))) ∧
  (
  ∀ d : Dev, d.phase = .doze → d.i3c.addr ≠ none → Runs .i3cAddressInDoze d ((d.send .i3cNack).dozeExit false))

/-! ### Streams (chapter 10) -/

/-- R354, R389, R372, R373: writes of the producer window and of the trigger line of an enabled stream, and the operations of Table 10.5: of
a port by a write of bytes 0 to 15 of the OP line, of an engine at the stream itself, which takes a CSN (R375). A port's write is one of its
memory writes; it is let in or held like any other. -/
def Obligations.StreamRequests : Prop :=
  (
  ∀ (p tag st : Nat) (d : Dev), p < 2 → tag < 65536 → st < 4096 → d.portReady p = true →
    let clean : RdEnv := ⟨[], false, false, false⟩
    let opLine (code arg mask : Nat) : Dev :=
      let x := lineOfBytes (padTo 64 (leBytes 8 code ++ leBytes 8 arg))
      d.touch.memWrite p 0 (apBase st + 0x80040) x (BitVec.ofNat 64 mask) false false clean (entryCheck (apBase st / 64 + 0x2001) x (BitVec.ofNat 64 mask))
    (∀ a data mask poison off, a < 2 ^ 48 → d.apOff a = some off → 0x1000 ≤ off → off < 0x80000 →
      Runs (.producerWrite p tag a data mask poison) d (d.touch.memWrite p tag a data mask poison false clean (entryCheck (a / 64) data mask))) ∧
    (∀ t, t < 2 ^ 64 →
      let x := lineOfBytes (padTo 64 (leBytes 8 t))
      Runs (.triggerLineWrite p tag st t) d
        (d.touch.memWrite p tag (apBase st + 64) x fullMask false false clean (entryCheck (apBase st / 64 + 1) x fullMask))) ∧
    (∀ n, n < 2 ^ 64 → Runs (.read p st n) d (opLine 1 n 0xFFFF)) ∧
    Runs (.mark p st) d (opLine 2 0 0xFFFF) ∧ Runs (.rewind p st) d (opLine 3 0 0xFFFF) ∧
    (∀ t, t < 2 ^ 64 → Runs (.release p st t) d (opLine 4 t 0xFFFF)) ∧ Runs (.drop p st) d (opLine 5 0 0xFFFF) ∧
    Runs (.opReset p st) d (opLine 6 0 0xFFFF) ∧
    (∀ code, code < 256 → (6 < code ∨ code = 0 → Runs (.opInvalid p st code true) d (opLine code 0 0xFFFF)) ∧
      Runs (.opInvalid p st code false) d (opLine code 0 0xFF))) ∧
  (
  ∀ (st : Nat) (d : Dev), st < 4096 → d.memOn = true → d.mStream = true →
    let eng (code arg : Nat) : Dev := (d.takeCsn.strOp st 2 code arg).2
    (∀ n, n < 2 ^ 64 → Runs (.read 2 st n) d (eng 1 n)) ∧ Runs (.mark 2 st) d (eng 2 0) ∧ Runs (.rewind 2 st) d (eng 3 0) ∧
    (∀ t, t < 2 ^ 64 → Runs (.release 2 st t) d (eng 4 t)) ∧ Runs (.drop 2 st) d (eng 5 0) ∧ Runs (.opReset 2 st) d (eng 6 0) ∧
    (∀ code full, (Instr.opInvalid 2 st code full).wf = true → Runs (.opInvalid 2 st code full) d (eng code 0)))

/-- The effects of Table 10.5 on the positions of a framed or unframed stream, and the refusals of its last column; a refused operation
changes no position (R373). -/
def Obligations.ConsumerOperations : Prop :=
  ∀ (x : Stream) (framed : Bool) (n : Nat),
    (n % 64 ≠ 0 → x.oper framed 1 n = (1, x) ∧ x.oper framed 4 n = (1, x)) ∧
    (n % 64 = 0 → 0 < n → x.pos.rpos ≤ x.pos.avail → (x.oper framed 1 n).1 = 0 ∧ (x.oper framed 1 n).2.pos = { x.pos with rpos := min (x.pos.rpos + n) x.pos.avail }) ∧
    (x.oper framed 2 0).1 = 0 ∧ (x.oper framed 2 0).2.pos = { x.pos with mark := some x.pos.rpos } ∧
    (x.pos.mark = none → x.oper framed 3 0 = (2, x)) ∧
    (∀ m, x.pos.mark = some m → (x.oper framed 3 0).1 = 0 ∧ (x.oper framed 3 0).2.pos = { x.pos with rpos := m }) ∧
    (x.pos.rpos < n ∨ x.pos.end_ < n → n % 64 = 0 → x.oper framed 4 n = (1, x)) ∧
    (n % 64 = 0 → x.pos.rel < n → n ≤ x.pos.rpos → n ≤ x.pos.end_ → (x.oper framed 4 n).1 = 0 ∧ (x.oper framed 4 n).2.pos.rel = n ∧
      (x.oper framed 4 n).2.pos.rpos = x.pos.rpos ∧ (x.oper framed 4 n).2.pos.end_ = x.pos.end_ ∧
      ∀ m, x.pos.mark = some m → (x.oper framed 4 n).2.pos.mark = if m < n then none else some m) ∧
    (n % 64 = 0 → 0 < n → n ≤ x.pos.rel → n ≤ x.pos.rpos → n ≤ x.pos.end_ → x.oper framed 4 n = (0, x)) ∧
    x.oper false 5 0 = (5, x) ∧ (x.frameAt true x.pos.rpos = none → x.oper true 5 0 = (4, x)) ∧
    (∀ f, x.frameAt true x.pos.rpos = some f → (x.oper true 5 0).1 = 0 ∧ (x.oper true 5 0).2.pos = { x.pos with rpos := f.2 }) ∧
    (∀ op, 6 < op → x.oper framed op n = (1, x))

/-- R364, R376, R387, R385: credits, the head, reclamation and a queue reset of a sound enabled stream: positions return to its anchor, the
reset is counted, and what stood in the tail above END is dropped. R391, R393, R394: a boundary record of every enabled stream with a
non-zero PRE at each 4,096 ticks, none before the next is due; the closing of windows whose time is up; and the record of a closed window in
the seal chain, under its own CSN. -/
def Obligations.StreamUpkeep : Prop :=
  (
  ∀ (st : Nat) (d : Dev), st < 4096 →
    Runs (.creditRaise st) d (d.creditRaise st) ∧
    Runs (.ringReclaim st) d (d.ringReclaim st) ∧
    (d.f (STR_CTL.EN st) ≠ 0 → (d.stm st).failed = false →
      Runs (.headRefill st) d
        (d.setStm st { d.stm st with
          head := ((List.range 16).map (fun i => (d.stm st).pos.rpos + 64 * i)).filter (· < (d.stm st).pos.avail) })) ∧
    (∀ cause, cause < 3 → (Instr.queueReset st cause).wf = true → d.f (STR_CTL.EN st) ≠ 0 → (d.stm st).valid = true → (d.stm st).failed = false →
      Runs (.queueReset st cause) d (d.queueReset st)) ∧
    (∀ cause, cause = 3 → d.f (STR_CTL.EN st) ≠ 0 → (d.stm st).valid = true → (d.stm st).failed = false →
      Runs (.queueReset st cause) d ((d.setStm st { d.stm st with anchorOk := false }).queueReset st)) ∧
    (∀ (slot : Nat) (ev : RdEnv), (Instr.streamPageSpill st slot ev).wf = true →
      (d.spillDue st slot = false → Runs (.streamPageSpill st slot ev) d d) ∧
      (d.spillDue st slot = true →
        (d.spillSpace st slot (d.stm st) = none → Runs (.streamPageSpill st slot ev) d d) ∧
        (∀ (n : Nat) (e : Dev), d.spillSpace st slot (d.stm st) = some (n, e) →
          (e.placeSpill (d.stm st) slot (d.spillImg st slot) = none → Runs (.streamPageSpill st slot ev) d e) ∧
          (∀ (im : Img) (t : Dev), e.placeSpill (d.stm st) slot (d.spillImg st slot) = some (im, t) →
            let paid := if n = 0 then t else t.setF (WLV_ALLOW.ALLOW (homeOfStream st)) (t.f (WLV_ALLOW.ALLOW (homeOfStream st)) - n)
            Runs (.streamPageSpill st slot ev) d { paid with imgs := paid.imgs ++ [im] }))))) ∧
  (
  ∀ d : Dev,
    (d.ticks / 4096 ≤ d.str.lastBound → Runs .boundaryRecord d d) ∧
    (d.str.lastBound < d.ticks / 4096 →
      Runs .boundaryRecord d (({ d with str := { d.str with lastBound := d.ticks / 4096 } } : Dev).boundAll (d.ticks / 4096 * 4096 * 65536))) ∧
    (∀ st, st < 4096 → (d.stm st).windows.any (fun w => w.pend.isNone && decide (w.t1 ≤ d.time)) = true →
      Runs (.windowClose st) d
        (d.setStm st { d.stm st with windows := (d.stm st).windows.map (fun (w : Window) =>
          if w.pend.isNone && decide (w.t1 ≤ d.time) then { w with pend := some ((d.stm st).pendAt w) } else w) })) ∧
    (∀ st w e, st < 4096 → (d.stm st).dueWindow = some (w, e) → d.chainReady = true → d.seqOn = true →
      Runs (.windowRecord st) d (d.recordWindow st w e)))

/-! ### Engines (chapter 11) -/

/-- R423 and R402: the arithmetic and logic of Table 11.6, on 64-bit registers of which g0 reads as zero and discards what is written.
Nothing but g[D] and the pc changes. A word with a reserved field of lhi that is not zero is ILLEGAL (R422). The command names the
instruction (the model's choice, log entry 118). -/
def Obligations.EngineArithmetic : Prop :=
  ∀ (e rd a b imm : Nat) (d : Dev), e < 16 → rd < 32 → a < 32 → b < 32 → imm < 65536 → d.engReady e false = true →
    let x := d.gr e a
    let y := d.gr e b
    let goes (v : Word) : Dev := d.engNext (d.setGr e rd v) e
    Runs (.add e rd a b) d (goes (x + y)) ∧ Runs (.sub e rd a b) d (goes (x - y)) ∧ Runs (.and e rd a b) d (goes (x &&& y)) ∧
    Runs (.or e rd a b) d (goes (x ||| y)) ∧ Runs (.xor e rd a b) d (goes (x ^^^ y)) ∧
    Runs (.shl e rd a b) d (goes (x <<< (y.toNat % 64))) ∧ Runs (.shr e rd a b) d (goes (x >>> (y.toNat % 64))) ∧
    Runs (.sar e rd a b) d (goes (x.sshiftRight (y.toNat % 64))) ∧ Runs (.mul e rd a b) d (goes (x * y)) ∧
    Runs (.mulh e rd a b) d (goes (BitVec.ofInt 64 (x.toInt * y.toInt / 2 ^ 64))) ∧
    (y = 0 → Runs (.div e rd a b) d (goes (BitVec.allOnes 64)) ∧ Runs (.rem e rd a b) d (goes x)) ∧
    (y ≠ 0 → Runs (.div e rd a b) d (goes (BitVec.ofInt 64 (x.toInt.tdiv y.toInt))) ∧
      Runs (.rem e rd a b) d (goes (BitVec.ofInt 64 (x.toInt.tmod y.toInt)))) ∧
    Runs (.addi e rd a imm) d (goes (x + sext 16 imm)) ∧ Runs (.andi e rd a imm) d (goes (x &&& BitVec.ofNat 64 imm)) ∧
    Runs (.ori e rd a imm) d (goes (x ||| BitVec.ofNat 64 imm)) ∧ Runs (.xori e rd a imm) d (goes (x ^^^ BitVec.ofNat 64 imm)) ∧
    (∀ rs, rs < 2 ^ 26 → rsBad rsvA rs = false → Runs (.lhi e rd imm rs) d (goes (sext 16 imm <<< 16))) ∧
    (∀ rs, rs < 2 ^ 26 → rsBad rsvA rs = true →
      Runs (.lhi e rd imm rs) d ((d.syncExc e 1 (withRs (encI 0x05 rd 0 imm) rsvA rs) 0).lockCopy e))

/-- R423: a branch goes to its own address plus four times its signed offset where its condition holds, else to the next word; jal and jr
link the next word's address. -/
def Obligations.EngineBranches : Prop :=
  ∀ (e a b imm : Nat) (d : Dev), e < 16 → a < 32 → b < 32 → imm < 65536 → d.engReady e false = true →
    let x := d.gr e a
    let y := d.gr e b
    let pc := (d.eng e).pc
    let goes (c : Bool) : Dev := d.engAt e (if c then pc + 4 * sext 16 imm else pc + 4)
    Runs (.beq e b a imm) d (goes (x == y)) ∧ Runs (.bne e b a imm) d (goes (x != y)) ∧ Runs (.blt e b a imm) d (goes (decide (x.toInt < y.toInt))) ∧
    Runs (.bge e b a imm) d (goes (decide (y.toInt ≤ x.toInt))) ∧ Runs (.bltu e b a imm) d (goes (decide (x.toNat < y.toNat))) ∧
    Runs (.bgeu e b a imm) d (goes (decide (y.toNat ≤ x.toNat))) ∧
    (∀ off, off < 2 ^ 21 → Runs (.jal e b off) d ((d.setGr e b (pc + 4)).engAt e (pc + 4 * sext 21 off))) ∧
    Runs (.jr e b a imm) d ((d.setGr e b (pc + 4)).engAt e (x + sext 16 imm))

/-- R406, R409: each load of `n` bytes, sign- or zero-extended, from the engine's own local memory, from quadrant shared memory with the
lines on their way over it, from the ROM, from the Helm space, and from device memory where no line is on its way; a misaligned one raises
MISALIGNED with its size, one of an address that the engine may not load LOAD_FAULT (Table 11.2). -/
def Obligations.EngineLoads : Prop :=
  ∀ (e rd a imm : Nat) (ev : RdEnv) (d : Dev), e < 16 → rd < 32 → a < 32 → imm < 65536 → d.engReady e false = true → ev.ue = false →
    let addr := effAddr (d.gr e a) imm
    ∀ c n sg, (c, n, sg) ∈ [(Instr.ld8 e rd a imm ev, 1, true), (.ld16 e rd a imm ev, 2, true), (.ld32 e rd a imm ev, 4, true),
        (.ld64 e rd a imm ev, 8, true), (.ld8u e rd a imm ev, 1, false), (.ld16u e rd a imm ev, 2, false), (.ld32u e rd a imm ev, 4, false)] →
      let goes (v : Nat) (d' : Dev) : Dev := d.engNext (d'.setGr e rd (if sg then sext (8 * n) v else BitVec.ofNat 64 v)) e
      (addr.toNat % n = 0 → d.mayAccess e (eRegion addr.toNat) false = true →
        (∀ off, eRegion addr.toNat = .loc off → Runs c d (goes (ofLe (memRead (d.eng e).loc off n)) d)) ∧
        (∀ q off own, eRegion addr.toNat = .shared q off → d.onWay e (addr.toNat / 64) = own →
          Runs c d (goes (lineVal (mergeLine (lineOfVal (addr.toNat % 64) n (ofLe (memRead (d.quad q).shared off n))) own.1 own.2) (addr.toNat % 64) n) d)) ∧
        (∀ off, eRegion addr.toNat = .rom off → Runs c d (goes (ofLe ((List.range n).map (fun i => Config.romByte (off + i)))) d)) ∧
        (∀ off, eRegion addr.toNat = .helm off → Runs c d (goes (d.helmRead (3 + e) off (8 * n)).1 (d.helmRead (3 + e) off (8 * n)).2)) ∧
        (∀ x v d', eRegion addr.toNat = .dev x → (d.onWay e (addr.toNat / 64)).2 = 0 → d.mustHold 2 e x false = false →
          d.memReadNow 2 x ev = (some v, d') → Runs c d (goes (lineVal v (x % 64) n) d'))) ∧
      (addr.toNat % n = 0 → d.mayAccess e (eRegion addr.toNat) false = false → Runs c d ((d.syncExc e 4 0 addr).lockCopy e)) ∧
      (addr.toNat % n ≠ 0 → Runs c d ((d.syncExc e 6 n addr).lockCopy e))

/-- R406, R411, R424: each store of `n` bytes to the engine's own local memory and to its own quadrant's shared memory writes those bytes
and ends the reservations on their granule; a store to device memory, with a place free in the write merge, joins its line there. R424,
R453: ld.rsv of the engine's own local memory loads 64 bits and reserves their granule; st.cnd there stores, with result 0, while the
reservation stands, and else only answers 1; it ends the reservation either way. -/
def Obligations.EngineStores : Prop :=
  (
  ∀ (e b a imm : Nat) (d : Dev), e < 16 → b < 32 → a < 32 → imm < 65536 → d.engReady e false = true →
    let addr := effAddr (d.gr e a) imm
    ∀ c n, (c, n) ∈ [(Instr.st8 e b a imm, 1), (.st16 e b a imm, 2), (.st32 e b a imm, 4), (.st64 e b a imm, 8)] →
      let v := (d.gr e b).toNat % 256 ^ n
      (addr.toNat % n = 0 → d.mayAccess e (eRegion addr.toNat) true = true →
        (∀ off, eRegion addr.toNat = .loc off →
          Runs c d (d.engNext ((d.modEng e (fun y => { y with loc := Machine.memWrite y.loc off (leBytes n v) })).unreserveOwn e (addr.toNat / 256)) e)) ∧
        (∀ off, eRegion addr.toNat = .shared (e / 4) off →
          Runs c d (d.engNext ((d.modQuad (e / 4) (fun y => { y with shared := Machine.memWrite y.shared off (leBytes n v) })).unreserve
            (addr.toNat / 256)) e)) ∧
        (∀ q off, eRegion addr.toNat = .shared q off → q ≠ e / 4 → d.fwdFull (e / 4) = false →
          Runs c d (d.engNext ((d.forward (e / 4) ⟨addr.toNat / 64, lineOfVal (addr.toNat % 64) n v, byteMask (addr.toNat % 64) n, d.time, e, 0⟩).unreserveOwn e
            (addr.toNat / 256)) e)) ∧
        (∀ off, eRegion addr.toNat = .helm off → Runs c d (d.engNext (d.helmWrite (3 + e) off (8 * n) v) e)) ∧
        (∀ x, eRegion addr.toNat = .dev x → (d.eng e).merge = [] →
          Runs c d (d.engNext ((d.unreserveOwn e (addr.toNat / 256)).modEng e (fun y => { y with
            merge := y.merge ++ [⟨addr.toNat / 64, mergeLine 0 (lineOfVal (addr.toNat % 64) n v) (byteMask (addr.toNat % 64) n),
              byteMask (addr.toNat % 64) n, d.time, e, 0⟩] })) e))) ∧
      (addr.toNat % n ≠ 0 → Runs c d ((d.syncExc e 6 n addr).lockCopy e)) ∧
      (addr.toNat % n = 0 → d.mayAccess e (eRegion addr.toNat) true = false → Runs c d ((d.syncExc e 5 0 addr).lockCopy e))) ∧
  (
  ∀ (e rd a b imm : Nat) (ev : RdEnv) (d : Dev), e < 16 → rd < 32 → a < 32 → b < 32 → imm < 65536 → d.engReady e false = true → ev.ue = false →
    (∀ off, (effAddr (d.gr e a) imm).toNat % 8 = 0 → eRegion (effAddr (d.gr e a) imm).toNat = .loc off → d.mayAccess e (.loc off) false = true →
      Runs (.ldRsv e rd a imm ev) d
        (d.engNext ((d.modEng e (fun x => { x with rsv := some ((effAddr (d.gr e a) imm).toNat / 256) })).setGr e rd
          (BitVec.ofNat 64 (ofLe (memRead (d.eng e).loc off 8)))) e)) ∧
    (∀ off, (d.gr e a).toNat % 8 = 0 → eRegion (d.gr e a).toNat = .loc off → d.mayAccess e (.loc off) true = true →
      ((d.eng e).rsv = some ((d.gr e a).toNat / 256) →
        RunsTo (.stCnd e rd a b) d (fun t => (e < d.engines.length → (t.eng e).loc = Machine.memWrite (d.eng e).loc off (leBytes 8 (d.gr e b).toNat) ∧
          (t.eng e).rsv = none ∧ (rd ≠ 0 → rd < (d.eng e).g.length → t.gr e rd = 0)) ∧ t.sectors = d.sectors ∧ t.regs = d.regs ∧ t.quads = d.quads)) ∧
      ((d.eng e).rsv ≠ some ((d.gr e a).toNat / 256) →
        Runs (.stCnd e rd a b) d (d.engNext ((d.modEng e (fun x => { x with rsv := none })).setGr e rd 1) e))))

/-- R411, R448, R450, R451, R456: bar.core and bar.quad pass every line of the write merge to the forwarding buffer and go on once none is
left; bar.chip goes on with nothing of its engine on its way; a barrier with a reserved field that is not zero is ILLEGAL (R422); a line
leaves the write merge 1 µs after its first store; the oldest line leaves a forwarding buffer, a line of device memory while R138 admits it,
for the commit sequencer, where it takes its CSN; a store held for a dying Point is discarded 50 µs after the bar.chip began to wait.
A waiting instruction is commanded again (the model's choice, log entry 119). -/
def Obligations.EngineOrdering : Prop :=
  ∀ (e rs : Nat) (d : Dev), e < 16 → rs < 2 ^ 26 →
    (d.engReady e false = true → rsBad (rsvD + rsvA + rsvB) rs = false →
      (((d.leaveAll e).eng e).merge = [] → Runs (.barCore e rs) d (d.engNext (d.leaveAll e) e) ∧ Runs (.barQuad e rs) d (d.engNext (d.leaveAll e) e)) ∧
      ((d.eng e).merge = [] → (d.quad (e / 4)).fwd.any (·.eng == e) = false → d.heldOf e = [] →
        Runs (.barChip e rs) d (d.engNext (d.modEng e (fun x => { x with waiting := false, draining := 0 })) e))) ∧
    (d.engReady e false = true → rsBad (rsvD + rsvA + rsvB) rs = true → ∀ c fn, (c, fn) ∈ [(Instr.barCore e rs, 0), (.barQuad e rs, 1), (.barChip e rs, 2)] →
      Runs c d ((d.syncExc e 1 (barWord fn rs) 0).lockCopy e)) ∧
    (∀ line m, line < 2 ^ 42 → (d.eng e).merge.find? (fun m => m.line == line) = some m → d.engClk = true → m.since + usUnits 1 ≤ d.time →
      d.mayLeave e m = true → Runs (.writeMergeDrain e line) d (d.leave e m)) ∧
    (∀ q m rest q' off, q < 4 → d.engClk = true → (d.quad q).fwd = m :: rest → eRegion (64 * m.line) = .shared q' off →
      Runs (.forwardingBufferDrain q) d
        ((((d.modQuad q (fun x => { x with fwd := rest })).sharedMerge q' off m.data m.mask)).unreserve (64 * m.line / 256))) ∧
    (∀ q m rest a, q < 4 → d.engClk = true → (d.quad q).fwd = m :: rest → eRegion (64 * m.line) = .dev a →
      (d.sliceAdmits a = false → Runs (.forwardingBufferDrain q) d d) ∧
      (d.sliceAdmits a = true →
        let t := (d.modQuad q (fun x => { x with fwd := rest })).memWrite 2 m.eng a m.data m.mask false false ⟨[], false, false, false⟩ m.check
        Runs (.forwardingBufferDrain q) d (if d.nextCsn < t.nextCsn then t.modEng m.eng (fun x => { x with lastcsn := d.nextCsn }) else t))) ∧
    (∀ r, (d.eng e).waiting = true → (d.eng e).draining ≠ 0 → (d.eng e).barAt + usUnits 50 ≤ d.time → d.heldOf e = [r] → d.dyingReq r = true →
      let t := (d.discardStore e r).modEng e (fun y => { y with draining := 0 })
      t.heldOf e = [] → Runs (.barrierDrainTimeout e) d ((t.modEng e (fun y => { y with waiting := false, pc := y.pc + 4 })).lockCopy e))

/-- R427 to R435: a media instruction takes the lowest free ticket, gives its number in g[D], and its operation fixes what the ticket will
show; without a free ticket nothing is issued and g[D] is all ones; an address that R429 refuses ends at once with its result. R427, R436: a
ticket that waits for nothing more completes with its status and its bytes; wait collects a completed ticket and frees it, and answers
result 0x0F for a ticket that is not held. VALUE of mclear and the elements of a row are the model's reading (log entries 128 and 130). -/
def Obligations.EngineMedia : Prop :=
  (
  ∀ (e rd a b c fn rs : Nat) (ev : RdEnv) (d : Dev), e < 16 → rd < 32 → a < 32 → b < 32 → c < 32 → rs = 0 → d.engReady e true = true →
    d.noClear = false →
    let p := (d.gr e a).toNat
    let buf := d.gr e b
    let goes (t : Nat) (r : Ticket × Dev) : Dev :=
      d.engNext ((r.2.modEng e (fun x => { x with tickets := x.tickets ++ [r.1] })).setGr e rd (BitVec.ofNat 64 t)) e
    ((d.eng e).freeTicket = none →
      Runs (.mverify e rd a rs ev) d (d.engNext (d.setGr e rd (BitVec.allOnes 64)) e) ∧
      Runs (.mclear e rd a b rs 0) d (d.engNext (d.setGr e rd (BitVec.allOnes 64)) e)) ∧
    (∀ t, (d.eng e).freeTicket = some t →
      (∀ r, d.psaRefused p false = some r →
        Runs (.mverify e rd a rs ev) d (goes t (ticketOf t r, d)) ∧ (fn < 2 → Runs (.mref e rd a fn rs) d (goes t (ticketOf t r, d))) ∧
        (∀ els, (Instr.msense e rd a b rs els).wf = true → Runs (.msense e rd a b rs els) d (goes t (ticketOf t r, d))) ∧
        (fn < 16 → buf.toNat % 16 = 0 → d.bufOk e buf.toNat (if fn % 4 = 0 then 272 else 304) = true →
          Runs (.mread e rd a b c fn ev) d (goes t (ticketOf t r, d))) ∧
        (∀ ok, fn < 2 → buf.toNat % 16 = 0 → d.bufOk e buf.toNat 272 = true → Runs (.mwrite e rd a b fn rs ok) d (goes t (ticketOf t r, d)))) ∧
      (∀ retired r, retired < 2 ^ 32 → d.psaRefused p true = some r → Runs (.mclear e rd a b rs retired) d (goes t (ticketOf t r, d))) ∧
      (d.psaRefused p false = none →
        Runs (.mverify e rd a rs ev) d (goes t (d.mverifyOp t p ev)) ∧
        (fn < 16 → buf.toNat % 16 = 0 → d.bufOk e buf.toNat (if fn % 4 = 0 then 272 else 304) = true →
          Runs (.mread e rd a b c fn ev) d (goes t (d.mreadOp e t p buf.toNat (d.gr e c).toNat fn ev))) ∧
        (∀ ok, fn < 2 → buf.toNat % 16 = 0 → d.bufOk e buf.toNat 272 = true →
          Runs (.mwrite e rd a b fn rs ok) d (goes t (d.mwriteOp t p (memRead (d.eng e).loc buf.toNat 272) (fn.testBit 0) ok))) ∧
        (fn < 2 → Runs (.mref e rd a fn rs) d (goes t
          ({ num := t, pend := mediaStatus t 0 0 false
              (let r := d.refs (driftX (if fn = 0 then d.dataAge (psaSeg p) else d.loadAge (psaSeg p))); r.1 + r.2.1 * 2 ^ 8 + r.2.2 * 2 ^ 16) }, d))) ∧
        (∀ els : List Nat, (Instr.msense e rd a b rs els).wf = true →
          Runs (.msense e rd a b rs els) d (goes t
            ({ num := t, pend := mediaStatus t 0 0 false
                ((List.range 4).foldl (fun acc k => acc + levelCount (senseVec els ((d.gr e b).toNat % 256)) k * 2 ^ (8 * k)) 0) },
              (d.linkSend (psaPoint p) 5 (psaCell p) (psaSeg p % 8192 * 513 + 512) ((d.gr e b).toNat % 256) 0 0).grant (psaPoint p) 6 1)))) ∧
      (∀ retired, retired < 2 ^ 32 → d.psaRefused p true = none →
        Runs (.mclear e rd a b rs retired) d (goes t (d.mclearOp t p (d.gr e b).toNat retired))) ∧
      ((d.gr e a).toNat % 16 = 0 → d.bufOk e (d.gr e a).toNat 32 = true →
        let desc := memRead (d.eng e).loc (d.gr e a).toNat 32
        Runs (.mfoldPage e rd a rs ev) d (goes t (d.mfoldOp t 0 desc ev)) ∧ Runs (.mfoldSector e rd a rs ev) d (goes t (d.mfoldOp t 1 desc ev)) ∧
        Runs (.mfoldSealed e rd a rs ev) d (goes t (d.mfoldOp t 2 desc ev))))) ∧
  (
  ∀ (e rd a b : Nat) (d : Dev), e < 16 → rd < 32 → a < 32 → b < 32 →
    (∀ t y, t < 32 → (d.eng e).tickets.find? (fun y => y.num == t && y.status.isNone) = some y → d.engClk = true → y.waits = .now →
      Runs (.mediaTicketComplete e t) d ((d.ticketDone e t y.pend).lockCopy e)) ∧
    (∀ late t v, d.engReady e false = true → (d.eng e).waitPick (d.gr e a).toNat = some t → t.status = some v →
      Runs (.wait e rd a b late) d
        (d.engNext ((d.modEng e (fun x => { x with tickets := x.tickets.filter (fun y => y.num != t.num) })).setGr e rd (BitVec.ofNat 64 v)) e)) ∧
    (∀ late, d.engReady e false = true → (d.gr e a).toNat < 32 → (d.eng e).waitPick (d.gr e a).toNat = none →
      Runs (.wait e rd a b late) d (d.engNext (d.setGr e rd (BitVec.ofNat 64 (mediaStatus (d.gr e a).toNat 0x0F 0 false 0))) e)))

/-- R437 to R442: a queue instruction on a stream that an engine may consume takes a CSN and does its operation of Table 10.5; its result is
the position the table names, or the refusal; qpeek and qtake copy the lines from RPOS, up to AVAIL, or refuse a bad length; qcredit gives a
position; a refused stream gives the code. What refuses a queue instruction is the model's reading (log entry 132). -/
def Obligations.EngineQueues : Prop :=
  ∀ (e rd a b c : Nat) (ev : RdEnv) (d : Dev), e < 16 → rd < 32 → a < 32 → b < 32 → c < 32 → d.engReady e false = true →
    let st := (d.gr e a).toNat % 4096
    d.mustHold 2 e (apBase st) true = false → d.mustHold 2 e (apBase st) false = false →
    let goes (d' : Dev) (v : Word) : Dev := d.engNext (d'.setGr e rd v) e
    let does (r : Nat × Stream × Dev) (at_ : Stream → Nat) : Dev := goes r.2.2 (if r.1 = 0 then queueResult (at_ r.2.1) else queueRefused r.1)
    let buf := (d.gr e b).toNat
    let len := (d.gr e c).toNat
    let n := Nat.min len ((d.stm st).pos.avail - (d.stm st).pos.rpos)
    (d.qRefused st = none →
      Runs (.qmark e rd a 0 0) d (does (d.qOp e st 2 0) (fun x => x.pos.mark.getD 0)) ∧
      Runs (.qrewind e rd a 0 0) d (does (d.qOp e st 3 0) (fun x => x.pos.rpos)) ∧
      Runs (.qrelease e rd a b 0) d (does (d.qOp e st 4 (d.gr e b).toNat) (fun x => x.pos.rel)) ∧
      Runs (.qdrop e rd a 0 0) d (does (d.qOp e st 5 0) (fun x => x.pos.rpos)) ∧
      (len % 64 = 0 → len ≤ 4096 → buf % 64 = 0 → d.bufOk e buf n = true → ∀ l d', d.qLines st (n / 64) (d.stm st).pos.rpos ev = (some l, d') →
        let copied : Dev := d'.modEng e (fun x => x.putLoc buf (l.flatMap lineBytes))
        Runs (.qpeek e rd a b c 0 ev) d (goes copied (queueResult n)) ∧
        Runs (.qtake e rd a b c 0 ev) d (does (copied.qOp e st 1 n) (fun x => x.pos.rpos))) ∧
      (len % 64 ≠ 0 ∨ 4096 < len → buf % 64 = 0 → d.bufOk e buf 0 = true →
        Runs (.qpeek e rd a b c 0 ev) d (goes d (queueRefused 1)) ∧ Runs (.qtake e rd a b c 0 ev) d (goes d (queueRefused 1)))) ∧
    (d.qRefused st = none ∨ d.qRefused st = some 3 →
      let p := (d.stm st).pos
      ∀ fn v, (fn, v) ∈ [(0, p.limit - p.end_ / 4096), (1, p.end_), (2, p.limit), (3, p.avail), (4, p.rpos), (5, p.rel)] →
        Runs (.qcredit e rd a fn 0) d (goes d (queueResult v))) ∧
    (d.qRefused st = some 6 → ∀ fn, fn ≤ 5 → Runs (.qcredit e rd a fn 0) d (goes d (queueRefused 6))) ∧
    (∀ x, d.qRefused st = some x →
      Runs (.qmark e rd a 0 0) d (goes d (queueRefused x)) ∧ Runs (.qrewind e rd a 0 0) d (goes d (queueRefused x)) ∧
      Runs (.qrelease e rd a b 0) d (goes d (queueRefused x)) ∧ Runs (.qdrop e rd a 0 0) d (goes d (queueRefused x)) ∧
      (len % 64 = 0 → len ≤ 4096 → buf % 64 = 0 → d.bufOk e buf n = true →
        Runs (.qpeek e rd a b c 0 ev) d (goes d (queueRefused x)) ∧ Runs (.qtake e rd a b c 0 ev) d (goes d (queueRefused x))))

/-- R412: what taking an exception saves and where it goes: epc, cause and badaddr, the privilege before it, helm privilege, no reservation,
the handler's address; at deck privilege the budget stands at what is left of it. -/
def Obligations.EngineException : Prop :=
  ∀ (e code detail : Nat) (bad epc : Word) (d : Dev), e < 16 → d.engines.length = 16 →
    let x := d.eng e
    let y := (d.takeExc e code detail bad epc).eng e
    y.epc = epc ∧ y.causeCode = code ∧ y.causeDetail = detail % 2 ^ 32 ∧ y.badaddr = bad ∧ y.prev = x.priv ∧ y.priv = 0 ∧ y.rsv = none ∧
    y.pc = x.ehandler ∧ y.g = x.g ∧ y.loc = x.loc ∧ y.tickets = x.tickets ∧ y.merge = x.merge ∧
    (∀ i, i ≠ e → (d.takeExc e code detail bad epc).eng i = d.eng i) ∧ (d.takeExc e code detail bad epc).regs = d.regs

/-- R414, R416, R417, R418: trap at helm is an engine fault below 0x8000 and a firmware call from 0x8000 on; at deck, EXIT ends the program
with g1, g2 and g3, EVENT posts 0x0B0, YIELD gives up the slice, any other code is ILLEGAL; an exhausted budget is taken before the next
instruction; eret returns. R68, R421, R445, Table 2.5: an engine that works faults on its watchdog (at helm, 50 ms after the last kick), on
a LOCKSTEP mismatch of the pair, or by itself; one that passes its self-test rejoins, and one that fails stays halted. That EXIT, EVENT and
YIELD take TRAP first, and the units of the fault records, are the model's reading (log entries 122 and 135). -/
def Obligations.EngineTrapsAndFaults : Prop :=
  (
  ∀ (e code : Nat) (d : Dev), e < 16 → code < 65536 →
    let x := d.eng e
    (d.engReady e false = true → x.priv = 0 → code < 0x8000 → Runs (.trap e code 0) d ((d.engFault e).lockCopy e)) ∧
    (d.engReady e false = true → x.priv = 0 → 0x8000 ≤ code → Runs (.trap e code 0) d ((d.takeExc e 8 code 0 (x.pc + 4)).lockCopy e)) ∧
    (d.engReady e false = true → x.priv = 1 → 3 ≤ code → Runs (.trap e code 0) d ((d.syncExc e 1 (encI 0x33 0 0 code) 0).lockCopy e)) ∧
    (d.engReady e false = true → x.priv = 1 →
      Runs (.exit e) d (((d.takeExc e 8 0 0 (x.pc + 4)).endDeck e (65536 + (x.rd 1).toNat % 65536) (x.rd 2).toNat (x.rd 3).toNat).lockCopy e) ∧
      Runs (.event e) d (((d.takeExc e 8 1 0 (x.pc + 4)).post
        { code := 0x0B0, point := e, detail := leBytes 4 0 ++ leBytes 8 (x.rd 1).toNat ++ leBytes 8 (x.rd 2).toNat ++ leBytes 8 (x.rd 3).toNat }).lockCopy e) ∧
      Runs (.yield e) d ((d.takeExc e 8 2 0 (x.pc + 4)).lockCopy e)) ∧
    (d.engUp e = true → d.budgetDue e = true → Runs (.budget e) d ((d.takeExc e 9 0 0 x.pc).lockCopy e)) ∧
    (d.engReady e true = true → Runs (.eret e 0) d ((d.eret e).lockCopy e)) ∧
    (e < d.engines.length → ((d.eret e).eng e).priv = x.prev ∧ ((d.eret e).eng e).pc = x.epc ∧ ((d.eret e).eng e).rsv = none)) ∧
  (
  ∀ (e : Nat) (d : Dev), e < 16 → d.engClk = true →
    (d.working e = true → (d.eng e).priv = 0 → (d.eng e).kickAt + msUnits 50 ≤ d.time → Runs (.engineWatchdog e) d (d.engFault e)) ∧
    (d.mLockstep = true → (d.pairOf e).all (fun i => d.working i) = true → Runs (.lockstepMismatch e) d (d.engFault e)) ∧
    (d.working e = true → Runs (.engineFault e) d (d.engFault e)) ∧
    ((d.eng e).resetting = true →
      Runs (.engineSelfTestDone e false) d (d.modEng e (fun _ => { d.freshEngine e .halted with resetting := false })) ∧
      (d.f SAF_STAT.HOVE = 0 → Runs (.engineSelfTestDone e true) d (d.modEng e (fun _ => { d.freshEngine e .running with resetting := false })))))

/-- R419, R420, R64, R421, R443, R444: the system registers, the taking of a task, the watchdog kick, sleep and its end, and fix. -/
def Obligations.EngineSystem : Prop :=
  ∀ (e rd a n : Nat) (ev : RdEnv) (d : Dev), e < 16 → rd < 32 → a < 32 → n < 65536 →
    let x := d.eng e
    (d.engReady e (!sysDeckGet n) = true →
      (n ≠ 0x0E → Runs (.getsys e rd n 0 ev) d (d.engNext (d.setGr e rd (BitVec.ofNat 64 (d.sysVal e n))) e)) ∧
      (n = 0x0E → Runs (.getsys e rd n 0 ev) d (d.engNext ((d.takeTask e ev).2.setGr e rd (d.takeTask e ev).1) e))) ∧
    (d.engReady e (!sysDeckPut n) = true → Runs (.putsys e a n 0) d (d.engNext (d.putsys e n (d.gr e a).toNat) e)) ∧
    (d.engReady e true = true → Runs (.taskTake e rd ev) d (d.engNext ((d.takeTask e ev).2.setGr e rd (d.takeTask e ev).1) e)) ∧
    (d.engReady e true = true → Runs (.wdogKick e a) d (d.engNext (d.modEng e (fun x => { x with kickAt := d.time })) e)) ∧
    (d.engReady e false = true → Runs (.fixInstruction e rd 0) d
      (d.engNext ((d.fix 1).setGr e rd (BitVec.ofNat 64 ((d.fix 1).f FIX_NUM.NUMBER))) e)) ∧
    (d.engReady e false = true → x.priv = 1 → Runs (.sleep e rd a 0) d ((d.takeExc e 0x0A (x.rd a).toNat 0 x.pc).lockCopy e)) ∧
    (d.engReady e false = true → x.priv = 0 → x.awake ≠ 0 → Runs (.sleep e rd a 0) d (d.engNext (d.consume e rd x.awake) e)) ∧
    (d.engReady e false = true → x.priv = 0 → x.awake = 0 → (x.rd a).toNat ≠ 0 → Runs (.sleep e rd a 0) d
      ((d.modEng e (fun y => { y with state := .asleep, sleepD := rd, sleepUntil := some (d.time + usUnits (x.rd a).toNat) })).lockCopy e)) ∧
    (d.engReady e false = true → x.priv = 0 → x.awake = 0 → (x.rd a).toNat = 0 →
      (x.wakeEn = 0 → Runs (.sleep e rd a 0) d (d.engNext (d.setGr e rd 0) e)) ∧
      (x.wakeEn ≠ 0 → Runs (.sleep e rd a 0) d
        ((d.modEng e (fun y => { y with state := .asleep, sleepD := rd, sleepUntil := none })).lockCopy e))) ∧
    (x.state = .asleep → d.engClk = true → (x.awake ≠ 0 ∨ ∃ t, x.sleepUntil = some t ∧ t ≤ d.time) → Runs (.sleepEnd e) d
      (((d.modEng e (fun y => { y with state := .running, sleepUntil := none, pc := y.pc + 4 })).consume e x.sleepD x.awake).lockCopy e))

/-! ### The write path (chapters 05 and 07) -/

/-- R141 to R144, R54 to R57, R87: a logical sector becomes ready for a cause that stands; its page is routed, or the missing sectors of its
image are placed; the image's merge reads come in, or wait for a retrain (R676); a sector of it that its cell starts is programmed, and one
on a die that cannot take it, or in a skipped row, is placed again (R103). R149, R151, R153, R225: a placement log sector closes full, after
10 µs, or for a write that waits for it; a programmed sector whose placement is logged is installed in the overlay, unless the overlay has no
way for it; a whole page that is committed is installed in the map. One image of a page at a time, and overlay sectors for undeliverable
lines, are the model's reading (log entries 16 and 17). -/
def Obligations.WritePath : Prop :=
  (
  ∀ (l pg : Nat) (d : Dev), l < 2 ^ 31 → pg < 2 ^ 27 →
    (∀ cause, (Instr.sectorReady l cause).wf = true → d.secPending l ≠ [] → d.readyCause l cause = true →
      Runs (.sectorReady l cause) d { d with ready := setAdd l d.ready }) ∧
    (d.imgIdx (fun i => i.pg == pg && i.unplaced) = none → Runs (.pageRoute pg) d (d.routePage pg)) ∧
    (∀ i, d.imgIdx (fun i => i.pg == pg && i.unplaced) = some i → Runs (.pageRoute pg) d (d.placeMissing i)) ∧
    (∀ ev i x, (Instr.mergeReadDone pg ev).wf = true → d.imgIdx (fun i => i.pg == pg && i.merging) = some i → d.imgs[i]? = some x →
      ((d.mergeDone pg i x ev).blocked = none → Runs (.mergeReadDone pg ev) d (d.mergeDone pg i x ev)) ∧
      ((d.mergeDone pg i x ev).blocked ≠ none → Runs (.mergeReadDone pg ev) d d)) ∧
    (∀ psa ok i x, psa < 2 ^ 31 → d.imgIdx (fun x => !x.merging && d.mayProgram x && x.secs.any (·.at psa)) = some i → d.imgs[i]? = some x →
      (d.dieGone (psaPoint psa) = true → Runs (.sectorProgramDone psa ok) d (d.replaceImg i (fun p => psaPoint p == psaPoint psa) false)) ∧
      (d.dieGone (psaPoint psa) = false → d.skipped psa = true →
        Runs (.sectorProgramDone psa ok) d (d.replaceImg i (fun p => psaSeg p == psaSeg psa && d.skipped p) false)) ∧
      (d.dieGone (psaPoint psa) = false → d.skipped psa = false →
        (d.cellStarts psa = false → Runs (.sectorProgramDone psa ok) d d) ∧
        (∀ j t, d.cellStarts psa = true → x.secs.findIdx? (·.at psa) = some j → x.secs[j]? = some t →
          Runs (.sectorProgramDone psa ok) d (d.programSec i j psa (!(t.psa == some psa && !t.okA)) ok))))) ∧
  (
  ∀ d : Dev,
    (∀ n ok, n < 16 →
      (28 ≤ (d.pt n).plog.length ∨ (∃ e t, (d.pt n).plog = e :: t ∧ e.added + usUnits 10 ≤ d.time) ∨ d.plogUrgent n = true) →
      Runs (.placementLogClose n ok) d (d.closePlog n ok)) ∧
    (∀ l i x j, l < 2 ^ 31 →
      d.imgIdx (fun x => !x.whole && x.programmed && d.imgLogged x && x.secs.any (fun t => t.l == l && !t.installed)) = some i →
      d.imgs[i]? = some x → x.secs.findIdx? (fun t => t.l == l && !t.installed) = some j →
      (d.ovlBlocked l = true → Runs (.overlayInstall l) d (d.setFullDefer l)) ∧
      (d.ovlBlocked l = false → Runs (.overlayInstall l) d (d.installSec i j))) ∧
    (∀ pg i x, pg < 2 ^ 27 → d.imgIdx (fun x => x.pg == pg && x.whole && x.open && d.imgCommitted x) = some i → d.imgs[i]? = some x →
      (x.why = 5 → Runs (.pageInstall pg) d (d.installSealed i)) ∧
      (x.why ≠ 5 → d.relBlocked x ≠ [] → Runs (.pageInstall pg) d ((d.relBlocked x).foldl Dev.setFullDefer d)) ∧
      (x.why ≠ 5 → d.relBlocked x = [] → d.installWaits x = true → Runs (.pageInstall pg) d d) ∧
      (x.why ≠ 5 → d.relBlocked x = [] → d.installWaits x = false → Runs (.pageInstall pg) d (d.installPage i))))

/-- R158, R231, R223, R173, R187: the line log without HOLDUP closes full, after its time, or for a merged line; its commit programs its
sector and partial parity, and completes its writes once both have passed; the watermark; a map page's flush; a fold task for a cause that
stands; the refill of a placement queue. MAP_FLUSH in one step and the free fold weight are the model's choices (log entries 23 and 24). -/
def Obligations.LineLogAndQueues : Prop :=
  ∀ (h : Nat) (d : Dev), h < 16 →
    (3 ≤ (d.hm h).llog.length → Runs (.lineLogClose h 0) d (d.closeLlog h)) ∧
    (∀ x t, (d.hm h).llog = x :: t → x.time + d.llWait ≤ d.time → Runs (.lineLogClose h 1) d (d.closeLlog h)) ∧
    (((d.hm h).llog.take 3).any (·.merged) = true → Runs (.lineLogClose h 2) d (d.closeLlog h)) ∧
    (∀ j okA okB, d.lljobs.find? (fun j => j.home = h) = some j →
      let w : Option Nat × Dev := match j.psa with | some p => (some p, d) | none => d.programLlog j okA
      let j' : LineLogJob := { j with psa := w.1 }
      let e : Dev := { w.2 with lljobs := w.2.lljobs.map (fun (y : LineLogJob) => if y = j then j' else y) }
      (w.1 = none → Runs (.lineLogCommit h okA okB) d e) ∧
      (∀ psa g t, w.1 = some psa → e.groupOf (psaSeg psa) = some g → e.programPartial g (psaSec psa / 16) (psaSec psa % 16) okB = some t →
        Runs (.lineLogCommit h okA okB) d (if okB then t.commitLlog j' else t))) ∧
    (d.mHoldup = false → (d.hm h).wmDue = true →
      Runs (.watermark h) d ((d.record (d.serving h) (.watermark h (d.watermarkOf h))).modHm h
        (fun x => { x with wm := d.watermarkOf h, wmDue := false, above := x.above.filter (fun c => d.watermarkOf h < c),
                           accepted := x.accepted.filter (fun c => d.watermarkOf h < c) }))) ∧
    (∀ mp, (Instr.mapFlush h mp).wf = true → d.noClear = false → Runs (.mapFlush h mp) d (d.flushMap h mp)) ∧
    (∀ pg cause, (Instr.foldQueue pg cause).wf = true → d.foldCause pg cause = true →
      Runs (.foldQueue pg cause) d (d.queueTask (d.serving (homeOfPage pg)) { kind := 0, arg := pg })) ∧
    (∀ kind g sg, kind < 3 → d.openGroup kind = some g → d.openSeg kind h = some sg → (d.queue kind h).count < 256 →
      Runs (.placementQueueRefill h kind) d (d.modQueue kind h (d.queueFill g h sg 1024)))

/-- R161, R164 to R170: parity groups open; a complete row takes its parity, and a row that waits 1 ms is closed; a group closes; after 100
ms its members are verified, sector by sector: a sector passes with no more than MARGIN_BITS corrected bits, one with more is relocated, one
that does not decode is rebuilt and relocated or lost; then the parity dies and the members are STABLE. -/
def Obligations.ParityGroups : Prop :=
  ∀ (g : Nat) (x : Group) (d : Dev), g < 2 ^ 32 → d.group g = some x →
    (∀ kind, (Instr.groupOpen kind).wf = true → Runs (.groupOpen kind) d (d.openGroupOf kind)) ∧
    (∀ cause, (Instr.groupClose g cause).wf = true → Runs (.groupClose g cause) d (d.groupClose g cause (d.groupAged x))) ∧
    (∀ r fails y, (Instr.rowComplete g r fails).wf = true → x.row r = some y → x.st = 0 → d.coldStop = false → y.parity = none → y.closed = false →
      (d.rowFull x r = true → Runs (.rowComplete g r fails) d (d.programParity g r fails).freeSweep) ∧
      (d.rowFull x r = false → y.first + msUnits 1 ≤ d.time → Runs (.rowTimeout g r fails) d (d.closeRow g r fails).freeSweep)) ∧
    (x.st = 1 → x.closedAt + msUnits 100 ≤ d.time → x.members.any (fun m => (d.seg (8192 * m.1 + m.2)).state = 4) = true →
      Runs (.settleEnd g) d (d.settleGroup g x)) ∧
    (x.st = 1 → x.toVerify = [] → x.members.all (fun m => (d.seg (8192 * m.1 + m.2)).state = 5 || !d.live m.1) = true →
      Runs (.parityRelease g) d (d.releaseParity g x)) ∧
    (∀ psa ev, (Instr.verifyReadDone psa ev).wf = true → d.groups.any (fun g => g.st = 1 && g.toVerify.contains psa) = true →
      (d.seg (psaSeg psa)).state = 5 ∨ (d.seg (psaSeg psa)).state = 9 →
      (∀ s e ev', d.decode psa true ev = (.got s, e, ev') →
        ((e.pt (psaPoint psa)).lastBch ≤ Nat.min 16 (d.f OVL_VERIFY.MARGIN_BITS) → (e.verifyDone [psa]).blocked = none →
          Runs (.verifyReadDone psa ev) d (e.verifyDone [psa])) ∧
        (Nat.min 16 (d.f OVL_VERIFY.MARGIN_BITS) < (e.pt (psaPoint psa)).lastBch → (e.verifyMove psa ev').blocked = none →
          Runs (.verifyReadDone psa ev) d (e.verifyMove psa ev'))) ∧
      ((d.verifyRead psa ev).blocked = none → Runs (.verifyReadDone psa ev) d (d.verifyRead psa ev)) ∧
      ((d.verifyRead psa ev).blocked ≠ none → Runs (.verifyReadDone psa ev) d d))

/-! ### Wear, drift, checkpoints (chapters 04, 06, 07) -/

/-- R57, R68, R89 to R91, R177, R178, R183, R196, R197, R199, R207, R673: clears, collection, levelling and pools of a live Point, each when
its condition holds, and nothing where it does not. One clear at a time on a die, the free count of sub-pulses, the choice between equal
victims and the count of collecting segments are the model's choices (log entries 24, 33 and 170). -/
def Obligations.Wear : Prop :=
  ∀ (n : Nat) (d : Dev), n < 16 → d.live n = true →
    (∀ sg, d.noClear = false → d.countListed n (fun _ x => x.state == 1) = 0 → d.oldestDirty n = some sg →
      Runs (.clearSchedule n) d ((d.startClear sg).queueTask n { kind := 4, arg := sg })) ∧
    (d.noClear = true ∨ 0 < d.countListed n (fun _ x => x.state == 1) ∨ d.oldestDirty n = none → Runs (.clearSchedule n) d d) ∧
    (∀ sg retired, (Instr.segmentClearDone sg retired).wf = true → sg / 8192 = n →
      ((d.seg sg).state = 1 → d.noClear = false → d.clearWaits sg = false → Runs (.segmentClearDone sg retired) d (d.clearDone sg retired)) ∧
      ((d.seg sg).state ≠ 1 ∨ d.noClear = true ∨ d.clearWaits sg = true → Runs (.segmentClearDone sg retired) d d)) ∧
    (d.clearedData n + d.awaiting n < d.f (PNT_CLRPOOL.TARGET n) → d.countListed n (fun _ x => x.state == 7) < 4 →
      Runs (.collectionStart n) d (match d.victim n with | some sg => d.collect sg | none => d)) ∧
    (d.f (PNT_CLRPOOL.TARGET n) ≤ d.clearedData n + d.awaiting n ∨ 4 ≤ d.countListed n (fun _ x => x.state == 7) →
      Runs (.collectionStart n) d d) ∧
    (∀ sg, (∀ g, (d.pt n).staticSeg = some g → (d.seg g).state ≠ 7) → d.f (WLV_ROOT.MIN n) + d.f WLV_CTL.SPREAD < d.f (WLV_ROOT.MAX n) →
      d.pickSeg false (((d.listedSegs n).filter (fun x => x.2.state = 6 && x.2.pool = 0)).map (·.1)) = some sg →
      Runs (.staticLevelling n) d (((d.collect sg).cnt WLV_STAT.STATIC).modPt n (fun p => { p with staticSeg := some sg }))) ∧
    (d.f (WLV_ROOT.MAX n) ≤ d.f (WLV_ROOT.MIN n) + d.f WLV_CTL.SPREAD → Runs (.staticLevelling n) d d) ∧
    (∀ x y, (∀ t, (d.pt n).exchanged = some t → t + secUnits 10 ≤ d.time) → (d.poolWear n 1).2 ≠ 0 → (d.poolWear n 0).2 ≠ 0 →
      ((d.poolWear n 0).1 + d.f WLV_CTL.SPREAD * (d.poolWear n 0).2) * (d.poolWear n 1).2 < (d.poolWear n 1).1 * (d.poolWear n 0).2 →
      d.pickSeg true ((d.clearedList n 1).filter (fun sg => d.halfOff sg == (false, false))) = some x →
      d.pickSeg false ((d.clearedList n 0).filter (fun sg => d.halfOff sg == (false, false))) = some y →
      Runs (.poolWearExchange n) d (((d.setPool x 0).setPool y 1).modPt n (fun p => { p with exchanged := some d.time }))) ∧
    ((d.poolWear n 1).1 * (d.poolWear n 0).2 ≤ ((d.poolWear n 0).1 + d.f WLV_CTL.SPREAD * (d.poolWear n 0).2) * (d.poolWear n 1).2 →
      Runs (.poolWearExchange n) d d) ∧
    (∀ sg, d.share 4096 n = d.metaPool n + 1 → d.pickSeg false (d.clearedList n 0) = some sg → Runs (.metadataPoolTopup n) d (d.setPool sg 1)) ∧
    (d.share 4096 n ≤ d.metaPool n → Runs (.metadataPoolTopup n) d d) ∧
    Runs .spareRecompute d (if d.capDue then d.recomputeSpare else d) ∧ Runs .berthLow d d.berthCheck ∧
    (∀ c, c < 32 →
      ((d.pt n).failedCells.contains c = false → (∃ t, t ∈ d.cellOps n c ∧ t + usUnits 50 ≤ d.time) → d.dead n = false →
        Runs (.stuckCell n c) d ((d.post { code := 0x014, level := 0, point := n, cell := c }).failCell n c)) ∧
      ((∀ t, t ∈ d.cellOps n c → d.time < t + usUnits 50) → Runs (.stuckCell n c) d d))

/-- R110, R113, R116, R120, R121, R123 to R126, R554: the drift clock of every die grows by AF(T) at the end of each second that can be
evaluated, apart until the sequencer resumes; the group of a segment that is 4,096 s old; the margin sweep; a refresh, of which a Point
holds at most 8; a lodestone sample. R232 to R236, R239: a checkpoint is cut for a cause that stands, once a cut may be made, but not in
Doze; it completes when the supply allows the locators to be written, and is put off, refused and counted, where it does not (R620). How T
is rounded is the model's choice (log entry 142), and so are the details of a sample (log entry 168). -/
def Obligations.DriftAndCheckpoints : Prop :=
  (
  ∀ d : Dev,
    (d.phase ≠ .watchOff → d.phase ≠ .dormant → secUnits (d.wch.eclkSecs + 1) ≤ d.time → d.eclkWaits d.wch.eclkSecs = false →
      RunsTo .eclkUpdate d (fun t =>
        t.wch.eclkSecs = d.wch.eclkSecs + 1 ∧ t.sectors = d.sectors ∧ t.lbk = d.lbk ∧ t.out = d.out ∧
        (d.seqOn = true → regsWf d.regs = true → ∀ n, n < 16 → t.reg (0x3880 + 8 * n) = (d.eclk n + accel (d.dieT n d.wch.eclkSecs)) % 2 ^ 64) ∧
        (d.seqOn = false → t.regs = d.regs ∧
          ∀ n, n < 16 → n < d.wch.eclkApart.length → t.wch.eclkApart.getD n 0 = d.wch.eclkApart.getD n 0 + accel (d.dieT n d.wch.eclkSecs)))) ∧
    (d.phase = .watchOff ∨ d.phase = .dormant ∨ d.time < secUnits (d.wch.eclkSecs + 1) ∨ d.eclkWaits d.wch.eclkSecs = true → Runs .eclkUpdate d d) ∧
    (∀ sg, (Instr.segmentAgeClose sg).wf = true →
      let due := (d.seg sg).state = 3 ∧ (d.seg sg).holdsData = true ∧ ((d.seg sg).birth + 4096) * 65536 ≤ d.eclk (sg / 8192)
      (due → Runs (.segmentAgeClose sg) d (d.groupClose (d.seg sg).group 1 true)) ∧ (¬ due → Runs (.segmentAgeClose sg) d d)) ∧
    Runs .marginSweep d
      ((List.range 16).foldl (fun c n => c.setF (DRF_STAT.LOW_MARGIN n) (c.countListed n (fun _ x => x.lowMargin))) ((d.segs.map (·.1)).foldl Dev.sweepSeg d)) ∧
    (∀ sg, (Instr.refreshQueue sg).wf = true →
      let may := (d.seg sg).refreshDue = true ∧ (d.seg sg).state = 6 ∧ (d.pt (sg / 8192)).tasks.countP (fun t => t.kind == 2) < 8
      (may → Runs (.refreshQueue sg) d ((d.setState sg 7).queueTask (sg / 8192) { kind := 2, arg := sg, urgent := (d.seg sg).lowMargin })) ∧
      (¬ may → Runs (.refreshQueue sg) d d)) ∧
    (∀ n g els, (Instr.lodestoneSample n g els).wf = true →
      (∀ sg, d.sampleDue n g = true → d.dieGone n = false →
        nextFrom (d.groupData n g) (8192 * n + 64 * g + (d.phi (8192 * n + 64 * g)).nextSeg) = some sg →
        Runs (.lodestoneSample n g els) d (d.sampleLodestone n g sg (d.phi (8192 * n + 64 * g)) els)) ∧
      (d.sampleDue n g = false ∨ d.dieGone n = true ∨ d.groupData n g = [] → Runs (.lodestoneSample n g els) d d))) ∧
  (
  ∀ (d : Dev) (c : Snap),
    (∀ cause, (Instr.checkpointStart cause).wf = true →
      (d.phase ≠ .doze → d.cutReady = true → d.ckptCause cause = true → Runs (.checkpointStart cause) d d.cut) ∧
      (d.phase = .doze ∨ d.cutReady = false ∨ d.ckptCause cause = false → Runs (.checkpointStart cause) d d)) ∧
    (d.saving = none → Runs .checkpointComplete d d) ∧
    (d.saving = some c →
      (d.ckptPrograms = false → Runs .checkpointComplete d d) ∧
      (d.ckptPrograms = true → 8000 ≤ d.pwr.vsys → 3200 ≤ d.pwr.wcap → Runs .checkpointComplete d (d.ckptDone c)) ∧
      (d.ckptPrograms = true → (d.pwr.vsys < 8000 ∨ d.pwr.wcap < 3200) →
        Runs .checkpointComplete d ((d.cnt LBK_STAT.REFUSED).post0 0x112))))

/-! ### Die links and Points (chapters 02, 03) -/

/-- R99 to R105, R677: a burst that fails is sent again, at most three times, with event 0x023 at the first; then a quick retrain is due,
with cause 1 for a read, 2 for a program, which is placed elsewhere, and 3 without an acknowledgement; the ninth within a second makes the
die dead, as does a link that does not train; a retrain that ends lets the reads that waited for it go on (R676). Table 2.7, R74, R68: a
Point whose die is dead dies; it is re-homed once its holding is done; its pages are rebuilt; a quadrant whose crossbar fails its self-check
is lost. Event 0x023 once per burst error is the model's reading (log entry 28). -/
def Obligations.LinksAndPointDeath : Prop :=
  (
  ∀ (n : Nat) (d : Dev), n < 16 →
    let tried (e : Dev) (k : Nat) : Dev := if k = 1 then (e.resend n).post { code := 0x023, level := 1, point := n } else e.resend n
    (∀ rd k, d.linkUp n = true → 1 ≤ k → k < 4 →
      Runs (.burstCrcFail n rd k) d (tried d k) ∧ Runs (.ackTimeout n k) d (tried (d.cnt (PNT_LINKERR.TIMEOUTS n)) k)) ∧
    (d.linkUp n = true →
      Runs (.burstCrcFail n true 4) d ((d.cnt (PNT_LINKERR.BURST_FAIL n)).needRetrain n 1) ∧
      Runs (.burstCrcFail n false 4) d (((d.cnt (PNT_LINKERR.BURST_FAIL n)).needRetrain n 2).moveOff (fun p => psaPoint p = n) false) ∧
      Runs (.ackTimeout n 4) d (((d.cnt (PNT_LINKERR.TIMEOUTS n)).cnt (PNT_LINKERR.BURST_FAIL n)).needRetrain n 3)) ∧
    (∀ cause, d.linkUp n = true →
      let recent := (d.pt n).retrains.filter (fun t => decide (d.time - t < secUnits 1))
      (8 ≤ recent.length → d.needRetrain n cause = d.declareDead n 6) ∧
      (recent.length < 8 → d.needRetrain n cause = d.modPt n (fun p => { p with retrains := recent ++ [d.time], retrainDue := some cause }))) ∧
    (∀ cause, (Instr.quickRetrain n cause).wf = true →
      (d.f (PNT_LINK.STATE n) = 2 → (d.pt n).retrainDue = some cause → Runs (.quickRetrain n cause) d (d.startRetrain n cause)) ∧
      ((d.pt n).retrainDue ≠ some cause → Runs (.quickRetrain n cause) d d)) ∧
    (d.f (PNT_LINK.STATE n) = 3 →
      Runs (.quickRetrainDone n true) d ((d.setF (PNT_LINK.STATE n) 2).releaseFront n) ∧
      Runs (.quickRetrainDone n false) d ((d.declareDead n 4).releaseFront n)) ∧
    (d.f (PNT_LINK.STATE n) = 1 →
      Runs (.fullTrainingDone n true) d ((d.setF (PNT_LINK.STATE n) 2).modPt n (fun p => { p with trainFails := 0 })) ∧
      ((d.pt n).trainFails = 0 → Runs (.fullTrainingDone n false) d (d.modPt n (fun p => { p with trainFails := 1 }))) ∧
      ((d.pt n).trainFails ≠ 0 → Runs (.fullTrainingDone n false) d (d.declareDead n 5))) ∧
    (d.dead n = false → d.f (PNT_LINK.STATE n) ≠ 0 → d.f (PNT_LINK.STATE n) ≠ 4 → Runs (.dieFatalStatus n) d (d.declareDead n 7)) ∧
    (∀ rd k ok, 1 ≤ k → k ≤ 4 → d.linkUp n = false → d.f (PNT_LINK.STATE n) = 4 →
      Runs (.burstCrcFail n rd k) d d ∧ Runs (.ackTimeout n k) d d ∧ Runs (.quickRetrainDone n ok) d d ∧ Runs (.fullTrainingDone n ok) d d ∧
      Runs (.dieFatalStatus n) d d)) ∧
  (
  ∀ (n : Nat) (d : Dev), n < 16 →
    (∀ cause, (Instr.pointDeath n cause).wf = true →
      let dies := d.live n = true ∧ d.f (PNT_LINK.STATE n) = 4 ∧ d.f (PNT_LINK.LAST_CAUSE n) = cause
      (dies → Runs (.pointDeath n cause) d (d.pointDies n)) ∧ (¬ dies → Runs (.pointDeath n cause) d d)) ∧
    (∀ ok, Runs (.rehomingComplete n ok) d (if d.f (PNT_STAT.STATE n) = 1 then d.rehomed n ok else d)) ∧
    (∀ pg ev, (Instr.deadDieRecovery n pg ev).wf = true →
      (d.dead n = true → (d.recoverPage n pg ev).blocked = none → Runs (.deadDieRecovery n pg ev) d (d.recoverPage n pg ev)) ∧
      (d.dead n = false ∨ (d.recoverPage n pg ev).blocked ≠ none → Runs (.deadDieRecovery n pg ev) d d)) ∧
    (∀ q, q < 4 →
      let e (ok : Bool) := d.modQuad q (fun x => { x with checks := satAdd 32 x.checks 1, checkFails := satAdd 32 x.checkFails (b2n !ok) })
      Runs (.crossbarSelfCheck q true) d (e true) ∧
      Runs (.crossbarSelfCheck q false) d (((e false).post { code := 0x033, level := 2, point := 0x80 + q }).quadLost q)))

/-! ### Power (chapter 14) -/

/-- R511, R515, R524, R527, R592: samples of VIN, the brownout after 20 µs below VBO, the end of a flush, the supply's return in every
phase, the overvoltage warning, and the bank: when a test is due, by each of its causes, what it finds, and its voltage falling. R525, R528,
Table 14.5: the flush programs its image and answers with 0x0E1, or, cut, with 0x0E2; Commit then ends in an abbreviated restart when the
supply has returned, or in Rails down, with a dirty shutdown counted where the flush was cut. Rounding in the bank test and the free bank
voltage are the model's choices (log entries 70 and 79). -/
def Obligations.SupplyAndFlush : Prop :=
  (
  ∀ d : Dev,
    (∀ vin, (Instr.brownoutWatch vin).wf = true →
      Runs (.brownoutWatch vin) d
        (let e := ({ d with pwr := { d.pwr with vin := vin } } : Dev).settleVsys
         let g := if vin ≤ 42000 then e.setF PWR_STAT.OV 0 else e
         if vin < 100 * g.f PWR_THR.VBO then { g with pwr := { g.pwr with watch := true } } else g)) ∧
    Runs .brownout d (if d.pwr.vin < 100 * d.f PWR_THR.VBO then d.detect 0 else d) ∧
    (42000 < d.pwr.vin → d.f PWR_STAT.OV = 0 → Runs .vinOvervoltage d ((d.setF PWR_STAT.OV 1).post0 0x0E9)) ∧
    (d.pwr.vin ≤ 42000 ∨ d.f PWR_STAT.OV ≠ 0 → Runs .vinOvervoltage d d) ∧
    (d.vinGood = false → Runs .supplyReturn d d) ∧
    (d.vinGood = true →
      (d.phase = .flush ∨ d.phase = .commit →
        Runs .supplyReturn d (if d.pwr.returned then d else ({ d with pwr := { d.pwr with returned := true } } : Dev).cnt PWR_CNT.RETURNS)) ∧
      (d.phase = .railsDown → Runs .supplyReturn d (if d.pwr.down = 1 ∨ d.pwr.watch = true then (d.cnt PWR_CNT.RETURNS).latchOn else d)) ∧
      (d.phase = .dormant → Runs .supplyReturn d (if d.pwr.down = 1 ∧ d.f PWR_STAT.OFF_LATCH = 0 then d.onRequest else d)) ∧
      (d.phase = .active →
        Runs .supplyReturn d (if d.pwr.watch then ({ d with pwr := { d.pwr with watch := false } } : Dev).cnt PWR_CNT.RETURNS else d))) ∧
    (∀ cut pos, (Instr.flushEnd cut pos).wf = true → Runs (.flushEnd cut pos) d (if d.phase = .flush then d.endFlush cut pos else d)) ∧
    (d.pwr.hbGate = true → d.railsOn = 6 → d.pwr.bankDone = false →
      Runs (.bankTestDue 0) d (({ d with pwr := { d.pwr with bankDue := true, bank := d.vhold } } : Dev).settleVsys)) ∧
    (d.pwr.bankDone = true →
      (d.pwr.bankTestAt + secUnits 86400 ≤ d.time → Runs (.bankTestDue 1) d { d with pwr := { d.pwr with bankDue := true } }) ∧
      (d.f PWR_BANK.PASS = 0 → d.pwr.bankTestAt + secUnits 60 ≤ d.time → Runs (.bankTestDue 2) d { d with pwr := { d.pwr with bankDue := true } })) ∧
    (d.f PWR_CTL.BANKTEST ≠ 0 → Runs (.bankTestDue 3) d { d with pwr := { d.pwr with bankDue := true } }) ∧
    (d.pwr.hbGate = true → d.pwr.bank ≠ d.vhold →
      Runs (.bankTestDue 4) d (({ d with pwr := { d.pwr with bankDue := true, bank := d.vhold } } : Dev).settleVsys)) ∧
    (∀ v1 t, (Instr.bankTest v1 t).wf = true →
      Runs (.bankTest v1 t) d (if d.pwr.bankDue = true ∧ d.mayTest = true then d.bankTested v1 t else d)) ∧
    (d.pwr.hbGate = true → d.pwr.watch = false → d.pwr.bankDone = true →
      Runs .bankVoltageLow d ((({ d with pwr := { d.pwr with bankTestAt := d.time } } : Dev).setF PWR_BANK.PASS 0).holdupLost 0x106)) ∧
    (d.pwr.hbGate = false ∨ d.pwr.watch = true ∨ d.pwr.bankDone = false → Runs .bankVoltageLow d d)) ∧
  (
  ∀ d : Dev,
    (∀ cut pos, (d.endFlush cut pos).phase = .commit ∧ (d.endFlush cut pos).pwr.outcome = b2n cut) ∧
    (d.phase ≠ .commit → Runs .commitEnd d d) ∧
    (d.phase = .commit →
      let e := (if d.pwr.outcome = 3 then d.deckDirect else d).commitRecs
      (e.pwr.outcome ≠ 3 → e.pwr.returned = true → (e.pwr.detected.getD (0, 0, 0)).2.1 ≠ 3 → e.pwr.down ≠ 3 → Runs .commitEnd d e.resumeActive) ∧
      (e.pwr.outcome = 3 ∨ e.pwr.returned = false ∨ (e.pwr.detected.getD (0, 0, 0)).2.1 = 3 ∨ e.pwr.down = 3 →
        Runs .commitEnd d
          (let f := if e.pwr.outcome = 1 ∧ e.pwr.effAtFlush.testBit 7 = true then e.dirtyShutdown else e
           let g := if f.pwr.returned = true ∧ f.f PWR_STAT.OFF_LATCH = 0 then f.latchOn else f
           g.beginDown g.pwr.down))))

/-- R518 to R522, R528, R523, R539: the rail steps and their end, a step that fails, a rail fault in every phase whose rails are on, the
discharge of a rail, in time or not, Dormant with its minimum off time of 656 ticks, the start that a latched on request makes once it has
passed, and the steps of an orderly shut-down. What a failed attempt and a fault in Flush do are the model's reading (log entries 77 and
78); the VS of a discharge that takes too long is a free value (log entry 176). -/
def Obligations.Rails : Prop :=
  ∀ (k : Nat) (d : Dev), k < 6 →
    (d.phase = .powerUp → d.pwr.ramp = none → d.railsOn = k → k < d.stepBound → Runs (.railStep k) d (d.railEnable k)) ∧
    (d.phase ≠ .powerUp ∨ d.railsOn ≠ k ∨ d.stepBound ≤ k → Runs (.railStep k) d d) ∧
    (∀ vs, (Instr.railStepDone k vs).wf = true → d.phase = .powerUp → d.pwr.ramp.map (·.1) = some k →
      let e := (d.setF PWR_STAT.PG (d.f PWR_STAT.PG ||| 2 ^ k)).setF (PWR_RAIL.VS k) vs
      let g : Dev := { e with pwr := { e.pwr with ramp := none } }
      (vs < (vsWindow k).1 ∨ (vsWindow k).2 < vs → Runs (.railStepDone k vs) d (e.stepFail k 3)) ∧
      ((vsWindow k).1 ≤ vs → vs ≤ (vsWindow k).2 →
        (d.pwr.downAfterStep = true → Runs (.railStepDone k vs) d (g.beginDown d.pwr.down)) ∧
        (d.pwr.downAfterStep = false →
          Runs (.railStepDone k vs) d (if k = 5 ∨ (k = 3 ∧ g.noChart = true ∧ g.wch.startKind ≠ 2) then g.railsUp else g)))) ∧
    (∀ cause, cause = 1 ∨ cause = 2 ∨ cause = 3 →
      Runs (.railStepFail k cause) d (if d.phase = .powerUp ∧ d.pwr.ramp.map (·.1) = some k then d.stepFail k cause else d)) ∧
    (∀ cause vs, (Instr.railFault k cause vs).wf = true → cause = 1 ∨ cause = 2 ∨ cause = 3 → d.pwr.enables.testBit k = true →
      d.phase ≠ .powerUp → d.phase ≠ .railsDown → Runs (.railFault k cause vs) d (d.railFaulted k cause vs)) ∧
    (d.phase = .railsDown → d.railsOn = k →
      let off (e : Dev) : Dev := if k = 0 then e else e.railDisable (k - 1)
      Runs (.railDischarged k false) d (off d) ∧
      (let e := (d.setF (PWR_RAIL.DIS_TO k) 1).draw
       Runs (.railDischarged k true) d
         (off ((if 8000 ≤ e.2.pwr.vsys ∧ 3200 ≤ e.2.pwr.wcap then e.2.railRec k 5 e.1.toNat else e.2.railCount k 2).post0 0x0E6)))) ∧
    Runs .railsDownComplete d (if d.phase = .railsDown ∧ d.pwr.enables = 0 then d.reachDormant else d) ∧
    (d.f THM_STAT.THERMAL = 0 → d.reachDormant.phase = .dormant ∧ d.reachDormant.pwr.minOffEnd = d.wch.ticks + 656) ∧
    (d.phase = .dormant → d.pwr.minOffEnd ≤ d.wch.ticks → d.f PWR_STAT.ON_LATCH ≠ 0 → d.pwr.locked = false →
      Runs .minimumOffTimeEnd d d.startOption) ∧
    (d.phase ≠ .dormant ∨ d.wch.ticks < d.pwr.minOffEnd ∨ d.f PWR_STAT.ON_LATCH = 0 ∨ d.pwr.locked = true → Runs .minimumOffTimeEnd d d) ∧
    (∀ step, (Instr.orderlyShutdown step).wf = true →
      Runs (.orderlyShutdown step) d (if d.phase = .shutdown ∧ step = d.pwr.offStep + 1 then d.orderlyStep step else d))

/-- R531 to R536, Table 14.8: what an addressed slave does with each frame of the SEQ bus in every phase: DOWN, FLUSH, FIX, STATUS, STEP
(an on request in Dormant, a step admitted in power-up), CHART with its blocks, its end and its check; the line flush, the orphan; and the
master's side: discovery, the group poll, a frame that is not acknowledged, at most three times again, and frames that SEQ_CMD makes. That
an absent slave is not failed by discovery is the model's reading (log entry 80). -/
def Obligations.SeqBus : Prop :=
  ∀ d : Dev,
    Runs .down d (d.seqFrame true (fun d => d.offRequest true)) ∧ Runs .flush d (d.seqFrame true (fun d => d.detect 2)) ∧
    (∀ arg, (Instr.seqFix arg).wf = true → Runs (.seqFix arg) d (d.seqFrame d.fixOn (fun d => (d.setF FIX_SRC.SEQARG arg).fix 7))) ∧
    Runs .status d (d.seqFrame true (fun d => d.send (.seq ((leBytes 2 d.seqStatus).reverse ++ [crc8 (leBytes 2 d.seqStatus).reverse])))) ∧
    (∀ k, (Instr.step k).wf = true →
      (d.phase = .dormant → Runs (.step k) d (d.seqFrame (k == 1) (fun d =>
        let e : Dev := { d with seqb := { d.seqb with step := Nat.max k d.seqb.step } }
        if e.phase == .dormant then (e.wakePend 6).onRequest else e))) ∧
      (d.phase = .powerUp → d.seqSlave = true → d.seqDaLow = false → 1 ≤ k → k ≤ 6 → k ≤ d.railsOn + 1 →
        Runs (.step k) d ({ d.seqAck with seqb := { d.seqAck.seqb with step := Nat.max k d.seqAck.seqb.step } } : Dev)) ∧
      (d.phase ≠ .dormant → d.phase ≠ .powerUp → Runs (.step k) d d)) ∧
    (∀ blk data crc, (Instr.chart blk data crc).wf = true → d.seqSlave = true → d.phase = .becalmed → d.f ORD_CHART.CAUSE = 5 →
      (blk ≤ 511 → crc16Link data ≠ crc →
        Runs (.chart blk data crc) d (({ d with seqb := { d.seqb with chartErr := true } } : Dev).cnt SEQ_ERR.CRC_ERR)) ∧
      (blk ≤ 511 → crc16Link data = crc → (d.lbkWrite (slotSize * d.seqSlot + 256 * blk) data).1 = true →
        let w := (d.lbkWrite (slotSize * d.seqSlot + 256 * blk) data).2
        Runs (.chart blk data crc) d
          ({ w with chart := { w.chart with written := listSet w.chart.written d.seqSlot true }, seqb := { w.seqb with chartErr := false } } : Dev).seqAck) ∧
      (blk = 0xFFFF →
        Runs (.chart blk data crc) d
          (match d.seqAck.chooseChart.1 with
           | some sl => ((({ d.seqAck with seqb := { d.seqAck.seqb with chartErr := false } } : Dev).setF SEQ_STAT.CHART_DONE 1).endBecalmed sl 2)
           | none => { d.seqAck with seqb := { d.seqAck.seqb with chartErr := true } }))) ∧
    Runs .lineFlush d (if d.seqDaLow = true ∨ d.phase = .watchOff then d else (d.setF SEQ_STAT.LINE_FLUSH 1).detect 1) ∧
    (d.seqSlave = true → d.phase = .powerUp → d.seqb.heard = false → d.seqb.orphaned = false → d.seqb.optEnd + 32768 ≤ d.wch.ticks →
      Runs .seqOrphan d ((({ d with seqb := { d.seqb with orphaned := true } } : Dev).setF SEQ_STAT.ORPHAN 1).post0 0x0EB)) ∧
    (d.seqSlave = false ∨ d.seqb.heard = true ∨ d.wch.ticks < d.seqb.optEnd + 32768 → Runs .seqOrphan d d) ∧
    (∀ addr cmd, (Instr.seqNoack addr cmd).wf = true → d.f SEQ_CFG.MASTER ≠ 0 → addr ≠ 0 → (d.f SEQ_STAT.FAILED).testBit addr = false →
      let again (n : Nat) : Dev := ({ d with seqb := { d.seqb with pending := some (addr, cmd, 0), tries := n } } : Dev).cnt SEQ_ERR.RETRIES
      (d.seqb.pending = none → Runs (.seqNoack addr cmd) d (again 1)) ∧
      (∀ a c x, d.seqb.pending = some (a, c, x) →
        (a ≠ addr ∨ c ≠ cmd → Runs (.seqNoack addr cmd) d (again 1)) ∧
        (a = addr → c = cmd → d.seqb.tries < 3 → Runs (.seqNoack addr cmd) d (again (d.seqb.tries + 1))) ∧
        (a = addr → c = cmd → 3 ≤ d.seqb.tries → Runs (.seqNoack addr cmd) d (d.seqFail addr)))) ∧
    (∀ resp, (Instr.seqDiscovery resp).wf = true → d.f SEQ_CFG.MASTER ≠ 0 → d.phase = .powerUp → d.railsOn = 0 → d.seqb.step = 0 →
      Runs (.seqDiscovery resp) d (d.discover resp)) ∧
    (∀ resp, (Instr.seqGroupPoll resp).wf = true → d.f SEQ_CFG.MASTER ≠ 0 → d.phase = .powerUp → d.seqb.step ≠ 0 →
      Runs (.seqGroupPoll resp) d (d.pollGroup resp)) ∧
    (∀ by_ addr arg, (Instr.seqCmdFix by_ addr arg).wf = true → d.mayWrite by_ = true →
      Runs (.seqCmdFix by_ addr arg) d (if d.seqMaySend addr then d.seqSend addr 4 arg else d)) ∧
    (∀ by_ addr resp, (Instr.seqCmdStatus by_ addr resp).wf = true → d.mayWrite by_ = true →
      Runs (.seqCmdStatus by_ addr resp) d
        (if !d.seqMaySend addr then d
         else if addr = 0xAF then d.seqSend addr 5 0
         else match resp with
           | some w => ((d.seqSend addr 5 0).seqResp (addr - 0xA0) w).seqChart (addr - 0xA0) w
           | none => (d.seqSend addr 5 0).seqFail (addr - 0xA0)))

/-! ### The Watch domain, starts, clocks, resets (chapter 15) -/

/-- R510, R543 to R545, R566, R594, R658: the Watch domain starts at 4.5 V with its registers at their reset values, and stops with nothing
but what needs no power; the crystal, taken into use and failing, in use or not found in time; the RESET_N pin, which ends a lock-out; the
chip watchdog after 50 ms; a device reset that was accepted; the heartbeat in every phase whose sequencer runs. R501, R552 to R555, R558 to
R562: wakes and off requests after their debounce, Doze and its ends, the pad hold, the gating of the clocks by QUIET. When the conditions
of Doze have held, and what a paused watchdog keeps, are the model's reading (log entries 90 and 91). -/
def Obligations.WatchDomain : Prop :=
  (
  ∀ d : Dev,
    (d.phase = .watchOff → 4500 ≤ d.pwr.vin →
      RunsTo .watchPowerOn d (fun t => t.phase = .optLoad ∧ t.time = 0 ∧ t.wch.ticks = 0 ∧ t.sectors = d.sectors ∧ t.lbk = d.lbk ∧ t.fuse = d.fuse ∧
        t.f PWR_THR.VBO = 56 ∧ t.f FIX_NUM.NUMBER = 0)) ∧
    (d.phase ≠ .watchOff ∨ d.pwr.vin < 4500 → Runs .watchPowerOn d d) ∧
    Runs .watchStop d (if d.phase ≠ .watchOff ∧ d.pwr.vin < 4500 then { d.powerOff with phase := .watchOff } else d) ∧
    (d.phase ≠ .watchOff → d.f WCH_STAT.XTAL = 0 → d.wch.crystalDone = false → 16384 ≤ d.wch.ticks → d.wch.ticks < 65536 →
      Runs .crystalSwitch d (d.setF WCH_STAT.XTAL 1)) ∧
    (d.phase = .watchOff ∨ d.f WCH_STAT.XTAL ≠ 0 ∨ d.wch.crystalDone = true ∨ d.wch.ticks < 16384 → Runs .crystalSwitch d d) ∧
    (let failed : Dev := (((({ d with wch := { d.wch with crystalDone := true } } : Dev).setF WCH_STAT.XTAL 0).setF WCH_STAT.XTAL_FAIL 1).post0 0x0F1)
     d.phase ≠ .watchOff →
      (d.f WCH_STAT.XTAL ≠ 0 → Runs (.crystalFail 0) d failed ∧ Runs (.crystalFail 1) d d) ∧
      (d.f WCH_STAT.XTAL = 0 → Runs (.crystalFail 0) d d) ∧
      (d.f WCH_STAT.XTAL = 0 → d.wch.crystalDone = false → 65536 ≤ d.wch.ticks → Runs (.crystalFail 1) d failed)) ∧
    (d.wch.resetPin = true → Runs .resetN d d) ∧
    (d.wch.resetPin = false →
      let e : Dev := { d with wch := { d.wch with resetPin := true } }
      (d.phase = .watchOff → Runs .resetN d e) ∧
      (d.phase ≠ .watchOff →
        Runs .resetN d
          ((({ e with pwr := { e.pwr with locked := false, attempts := if d.pwr.locked then 0 else d.pwr.attempts } } : Dev).wakePend 8).resetAccept 2))) ∧
    Runs .resetNRelease d { d with wch := { d.wch with resetPin := false } } ∧
    (d.phase = .active → d.wch.maint = false → d.wch.wdogHeld = none →
      Runs .chipWatchdog d (if d.wch.wdogAt + msUnits 50 ≤ d.time then d.resetAccept 3 else d)) ∧
    (∀ code, (Instr.deviceReset code).wf = true → Runs (.deviceReset code) d (if d.wch.resetCode = code ∧ code ≠ 0 then d.deviceReset else d)) ∧
    (∀ cut pos, (Instr.resetFlushEnd cut pos).wf = true →
      Runs (.resetFlushEnd cut pos) d (if d.phase = .resetFlush ∧ cut = false then d.endResetFlush else d)) ∧
    (d.phase = .active ∨ d.phase = .becalmed ∨ d.phase = .shutdown ∨ d.phase = .dozeEntry →
      let r := (d.safeLow.resetAccept 4).deviceReset
      Runs .heartbeatTimeout d { r with pwr := { r.pwr with deferred := r.pwr.deferred ++ [{ code := 0x103, cycle := d.cycle, csn := d.csn }] } }) ∧
    (d.phase = .dormant ∨ d.phase = .doze ∨ d.phase = .watchOff → Runs .heartbeatTimeout d d)) ∧
  (
  ∀ (i : Nat) (d : Dev), i < 8 →
    (∀ since, (Instr.wakeEdge i since).wf = true → d.f (WCH_WAKECFG.EN i) ≠ 0 → d.f (WCH_WAKECFG.LEVEL i) = 0 →
      (since + d.f (WCH_WAKECFG.DEB i) ≤ d.wch.ticks → d.wch.entryTick = 0 ∨ d.inWindow (since + d.f (WCH_WAKECFG.DEB i)) = false →
        Runs (.wakeEdge i since) d (d.wake i true)) ∧
      (d.wch.ticks < since + d.f (WCH_WAKECFG.DEB i) → Runs (.wakeEdge i since) d d)) ∧
    (∀ since, (Instr.wakeLevel i since).wf = true → d.f (WCH_WAKECFG.EN i) ≠ 0 → d.f (WCH_WAKECFG.LEVEL i) ≠ 0 →
      Runs (.wakeLevel i since) d (if since + d.f (WCH_WAKECFG.DEB i) ≤ d.wch.ticks then d.wake i false else d)) ∧
    (∀ since, (Instr.wakeReleaseOff i since).wf = true → d.f (WCH_WAKECFG.EN i) ≠ 0 → d.f (WCH_WAKECFG.LEVEL i) ≠ 0 →
      (d.f (WCH_WAKECFG.OFFREQ i) ≠ 0 → since + d.f (WCH_WAKECFG.DEB i) ≤ d.wch.ticks → d.phase = .active ∨ d.phase = .doze ∨ d.phase = .dozeEntry →
        Runs (.wakeReleaseOff i since) d (d.offRequest false)) ∧
      (d.f (WCH_WAKECFG.OFFREQ i) = 0 ∨ d.wch.ticks < since + d.f (WCH_WAKECFG.DEB i) → Runs (.wakeReleaseOff i since) d d)) ∧
    (∀ since, (Instr.wakeEdge i since).wf = true → d.f (WCH_WAKECFG.EN i) = 0 →
      Runs (.wakeEdge i since) d d ∧ Runs (.wakeLevel i since) d d ∧ Runs (.wakeReleaseOff i since) d d) ∧
    Runs .wchAlarm d
      (if d.phase ≠ .watchOff ∧ d.f WCH_ALARM.EN ≠ 0 ∧ d.f WCH_ALARM.TICK ≤ d.wch.ticks then (d.orF WCH_WAKESTAT.PEND 128).wake 7 false else d) ∧
    (d.phase = .active → d.f WCH_DOZECFG.EN ≠ 0 → d.quiet = true →
      (d.wch.eligFrom + 65536 * Nat.max 1 (d.f WCH_DOZECFG.IDLE) ≤ d.time →
        RunsTo .dozeEntry d (fun t => t.phase = .dozeEntry ∧ t.wch.gated = false ∧ t.regs = d.regs ∧ t.sectors = d.sectors ∧ t.lbk = d.lbk)) ∧
      (d.time < d.wch.eligFrom + 65536 * Nat.max 1 (d.f WCH_DOZECFG.IDLE) → Runs .dozeEntry d d)) ∧
    (d.phase = .active → d.f WCH_DOZECFG.EN = 0 ∨ d.quiet = false → Runs .dozeEntry d d) ∧
    (d.phase = .dozeEntry →
      RunsTo .dozeReached d (fun t => t.phase = .doze ∧ t.wch.entryTick = d.wch.ticks ∧ t.wch.dozeFrom = d.wch.ticks ∧ t.wch.maint = false ∧
        t.f WCH_PADHOLD.HELD = 1 ∧ t.f CLK_STAT.FAB_LOCK = 0 ∧ t.f CLK_STAT.ENG_LOCK = 0 ∧ t.f CLK_STAT.MED_LOCK = 0 ∧ t.sectors = d.sectors ∧
        t.lbk = d.lbk ∧ t.engines = d.engines)) ∧
    (d.phase = .dozeEntry ∨ d.phase = .railsDown →
      Runs .padHoldLatch d (({ d with wch := { d.wch with entryTick := d.wch.ticks + 3 } } : Dev).setF WCH_PADHOLD.HELD 1)) ∧
    (d.phase = .doze → Runs .maintenanceWake d (if d.wch.dozeFrom + 2048 ≤ d.wch.ticks then d.dozeExit true else d)) ∧
    (∀ src, (Instr.dozeWake src).wf = true → Runs (.dozeWake src) d (if d.phase = .doze then d.wake src true else d)) ∧
    (d.phase = .active → d.mQuiet = true → d.mLogline = false → d.wch.idleFrom + usUnits 20 ≤ d.time → d.imgs = [] → d.lljobs = [] → d.ord.run = [] →
      (∀ x ∈ d.segs, x.2.state ≠ 1) →
      (∀ e ∈ d.engines, (e.state = .asleep ∨ e.state = .retired) ∧ ∀ t ∈ e.tickets, t.status.isSome = true) →
      Runs .quietClockGate d { d with wch := { d.wch with gated := true } }) ∧
    (d.mQuiet = false ∨ d.mLogline = true ∨ d.time < d.wch.idleFrom + usUnits 20 → Runs .quietClockGate d d))

/-- R549, R551, R566, R573, R575 to R577, R480, R246: the phases of a start, from option load to Active, with the reference that is not found,
a latent fault test that fails, and links that do not train. Details of a start that the manual leaves open are the model's choices (log
entries 69, 92 and 93). -/
def Obligations.Starts : Prop :=
  ∀ d : Dev,
    (∀ straps : List Nat, (Instr.optionLoad straps).wf = true →
      (d.phase = .optLoad → d.wch.resetPin = false → straps.getD 0 0 ≠ 3 → Runs (.optionLoad straps) d (d.optionLoad straps)) ∧
      (d.phase ≠ .optLoad ∨ d.wch.resetPin = true ∨ straps.getD 0 0 = 3 → Runs (.optionLoad straps) d d)) ∧
    (∀ usable present, d.phase = .clocks → d.wch.pllRef = false →
      let e := (d.setF CLK_CFG.XF_PRESENT (b2n present)).measureRefs usable present
      let ref (x : Dev) : Dev := ({ x with wch := { x.wch with pllRef := true } } : Dev).setF WCH_STAT.NOREF 0
      let ok := if 2 ≤ d.f CLK_CFG.CLKMODE then present else usable
      (ok = true → Runs (.referenceCheck usable present) d (ref e)) ∧
      (ok = false → present = true → Runs (.referenceCheck usable present) d ((ref (e.setF CLK_STAT.REF_FALLBACK 1)).post0 0x0F2)) ∧
      (ok = false → present = false → Runs (.referenceCheck usable present) d (e.setF WCH_STAT.NOREF 1))) ∧
    Runs .pllLock d
      (if d.phase = .clocks ∧ d.wch.pllRef = true then
        (((({ d with phase := .selfTest, wch := { d.wch with pllRef := false } } : Dev).setF CLK_STAT.FAB_LOCK 1).setF CLK_STAT.ENG_LOCK 1).setF
          CLK_STAT.MED_LOCK 1)
       else d) ∧
    (∀ fails, (Instr.builtInSelfTest fails).wf = true → d.phase = .selfTest →
      let found := Nat.land fails startMask
      let e := if found % 2 ^ 26 = 0 then d.setF SAF_LFT.FAIL 0 else d.latentFails found
      Runs (.builtInSelfTest fails) d (if e.noChart then e.becalm else { e with phase := .mediaInit })) ∧
    (d.phase = .mediaInit →
      ((∀ n, n < 16 → 2 ≤ d.f (PNT_LINK.STATE n)) → Runs .mediaInitialisation d { d with phase := .recovery }) ∧
      ((∃ n, n < 16 ∧ d.f (PNT_LINK.STATE n) = 0) →
        Runs .mediaInitialisation d
          ((List.range 16).foldl (fun e n => if e.f (PNT_LINK.STATE n) = 0 then e.setF (PNT_LINK.STATE n) 1 else e) d)) ∧
      ((∀ n, n < 16 → d.f (PNT_LINK.STATE n) ≠ 0) → (∃ n, n < 16 ∧ d.f (PNT_LINK.STATE n) = 1) → Runs .mediaInitialisation d d)) ∧
    (∀ ev, (Instr.recovery ev).wf = true → Runs (.recovery ev) d (if d.phase = .recovery then d.recoverNow ev else d)) ∧
    (d.phase = .chart → Runs .chartApply d (match d.chart.slot with | some sl => d.applyChart sl | none => d)) ∧
    (∀ p, p < 2 → Runs (.activeReached p) d (if d.phase = .linkTrain ∧ d.inL0 p = true then d.goActive false else d)) ∧
    (d.phase = .linkTrain → d.inL0 0 = false → d.inL0 1 = false → d.wch.linkWaitFrom + secUnits 1 ≤ d.time → Runs .noLinkTimeout d (d.goActive true)) ∧
    (d.phase ≠ .linkTrain ∨ d.inL0 0 = true ∨ d.inL0 1 = true ∨ d.time < d.wch.linkWaitFrom + secUnits 1 → Runs .noLinkTimeout d d)

/-! ### Modes, safety, logs, sensing (chapters 13, 16 to 18) -/

/-- R492 to R494, R591, R593, R595, R597: the automatic mode change, and what the safety mechanisms do: a PLL or the clock fails in Active,
the duplicated sequencer disagrees with itself (Hove-to for every home), SAFE_N does not read back, the hourly test runs when it is due, in
every phase that runs it, with every finding. That PLL and clock failures act only in Active is the model's reading (log entry 148). -/
def Obligations.ModesAndSafety : Prop :=
  ∀ d : Dev,
    Runs .automaticModeChange d (if d.powered then d.autoPoint else d) ∧
    (∀ k, (Instr.pllUnlock k).wf = true →
      Runs (.pllUnlock k) d
        (if d.phase = .active ∧ d.f (pllLockBit k) ≠ 0 then ((d.setF (pllLockBit k) 0).cnt CLK_STAT.UNLOCKS).clockFail else d)) ∧
    Runs .clockDeviation d (if d.phase = .active ∧ d.clocksOn = true then d.clockFail else d) ∧
    Runs .sequencerMismatch d (if d.powered then d.hovePost { code := 0x105 } 0xFFFF else d) ∧
    (d.phase ≠ .watchOff → Runs .safeNReadback d ((d.setF SAF_STAT.SAFEN_RB 1).post { code := 0x102 } (some 5))) ∧
    (∀ fails, (Instr.latentFaultTest fails).wf = true →
      (d.phase = .active ∨ d.phase = .becalmed ∨ d.phase = .dozeEntry ∨ d.phase = .shutdown → d.saf.lftDue = true →
        Runs (.latentFaultTest fails) d
          ((({ d with saf := { d.saf with lftDue := false } } : Dev).setF SAF_LFTOPS.LAST_OPSEC d.opSec).latentFails (Nat.land fails hourlyMask))) ∧
      (d.saf.lftDue = false → Runs (.latentFaultTest fails) d d))

/-- R601, R610, R616, R619, R620, R625: a Fix by its pin, a flush of the deck log, a Tally dump, taken, or missed in Doze and with the clocks
gated, a segment of a Logbook write (which fails, and is counted, without the supply for it), an operating second. Late Tally dumps, and a
segment as one whole command, are the model's choices (log entries 144 and 145). -/
def Obligations.LogsAndCounters : Prop :=
  ∀ d : Dev,
    Runs .fixNEdge d (d.fix 0) ∧
    (∀ cause, (Instr.deckLogFlush cause).wf = true →
      Runs (.deckLogFlush cause) d (if d.canPost = true ∧ d.deckDue cause = true then d.deckFlush else d)) ∧
    (d.tallyPeriod = 0 ∨ d.time < d.deck.tallyFrom + msUnits ((d.deck.tallyLast + 1) * d.tallyPeriod) → Runs .tallyDump d d) ∧
    (d.tallyPeriod ≠ 0 → d.deck.tallyFrom + msUnits ((d.deck.tallyLast + 1) * d.tallyPeriod) ≤ d.time →
      let n := Nat.max (d.deck.tallyLast + 1) ((d.time - d.deck.tallyFrom) / msUnits d.tallyPeriod)
      let e : Dev := { d with deck := { d.deck with tallyLast := n } }
      (d.phase = .active → d.wch.gated = false → Runs .tallyDump d e.tallyDump) ∧
      (d.phase = .doze ∨ (d.phase = .active ∧ d.wch.gated = true) →
        Runs .tallyDump d { e.cnt TAL_STAT.MISSED with deck := { e.deck with tallyMiss := e.deck.tallyMiss + 1 } })) ∧
    (∀ addr data, (Instr.logbookSegmentWrite addr data).wf = true → d.phase ≠ .watchOff → data ≠ [] → addr % 256 + data.length ≤ 256 →
      d.segmentPage (addr / 256) = true → Memory.wf d.lbk = true →
      (8000 ≤ d.pwr.vsys → 3200 ≤ d.pwr.wcap →
        RunsTo (.logbookSegmentWrite addr data) d (fun t => memRead t.lbk addr data.length = data ∧
          ∀ b, b < addr ∨ addr + data.length ≤ b → memGet t.lbk b = memGet d.lbk b)) ∧
      (d.pwr.vsys < 8000 ∨ d.pwr.wcap < 3200 →
        RunsTo (.logbookSegmentWrite addr data) d (fun t => t.lbk = d.lbk ∧ t.sectors = d.sectors))) ∧
    (d.phase ≠ .watchOff → d.phase ≠ .dormant → secUnits (d.wch.opSecs + 1) ≤ d.time →
      (d.pwr.enables.testBit 0 = true →
        RunsTo .operatingSecond d (fun t => t.opSec = (d.opSec + 1) % 2 ^ 40 ∧ t.wch.opSecs = d.wch.opSecs + 1)) ∧
      (d.pwr.enables.testBit 0 = false → Runs .operatingSecond d { d with wch := { d.wch with opSecs := d.wch.opSecs + 1 } })) ∧
    (d.phase = .watchOff ∨ d.phase = .dormant ∨ d.time < secUnits (d.wch.opSecs + 1) → Runs .operatingSecond d d)

/-- R628 to R637, R639: a sensor is read by its kind; every 10 ms the hottest mean is formed; media critical that lasts CRIT_S seconds is an
off request; the cooling time ends in a start. R642 to R649: the log-line inputs: a sample and an edge that a channel takes after its
debounce, eight samples outside a window, the closing of a frame in time, the check of the stream, and the wakes of a level after its
debounce. When sensors are read, and the timing of log-line frames, are the model's reading (log entries 140 and 149). -/
def Obligations.Sensing : Prop :=
  (
  ∀ d : Dev,
    (∀ kind i v, (Instr.sensorRead kind i v).wf = true →
      Runs (.sensorRead kind i v) d (if kind = 0 then d.readMedia i v else if kind = 1 then d.readCtrl i v else d.readAux i v)) ∧
    (d.mediaSensed = true → d.thm.evalAt + msUnits 10 ≤ d.time →
      let e : Dev := { d with thm := { d.thm with evalAt := d.time, media := d.thm.media.map (fun (x : Sensor) => { x with sum := 0, cnt := 0 }) } }
      Runs .thermalEvaluation d (match d.hotMean with | some h => e.hotFormed h.1 h.2.1 h.2.2 | none => e)) ∧
    (d.mediaSensed = false ∨ d.time < d.thm.evalAt + msUnits 10 → Runs .thermalEvaluation d d) ∧
    (∀ t, d.thm.critFrom = some t → d.mediaSensed = true → d.f THM_STAT.CRIT ≠ 0 →
      Runs .criticalTimeout d
        (if t + secUnits (Nat.max 1 (d.f THM_CTL.CRIT_S)) ≤ d.time then (d.setF THM_STAT.THERMAL 1).offRequest false else d)) ∧
    (d.thm.critFrom = none ∨ d.mediaSensed = false ∨ d.f THM_STAT.CRIT = 0 → Runs .criticalTimeout d d) ∧
    (d.phase = .dormant → d.f THM_STAT.THERMAL ≠ 0 → d.pwr.minOffEnd ≤ d.wch.ticks → d.f PWR_STAT.ON_LATCH ≠ 0 → d.pwr.locked = false →
      Runs .coolDownEnd d d.startOption) ∧
    (d.phase ≠ .dormant ∨ d.f THM_STAT.THERMAL = 0 ∨ d.wch.ticks < d.pwr.minOffEnd → Runs .coolDownEnd d d)) ∧
  (
  ∀ (i : Nat) (d : Dev), i < 8 →
    (∀ code clip, (Instr.llSample i code clip).wf = true →
      let smp := d.llOn i (LLN_CH.SAMPLE 0)
      (d.llSensed = true → d.llOn i (LLN_CH.EN 0) = true → d.mLogline = false ∨ smp = true ∨ d.phase = .doze →
        Runs (.llSample i code clip) d (d.llTake i code clip smp)) ∧
      (d.llSensed = false ∨ d.llOn i (LLN_CH.EN 0) = false → Runs (.llSample i code clip) d d)) ∧
    (d.mLogline = false → d.f (LLN_CH.EN i) ≠ 0 → 8 ≤ d.ll.winCnt.getD i 0 → d.ll.winOut.getD i false = false →
      let e : Dev := { d with ll := { d.ll with winOut := listSet d.ll.winOut i true } }
      Runs (.llWindowExcursion i) d ((e.orF LLN_STAT.WIN (2 ^ i)).post { code := 0x12B, detail := thmDetail i (e.f (LLN_VAL.CODE i)) })) ∧
    (d.mLogline = true ∨ d.ll.winCnt.getD i 0 < 8 ∨ d.ll.winOut.getD i false = true → Runs (.llWindowExcursion i) d d) ∧
    (∀ level since, (Instr.llEdge i level since).wf = true →
      (d.mLogline = true → d.llSensed = true → d.llOn i (LLN_CH.EN 0) = true → d.llOn i (LLN_CH.EDGE 0) = true → d.f (LLN_VAL.LEVEL i) ≠ b2n level →
        since + usUnits (d.llF i (LLN_CH.DEB 0)) ≤ d.time →
        let e := d.setF (LLN_VAL.LEVEL i) (b2n level)
        Runs (.llEdge i level since) d (if edgeWanted (e.llF i (LLN_CH.EDGE 0)) level then e.llEdgeTaken i level since else e)) ∧
      (d.mLogline = false ∨ d.f (LLN_VAL.LEVEL i) = b2n level ∨ d.time < since + usUnits (d.llF i (LLN_CH.DEB 0)) →
        Runs (.llEdge i level since) d d)) ∧
    (d.phase = .active ∨ d.phase = .dozeEntry ∨ d.phase = .shutdown →
      let due := d.ll.recs ≠ [] ∧ d.ll.frameFrom + msUnits (Nat.max 1 (d.f LLN_CTL.CLOSE)) ≤ d.time
      (due → Runs .llFrameClose d (d.llTimeout.llSend 16).llGap) ∧ (¬ due → Runs .llFrameClose d (d.llSend 16).llGap)) ∧
    Runs .llStreamCheck d (if d.powered = true ∧ d.ll.checkDue = true then d.llCheck else d) ∧
    (∀ active since, (Instr.llLevelWake i active since).wf = true →
      (since + d.f WCH_LLWAKE.DEB ≤ d.wch.ticks → (d.f WCH_LLWAKE.EN).testBit i = true →
        (d.phase = .dormant → Runs (.llLevelWake i active since) d (if active then d.wake 4 false else d)) ∧
        (d.phase = .active → Runs (.llLevelWake i active since) d
          (if active = false ∧ (d.f WCH_LLWAKE.OFFREQ).testBit i = true then d.offRequest false else d)) ∧
        (d.phase = .doze → Runs (.llLevelWake i active since) d
          (if active then d.wake 4 false else if (d.f WCH_LLWAKE.OFFREQ).testBit i then d.offRequest false else d))) ∧
      (d.wch.ticks < since + d.f WCH_LLWAKE.DEB ∨ (d.f WCH_LLWAKE.EN).testBit i = false → Runs (.llLevelWake i active since) d d)))

/-! ### Laws -/

/-- R402: an engine has 32 general registers of 64 bits after reset; g0 reads as zero, a write to g0 is discarded, and a write to any other
general register changes that register of that engine alone. -/
def Obligations.EngineRegisters : Prop :=
  State.reset.dev.engines.length = 16 ∧ (∀ e, e < 16 → (State.reset.dev.eng e).g.length = 32) ∧
  ∀ (e : Nat) (v : Word) (d : Dev), e < 16 → d.engines.length = 16 → (d.eng e).g.length = 32 →
    d.gr e 0 = 0 ∧ d.setGr e 0 v = d ∧
    ∀ i, 0 < i → i < 32 →
      (d.setGr e i v).gr e i = v ∧ (∀ j, j ≠ i → (d.setGr e i v).gr e j = d.gr e j) ∧ (∀ k, k ≠ e → (d.setGr e i v).eng k = d.eng k) ∧
      ((d.setGr e i v).eng e).pc = (d.eng e).pc ∧ ((d.setGr e i v).eng e).loc = (d.eng e).loc ∧ ((d.setGr e i v).eng e).g.length = 32

/-- R418: eret sets status.PRIV to status.PREV_PRIV, clears the reservation and continues at epc; every general register, the local memory,
every register of the Helm space, the media and the Logbook stay. It is helm-only: at deck privilege it raises PRIVILEGE. -/
def Obligations.EngineReturn : Prop :=
  ∀ (e : Nat) (d : Dev), e < 16 → d.engines.length = 16 →
    (d.engReady e true = true → RunsTo (.eret e 0) d (fun t =>
      (t.eng e).priv = (d.eng e).prev ∧ (t.eng e).rsv = none ∧ (t.eng e).pc = (d.eng e).epc ∧ (t.eng e).g = (d.eng e).g ∧
      (t.eng e).loc = (d.eng e).loc ∧ t.regs = d.regs ∧ t.sectors = d.sectors ∧ t.lbk = d.lbk ∧ t.quads = d.quads ∧ t.heads = d.heads)) ∧
    (d.engReady e false = true → (d.eng e).priv = 1 →
      Runs (.eret e 0) d ((d.syncExc e 2 (encA 0x34 0 0 0 0) 0).lockCopy e))

/-- R70: the adopter of a dead Point is the first live one of the three others of its quadrant, from the next one on, round the quadrant. -/
def Obligations.AdopterOrder : Prop :=
  ∀ (n : Nat) (d : Dev), n < 16 →
    let p (k : Nat) : Nat := 4 * (n / 4) + (n + k) % 4
    (d.live (p 1) = true → d.adopter n = some (p 1)) ∧
    (d.live (p 1) = false → d.live (p 2) = true → d.adopter n = some (p 2)) ∧
    (d.live (p 1) = false → d.live (p 2) = false → d.live (p 3) = true → d.adopter n = some (p 3)) ∧
    (d.live (p 1) = false → d.live (p 2) = false → d.live (p 3) = false → d.adopter n = none) ∧
    (∀ a, d.adopter n = some a → a ≠ n ∧ a / 4 = n / 4 ∧ a < 16)

/-- R460: a write of TAIL that would take entries back changes neither TAIL nor HEAD; BAD_TAIL is set and event 0x0C7 is posted. -/
def Obligations.SqTailIgnored : Prop :=
  ∀ (by_ r v : Nat) (d : Dev), (Instr.sqTailWrite by_ r v).wf = true → d.helmOn by_ = true → d.mayWrite by_ = true → regsWf d.regs = true →
    (v % 16 + 16 - d.f (ORD_SQ.HEAD r)) % 16 < (d.f (ORD_SQ.TAIL r) + 16 - d.f (ORD_SQ.HEAD r)) % 16 →
    RunsTo (.sqTailWrite by_ r v) d (fun t =>
      t.f (ORD_SQ.TAIL r) = d.f (ORD_SQ.TAIL r) ∧ t.f (ORD_SQ.HEAD r) = d.f (ORD_SQ.HEAD r) ∧ t.f (ORD_STAT.BAD_TAIL r) = 1 ∧
      ∃ detail, t = ((if by_ < 2 then d.touch else d).setF (ORD_STAT.BAD_TAIL r) 1).post { code := 0x0C7, detail := detail })

/-- R314: a log of 256 records takes no further one: its overflow count rises (and stays at its 16-bit end) and its last overflow time is
the time now, its first one too where none was counted before. A log with room takes the record as its newest. R316: Clear Event Records of
one head empties that head's log, changes no log of the other head, and leaves the deck log unchanged. -/
def Obligations.EventLogs : Prop :=
  (
  ∀ (p log : Nat) (r : CxlRec) (d : Dev), p < 2 → log < 4 → d.heads.length = 2 → (d.head p).logs.length = 4 →
    let l := (d.head p).logs.getD log {}
    let m := ((d.logTo p log r).head p).logs.getD log {}
    (256 ≤ l.recs.length → m.recs = l.recs ∧ m.overflow = min (l.overflow + 1) 65535 ∧ m.lastOv = d.hostTime ∧
      m.firstOv = if l.overflow = 0 then d.hostTime else l.firstOv) ∧
    (l.recs.length < 256 → m.recs = l.recs ++ [(l.nextHandle, r)] ∧ m.overflow = l.overflow ∧ m.firstOv = l.firstOv ∧ m.lastOv = l.lastOv) ∧
    (∀ k, k ≠ log → ((d.logTo p log r).head p).logs.getD k {} = (d.head p).logs.getD k {}) ∧
    ((d.logTo p log r).head (1 - p)).logs = (d.head (1 - p)).logs) ∧
  (
  ∀ (h log : Nat) (handles : List Nat) (d : Dev), (Instr.clearEventRecords h log true handles).wf = true → log < 4 → d.served h = true →
    d.heads.length = 2 → (d.head h).logs.length = 4 →
    RunsTo (.clearEventRecords h log true handles) d (fun t =>
      ((t.head h).logs.getD log {}).recs = [] ∧ (∀ k, k ≠ log → (t.head h).logs.getD k {} = (d.head h).logs.getD k {}) ∧
      (t.head (1 - h)).logs = (d.head (1 - h)).logs ∧ t.deck = d.deck ∧ t.lbk = d.lbk ∧ t.sectors = d.sectors))

/-- R343: a cause whose pending bit is already set sends nothing; where the bit passes from 0 to 1, a head with MSI-X in force, the vector
unmasked and its link in L0 gets one message, and an I3C requester with its IBIs enabled gets one IBI. Either way the bit stands afterwards.
-/
def Obligations.InterruptOnce : Prop :=
  ∀ (p v : Nat) (d : Dev), p < 3 → v < 8 → regsWf d.regs = true →
    ((d.raise p v).f (DEV_INTSTAT.PEND p)).testBit v = true ∧
    ((d.f (DEV_INTSTAT.PEND p)).testBit v = true → (d.raise p v).out = d.out) ∧
    ((d.f (DEV_INTSTAT.PEND p)).testBit v = false →
      (p < 2 → (d.head p).msix = true → (d.head p).mask.testBit v = false → d.inL0 p = true → (d.raise p v).out = .msix p v :: d.out) ∧
      (p = 2 → d.i3c.ibiOn = true → d.i3c.addr ≠ none → ∃ w, (d.raise p v).out = .ibi w :: d.out))

/-- R609: the deck-log buffer never holds more than 64 KiB; a record that finds room enters it as its newest, behind the LOST record that is
owed; one that finds none is discarded and counted, and nothing else of the buffer changes. -/
def Obligations.DeckBuffer : Prop :=
  ∀ (r : DeckRec) (d : Dev), regsWf d.regs = true →
    (bufBytes d.deck.buf ≤ 65536 → bufBytes (d.deckPush r).deck.buf ≤ 65536) ∧
    (d.f DECK_STAT.FULL = 0 → d.deck.owed = 0 → bufBytes (d.deck.buf ++ [r]) ≤ 65536 →
      (d.deckPush r).deck.buf = d.deck.buf ++ [r] ∧ (d.deckPush r).regs = d.regs) ∧
    (d.f DECK_STAT.FULL = 0 → d.deck.owed ≠ 0 →
      let lost := DeckRec.lost d.deck.owed d.opSec d.cycle d.time (d.f FIX_NUM.NUMBER)
      bufBytes (d.deck.buf ++ [lost, r]) ≤ 65536 → (d.deckPush r).deck.buf = d.deck.buf ++ [lost, r] ∧ (d.deckPush r).deck.owed = 0) ∧
    (65536 < bufBytes (d.deck.buf ++ [r]) →
      (d.deckPush r).deck.buf = d.deck.buf ∧ (d.f DECK_STAT.DROPPED < 2 ^ 16 - 1 → (d.deckPush r).f DECK_STAT.DROPPED = d.f DECK_STAT.DROPPED + 1))
end

