-- ==== Sys2Proof/Laws/Engine.lean ====
section
/-! SUPPORT. What one instruction of an engine can do (R413): each way that an effect ends, once. -/

namespace Sys2Proof.Machine

/-- An engine that may execute a helm-only instruction may execute any other. -/
theorem Dev.engReady_any {d : Dev} {e : Nat} (b : Bool) (h : d.engReady e true = true) : d.engReady e b = true := by
  cases b
  · simp [Dev.engReady] at h ⊢; simp [h]
  · exact h

/-- Nothing comes before the instruction of an engine that is ready. -/
theorem Dev.engCheck_ready {d : Dev} {e word : Nat} {helm : Bool} (h : d.engReady e helm = true) : d.engCheck e word false helm = none := by
  simp [Dev.engReady] at h
  cases helm <;> simp_all [Dev.engCheck]

/-- What a ready engine's instruction does is its effect and nothing else. -/
theorem Dev.engStep_ready {d : Dev} {e word : Nat} {helm bar : Bool} {f : Dev → EngRes} (h : d.engReady e helm = true) :
    d.engStep e word false helm bar f =
      match f d with
      | .raise d' c t b => (d'.syncExc e c t b).lockCopy e
      | .done d' => d.engNext d' e
      | .goto d' pc => d'.engAt e pc
      | .stay d' => d'.lockCopy e
      | .wait => d := by
  have hc := Dev.engCheck_ready (word := word) h
  simp [Dev.engReady] at h
  simp only [Dev.engStep, hc]
  cases f d <;> simp_all [Dev.engNext, Dev.engAt]

/-- An illegal word at an engine that is ready but for that (R413). -/
theorem Dev.engStep_illegal {d : Dev} {e word : Nat} {helm helm' bar : Bool} {f : Dev → EngRes} (h : d.engReady e helm' = true) :
    d.engStep e word true helm bar f = (d.syncExc e 1 word 0).lockCopy e := by
  simp [Dev.engReady] at h
  simp_all [Dev.engStep, Dev.engCheck]

end Sys2Proof.Machine
end

