-- ==== Sys2Proof/Laws/State.lean ====
section
/-! SUPPORT. What each basic update of the device leaves as it was: one lemma for each field, and for each accessor of another field. -/

namespace Sys2Proof.Machine

/-! ### touch -/

@[simp] theorem Dev.touch_time (d : Dev) : d.touch.time = d.time := rfl
@[simp] theorem Dev.touch_opSec (d : Dev) : d.touch.opSec = d.opSec := rfl
@[simp] theorem Dev.touch_cycle (d : Dev) : d.touch.cycle = d.cycle := rfl
@[simp] theorem Dev.touch_nextCsn (d : Dev) : d.touch.nextCsn = d.nextCsn := rfl
@[simp] theorem Dev.touch_nextCsn2 (d : Dev) : d.touch.nextCsn2 = d.nextCsn2 := rfl
@[simp] theorem Dev.touch_seqOn (d : Dev) : d.touch.seqOn = d.seqOn := rfl
@[simp] theorem Dev.touch_phase (d : Dev) : d.touch.phase = d.phase := rfl
@[simp] theorem Dev.touch_regs (d : Dev) : d.touch.regs = d.regs := rfl
@[simp] theorem Dev.touch_locked (d : Dev) : d.touch.locked = d.locked := rfl
@[simp] theorem Dev.touch_halves (d : Dev) : d.touch.halves = d.halves := rfl
@[simp] theorem Dev.touch_freeCtr (d : Dev) : d.touch.freeCtr = d.freeCtr := rfl
@[simp] theorem Dev.touch_out (d : Dev) : d.touch.out = d.out := rfl
@[simp] theorem Dev.touch_sectors (d : Dev) : d.touch.sectors = d.sectors := rfl
@[simp] theorem Dev.touch_segs (d : Dev) : d.touch.segs = d.segs := rfl
@[simp] theorem Dev.touch_wnodes (d : Dev) : d.touch.wnodes = d.wnodes := rfl
@[simp] theorem Dev.touch_groups (d : Dev) : d.touch.groups = d.groups := rfl
@[simp] theorem Dev.touch_waitRecs (d : Dev) : d.touch.waitRecs = d.waitRecs := rfl
@[simp] theorem Dev.touch_nextGroup (d : Dev) : d.touch.nextGroup = d.nextGroup := rfl
@[simp] theorem Dev.touch_phis (d : Dev) : d.touch.phis = d.phis := rfl
@[simp] theorem Dev.touch_points (d : Dev) : d.touch.points = d.points := rfl
@[simp] theorem Dev.touch_homes (d : Dev) : d.touch.homes = d.homes := rfl
@[simp] theorem Dev.touch_binn (d : Dev) : d.touch.binn = d.binn := rfl
@[simp] theorem Dev.touch_ready (d : Dev) : d.touch.ready = d.ready := rfl
@[simp] theorem Dev.touch_imgs (d : Dev) : d.touch.imgs = d.imgs := rfl
@[simp] theorem Dev.touch_lljobs (d : Dev) : d.touch.lljobs = d.lljobs := rfl
@[simp] theorem Dev.touch_overlay (d : Dev) : d.touch.overlay = d.overlay := rfl
@[simp] theorem Dev.touch_mapc (d : Dev) : d.touch.mapc = d.mapc := rfl
@[simp] theorem Dev.touch_dir (d : Dev) : d.touch.dir = d.dir := rfl
@[simp] theorem Dev.touch_poison (d : Dev) : d.touch.poison = d.poison := rfl
@[simp] theorem Dev.touch_poisonSrc (d : Dev) : d.touch.poisonSrc = d.poisonSrc := rfl
@[simp] theorem Dev.touch_announced (d : Dev) : d.touch.announced = d.announced := rfl
@[simp] theorem Dev.touch_pilot (d : Dev) : d.touch.pilot = d.pilot := rfl
@[simp] theorem Dev.touch_corrected (d : Dev) : d.touch.corrected = d.corrected := rfl
@[simp] theorem Dev.touch_hold (d : Dev) : d.touch.hold = d.hold := rfl
@[simp] theorem Dev.touch_fe (d : Dev) : d.touch.fe = d.fe := rfl
@[simp] theorem Dev.touch_recAcks (d : Dev) : d.touch.recAcks = d.recAcks := rfl
@[simp] theorem Dev.touch_blocked (d : Dev) : d.touch.blocked = d.blocked := rfl
@[simp] theorem Dev.touch_deadLost (d : Dev) : d.touch.deadLost = d.deadLost := rfl
@[simp] theorem Dev.touch_gpf (d : Dev) : d.touch.gpf = d.gpf := rfl
@[simp] theorem Dev.touch_allowPages (d : Dev) : d.touch.allowPages = d.allowPages := rfl
@[simp] theorem Dev.touch_occupied (d : Dev) : d.touch.occupied = d.occupied := rfl
@[simp] theorem Dev.touch_capDue (d : Dev) : d.touch.capDue = d.capDue := rfl
@[simp] theorem Dev.touch_sdisc (d : Dev) : d.touch.sdisc = d.sdisc := rfl
@[simp] theorem Dev.touch_rekey (d : Dev) : d.touch.rekey = d.rekey := rfl
@[simp] theorem Dev.touch_sanitize (d : Dev) : d.touch.sanitize = d.sanitize := rfl
@[simp] theorem Dev.touch_keys (d : Dev) : d.touch.keys = d.keys := rfl
@[simp] theorem Dev.touch_keyCur (d : Dev) : d.touch.keyCur = d.keyCur := rfl
@[simp] theorem Dev.touch_badKeys (d : Dev) : d.touch.badKeys = d.badKeys := rfl
@[simp] theorem Dev.touch_seals (d : Dev) : d.touch.seals = d.seals := rfl
@[simp] theorem Dev.touch_chain (d : Dev) : d.touch.chain = d.chain := rfl
@[simp] theorem Dev.touch_sealHead (d : Dev) : d.touch.sealHead = d.sealHead := rfl
@[simp] theorem Dev.touch_saving (d : Dev) : d.touch.saving = d.saving := rfl
@[simp] theorem Dev.touch_ckpts (d : Dev) : d.touch.ckpts = d.ckpts := rfl
@[simp] theorem Dev.touch_ckptReq (d : Dev) : d.touch.ckptReq = d.ckptReq := rfl
@[simp] theorem Dev.touch_cutAt (d : Dev) : d.touch.cutAt = d.cutAt := rfl
@[simp] theorem Dev.touch_commitEclk (d : Dev) : d.touch.commitEclk = d.commitEclk := rfl
@[simp] theorem Dev.touch_locs (d : Dev) : d.touch.locs = d.locs := rfl
@[simp] theorem Dev.touch_lbk (d : Dev) : d.touch.lbk = d.lbk := rfl
@[simp] theorem Dev.touch_fuse (d : Dev) : d.touch.fuse = d.fuse := rfl
@[simp] theorem Dev.touch_heads (d : Dev) : d.touch.heads = d.heads := rfl
@[simp] theorem Dev.touch_stamp (d : Dev) : d.touch.stamp = d.stamp := rfl
@[simp] theorem Dev.touch_alertCfg (d : Dev) : d.touch.alertCfg = d.alertCfg := rfl
@[simp] theorem Dev.touch_patchNext (d : Dev) : d.touch.patchNext = d.patchNext := rfl
@[simp] theorem Dev.touch_patchOn (d : Dev) : d.touch.patchOn = d.patchOn := rfl
@[simp] theorem Dev.touch_i3c (d : Dev) : d.touch.i3c = d.i3c := rfl
@[simp] theorem Dev.touch_ord (d : Dev) : d.touch.ord = d.ord := rfl
@[simp] theorem Dev.touch_str (d : Dev) : d.touch.str = d.str := rfl
@[simp] theorem Dev.touch_deck (d : Dev) : d.touch.deck = d.deck := rfl
@[simp] theorem Dev.touch_engines (d : Dev) : d.touch.engines = d.engines := rfl
@[simp] theorem Dev.touch_quads (d : Dev) : d.touch.quads = d.quads := rfl
@[simp] theorem Dev.touch_chart (d : Dev) : d.touch.chart = d.chart := rfl
@[simp] theorem Dev.touch_pwr (d : Dev) : d.touch.pwr = d.pwr := rfl
@[simp] theorem Dev.touch_seqb (d : Dev) : d.touch.seqb = d.seqb := rfl
@[simp] theorem Dev.touch_saf (d : Dev) : d.touch.saf = d.saf := rfl
@[simp] theorem Dev.touch_thm (d : Dev) : d.touch.thm = d.thm := rfl
@[simp] theorem Dev.touch_ll (d : Dev) : d.touch.ll = d.ll := rfl
@[simp] theorem Dev.touch_reg (d : Dev) (k : Nat) : d.touch.reg k = d.reg k := rfl
@[simp] theorem Dev.touch_f (d : Dev) (K : Fld) : d.touch.f K = d.f K := rfl
@[simp] theorem Dev.touch_on (d : Dev) (K : Fld) : d.touch.on K = d.on K := rfl
@[simp] theorem Dev.touch_mode (d : Dev) (k : Nat) : d.touch.mode k = d.mode k := rfl
@[simp] theorem Dev.touch_pt (d : Dev) (k : Nat) : d.touch.pt k = d.pt k := rfl
@[simp] theorem Dev.touch_hm (d : Dev) (k : Nat) : d.touch.hm k = d.hm k := rfl
@[simp] theorem Dev.touch_head (d : Dev) (k : Nat) : d.touch.head k = d.head k := rfl
@[simp] theorem Dev.touch_eng (d : Dev) (k : Nat) : d.touch.eng k = d.eng k := rfl
@[simp] theorem Dev.touch_quad (d : Dev) (k : Nat) : d.touch.quad k = d.quad k := rfl
@[simp] theorem Dev.touch_stm (d : Dev) (k : Nat) : d.touch.stm k = d.stm k := rfl
@[simp] theorem Dev.touch_seg (d : Dev) (k : Nat) : d.touch.seg k = d.seg k := rfl

/-! ### send -/

@[simp] theorem Dev.send_time (d : Dev) (m : Msg) : (d.send m).time = d.time := rfl
@[simp] theorem Dev.send_opSec (d : Dev) (m : Msg) : (d.send m).opSec = d.opSec := rfl
@[simp] theorem Dev.send_cycle (d : Dev) (m : Msg) : (d.send m).cycle = d.cycle := rfl
@[simp] theorem Dev.send_nextCsn (d : Dev) (m : Msg) : (d.send m).nextCsn = d.nextCsn := rfl
@[simp] theorem Dev.send_nextCsn2 (d : Dev) (m : Msg) : (d.send m).nextCsn2 = d.nextCsn2 := rfl
@[simp] theorem Dev.send_seqOn (d : Dev) (m : Msg) : (d.send m).seqOn = d.seqOn := rfl
@[simp] theorem Dev.send_phase (d : Dev) (m : Msg) : (d.send m).phase = d.phase := rfl
@[simp] theorem Dev.send_regs (d : Dev) (m : Msg) : (d.send m).regs = d.regs := rfl
@[simp] theorem Dev.send_locked (d : Dev) (m : Msg) : (d.send m).locked = d.locked := rfl
@[simp] theorem Dev.send_halves (d : Dev) (m : Msg) : (d.send m).halves = d.halves := rfl
@[simp] theorem Dev.send_freeCtr (d : Dev) (m : Msg) : (d.send m).freeCtr = d.freeCtr := rfl
@[simp] theorem Dev.send_sectors (d : Dev) (m : Msg) : (d.send m).sectors = d.sectors := rfl
@[simp] theorem Dev.send_segs (d : Dev) (m : Msg) : (d.send m).segs = d.segs := rfl
@[simp] theorem Dev.send_wnodes (d : Dev) (m : Msg) : (d.send m).wnodes = d.wnodes := rfl
@[simp] theorem Dev.send_groups (d : Dev) (m : Msg) : (d.send m).groups = d.groups := rfl
@[simp] theorem Dev.send_waitRecs (d : Dev) (m : Msg) : (d.send m).waitRecs = d.waitRecs := rfl
@[simp] theorem Dev.send_nextGroup (d : Dev) (m : Msg) : (d.send m).nextGroup = d.nextGroup := rfl
@[simp] theorem Dev.send_phis (d : Dev) (m : Msg) : (d.send m).phis = d.phis := rfl
@[simp] theorem Dev.send_points (d : Dev) (m : Msg) : (d.send m).points = d.points := rfl
@[simp] theorem Dev.send_homes (d : Dev) (m : Msg) : (d.send m).homes = d.homes := rfl
@[simp] theorem Dev.send_binn (d : Dev) (m : Msg) : (d.send m).binn = d.binn := rfl
@[simp] theorem Dev.send_ready (d : Dev) (m : Msg) : (d.send m).ready = d.ready := rfl
@[simp] theorem Dev.send_imgs (d : Dev) (m : Msg) : (d.send m).imgs = d.imgs := rfl
@[simp] theorem Dev.send_lljobs (d : Dev) (m : Msg) : (d.send m).lljobs = d.lljobs := rfl
@[simp] theorem Dev.send_overlay (d : Dev) (m : Msg) : (d.send m).overlay = d.overlay := rfl
@[simp] theorem Dev.send_mapc (d : Dev) (m : Msg) : (d.send m).mapc = d.mapc := rfl
@[simp] theorem Dev.send_dir (d : Dev) (m : Msg) : (d.send m).dir = d.dir := rfl
@[simp] theorem Dev.send_poison (d : Dev) (m : Msg) : (d.send m).poison = d.poison := rfl
@[simp] theorem Dev.send_poisonSrc (d : Dev) (m : Msg) : (d.send m).poisonSrc = d.poisonSrc := rfl
@[simp] theorem Dev.send_announced (d : Dev) (m : Msg) : (d.send m).announced = d.announced := rfl
@[simp] theorem Dev.send_pilot (d : Dev) (m : Msg) : (d.send m).pilot = d.pilot := rfl
@[simp] theorem Dev.send_corrected (d : Dev) (m : Msg) : (d.send m).corrected = d.corrected := rfl
@[simp] theorem Dev.send_hold (d : Dev) (m : Msg) : (d.send m).hold = d.hold := rfl
@[simp] theorem Dev.send_fe (d : Dev) (m : Msg) : (d.send m).fe = d.fe := rfl
@[simp] theorem Dev.send_recAcks (d : Dev) (m : Msg) : (d.send m).recAcks = d.recAcks := rfl
@[simp] theorem Dev.send_blocked (d : Dev) (m : Msg) : (d.send m).blocked = d.blocked := rfl
@[simp] theorem Dev.send_deadLost (d : Dev) (m : Msg) : (d.send m).deadLost = d.deadLost := rfl
@[simp] theorem Dev.send_gpf (d : Dev) (m : Msg) : (d.send m).gpf = d.gpf := rfl
@[simp] theorem Dev.send_allowPages (d : Dev) (m : Msg) : (d.send m).allowPages = d.allowPages := rfl
@[simp] theorem Dev.send_occupied (d : Dev) (m : Msg) : (d.send m).occupied = d.occupied := rfl
@[simp] theorem Dev.send_capDue (d : Dev) (m : Msg) : (d.send m).capDue = d.capDue := rfl
@[simp] theorem Dev.send_sdisc (d : Dev) (m : Msg) : (d.send m).sdisc = d.sdisc := rfl
@[simp] theorem Dev.send_rekey (d : Dev) (m : Msg) : (d.send m).rekey = d.rekey := rfl
@[simp] theorem Dev.send_sanitize (d : Dev) (m : Msg) : (d.send m).sanitize = d.sanitize := rfl
@[simp] theorem Dev.send_keys (d : Dev) (m : Msg) : (d.send m).keys = d.keys := rfl
@[simp] theorem Dev.send_keyCur (d : Dev) (m : Msg) : (d.send m).keyCur = d.keyCur := rfl
@[simp] theorem Dev.send_badKeys (d : Dev) (m : Msg) : (d.send m).badKeys = d.badKeys := rfl
@[simp] theorem Dev.send_seals (d : Dev) (m : Msg) : (d.send m).seals = d.seals := rfl
@[simp] theorem Dev.send_chain (d : Dev) (m : Msg) : (d.send m).chain = d.chain := rfl
@[simp] theorem Dev.send_sealHead (d : Dev) (m : Msg) : (d.send m).sealHead = d.sealHead := rfl
@[simp] theorem Dev.send_saving (d : Dev) (m : Msg) : (d.send m).saving = d.saving := rfl
@[simp] theorem Dev.send_ckpts (d : Dev) (m : Msg) : (d.send m).ckpts = d.ckpts := rfl
@[simp] theorem Dev.send_ckptReq (d : Dev) (m : Msg) : (d.send m).ckptReq = d.ckptReq := rfl
@[simp] theorem Dev.send_cutAt (d : Dev) (m : Msg) : (d.send m).cutAt = d.cutAt := rfl
@[simp] theorem Dev.send_commitEclk (d : Dev) (m : Msg) : (d.send m).commitEclk = d.commitEclk := rfl
@[simp] theorem Dev.send_locs (d : Dev) (m : Msg) : (d.send m).locs = d.locs := rfl
@[simp] theorem Dev.send_lbk (d : Dev) (m : Msg) : (d.send m).lbk = d.lbk := rfl
@[simp] theorem Dev.send_fuse (d : Dev) (m : Msg) : (d.send m).fuse = d.fuse := rfl
@[simp] theorem Dev.send_heads (d : Dev) (m : Msg) : (d.send m).heads = d.heads := rfl
@[simp] theorem Dev.send_stamp (d : Dev) (m : Msg) : (d.send m).stamp = d.stamp := rfl
@[simp] theorem Dev.send_alertCfg (d : Dev) (m : Msg) : (d.send m).alertCfg = d.alertCfg := rfl
@[simp] theorem Dev.send_patchNext (d : Dev) (m : Msg) : (d.send m).patchNext = d.patchNext := rfl
@[simp] theorem Dev.send_patchOn (d : Dev) (m : Msg) : (d.send m).patchOn = d.patchOn := rfl
@[simp] theorem Dev.send_i3c (d : Dev) (m : Msg) : (d.send m).i3c = d.i3c := rfl
@[simp] theorem Dev.send_ord (d : Dev) (m : Msg) : (d.send m).ord = d.ord := rfl
@[simp] theorem Dev.send_str (d : Dev) (m : Msg) : (d.send m).str = d.str := rfl
@[simp] theorem Dev.send_deck (d : Dev) (m : Msg) : (d.send m).deck = d.deck := rfl
@[simp] theorem Dev.send_engines (d : Dev) (m : Msg) : (d.send m).engines = d.engines := rfl
@[simp] theorem Dev.send_quads (d : Dev) (m : Msg) : (d.send m).quads = d.quads := rfl
@[simp] theorem Dev.send_chart (d : Dev) (m : Msg) : (d.send m).chart = d.chart := rfl
@[simp] theorem Dev.send_pwr (d : Dev) (m : Msg) : (d.send m).pwr = d.pwr := rfl
@[simp] theorem Dev.send_seqb (d : Dev) (m : Msg) : (d.send m).seqb = d.seqb := rfl
@[simp] theorem Dev.send_wch (d : Dev) (m : Msg) : (d.send m).wch = d.wch := rfl
@[simp] theorem Dev.send_saf (d : Dev) (m : Msg) : (d.send m).saf = d.saf := rfl
@[simp] theorem Dev.send_thm (d : Dev) (m : Msg) : (d.send m).thm = d.thm := rfl
@[simp] theorem Dev.send_ll (d : Dev) (m : Msg) : (d.send m).ll = d.ll := rfl
@[simp] theorem Dev.send_reg (d : Dev) (m : Msg) (k : Nat) : (d.send m).reg k = d.reg k := rfl
@[simp] theorem Dev.send_f (d : Dev) (m : Msg) (K : Fld) : (d.send m).f K = d.f K := rfl
@[simp] theorem Dev.send_on (d : Dev) (m : Msg) (K : Fld) : (d.send m).on K = d.on K := rfl
@[simp] theorem Dev.send_mode (d : Dev) (m : Msg) (k : Nat) : (d.send m).mode k = d.mode k := rfl
@[simp] theorem Dev.send_pt (d : Dev) (m : Msg) (k : Nat) : (d.send m).pt k = d.pt k := rfl
@[simp] theorem Dev.send_hm (d : Dev) (m : Msg) (k : Nat) : (d.send m).hm k = d.hm k := rfl
@[simp] theorem Dev.send_head (d : Dev) (m : Msg) (k : Nat) : (d.send m).head k = d.head k := rfl
@[simp] theorem Dev.send_eng (d : Dev) (m : Msg) (k : Nat) : (d.send m).eng k = d.eng k := rfl
@[simp] theorem Dev.send_quad (d : Dev) (m : Msg) (k : Nat) : (d.send m).quad k = d.quad k := rfl
@[simp] theorem Dev.send_stm (d : Dev) (m : Msg) (k : Nat) : (d.send m).stm k = d.stm k := rfl
@[simp] theorem Dev.send_seg (d : Dev) (m : Msg) (k : Nat) : (d.send m).seg k = d.seg k := rfl

/-! ### draw -/

@[simp] theorem Dev.draw_time (d : Dev) : d.draw.2.time = d.time := rfl
@[simp] theorem Dev.draw_opSec (d : Dev) : d.draw.2.opSec = d.opSec := rfl
@[simp] theorem Dev.draw_cycle (d : Dev) : d.draw.2.cycle = d.cycle := rfl
@[simp] theorem Dev.draw_nextCsn (d : Dev) : d.draw.2.nextCsn = d.nextCsn := rfl
@[simp] theorem Dev.draw_nextCsn2 (d : Dev) : d.draw.2.nextCsn2 = d.nextCsn2 := rfl
@[simp] theorem Dev.draw_seqOn (d : Dev) : d.draw.2.seqOn = d.seqOn := rfl
@[simp] theorem Dev.draw_phase (d : Dev) : d.draw.2.phase = d.phase := rfl
@[simp] theorem Dev.draw_regs (d : Dev) : d.draw.2.regs = d.regs := rfl
@[simp] theorem Dev.draw_locked (d : Dev) : d.draw.2.locked = d.locked := rfl
@[simp] theorem Dev.draw_halves (d : Dev) : d.draw.2.halves = d.halves := rfl
@[simp] theorem Dev.draw_out (d : Dev) : d.draw.2.out = d.out := rfl
@[simp] theorem Dev.draw_sectors (d : Dev) : d.draw.2.sectors = d.sectors := rfl
@[simp] theorem Dev.draw_segs (d : Dev) : d.draw.2.segs = d.segs := rfl
@[simp] theorem Dev.draw_wnodes (d : Dev) : d.draw.2.wnodes = d.wnodes := rfl
@[simp] theorem Dev.draw_groups (d : Dev) : d.draw.2.groups = d.groups := rfl
@[simp] theorem Dev.draw_waitRecs (d : Dev) : d.draw.2.waitRecs = d.waitRecs := rfl
@[simp] theorem Dev.draw_nextGroup (d : Dev) : d.draw.2.nextGroup = d.nextGroup := rfl
@[simp] theorem Dev.draw_phis (d : Dev) : d.draw.2.phis = d.phis := rfl
@[simp] theorem Dev.draw_points (d : Dev) : d.draw.2.points = d.points := rfl
@[simp] theorem Dev.draw_homes (d : Dev) : d.draw.2.homes = d.homes := rfl
@[simp] theorem Dev.draw_binn (d : Dev) : d.draw.2.binn = d.binn := rfl
@[simp] theorem Dev.draw_ready (d : Dev) : d.draw.2.ready = d.ready := rfl
@[simp] theorem Dev.draw_imgs (d : Dev) : d.draw.2.imgs = d.imgs := rfl
@[simp] theorem Dev.draw_lljobs (d : Dev) : d.draw.2.lljobs = d.lljobs := rfl
@[simp] theorem Dev.draw_overlay (d : Dev) : d.draw.2.overlay = d.overlay := rfl
@[simp] theorem Dev.draw_mapc (d : Dev) : d.draw.2.mapc = d.mapc := rfl
@[simp] theorem Dev.draw_dir (d : Dev) : d.draw.2.dir = d.dir := rfl
@[simp] theorem Dev.draw_poison (d : Dev) : d.draw.2.poison = d.poison := rfl
@[simp] theorem Dev.draw_poisonSrc (d : Dev) : d.draw.2.poisonSrc = d.poisonSrc := rfl
@[simp] theorem Dev.draw_announced (d : Dev) : d.draw.2.announced = d.announced := rfl
@[simp] theorem Dev.draw_pilot (d : Dev) : d.draw.2.pilot = d.pilot := rfl
@[simp] theorem Dev.draw_corrected (d : Dev) : d.draw.2.corrected = d.corrected := rfl
@[simp] theorem Dev.draw_hold (d : Dev) : d.draw.2.hold = d.hold := rfl
@[simp] theorem Dev.draw_fe (d : Dev) : d.draw.2.fe = d.fe := rfl
@[simp] theorem Dev.draw_recAcks (d : Dev) : d.draw.2.recAcks = d.recAcks := rfl
@[simp] theorem Dev.draw_blocked (d : Dev) : d.draw.2.blocked = d.blocked := rfl
@[simp] theorem Dev.draw_deadLost (d : Dev) : d.draw.2.deadLost = d.deadLost := rfl
@[simp] theorem Dev.draw_gpf (d : Dev) : d.draw.2.gpf = d.gpf := rfl
@[simp] theorem Dev.draw_allowPages (d : Dev) : d.draw.2.allowPages = d.allowPages := rfl
@[simp] theorem Dev.draw_occupied (d : Dev) : d.draw.2.occupied = d.occupied := rfl
@[simp] theorem Dev.draw_capDue (d : Dev) : d.draw.2.capDue = d.capDue := rfl
@[simp] theorem Dev.draw_sdisc (d : Dev) : d.draw.2.sdisc = d.sdisc := rfl
@[simp] theorem Dev.draw_rekey (d : Dev) : d.draw.2.rekey = d.rekey := rfl
@[simp] theorem Dev.draw_sanitize (d : Dev) : d.draw.2.sanitize = d.sanitize := rfl
@[simp] theorem Dev.draw_keys (d : Dev) : d.draw.2.keys = d.keys := rfl
@[simp] theorem Dev.draw_keyCur (d : Dev) : d.draw.2.keyCur = d.keyCur := rfl
@[simp] theorem Dev.draw_badKeys (d : Dev) : d.draw.2.badKeys = d.badKeys := rfl
@[simp] theorem Dev.draw_seals (d : Dev) : d.draw.2.seals = d.seals := rfl
@[simp] theorem Dev.draw_chain (d : Dev) : d.draw.2.chain = d.chain := rfl
@[simp] theorem Dev.draw_sealHead (d : Dev) : d.draw.2.sealHead = d.sealHead := rfl
@[simp] theorem Dev.draw_saving (d : Dev) : d.draw.2.saving = d.saving := rfl
@[simp] theorem Dev.draw_ckpts (d : Dev) : d.draw.2.ckpts = d.ckpts := rfl
@[simp] theorem Dev.draw_ckptReq (d : Dev) : d.draw.2.ckptReq = d.ckptReq := rfl
@[simp] theorem Dev.draw_cutAt (d : Dev) : d.draw.2.cutAt = d.cutAt := rfl
@[simp] theorem Dev.draw_commitEclk (d : Dev) : d.draw.2.commitEclk = d.commitEclk := rfl
@[simp] theorem Dev.draw_locs (d : Dev) : d.draw.2.locs = d.locs := rfl
@[simp] theorem Dev.draw_lbk (d : Dev) : d.draw.2.lbk = d.lbk := rfl
@[simp] theorem Dev.draw_fuse (d : Dev) : d.draw.2.fuse = d.fuse := rfl
@[simp] theorem Dev.draw_heads (d : Dev) : d.draw.2.heads = d.heads := rfl
@[simp] theorem Dev.draw_stamp (d : Dev) : d.draw.2.stamp = d.stamp := rfl
@[simp] theorem Dev.draw_alertCfg (d : Dev) : d.draw.2.alertCfg = d.alertCfg := rfl
@[simp] theorem Dev.draw_patchNext (d : Dev) : d.draw.2.patchNext = d.patchNext := rfl
@[simp] theorem Dev.draw_patchOn (d : Dev) : d.draw.2.patchOn = d.patchOn := rfl
@[simp] theorem Dev.draw_i3c (d : Dev) : d.draw.2.i3c = d.i3c := rfl
@[simp] theorem Dev.draw_ord (d : Dev) : d.draw.2.ord = d.ord := rfl
@[simp] theorem Dev.draw_str (d : Dev) : d.draw.2.str = d.str := rfl
@[simp] theorem Dev.draw_deck (d : Dev) : d.draw.2.deck = d.deck := rfl
@[simp] theorem Dev.draw_engines (d : Dev) : d.draw.2.engines = d.engines := rfl
@[simp] theorem Dev.draw_quads (d : Dev) : d.draw.2.quads = d.quads := rfl
@[simp] theorem Dev.draw_chart (d : Dev) : d.draw.2.chart = d.chart := rfl
@[simp] theorem Dev.draw_pwr (d : Dev) : d.draw.2.pwr = d.pwr := rfl
@[simp] theorem Dev.draw_seqb (d : Dev) : d.draw.2.seqb = d.seqb := rfl
@[simp] theorem Dev.draw_wch (d : Dev) : d.draw.2.wch = d.wch := rfl
@[simp] theorem Dev.draw_saf (d : Dev) : d.draw.2.saf = d.saf := rfl
@[simp] theorem Dev.draw_thm (d : Dev) : d.draw.2.thm = d.thm := rfl
@[simp] theorem Dev.draw_ll (d : Dev) : d.draw.2.ll = d.ll := rfl
@[simp] theorem Dev.draw_reg (d : Dev) (k : Nat) : d.draw.2.reg k = d.reg k := rfl
@[simp] theorem Dev.draw_f (d : Dev) (K : Fld) : d.draw.2.f K = d.f K := rfl
@[simp] theorem Dev.draw_on (d : Dev) (K : Fld) : d.draw.2.on K = d.on K := rfl
@[simp] theorem Dev.draw_mode (d : Dev) (k : Nat) : d.draw.2.mode k = d.mode k := rfl
@[simp] theorem Dev.draw_pt (d : Dev) (k : Nat) : d.draw.2.pt k = d.pt k := rfl
@[simp] theorem Dev.draw_hm (d : Dev) (k : Nat) : d.draw.2.hm k = d.hm k := rfl
@[simp] theorem Dev.draw_head (d : Dev) (k : Nat) : d.draw.2.head k = d.head k := rfl
@[simp] theorem Dev.draw_eng (d : Dev) (k : Nat) : d.draw.2.eng k = d.eng k := rfl
@[simp] theorem Dev.draw_quad (d : Dev) (k : Nat) : d.draw.2.quad k = d.quad k := rfl
@[simp] theorem Dev.draw_stm (d : Dev) (k : Nat) : d.draw.2.stm k = d.stm k := rfl
@[simp] theorem Dev.draw_seg (d : Dev) (k : Nat) : d.draw.2.seg k = d.seg k := rfl

/-! ### setReg -/

@[simp] theorem Dev.setReg_time (d : Dev) (off v : Nat) : (d.setReg off v).time = d.time := by simp only [Dev.setReg]; split <;> rfl
@[simp] theorem Dev.setReg_opSec (d : Dev) (off v : Nat) : (d.setReg off v).opSec = d.opSec := by simp only [Dev.setReg]; split <;> rfl
@[simp] theorem Dev.setReg_cycle (d : Dev) (off v : Nat) : (d.setReg off v).cycle = d.cycle := by simp only [Dev.setReg]; split <;> rfl
@[simp] theorem Dev.setReg_nextCsn (d : Dev) (off v : Nat) : (d.setReg off v).nextCsn = d.nextCsn := by simp only [Dev.setReg]; split <;> rfl
@[simp] theorem Dev.setReg_nextCsn2 (d : Dev) (off v : Nat) : (d.setReg off v).nextCsn2 = d.nextCsn2 := by simp only [Dev.setReg]; split <;> rfl
@[simp] theorem Dev.setReg_seqOn (d : Dev) (off v : Nat) : (d.setReg off v).seqOn = d.seqOn := by simp only [Dev.setReg]; split <;> rfl
@[simp] theorem Dev.setReg_phase (d : Dev) (off v : Nat) : (d.setReg off v).phase = d.phase := by simp only [Dev.setReg]; split <;> rfl
@[simp] theorem Dev.setReg_locked (d : Dev) (off v : Nat) : (d.setReg off v).locked = d.locked := by simp only [Dev.setReg]; split <;> rfl
@[simp] theorem Dev.setReg_halves (d : Dev) (off v : Nat) : (d.setReg off v).halves = d.halves := by simp only [Dev.setReg]; split <;> rfl
@[simp] theorem Dev.setReg_freeCtr (d : Dev) (off v : Nat) : (d.setReg off v).freeCtr = d.freeCtr := by simp only [Dev.setReg]; split <;> rfl
@[simp] theorem Dev.setReg_out (d : Dev) (off v : Nat) : (d.setReg off v).out = d.out := by simp only [Dev.setReg]; split <;> rfl
@[simp] theorem Dev.setReg_sectors (d : Dev) (off v : Nat) : (d.setReg off v).sectors = d.sectors := by simp only [Dev.setReg]; split <;> rfl
@[simp] theorem Dev.setReg_segs (d : Dev) (off v : Nat) : (d.setReg off v).segs = d.segs := by simp only [Dev.setReg]; split <;> rfl
@[simp] theorem Dev.setReg_wnodes (d : Dev) (off v : Nat) : (d.setReg off v).wnodes = d.wnodes := by simp only [Dev.setReg]; split <;> rfl
@[simp] theorem Dev.setReg_groups (d : Dev) (off v : Nat) : (d.setReg off v).groups = d.groups := by simp only [Dev.setReg]; split <;> rfl
@[simp] theorem Dev.setReg_waitRecs (d : Dev) (off v : Nat) : (d.setReg off v).waitRecs = d.waitRecs := by simp only [Dev.setReg]; split <;> rfl
@[simp] theorem Dev.setReg_nextGroup (d : Dev) (off v : Nat) : (d.setReg off v).nextGroup = d.nextGroup := by simp only [Dev.setReg]; split <;> rfl
@[simp] theorem Dev.setReg_phis (d : Dev) (off v : Nat) : (d.setReg off v).phis = d.phis := by simp only [Dev.setReg]; split <;> rfl
@[simp] theorem Dev.setReg_points (d : Dev) (off v : Nat) : (d.setReg off v).points = d.points := by simp only [Dev.setReg]; split <;> rfl
@[simp] theorem Dev.setReg_homes (d : Dev) (off v : Nat) : (d.setReg off v).homes = d.homes := by simp only [Dev.setReg]; split <;> rfl
@[simp] theorem Dev.setReg_binn (d : Dev) (off v : Nat) : (d.setReg off v).binn = d.binn := by simp only [Dev.setReg]; split <;> rfl
@[simp] theorem Dev.setReg_ready (d : Dev) (off v : Nat) : (d.setReg off v).ready = d.ready := by simp only [Dev.setReg]; split <;> rfl
@[simp] theorem Dev.setReg_imgs (d : Dev) (off v : Nat) : (d.setReg off v).imgs = d.imgs := by simp only [Dev.setReg]; split <;> rfl
@[simp] theorem Dev.setReg_lljobs (d : Dev) (off v : Nat) : (d.setReg off v).lljobs = d.lljobs := by simp only [Dev.setReg]; split <;> rfl
@[simp] theorem Dev.setReg_overlay (d : Dev) (off v : Nat) : (d.setReg off v).overlay = d.overlay := by simp only [Dev.setReg]; split <;> rfl
@[simp] theorem Dev.setReg_mapc (d : Dev) (off v : Nat) : (d.setReg off v).mapc = d.mapc := by simp only [Dev.setReg]; split <;> rfl
@[simp] theorem Dev.setReg_dir (d : Dev) (off v : Nat) : (d.setReg off v).dir = d.dir := by simp only [Dev.setReg]; split <;> rfl
@[simp] theorem Dev.setReg_poison (d : Dev) (off v : Nat) : (d.setReg off v).poison = d.poison := by simp only [Dev.setReg]; split <;> rfl
@[simp] theorem Dev.setReg_poisonSrc (d : Dev) (off v : Nat) : (d.setReg off v).poisonSrc = d.poisonSrc := by simp only [Dev.setReg]; split <;> rfl
@[simp] theorem Dev.setReg_announced (d : Dev) (off v : Nat) : (d.setReg off v).announced = d.announced := by simp only [Dev.setReg]; split <;> rfl
@[simp] theorem Dev.setReg_pilot (d : Dev) (off v : Nat) : (d.setReg off v).pilot = d.pilot := by simp only [Dev.setReg]; split <;> rfl
@[simp] theorem Dev.setReg_corrected (d : Dev) (off v : Nat) : (d.setReg off v).corrected = d.corrected := by simp only [Dev.setReg]; split <;> rfl
@[simp] theorem Dev.setReg_hold (d : Dev) (off v : Nat) : (d.setReg off v).hold = d.hold := by simp only [Dev.setReg]; split <;> rfl
@[simp] theorem Dev.setReg_fe (d : Dev) (off v : Nat) : (d.setReg off v).fe = d.fe := by simp only [Dev.setReg]; split <;> rfl
@[simp] theorem Dev.setReg_recAcks (d : Dev) (off v : Nat) : (d.setReg off v).recAcks = d.recAcks := by simp only [Dev.setReg]; split <;> rfl
@[simp] theorem Dev.setReg_blocked (d : Dev) (off v : Nat) : (d.setReg off v).blocked = d.blocked := by simp only [Dev.setReg]; split <;> rfl
@[simp] theorem Dev.setReg_deadLost (d : Dev) (off v : Nat) : (d.setReg off v).deadLost = d.deadLost := by simp only [Dev.setReg]; split <;> rfl
@[simp] theorem Dev.setReg_gpf (d : Dev) (off v : Nat) : (d.setReg off v).gpf = d.gpf := by simp only [Dev.setReg]; split <;> rfl
@[simp] theorem Dev.setReg_allowPages (d : Dev) (off v : Nat) : (d.setReg off v).allowPages = d.allowPages := by simp only [Dev.setReg]; split <;> rfl
@[simp] theorem Dev.setReg_occupied (d : Dev) (off v : Nat) : (d.setReg off v).occupied = d.occupied := by simp only [Dev.setReg]; split <;> rfl
@[simp] theorem Dev.setReg_capDue (d : Dev) (off v : Nat) : (d.setReg off v).capDue = d.capDue := by simp only [Dev.setReg]; split <;> rfl
@[simp] theorem Dev.setReg_sdisc (d : Dev) (off v : Nat) : (d.setReg off v).sdisc = d.sdisc := by simp only [Dev.setReg]; split <;> rfl
@[simp] theorem Dev.setReg_rekey (d : Dev) (off v : Nat) : (d.setReg off v).rekey = d.rekey := by simp only [Dev.setReg]; split <;> rfl
@[simp] theorem Dev.setReg_sanitize (d : Dev) (off v : Nat) : (d.setReg off v).sanitize = d.sanitize := by simp only [Dev.setReg]; split <;> rfl
@[simp] theorem Dev.setReg_keys (d : Dev) (off v : Nat) : (d.setReg off v).keys = d.keys := by simp only [Dev.setReg]; split <;> rfl
@[simp] theorem Dev.setReg_keyCur (d : Dev) (off v : Nat) : (d.setReg off v).keyCur = d.keyCur := by simp only [Dev.setReg]; split <;> rfl
@[simp] theorem Dev.setReg_badKeys (d : Dev) (off v : Nat) : (d.setReg off v).badKeys = d.badKeys := by simp only [Dev.setReg]; split <;> rfl
@[simp] theorem Dev.setReg_seals (d : Dev) (off v : Nat) : (d.setReg off v).seals = d.seals := by simp only [Dev.setReg]; split <;> rfl
@[simp] theorem Dev.setReg_chain (d : Dev) (off v : Nat) : (d.setReg off v).chain = d.chain := by simp only [Dev.setReg]; split <;> rfl
@[simp] theorem Dev.setReg_sealHead (d : Dev) (off v : Nat) : (d.setReg off v).sealHead = d.sealHead := by simp only [Dev.setReg]; split <;> rfl
@[simp] theorem Dev.setReg_saving (d : Dev) (off v : Nat) : (d.setReg off v).saving = d.saving := by simp only [Dev.setReg]; split <;> rfl
@[simp] theorem Dev.setReg_ckpts (d : Dev) (off v : Nat) : (d.setReg off v).ckpts = d.ckpts := by simp only [Dev.setReg]; split <;> rfl
@[simp] theorem Dev.setReg_ckptReq (d : Dev) (off v : Nat) : (d.setReg off v).ckptReq = d.ckptReq := by simp only [Dev.setReg]; split <;> rfl
@[simp] theorem Dev.setReg_cutAt (d : Dev) (off v : Nat) : (d.setReg off v).cutAt = d.cutAt := by simp only [Dev.setReg]; split <;> rfl
@[simp] theorem Dev.setReg_commitEclk (d : Dev) (off v : Nat) : (d.setReg off v).commitEclk = d.commitEclk := by simp only [Dev.setReg]; split <;> rfl
@[simp] theorem Dev.setReg_locs (d : Dev) (off v : Nat) : (d.setReg off v).locs = d.locs := by simp only [Dev.setReg]; split <;> rfl
@[simp] theorem Dev.setReg_lbk (d : Dev) (off v : Nat) : (d.setReg off v).lbk = d.lbk := by simp only [Dev.setReg]; split <;> rfl
@[simp] theorem Dev.setReg_fuse (d : Dev) (off v : Nat) : (d.setReg off v).fuse = d.fuse := by simp only [Dev.setReg]; split <;> rfl
@[simp] theorem Dev.setReg_heads (d : Dev) (off v : Nat) : (d.setReg off v).heads = d.heads := by simp only [Dev.setReg]; split <;> rfl
@[simp] theorem Dev.setReg_stamp (d : Dev) (off v : Nat) : (d.setReg off v).stamp = d.stamp := by simp only [Dev.setReg]; split <;> rfl
@[simp] theorem Dev.setReg_alertCfg (d : Dev) (off v : Nat) : (d.setReg off v).alertCfg = d.alertCfg := by simp only [Dev.setReg]; split <;> rfl
@[simp] theorem Dev.setReg_patchNext (d : Dev) (off v : Nat) : (d.setReg off v).patchNext = d.patchNext := by simp only [Dev.setReg]; split <;> rfl
@[simp] theorem Dev.setReg_patchOn (d : Dev) (off v : Nat) : (d.setReg off v).patchOn = d.patchOn := by simp only [Dev.setReg]; split <;> rfl
@[simp] theorem Dev.setReg_i3c (d : Dev) (off v : Nat) : (d.setReg off v).i3c = d.i3c := by simp only [Dev.setReg]; split <;> rfl
@[simp] theorem Dev.setReg_ord (d : Dev) (off v : Nat) : (d.setReg off v).ord = d.ord := by simp only [Dev.setReg]; split <;> rfl
@[simp] theorem Dev.setReg_str (d : Dev) (off v : Nat) : (d.setReg off v).str = d.str := by simp only [Dev.setReg]; split <;> rfl
@[simp] theorem Dev.setReg_deck (d : Dev) (off v : Nat) : (d.setReg off v).deck = d.deck := by simp only [Dev.setReg]; split <;> rfl
@[simp] theorem Dev.setReg_engines (d : Dev) (off v : Nat) : (d.setReg off v).engines = d.engines := by simp only [Dev.setReg]; split <;> rfl
@[simp] theorem Dev.setReg_quads (d : Dev) (off v : Nat) : (d.setReg off v).quads = d.quads := by simp only [Dev.setReg]; split <;> rfl
@[simp] theorem Dev.setReg_chart (d : Dev) (off v : Nat) : (d.setReg off v).chart = d.chart := by simp only [Dev.setReg]; split <;> rfl
@[simp] theorem Dev.setReg_pwr (d : Dev) (off v : Nat) : (d.setReg off v).pwr = d.pwr := by simp only [Dev.setReg]; split <;> rfl
@[simp] theorem Dev.setReg_seqb (d : Dev) (off v : Nat) : (d.setReg off v).seqb = d.seqb := by simp only [Dev.setReg]; split <;> rfl
@[simp] theorem Dev.setReg_wch (d : Dev) (off v : Nat) : (d.setReg off v).wch = d.wch := by simp only [Dev.setReg]; split <;> rfl
@[simp] theorem Dev.setReg_saf (d : Dev) (off v : Nat) : (d.setReg off v).saf = d.saf := by simp only [Dev.setReg]; split <;> rfl
@[simp] theorem Dev.setReg_thm (d : Dev) (off v : Nat) : (d.setReg off v).thm = d.thm := by simp only [Dev.setReg]; split <;> rfl
@[simp] theorem Dev.setReg_ll (d : Dev) (off v : Nat) : (d.setReg off v).ll = d.ll := by simp only [Dev.setReg]; split <;> rfl
@[simp] theorem Dev.setReg_pt (d : Dev) (off v : Nat) (k : Nat) : (d.setReg off v).pt k = d.pt k := by simp [Dev.pt]
@[simp] theorem Dev.setReg_hm (d : Dev) (off v : Nat) (k : Nat) : (d.setReg off v).hm k = d.hm k := by simp [Dev.hm]
@[simp] theorem Dev.setReg_head (d : Dev) (off v : Nat) (k : Nat) : (d.setReg off v).head k = d.head k := by simp [Dev.head]
@[simp] theorem Dev.setReg_eng (d : Dev) (off v : Nat) (k : Nat) : (d.setReg off v).eng k = d.eng k := by simp [Dev.eng]
@[simp] theorem Dev.setReg_quad (d : Dev) (off v : Nat) (k : Nat) : (d.setReg off v).quad k = d.quad k := by simp [Dev.quad]
@[simp] theorem Dev.setReg_stm (d : Dev) (off v : Nat) (k : Nat) : (d.setReg off v).stm k = d.stm k := by simp [Dev.stm]

/-! ### setF -/

@[simp] theorem Dev.setF_time (d : Dev) (F : Fld) (v : Nat) : (d.setF F v).time = d.time := Dev.setReg_time ..
@[simp] theorem Dev.setF_opSec (d : Dev) (F : Fld) (v : Nat) : (d.setF F v).opSec = d.opSec := Dev.setReg_opSec ..
@[simp] theorem Dev.setF_cycle (d : Dev) (F : Fld) (v : Nat) : (d.setF F v).cycle = d.cycle := Dev.setReg_cycle ..
@[simp] theorem Dev.setF_nextCsn (d : Dev) (F : Fld) (v : Nat) : (d.setF F v).nextCsn = d.nextCsn := Dev.setReg_nextCsn ..
@[simp] theorem Dev.setF_nextCsn2 (d : Dev) (F : Fld) (v : Nat) : (d.setF F v).nextCsn2 = d.nextCsn2 := Dev.setReg_nextCsn2 ..
@[simp] theorem Dev.setF_seqOn (d : Dev) (F : Fld) (v : Nat) : (d.setF F v).seqOn = d.seqOn := Dev.setReg_seqOn ..
@[simp] theorem Dev.setF_phase (d : Dev) (F : Fld) (v : Nat) : (d.setF F v).phase = d.phase := Dev.setReg_phase ..
@[simp] theorem Dev.setF_locked (d : Dev) (F : Fld) (v : Nat) : (d.setF F v).locked = d.locked := Dev.setReg_locked ..
@[simp] theorem Dev.setF_halves (d : Dev) (F : Fld) (v : Nat) : (d.setF F v).halves = d.halves := Dev.setReg_halves ..
@[simp] theorem Dev.setF_freeCtr (d : Dev) (F : Fld) (v : Nat) : (d.setF F v).freeCtr = d.freeCtr := Dev.setReg_freeCtr ..
@[simp] theorem Dev.setF_out (d : Dev) (F : Fld) (v : Nat) : (d.setF F v).out = d.out := Dev.setReg_out ..
@[simp] theorem Dev.setF_sectors (d : Dev) (F : Fld) (v : Nat) : (d.setF F v).sectors = d.sectors := Dev.setReg_sectors ..
@[simp] theorem Dev.setF_segs (d : Dev) (F : Fld) (v : Nat) : (d.setF F v).segs = d.segs := Dev.setReg_segs ..
@[simp] theorem Dev.setF_wnodes (d : Dev) (F : Fld) (v : Nat) : (d.setF F v).wnodes = d.wnodes := Dev.setReg_wnodes ..
@[simp] theorem Dev.setF_groups (d : Dev) (F : Fld) (v : Nat) : (d.setF F v).groups = d.groups := Dev.setReg_groups ..
@[simp] theorem Dev.setF_waitRecs (d : Dev) (F : Fld) (v : Nat) : (d.setF F v).waitRecs = d.waitRecs := Dev.setReg_waitRecs ..
@[simp] theorem Dev.setF_nextGroup (d : Dev) (F : Fld) (v : Nat) : (d.setF F v).nextGroup = d.nextGroup := Dev.setReg_nextGroup ..
@[simp] theorem Dev.setF_phis (d : Dev) (F : Fld) (v : Nat) : (d.setF F v).phis = d.phis := Dev.setReg_phis ..
@[simp] theorem Dev.setF_points (d : Dev) (F : Fld) (v : Nat) : (d.setF F v).points = d.points := Dev.setReg_points ..
@[simp] theorem Dev.setF_homes (d : Dev) (F : Fld) (v : Nat) : (d.setF F v).homes = d.homes := Dev.setReg_homes ..
@[simp] theorem Dev.setF_binn (d : Dev) (F : Fld) (v : Nat) : (d.setF F v).binn = d.binn := Dev.setReg_binn ..
@[simp] theorem Dev.setF_ready (d : Dev) (F : Fld) (v : Nat) : (d.setF F v).ready = d.ready := Dev.setReg_ready ..
@[simp] theorem Dev.setF_imgs (d : Dev) (F : Fld) (v : Nat) : (d.setF F v).imgs = d.imgs := Dev.setReg_imgs ..
@[simp] theorem Dev.setF_lljobs (d : Dev) (F : Fld) (v : Nat) : (d.setF F v).lljobs = d.lljobs := Dev.setReg_lljobs ..
@[simp] theorem Dev.setF_overlay (d : Dev) (F : Fld) (v : Nat) : (d.setF F v).overlay = d.overlay := Dev.setReg_overlay ..
@[simp] theorem Dev.setF_mapc (d : Dev) (F : Fld) (v : Nat) : (d.setF F v).mapc = d.mapc := Dev.setReg_mapc ..
@[simp] theorem Dev.setF_dir (d : Dev) (F : Fld) (v : Nat) : (d.setF F v).dir = d.dir := Dev.setReg_dir ..
@[simp] theorem Dev.setF_poison (d : Dev) (F : Fld) (v : Nat) : (d.setF F v).poison = d.poison := Dev.setReg_poison ..
@[simp] theorem Dev.setF_poisonSrc (d : Dev) (F : Fld) (v : Nat) : (d.setF F v).poisonSrc = d.poisonSrc := Dev.setReg_poisonSrc ..
@[simp] theorem Dev.setF_announced (d : Dev) (F : Fld) (v : Nat) : (d.setF F v).announced = d.announced := Dev.setReg_announced ..
@[simp] theorem Dev.setF_pilot (d : Dev) (F : Fld) (v : Nat) : (d.setF F v).pilot = d.pilot := Dev.setReg_pilot ..
@[simp] theorem Dev.setF_corrected (d : Dev) (F : Fld) (v : Nat) : (d.setF F v).corrected = d.corrected := Dev.setReg_corrected ..
@[simp] theorem Dev.setF_hold (d : Dev) (F : Fld) (v : Nat) : (d.setF F v).hold = d.hold := Dev.setReg_hold ..
@[simp] theorem Dev.setF_fe (d : Dev) (F : Fld) (v : Nat) : (d.setF F v).fe = d.fe := Dev.setReg_fe ..
@[simp] theorem Dev.setF_recAcks (d : Dev) (F : Fld) (v : Nat) : (d.setF F v).recAcks = d.recAcks := Dev.setReg_recAcks ..
@[simp] theorem Dev.setF_blocked (d : Dev) (F : Fld) (v : Nat) : (d.setF F v).blocked = d.blocked := Dev.setReg_blocked ..
@[simp] theorem Dev.setF_deadLost (d : Dev) (F : Fld) (v : Nat) : (d.setF F v).deadLost = d.deadLost := Dev.setReg_deadLost ..
@[simp] theorem Dev.setF_gpf (d : Dev) (F : Fld) (v : Nat) : (d.setF F v).gpf = d.gpf := Dev.setReg_gpf ..
@[simp] theorem Dev.setF_allowPages (d : Dev) (F : Fld) (v : Nat) : (d.setF F v).allowPages = d.allowPages := Dev.setReg_allowPages ..
@[simp] theorem Dev.setF_occupied (d : Dev) (F : Fld) (v : Nat) : (d.setF F v).occupied = d.occupied := Dev.setReg_occupied ..
@[simp] theorem Dev.setF_capDue (d : Dev) (F : Fld) (v : Nat) : (d.setF F v).capDue = d.capDue := Dev.setReg_capDue ..
@[simp] theorem Dev.setF_sdisc (d : Dev) (F : Fld) (v : Nat) : (d.setF F v).sdisc = d.sdisc := Dev.setReg_sdisc ..
@[simp] theorem Dev.setF_rekey (d : Dev) (F : Fld) (v : Nat) : (d.setF F v).rekey = d.rekey := Dev.setReg_rekey ..
@[simp] theorem Dev.setF_sanitize (d : Dev) (F : Fld) (v : Nat) : (d.setF F v).sanitize = d.sanitize := Dev.setReg_sanitize ..
@[simp] theorem Dev.setF_keys (d : Dev) (F : Fld) (v : Nat) : (d.setF F v).keys = d.keys := Dev.setReg_keys ..
@[simp] theorem Dev.setF_keyCur (d : Dev) (F : Fld) (v : Nat) : (d.setF F v).keyCur = d.keyCur := Dev.setReg_keyCur ..
@[simp] theorem Dev.setF_badKeys (d : Dev) (F : Fld) (v : Nat) : (d.setF F v).badKeys = d.badKeys := Dev.setReg_badKeys ..
@[simp] theorem Dev.setF_seals (d : Dev) (F : Fld) (v : Nat) : (d.setF F v).seals = d.seals := Dev.setReg_seals ..
@[simp] theorem Dev.setF_chain (d : Dev) (F : Fld) (v : Nat) : (d.setF F v).chain = d.chain := Dev.setReg_chain ..
@[simp] theorem Dev.setF_sealHead (d : Dev) (F : Fld) (v : Nat) : (d.setF F v).sealHead = d.sealHead := Dev.setReg_sealHead ..
@[simp] theorem Dev.setF_saving (d : Dev) (F : Fld) (v : Nat) : (d.setF F v).saving = d.saving := Dev.setReg_saving ..
@[simp] theorem Dev.setF_ckpts (d : Dev) (F : Fld) (v : Nat) : (d.setF F v).ckpts = d.ckpts := Dev.setReg_ckpts ..
@[simp] theorem Dev.setF_ckptReq (d : Dev) (F : Fld) (v : Nat) : (d.setF F v).ckptReq = d.ckptReq := Dev.setReg_ckptReq ..
@[simp] theorem Dev.setF_cutAt (d : Dev) (F : Fld) (v : Nat) : (d.setF F v).cutAt = d.cutAt := Dev.setReg_cutAt ..
@[simp] theorem Dev.setF_commitEclk (d : Dev) (F : Fld) (v : Nat) : (d.setF F v).commitEclk = d.commitEclk := Dev.setReg_commitEclk ..
@[simp] theorem Dev.setF_locs (d : Dev) (F : Fld) (v : Nat) : (d.setF F v).locs = d.locs := Dev.setReg_locs ..
@[simp] theorem Dev.setF_lbk (d : Dev) (F : Fld) (v : Nat) : (d.setF F v).lbk = d.lbk := Dev.setReg_lbk ..
@[simp] theorem Dev.setF_fuse (d : Dev) (F : Fld) (v : Nat) : (d.setF F v).fuse = d.fuse := Dev.setReg_fuse ..
@[simp] theorem Dev.setF_heads (d : Dev) (F : Fld) (v : Nat) : (d.setF F v).heads = d.heads := Dev.setReg_heads ..
@[simp] theorem Dev.setF_stamp (d : Dev) (F : Fld) (v : Nat) : (d.setF F v).stamp = d.stamp := Dev.setReg_stamp ..
@[simp] theorem Dev.setF_alertCfg (d : Dev) (F : Fld) (v : Nat) : (d.setF F v).alertCfg = d.alertCfg := Dev.setReg_alertCfg ..
@[simp] theorem Dev.setF_patchNext (d : Dev) (F : Fld) (v : Nat) : (d.setF F v).patchNext = d.patchNext := Dev.setReg_patchNext ..
@[simp] theorem Dev.setF_patchOn (d : Dev) (F : Fld) (v : Nat) : (d.setF F v).patchOn = d.patchOn := Dev.setReg_patchOn ..
@[simp] theorem Dev.setF_i3c (d : Dev) (F : Fld) (v : Nat) : (d.setF F v).i3c = d.i3c := Dev.setReg_i3c ..
@[simp] theorem Dev.setF_ord (d : Dev) (F : Fld) (v : Nat) : (d.setF F v).ord = d.ord := Dev.setReg_ord ..
@[simp] theorem Dev.setF_str (d : Dev) (F : Fld) (v : Nat) : (d.setF F v).str = d.str := Dev.setReg_str ..
@[simp] theorem Dev.setF_deck (d : Dev) (F : Fld) (v : Nat) : (d.setF F v).deck = d.deck := Dev.setReg_deck ..
@[simp] theorem Dev.setF_engines (d : Dev) (F : Fld) (v : Nat) : (d.setF F v).engines = d.engines := Dev.setReg_engines ..
@[simp] theorem Dev.setF_quads (d : Dev) (F : Fld) (v : Nat) : (d.setF F v).quads = d.quads := Dev.setReg_quads ..
@[simp] theorem Dev.setF_chart (d : Dev) (F : Fld) (v : Nat) : (d.setF F v).chart = d.chart := Dev.setReg_chart ..
@[simp] theorem Dev.setF_pwr (d : Dev) (F : Fld) (v : Nat) : (d.setF F v).pwr = d.pwr := Dev.setReg_pwr ..
@[simp] theorem Dev.setF_seqb (d : Dev) (F : Fld) (v : Nat) : (d.setF F v).seqb = d.seqb := Dev.setReg_seqb ..
@[simp] theorem Dev.setF_wch (d : Dev) (F : Fld) (v : Nat) : (d.setF F v).wch = d.wch := Dev.setReg_wch ..
@[simp] theorem Dev.setF_saf (d : Dev) (F : Fld) (v : Nat) : (d.setF F v).saf = d.saf := Dev.setReg_saf ..
@[simp] theorem Dev.setF_thm (d : Dev) (F : Fld) (v : Nat) : (d.setF F v).thm = d.thm := Dev.setReg_thm ..
@[simp] theorem Dev.setF_ll (d : Dev) (F : Fld) (v : Nat) : (d.setF F v).ll = d.ll := Dev.setReg_ll ..
@[simp] theorem Dev.setF_pt (d : Dev) (F : Fld) (v : Nat) (k : Nat) : (d.setF F v).pt k = d.pt k := by simp [Dev.pt]
@[simp] theorem Dev.setF_hm (d : Dev) (F : Fld) (v : Nat) (k : Nat) : (d.setF F v).hm k = d.hm k := by simp [Dev.hm]
@[simp] theorem Dev.setF_head (d : Dev) (F : Fld) (v : Nat) (k : Nat) : (d.setF F v).head k = d.head k := by simp [Dev.head]
@[simp] theorem Dev.setF_eng (d : Dev) (F : Fld) (v : Nat) (k : Nat) : (d.setF F v).eng k = d.eng k := by simp [Dev.eng]
@[simp] theorem Dev.setF_quad (d : Dev) (F : Fld) (v : Nat) (k : Nat) : (d.setF F v).quad k = d.quad k := by simp [Dev.quad]
@[simp] theorem Dev.setF_stm (d : Dev) (F : Fld) (v : Nat) (k : Nat) : (d.setF F v).stm k = d.stm k := by simp [Dev.stm]

/-! ### orF -/

@[simp] theorem Dev.orF_time (d : Dev) (F : Fld) (v : Nat) : (d.orF F v).time = d.time := Dev.setF_time ..
@[simp] theorem Dev.orF_opSec (d : Dev) (F : Fld) (v : Nat) : (d.orF F v).opSec = d.opSec := Dev.setF_opSec ..
@[simp] theorem Dev.orF_cycle (d : Dev) (F : Fld) (v : Nat) : (d.orF F v).cycle = d.cycle := Dev.setF_cycle ..
@[simp] theorem Dev.orF_nextCsn (d : Dev) (F : Fld) (v : Nat) : (d.orF F v).nextCsn = d.nextCsn := Dev.setF_nextCsn ..
@[simp] theorem Dev.orF_nextCsn2 (d : Dev) (F : Fld) (v : Nat) : (d.orF F v).nextCsn2 = d.nextCsn2 := Dev.setF_nextCsn2 ..
@[simp] theorem Dev.orF_seqOn (d : Dev) (F : Fld) (v : Nat) : (d.orF F v).seqOn = d.seqOn := Dev.setF_seqOn ..
@[simp] theorem Dev.orF_phase (d : Dev) (F : Fld) (v : Nat) : (d.orF F v).phase = d.phase := Dev.setF_phase ..
@[simp] theorem Dev.orF_locked (d : Dev) (F : Fld) (v : Nat) : (d.orF F v).locked = d.locked := Dev.setF_locked ..
@[simp] theorem Dev.orF_halves (d : Dev) (F : Fld) (v : Nat) : (d.orF F v).halves = d.halves := Dev.setF_halves ..
@[simp] theorem Dev.orF_freeCtr (d : Dev) (F : Fld) (v : Nat) : (d.orF F v).freeCtr = d.freeCtr := Dev.setF_freeCtr ..
@[simp] theorem Dev.orF_out (d : Dev) (F : Fld) (v : Nat) : (d.orF F v).out = d.out := Dev.setF_out ..
@[simp] theorem Dev.orF_sectors (d : Dev) (F : Fld) (v : Nat) : (d.orF F v).sectors = d.sectors := Dev.setF_sectors ..
@[simp] theorem Dev.orF_segs (d : Dev) (F : Fld) (v : Nat) : (d.orF F v).segs = d.segs := Dev.setF_segs ..
@[simp] theorem Dev.orF_wnodes (d : Dev) (F : Fld) (v : Nat) : (d.orF F v).wnodes = d.wnodes := Dev.setF_wnodes ..
@[simp] theorem Dev.orF_groups (d : Dev) (F : Fld) (v : Nat) : (d.orF F v).groups = d.groups := Dev.setF_groups ..
@[simp] theorem Dev.orF_waitRecs (d : Dev) (F : Fld) (v : Nat) : (d.orF F v).waitRecs = d.waitRecs := Dev.setF_waitRecs ..
@[simp] theorem Dev.orF_nextGroup (d : Dev) (F : Fld) (v : Nat) : (d.orF F v).nextGroup = d.nextGroup := Dev.setF_nextGroup ..
@[simp] theorem Dev.orF_phis (d : Dev) (F : Fld) (v : Nat) : (d.orF F v).phis = d.phis := Dev.setF_phis ..
@[simp] theorem Dev.orF_points (d : Dev) (F : Fld) (v : Nat) : (d.orF F v).points = d.points := Dev.setF_points ..
@[simp] theorem Dev.orF_homes (d : Dev) (F : Fld) (v : Nat) : (d.orF F v).homes = d.homes := Dev.setF_homes ..
@[simp] theorem Dev.orF_binn (d : Dev) (F : Fld) (v : Nat) : (d.orF F v).binn = d.binn := Dev.setF_binn ..
@[simp] theorem Dev.orF_ready (d : Dev) (F : Fld) (v : Nat) : (d.orF F v).ready = d.ready := Dev.setF_ready ..
@[simp] theorem Dev.orF_imgs (d : Dev) (F : Fld) (v : Nat) : (d.orF F v).imgs = d.imgs := Dev.setF_imgs ..
@[simp] theorem Dev.orF_lljobs (d : Dev) (F : Fld) (v : Nat) : (d.orF F v).lljobs = d.lljobs := Dev.setF_lljobs ..
@[simp] theorem Dev.orF_overlay (d : Dev) (F : Fld) (v : Nat) : (d.orF F v).overlay = d.overlay := Dev.setF_overlay ..
@[simp] theorem Dev.orF_mapc (d : Dev) (F : Fld) (v : Nat) : (d.orF F v).mapc = d.mapc := Dev.setF_mapc ..
@[simp] theorem Dev.orF_dir (d : Dev) (F : Fld) (v : Nat) : (d.orF F v).dir = d.dir := Dev.setF_dir ..
@[simp] theorem Dev.orF_poison (d : Dev) (F : Fld) (v : Nat) : (d.orF F v).poison = d.poison := Dev.setF_poison ..
@[simp] theorem Dev.orF_poisonSrc (d : Dev) (F : Fld) (v : Nat) : (d.orF F v).poisonSrc = d.poisonSrc := Dev.setF_poisonSrc ..
@[simp] theorem Dev.orF_announced (d : Dev) (F : Fld) (v : Nat) : (d.orF F v).announced = d.announced := Dev.setF_announced ..
@[simp] theorem Dev.orF_pilot (d : Dev) (F : Fld) (v : Nat) : (d.orF F v).pilot = d.pilot := Dev.setF_pilot ..
@[simp] theorem Dev.orF_corrected (d : Dev) (F : Fld) (v : Nat) : (d.orF F v).corrected = d.corrected := Dev.setF_corrected ..
@[simp] theorem Dev.orF_hold (d : Dev) (F : Fld) (v : Nat) : (d.orF F v).hold = d.hold := Dev.setF_hold ..
@[simp] theorem Dev.orF_fe (d : Dev) (F : Fld) (v : Nat) : (d.orF F v).fe = d.fe := Dev.setF_fe ..
@[simp] theorem Dev.orF_recAcks (d : Dev) (F : Fld) (v : Nat) : (d.orF F v).recAcks = d.recAcks := Dev.setF_recAcks ..
@[simp] theorem Dev.orF_blocked (d : Dev) (F : Fld) (v : Nat) : (d.orF F v).blocked = d.blocked := Dev.setF_blocked ..
@[simp] theorem Dev.orF_deadLost (d : Dev) (F : Fld) (v : Nat) : (d.orF F v).deadLost = d.deadLost := Dev.setF_deadLost ..
@[simp] theorem Dev.orF_gpf (d : Dev) (F : Fld) (v : Nat) : (d.orF F v).gpf = d.gpf := Dev.setF_gpf ..
@[simp] theorem Dev.orF_allowPages (d : Dev) (F : Fld) (v : Nat) : (d.orF F v).allowPages = d.allowPages := Dev.setF_allowPages ..
@[simp] theorem Dev.orF_occupied (d : Dev) (F : Fld) (v : Nat) : (d.orF F v).occupied = d.occupied := Dev.setF_occupied ..
@[simp] theorem Dev.orF_capDue (d : Dev) (F : Fld) (v : Nat) : (d.orF F v).capDue = d.capDue := Dev.setF_capDue ..
@[simp] theorem Dev.orF_sdisc (d : Dev) (F : Fld) (v : Nat) : (d.orF F v).sdisc = d.sdisc := Dev.setF_sdisc ..
@[simp] theorem Dev.orF_rekey (d : Dev) (F : Fld) (v : Nat) : (d.orF F v).rekey = d.rekey := Dev.setF_rekey ..
@[simp] theorem Dev.orF_sanitize (d : Dev) (F : Fld) (v : Nat) : (d.orF F v).sanitize = d.sanitize := Dev.setF_sanitize ..
@[simp] theorem Dev.orF_keys (d : Dev) (F : Fld) (v : Nat) : (d.orF F v).keys = d.keys := Dev.setF_keys ..
@[simp] theorem Dev.orF_keyCur (d : Dev) (F : Fld) (v : Nat) : (d.orF F v).keyCur = d.keyCur := Dev.setF_keyCur ..
@[simp] theorem Dev.orF_badKeys (d : Dev) (F : Fld) (v : Nat) : (d.orF F v).badKeys = d.badKeys := Dev.setF_badKeys ..
@[simp] theorem Dev.orF_seals (d : Dev) (F : Fld) (v : Nat) : (d.orF F v).seals = d.seals := Dev.setF_seals ..
@[simp] theorem Dev.orF_chain (d : Dev) (F : Fld) (v : Nat) : (d.orF F v).chain = d.chain := Dev.setF_chain ..
@[simp] theorem Dev.orF_sealHead (d : Dev) (F : Fld) (v : Nat) : (d.orF F v).sealHead = d.sealHead := Dev.setF_sealHead ..
@[simp] theorem Dev.orF_saving (d : Dev) (F : Fld) (v : Nat) : (d.orF F v).saving = d.saving := Dev.setF_saving ..
@[simp] theorem Dev.orF_ckpts (d : Dev) (F : Fld) (v : Nat) : (d.orF F v).ckpts = d.ckpts := Dev.setF_ckpts ..
@[simp] theorem Dev.orF_ckptReq (d : Dev) (F : Fld) (v : Nat) : (d.orF F v).ckptReq = d.ckptReq := Dev.setF_ckptReq ..
@[simp] theorem Dev.orF_cutAt (d : Dev) (F : Fld) (v : Nat) : (d.orF F v).cutAt = d.cutAt := Dev.setF_cutAt ..
@[simp] theorem Dev.orF_commitEclk (d : Dev) (F : Fld) (v : Nat) : (d.orF F v).commitEclk = d.commitEclk := Dev.setF_commitEclk ..
@[simp] theorem Dev.orF_locs (d : Dev) (F : Fld) (v : Nat) : (d.orF F v).locs = d.locs := Dev.setF_locs ..
@[simp] theorem Dev.orF_lbk (d : Dev) (F : Fld) (v : Nat) : (d.orF F v).lbk = d.lbk := Dev.setF_lbk ..
@[simp] theorem Dev.orF_fuse (d : Dev) (F : Fld) (v : Nat) : (d.orF F v).fuse = d.fuse := Dev.setF_fuse ..
@[simp] theorem Dev.orF_heads (d : Dev) (F : Fld) (v : Nat) : (d.orF F v).heads = d.heads := Dev.setF_heads ..
@[simp] theorem Dev.orF_stamp (d : Dev) (F : Fld) (v : Nat) : (d.orF F v).stamp = d.stamp := Dev.setF_stamp ..
@[simp] theorem Dev.orF_alertCfg (d : Dev) (F : Fld) (v : Nat) : (d.orF F v).alertCfg = d.alertCfg := Dev.setF_alertCfg ..
@[simp] theorem Dev.orF_patchNext (d : Dev) (F : Fld) (v : Nat) : (d.orF F v).patchNext = d.patchNext := Dev.setF_patchNext ..
@[simp] theorem Dev.orF_patchOn (d : Dev) (F : Fld) (v : Nat) : (d.orF F v).patchOn = d.patchOn := Dev.setF_patchOn ..
@[simp] theorem Dev.orF_i3c (d : Dev) (F : Fld) (v : Nat) : (d.orF F v).i3c = d.i3c := Dev.setF_i3c ..
@[simp] theorem Dev.orF_ord (d : Dev) (F : Fld) (v : Nat) : (d.orF F v).ord = d.ord := Dev.setF_ord ..
@[simp] theorem Dev.orF_str (d : Dev) (F : Fld) (v : Nat) : (d.orF F v).str = d.str := Dev.setF_str ..
@[simp] theorem Dev.orF_deck (d : Dev) (F : Fld) (v : Nat) : (d.orF F v).deck = d.deck := Dev.setF_deck ..
@[simp] theorem Dev.orF_engines (d : Dev) (F : Fld) (v : Nat) : (d.orF F v).engines = d.engines := Dev.setF_engines ..
@[simp] theorem Dev.orF_quads (d : Dev) (F : Fld) (v : Nat) : (d.orF F v).quads = d.quads := Dev.setF_quads ..
@[simp] theorem Dev.orF_chart (d : Dev) (F : Fld) (v : Nat) : (d.orF F v).chart = d.chart := Dev.setF_chart ..
@[simp] theorem Dev.orF_pwr (d : Dev) (F : Fld) (v : Nat) : (d.orF F v).pwr = d.pwr := Dev.setF_pwr ..
@[simp] theorem Dev.orF_seqb (d : Dev) (F : Fld) (v : Nat) : (d.orF F v).seqb = d.seqb := Dev.setF_seqb ..
@[simp] theorem Dev.orF_wch (d : Dev) (F : Fld) (v : Nat) : (d.orF F v).wch = d.wch := Dev.setF_wch ..
@[simp] theorem Dev.orF_saf (d : Dev) (F : Fld) (v : Nat) : (d.orF F v).saf = d.saf := Dev.setF_saf ..
@[simp] theorem Dev.orF_thm (d : Dev) (F : Fld) (v : Nat) : (d.orF F v).thm = d.thm := Dev.setF_thm ..
@[simp] theorem Dev.orF_ll (d : Dev) (F : Fld) (v : Nat) : (d.orF F v).ll = d.ll := Dev.setF_ll ..
@[simp] theorem Dev.orF_pt (d : Dev) (F : Fld) (v : Nat) (k : Nat) : (d.orF F v).pt k = d.pt k := by simp [Dev.pt]
@[simp] theorem Dev.orF_hm (d : Dev) (F : Fld) (v : Nat) (k : Nat) : (d.orF F v).hm k = d.hm k := by simp [Dev.hm]
@[simp] theorem Dev.orF_head (d : Dev) (F : Fld) (v : Nat) (k : Nat) : (d.orF F v).head k = d.head k := by simp [Dev.head]
@[simp] theorem Dev.orF_eng (d : Dev) (F : Fld) (v : Nat) (k : Nat) : (d.orF F v).eng k = d.eng k := by simp [Dev.eng]
@[simp] theorem Dev.orF_quad (d : Dev) (F : Fld) (v : Nat) (k : Nat) : (d.orF F v).quad k = d.quad k := by simp [Dev.quad]
@[simp] theorem Dev.orF_stm (d : Dev) (F : Fld) (v : Nat) (k : Nat) : (d.orF F v).stm k = d.stm k := by simp [Dev.stm]

/-! ### cnt -/

@[simp] theorem Dev.cnt_time (d : Dev) (F : Fld) (n : Nat) : (d.cnt F n).time = d.time := Dev.setF_time ..
@[simp] theorem Dev.cnt_opSec (d : Dev) (F : Fld) (n : Nat) : (d.cnt F n).opSec = d.opSec := Dev.setF_opSec ..
@[simp] theorem Dev.cnt_cycle (d : Dev) (F : Fld) (n : Nat) : (d.cnt F n).cycle = d.cycle := Dev.setF_cycle ..
@[simp] theorem Dev.cnt_nextCsn (d : Dev) (F : Fld) (n : Nat) : (d.cnt F n).nextCsn = d.nextCsn := Dev.setF_nextCsn ..
@[simp] theorem Dev.cnt_nextCsn2 (d : Dev) (F : Fld) (n : Nat) : (d.cnt F n).nextCsn2 = d.nextCsn2 := Dev.setF_nextCsn2 ..
@[simp] theorem Dev.cnt_seqOn (d : Dev) (F : Fld) (n : Nat) : (d.cnt F n).seqOn = d.seqOn := Dev.setF_seqOn ..
@[simp] theorem Dev.cnt_phase (d : Dev) (F : Fld) (n : Nat) : (d.cnt F n).phase = d.phase := Dev.setF_phase ..
@[simp] theorem Dev.cnt_locked (d : Dev) (F : Fld) (n : Nat) : (d.cnt F n).locked = d.locked := Dev.setF_locked ..
@[simp] theorem Dev.cnt_halves (d : Dev) (F : Fld) (n : Nat) : (d.cnt F n).halves = d.halves := Dev.setF_halves ..
@[simp] theorem Dev.cnt_freeCtr (d : Dev) (F : Fld) (n : Nat) : (d.cnt F n).freeCtr = d.freeCtr := Dev.setF_freeCtr ..
@[simp] theorem Dev.cnt_out (d : Dev) (F : Fld) (n : Nat) : (d.cnt F n).out = d.out := Dev.setF_out ..
@[simp] theorem Dev.cnt_sectors (d : Dev) (F : Fld) (n : Nat) : (d.cnt F n).sectors = d.sectors := Dev.setF_sectors ..
@[simp] theorem Dev.cnt_segs (d : Dev) (F : Fld) (n : Nat) : (d.cnt F n).segs = d.segs := Dev.setF_segs ..
@[simp] theorem Dev.cnt_wnodes (d : Dev) (F : Fld) (n : Nat) : (d.cnt F n).wnodes = d.wnodes := Dev.setF_wnodes ..
@[simp] theorem Dev.cnt_groups (d : Dev) (F : Fld) (n : Nat) : (d.cnt F n).groups = d.groups := Dev.setF_groups ..
@[simp] theorem Dev.cnt_waitRecs (d : Dev) (F : Fld) (n : Nat) : (d.cnt F n).waitRecs = d.waitRecs := Dev.setF_waitRecs ..
@[simp] theorem Dev.cnt_nextGroup (d : Dev) (F : Fld) (n : Nat) : (d.cnt F n).nextGroup = d.nextGroup := Dev.setF_nextGroup ..
@[simp] theorem Dev.cnt_phis (d : Dev) (F : Fld) (n : Nat) : (d.cnt F n).phis = d.phis := Dev.setF_phis ..
@[simp] theorem Dev.cnt_points (d : Dev) (F : Fld) (n : Nat) : (d.cnt F n).points = d.points := Dev.setF_points ..
@[simp] theorem Dev.cnt_homes (d : Dev) (F : Fld) (n : Nat) : (d.cnt F n).homes = d.homes := Dev.setF_homes ..
@[simp] theorem Dev.cnt_binn (d : Dev) (F : Fld) (n : Nat) : (d.cnt F n).binn = d.binn := Dev.setF_binn ..
@[simp] theorem Dev.cnt_ready (d : Dev) (F : Fld) (n : Nat) : (d.cnt F n).ready = d.ready := Dev.setF_ready ..
@[simp] theorem Dev.cnt_imgs (d : Dev) (F : Fld) (n : Nat) : (d.cnt F n).imgs = d.imgs := Dev.setF_imgs ..
@[simp] theorem Dev.cnt_lljobs (d : Dev) (F : Fld) (n : Nat) : (d.cnt F n).lljobs = d.lljobs := Dev.setF_lljobs ..
@[simp] theorem Dev.cnt_overlay (d : Dev) (F : Fld) (n : Nat) : (d.cnt F n).overlay = d.overlay := Dev.setF_overlay ..
@[simp] theorem Dev.cnt_mapc (d : Dev) (F : Fld) (n : Nat) : (d.cnt F n).mapc = d.mapc := Dev.setF_mapc ..
@[simp] theorem Dev.cnt_dir (d : Dev) (F : Fld) (n : Nat) : (d.cnt F n).dir = d.dir := Dev.setF_dir ..
@[simp] theorem Dev.cnt_poison (d : Dev) (F : Fld) (n : Nat) : (d.cnt F n).poison = d.poison := Dev.setF_poison ..
@[simp] theorem Dev.cnt_poisonSrc (d : Dev) (F : Fld) (n : Nat) : (d.cnt F n).poisonSrc = d.poisonSrc := Dev.setF_poisonSrc ..
@[simp] theorem Dev.cnt_announced (d : Dev) (F : Fld) (n : Nat) : (d.cnt F n).announced = d.announced := Dev.setF_announced ..
@[simp] theorem Dev.cnt_pilot (d : Dev) (F : Fld) (n : Nat) : (d.cnt F n).pilot = d.pilot := Dev.setF_pilot ..
@[simp] theorem Dev.cnt_corrected (d : Dev) (F : Fld) (n : Nat) : (d.cnt F n).corrected = d.corrected := Dev.setF_corrected ..
@[simp] theorem Dev.cnt_hold (d : Dev) (F : Fld) (n : Nat) : (d.cnt F n).hold = d.hold := Dev.setF_hold ..
@[simp] theorem Dev.cnt_fe (d : Dev) (F : Fld) (n : Nat) : (d.cnt F n).fe = d.fe := Dev.setF_fe ..
@[simp] theorem Dev.cnt_recAcks (d : Dev) (F : Fld) (n : Nat) : (d.cnt F n).recAcks = d.recAcks := Dev.setF_recAcks ..
@[simp] theorem Dev.cnt_blocked (d : Dev) (F : Fld) (n : Nat) : (d.cnt F n).blocked = d.blocked := Dev.setF_blocked ..
@[simp] theorem Dev.cnt_deadLost (d : Dev) (F : Fld) (n : Nat) : (d.cnt F n).deadLost = d.deadLost := Dev.setF_deadLost ..
@[simp] theorem Dev.cnt_gpf (d : Dev) (F : Fld) (n : Nat) : (d.cnt F n).gpf = d.gpf := Dev.setF_gpf ..
@[simp] theorem Dev.cnt_allowPages (d : Dev) (F : Fld) (n : Nat) : (d.cnt F n).allowPages = d.allowPages := Dev.setF_allowPages ..
@[simp] theorem Dev.cnt_occupied (d : Dev) (F : Fld) (n : Nat) : (d.cnt F n).occupied = d.occupied := Dev.setF_occupied ..
@[simp] theorem Dev.cnt_capDue (d : Dev) (F : Fld) (n : Nat) : (d.cnt F n).capDue = d.capDue := Dev.setF_capDue ..
@[simp] theorem Dev.cnt_sdisc (d : Dev) (F : Fld) (n : Nat) : (d.cnt F n).sdisc = d.sdisc := Dev.setF_sdisc ..
@[simp] theorem Dev.cnt_rekey (d : Dev) (F : Fld) (n : Nat) : (d.cnt F n).rekey = d.rekey := Dev.setF_rekey ..
@[simp] theorem Dev.cnt_sanitize (d : Dev) (F : Fld) (n : Nat) : (d.cnt F n).sanitize = d.sanitize := Dev.setF_sanitize ..
@[simp] theorem Dev.cnt_keys (d : Dev) (F : Fld) (n : Nat) : (d.cnt F n).keys = d.keys := Dev.setF_keys ..
@[simp] theorem Dev.cnt_keyCur (d : Dev) (F : Fld) (n : Nat) : (d.cnt F n).keyCur = d.keyCur := Dev.setF_keyCur ..
@[simp] theorem Dev.cnt_badKeys (d : Dev) (F : Fld) (n : Nat) : (d.cnt F n).badKeys = d.badKeys := Dev.setF_badKeys ..
@[simp] theorem Dev.cnt_seals (d : Dev) (F : Fld) (n : Nat) : (d.cnt F n).seals = d.seals := Dev.setF_seals ..
@[simp] theorem Dev.cnt_chain (d : Dev) (F : Fld) (n : Nat) : (d.cnt F n).chain = d.chain := Dev.setF_chain ..
@[simp] theorem Dev.cnt_sealHead (d : Dev) (F : Fld) (n : Nat) : (d.cnt F n).sealHead = d.sealHead := Dev.setF_sealHead ..
@[simp] theorem Dev.cnt_saving (d : Dev) (F : Fld) (n : Nat) : (d.cnt F n).saving = d.saving := Dev.setF_saving ..
@[simp] theorem Dev.cnt_ckpts (d : Dev) (F : Fld) (n : Nat) : (d.cnt F n).ckpts = d.ckpts := Dev.setF_ckpts ..
@[simp] theorem Dev.cnt_ckptReq (d : Dev) (F : Fld) (n : Nat) : (d.cnt F n).ckptReq = d.ckptReq := Dev.setF_ckptReq ..
@[simp] theorem Dev.cnt_cutAt (d : Dev) (F : Fld) (n : Nat) : (d.cnt F n).cutAt = d.cutAt := Dev.setF_cutAt ..
@[simp] theorem Dev.cnt_commitEclk (d : Dev) (F : Fld) (n : Nat) : (d.cnt F n).commitEclk = d.commitEclk := Dev.setF_commitEclk ..
@[simp] theorem Dev.cnt_locs (d : Dev) (F : Fld) (n : Nat) : (d.cnt F n).locs = d.locs := Dev.setF_locs ..
@[simp] theorem Dev.cnt_lbk (d : Dev) (F : Fld) (n : Nat) : (d.cnt F n).lbk = d.lbk := Dev.setF_lbk ..
@[simp] theorem Dev.cnt_fuse (d : Dev) (F : Fld) (n : Nat) : (d.cnt F n).fuse = d.fuse := Dev.setF_fuse ..
@[simp] theorem Dev.cnt_heads (d : Dev) (F : Fld) (n : Nat) : (d.cnt F n).heads = d.heads := Dev.setF_heads ..
@[simp] theorem Dev.cnt_stamp (d : Dev) (F : Fld) (n : Nat) : (d.cnt F n).stamp = d.stamp := Dev.setF_stamp ..
@[simp] theorem Dev.cnt_alertCfg (d : Dev) (F : Fld) (n : Nat) : (d.cnt F n).alertCfg = d.alertCfg := Dev.setF_alertCfg ..
@[simp] theorem Dev.cnt_patchNext (d : Dev) (F : Fld) (n : Nat) : (d.cnt F n).patchNext = d.patchNext := Dev.setF_patchNext ..
@[simp] theorem Dev.cnt_patchOn (d : Dev) (F : Fld) (n : Nat) : (d.cnt F n).patchOn = d.patchOn := Dev.setF_patchOn ..
@[simp] theorem Dev.cnt_i3c (d : Dev) (F : Fld) (n : Nat) : (d.cnt F n).i3c = d.i3c := Dev.setF_i3c ..
@[simp] theorem Dev.cnt_ord (d : Dev) (F : Fld) (n : Nat) : (d.cnt F n).ord = d.ord := Dev.setF_ord ..
@[simp] theorem Dev.cnt_str (d : Dev) (F : Fld) (n : Nat) : (d.cnt F n).str = d.str := Dev.setF_str ..
@[simp] theorem Dev.cnt_deck (d : Dev) (F : Fld) (n : Nat) : (d.cnt F n).deck = d.deck := Dev.setF_deck ..
@[simp] theorem Dev.cnt_engines (d : Dev) (F : Fld) (n : Nat) : (d.cnt F n).engines = d.engines := Dev.setF_engines ..
@[simp] theorem Dev.cnt_quads (d : Dev) (F : Fld) (n : Nat) : (d.cnt F n).quads = d.quads := Dev.setF_quads ..
@[simp] theorem Dev.cnt_chart (d : Dev) (F : Fld) (n : Nat) : (d.cnt F n).chart = d.chart := Dev.setF_chart ..
@[simp] theorem Dev.cnt_pwr (d : Dev) (F : Fld) (n : Nat) : (d.cnt F n).pwr = d.pwr := Dev.setF_pwr ..
@[simp] theorem Dev.cnt_seqb (d : Dev) (F : Fld) (n : Nat) : (d.cnt F n).seqb = d.seqb := Dev.setF_seqb ..
@[simp] theorem Dev.cnt_wch (d : Dev) (F : Fld) (n : Nat) : (d.cnt F n).wch = d.wch := Dev.setF_wch ..
@[simp] theorem Dev.cnt_saf (d : Dev) (F : Fld) (n : Nat) : (d.cnt F n).saf = d.saf := Dev.setF_saf ..
@[simp] theorem Dev.cnt_thm (d : Dev) (F : Fld) (n : Nat) : (d.cnt F n).thm = d.thm := Dev.setF_thm ..
@[simp] theorem Dev.cnt_ll (d : Dev) (F : Fld) (n : Nat) : (d.cnt F n).ll = d.ll := Dev.setF_ll ..
@[simp] theorem Dev.cnt_pt (d : Dev) (F : Fld) (n : Nat) (k : Nat) : (d.cnt F n).pt k = d.pt k := by simp [Dev.pt]
@[simp] theorem Dev.cnt_hm (d : Dev) (F : Fld) (n : Nat) (k : Nat) : (d.cnt F n).hm k = d.hm k := by simp [Dev.hm]
@[simp] theorem Dev.cnt_head (d : Dev) (F : Fld) (n : Nat) (k : Nat) : (d.cnt F n).head k = d.head k := by simp [Dev.head]
@[simp] theorem Dev.cnt_eng (d : Dev) (F : Fld) (n : Nat) (k : Nat) : (d.cnt F n).eng k = d.eng k := by simp [Dev.eng]
@[simp] theorem Dev.cnt_quad (d : Dev) (F : Fld) (n : Nat) (k : Nat) : (d.cnt F n).quad k = d.quad k := by simp [Dev.quad]
@[simp] theorem Dev.cnt_stm (d : Dev) (F : Fld) (n : Nat) (k : Nat) : (d.cnt F n).stm k = d.stm k := by simp [Dev.stm]

/-! ### modPt -/

@[simp] theorem Dev.modPt_time (d : Dev) (n : Nat) (g : Point → Point) : (d.modPt n g).time = d.time := rfl
@[simp] theorem Dev.modPt_opSec (d : Dev) (n : Nat) (g : Point → Point) : (d.modPt n g).opSec = d.opSec := rfl
@[simp] theorem Dev.modPt_cycle (d : Dev) (n : Nat) (g : Point → Point) : (d.modPt n g).cycle = d.cycle := rfl
@[simp] theorem Dev.modPt_nextCsn (d : Dev) (n : Nat) (g : Point → Point) : (d.modPt n g).nextCsn = d.nextCsn := rfl
@[simp] theorem Dev.modPt_nextCsn2 (d : Dev) (n : Nat) (g : Point → Point) : (d.modPt n g).nextCsn2 = d.nextCsn2 := rfl
@[simp] theorem Dev.modPt_seqOn (d : Dev) (n : Nat) (g : Point → Point) : (d.modPt n g).seqOn = d.seqOn := rfl
@[simp] theorem Dev.modPt_phase (d : Dev) (n : Nat) (g : Point → Point) : (d.modPt n g).phase = d.phase := rfl
@[simp] theorem Dev.modPt_regs (d : Dev) (n : Nat) (g : Point → Point) : (d.modPt n g).regs = d.regs := rfl
@[simp] theorem Dev.modPt_locked (d : Dev) (n : Nat) (g : Point → Point) : (d.modPt n g).locked = d.locked := rfl
@[simp] theorem Dev.modPt_halves (d : Dev) (n : Nat) (g : Point → Point) : (d.modPt n g).halves = d.halves := rfl
@[simp] theorem Dev.modPt_freeCtr (d : Dev) (n : Nat) (g : Point → Point) : (d.modPt n g).freeCtr = d.freeCtr := rfl
@[simp] theorem Dev.modPt_out (d : Dev) (n : Nat) (g : Point → Point) : (d.modPt n g).out = d.out := rfl
@[simp] theorem Dev.modPt_sectors (d : Dev) (n : Nat) (g : Point → Point) : (d.modPt n g).sectors = d.sectors := rfl
@[simp] theorem Dev.modPt_segs (d : Dev) (n : Nat) (g : Point → Point) : (d.modPt n g).segs = d.segs := rfl
@[simp] theorem Dev.modPt_wnodes (d : Dev) (n : Nat) (g : Point → Point) : (d.modPt n g).wnodes = d.wnodes := rfl
@[simp] theorem Dev.modPt_groups (d : Dev) (n : Nat) (g : Point → Point) : (d.modPt n g).groups = d.groups := rfl
@[simp] theorem Dev.modPt_waitRecs (d : Dev) (n : Nat) (g : Point → Point) : (d.modPt n g).waitRecs = d.waitRecs := rfl
@[simp] theorem Dev.modPt_nextGroup (d : Dev) (n : Nat) (g : Point → Point) : (d.modPt n g).nextGroup = d.nextGroup := rfl
@[simp] theorem Dev.modPt_phis (d : Dev) (n : Nat) (g : Point → Point) : (d.modPt n g).phis = d.phis := rfl
@[simp] theorem Dev.modPt_homes (d : Dev) (n : Nat) (g : Point → Point) : (d.modPt n g).homes = d.homes := rfl
@[simp] theorem Dev.modPt_binn (d : Dev) (n : Nat) (g : Point → Point) : (d.modPt n g).binn = d.binn := rfl
@[simp] theorem Dev.modPt_ready (d : Dev) (n : Nat) (g : Point → Point) : (d.modPt n g).ready = d.ready := rfl
@[simp] theorem Dev.modPt_imgs (d : Dev) (n : Nat) (g : Point → Point) : (d.modPt n g).imgs = d.imgs := rfl
@[simp] theorem Dev.modPt_lljobs (d : Dev) (n : Nat) (g : Point → Point) : (d.modPt n g).lljobs = d.lljobs := rfl
@[simp] theorem Dev.modPt_overlay (d : Dev) (n : Nat) (g : Point → Point) : (d.modPt n g).overlay = d.overlay := rfl
@[simp] theorem Dev.modPt_mapc (d : Dev) (n : Nat) (g : Point → Point) : (d.modPt n g).mapc = d.mapc := rfl
@[simp] theorem Dev.modPt_dir (d : Dev) (n : Nat) (g : Point → Point) : (d.modPt n g).dir = d.dir := rfl
@[simp] theorem Dev.modPt_poison (d : Dev) (n : Nat) (g : Point → Point) : (d.modPt n g).poison = d.poison := rfl
@[simp] theorem Dev.modPt_poisonSrc (d : Dev) (n : Nat) (g : Point → Point) : (d.modPt n g).poisonSrc = d.poisonSrc := rfl
@[simp] theorem Dev.modPt_announced (d : Dev) (n : Nat) (g : Point → Point) : (d.modPt n g).announced = d.announced := rfl
@[simp] theorem Dev.modPt_pilot (d : Dev) (n : Nat) (g : Point → Point) : (d.modPt n g).pilot = d.pilot := rfl
@[simp] theorem Dev.modPt_corrected (d : Dev) (n : Nat) (g : Point → Point) : (d.modPt n g).corrected = d.corrected := rfl
@[simp] theorem Dev.modPt_hold (d : Dev) (n : Nat) (g : Point → Point) : (d.modPt n g).hold = d.hold := rfl
@[simp] theorem Dev.modPt_fe (d : Dev) (n : Nat) (g : Point → Point) : (d.modPt n g).fe = d.fe := rfl
@[simp] theorem Dev.modPt_recAcks (d : Dev) (n : Nat) (g : Point → Point) : (d.modPt n g).recAcks = d.recAcks := rfl
@[simp] theorem Dev.modPt_blocked (d : Dev) (n : Nat) (g : Point → Point) : (d.modPt n g).blocked = d.blocked := rfl
@[simp] theorem Dev.modPt_deadLost (d : Dev) (n : Nat) (g : Point → Point) : (d.modPt n g).deadLost = d.deadLost := rfl
@[simp] theorem Dev.modPt_gpf (d : Dev) (n : Nat) (g : Point → Point) : (d.modPt n g).gpf = d.gpf := rfl
@[simp] theorem Dev.modPt_allowPages (d : Dev) (n : Nat) (g : Point → Point) : (d.modPt n g).allowPages = d.allowPages := rfl
@[simp] theorem Dev.modPt_occupied (d : Dev) (n : Nat) (g : Point → Point) : (d.modPt n g).occupied = d.occupied := rfl
@[simp] theorem Dev.modPt_capDue (d : Dev) (n : Nat) (g : Point → Point) : (d.modPt n g).capDue = d.capDue := rfl
@[simp] theorem Dev.modPt_sdisc (d : Dev) (n : Nat) (g : Point → Point) : (d.modPt n g).sdisc = d.sdisc := rfl
@[simp] theorem Dev.modPt_rekey (d : Dev) (n : Nat) (g : Point → Point) : (d.modPt n g).rekey = d.rekey := rfl
@[simp] theorem Dev.modPt_sanitize (d : Dev) (n : Nat) (g : Point → Point) : (d.modPt n g).sanitize = d.sanitize := rfl
@[simp] theorem Dev.modPt_keys (d : Dev) (n : Nat) (g : Point → Point) : (d.modPt n g).keys = d.keys := rfl
@[simp] theorem Dev.modPt_keyCur (d : Dev) (n : Nat) (g : Point → Point) : (d.modPt n g).keyCur = d.keyCur := rfl
@[simp] theorem Dev.modPt_badKeys (d : Dev) (n : Nat) (g : Point → Point) : (d.modPt n g).badKeys = d.badKeys := rfl
@[simp] theorem Dev.modPt_seals (d : Dev) (n : Nat) (g : Point → Point) : (d.modPt n g).seals = d.seals := rfl
@[simp] theorem Dev.modPt_chain (d : Dev) (n : Nat) (g : Point → Point) : (d.modPt n g).chain = d.chain := rfl
@[simp] theorem Dev.modPt_sealHead (d : Dev) (n : Nat) (g : Point → Point) : (d.modPt n g).sealHead = d.sealHead := rfl
@[simp] theorem Dev.modPt_saving (d : Dev) (n : Nat) (g : Point → Point) : (d.modPt n g).saving = d.saving := rfl
@[simp] theorem Dev.modPt_ckpts (d : Dev) (n : Nat) (g : Point → Point) : (d.modPt n g).ckpts = d.ckpts := rfl
@[simp] theorem Dev.modPt_ckptReq (d : Dev) (n : Nat) (g : Point → Point) : (d.modPt n g).ckptReq = d.ckptReq := rfl
@[simp] theorem Dev.modPt_cutAt (d : Dev) (n : Nat) (g : Point → Point) : (d.modPt n g).cutAt = d.cutAt := rfl
@[simp] theorem Dev.modPt_commitEclk (d : Dev) (n : Nat) (g : Point → Point) : (d.modPt n g).commitEclk = d.commitEclk := rfl
@[simp] theorem Dev.modPt_locs (d : Dev) (n : Nat) (g : Point → Point) : (d.modPt n g).locs = d.locs := rfl
@[simp] theorem Dev.modPt_lbk (d : Dev) (n : Nat) (g : Point → Point) : (d.modPt n g).lbk = d.lbk := rfl
@[simp] theorem Dev.modPt_fuse (d : Dev) (n : Nat) (g : Point → Point) : (d.modPt n g).fuse = d.fuse := rfl
@[simp] theorem Dev.modPt_heads (d : Dev) (n : Nat) (g : Point → Point) : (d.modPt n g).heads = d.heads := rfl
@[simp] theorem Dev.modPt_stamp (d : Dev) (n : Nat) (g : Point → Point) : (d.modPt n g).stamp = d.stamp := rfl
@[simp] theorem Dev.modPt_alertCfg (d : Dev) (n : Nat) (g : Point → Point) : (d.modPt n g).alertCfg = d.alertCfg := rfl
@[simp] theorem Dev.modPt_patchNext (d : Dev) (n : Nat) (g : Point → Point) : (d.modPt n g).patchNext = d.patchNext := rfl
@[simp] theorem Dev.modPt_patchOn (d : Dev) (n : Nat) (g : Point → Point) : (d.modPt n g).patchOn = d.patchOn := rfl
@[simp] theorem Dev.modPt_i3c (d : Dev) (n : Nat) (g : Point → Point) : (d.modPt n g).i3c = d.i3c := rfl
@[simp] theorem Dev.modPt_ord (d : Dev) (n : Nat) (g : Point → Point) : (d.modPt n g).ord = d.ord := rfl
@[simp] theorem Dev.modPt_str (d : Dev) (n : Nat) (g : Point → Point) : (d.modPt n g).str = d.str := rfl
@[simp] theorem Dev.modPt_deck (d : Dev) (n : Nat) (g : Point → Point) : (d.modPt n g).deck = d.deck := rfl
@[simp] theorem Dev.modPt_engines (d : Dev) (n : Nat) (g : Point → Point) : (d.modPt n g).engines = d.engines := rfl
@[simp] theorem Dev.modPt_quads (d : Dev) (n : Nat) (g : Point → Point) : (d.modPt n g).quads = d.quads := rfl
@[simp] theorem Dev.modPt_chart (d : Dev) (n : Nat) (g : Point → Point) : (d.modPt n g).chart = d.chart := rfl
@[simp] theorem Dev.modPt_pwr (d : Dev) (n : Nat) (g : Point → Point) : (d.modPt n g).pwr = d.pwr := rfl
@[simp] theorem Dev.modPt_seqb (d : Dev) (n : Nat) (g : Point → Point) : (d.modPt n g).seqb = d.seqb := rfl
@[simp] theorem Dev.modPt_wch (d : Dev) (n : Nat) (g : Point → Point) : (d.modPt n g).wch = d.wch := rfl
@[simp] theorem Dev.modPt_saf (d : Dev) (n : Nat) (g : Point → Point) : (d.modPt n g).saf = d.saf := rfl
@[simp] theorem Dev.modPt_thm (d : Dev) (n : Nat) (g : Point → Point) : (d.modPt n g).thm = d.thm := rfl
@[simp] theorem Dev.modPt_ll (d : Dev) (n : Nat) (g : Point → Point) : (d.modPt n g).ll = d.ll := rfl
@[simp] theorem Dev.modPt_reg (d : Dev) (n : Nat) (g : Point → Point) (k : Nat) : (d.modPt n g).reg k = d.reg k := rfl
@[simp] theorem Dev.modPt_f (d : Dev) (n : Nat) (g : Point → Point) (K : Fld) : (d.modPt n g).f K = d.f K := rfl
@[simp] theorem Dev.modPt_on (d : Dev) (n : Nat) (g : Point → Point) (K : Fld) : (d.modPt n g).on K = d.on K := rfl
@[simp] theorem Dev.modPt_mode (d : Dev) (n : Nat) (g : Point → Point) (k : Nat) : (d.modPt n g).mode k = d.mode k := rfl
@[simp] theorem Dev.modPt_hm (d : Dev) (n : Nat) (g : Point → Point) (k : Nat) : (d.modPt n g).hm k = d.hm k := rfl
@[simp] theorem Dev.modPt_head (d : Dev) (n : Nat) (g : Point → Point) (k : Nat) : (d.modPt n g).head k = d.head k := rfl
@[simp] theorem Dev.modPt_eng (d : Dev) (n : Nat) (g : Point → Point) (k : Nat) : (d.modPt n g).eng k = d.eng k := rfl
@[simp] theorem Dev.modPt_quad (d : Dev) (n : Nat) (g : Point → Point) (k : Nat) : (d.modPt n g).quad k = d.quad k := rfl
@[simp] theorem Dev.modPt_stm (d : Dev) (n : Nat) (g : Point → Point) (k : Nat) : (d.modPt n g).stm k = d.stm k := rfl
@[simp] theorem Dev.modPt_seg (d : Dev) (n : Nat) (g : Point → Point) (k : Nat) : (d.modPt n g).seg k = d.seg k := rfl

/-! ### modHm -/

@[simp] theorem Dev.modHm_time (d : Dev) (n : Nat) (g : Home → Home) : (d.modHm n g).time = d.time := rfl
@[simp] theorem Dev.modHm_opSec (d : Dev) (n : Nat) (g : Home → Home) : (d.modHm n g).opSec = d.opSec := rfl
@[simp] theorem Dev.modHm_cycle (d : Dev) (n : Nat) (g : Home → Home) : (d.modHm n g).cycle = d.cycle := rfl
@[simp] theorem Dev.modHm_nextCsn (d : Dev) (n : Nat) (g : Home → Home) : (d.modHm n g).nextCsn = d.nextCsn := rfl
@[simp] theorem Dev.modHm_nextCsn2 (d : Dev) (n : Nat) (g : Home → Home) : (d.modHm n g).nextCsn2 = d.nextCsn2 := rfl
@[simp] theorem Dev.modHm_seqOn (d : Dev) (n : Nat) (g : Home → Home) : (d.modHm n g).seqOn = d.seqOn := rfl
@[simp] theorem Dev.modHm_phase (d : Dev) (n : Nat) (g : Home → Home) : (d.modHm n g).phase = d.phase := rfl
@[simp] theorem Dev.modHm_regs (d : Dev) (n : Nat) (g : Home → Home) : (d.modHm n g).regs = d.regs := rfl
@[simp] theorem Dev.modHm_locked (d : Dev) (n : Nat) (g : Home → Home) : (d.modHm n g).locked = d.locked := rfl
@[simp] theorem Dev.modHm_halves (d : Dev) (n : Nat) (g : Home → Home) : (d.modHm n g).halves = d.halves := rfl
@[simp] theorem Dev.modHm_freeCtr (d : Dev) (n : Nat) (g : Home → Home) : (d.modHm n g).freeCtr = d.freeCtr := rfl
@[simp] theorem Dev.modHm_out (d : Dev) (n : Nat) (g : Home → Home) : (d.modHm n g).out = d.out := rfl
@[simp] theorem Dev.modHm_sectors (d : Dev) (n : Nat) (g : Home → Home) : (d.modHm n g).sectors = d.sectors := rfl
@[simp] theorem Dev.modHm_segs (d : Dev) (n : Nat) (g : Home → Home) : (d.modHm n g).segs = d.segs := rfl
@[simp] theorem Dev.modHm_wnodes (d : Dev) (n : Nat) (g : Home → Home) : (d.modHm n g).wnodes = d.wnodes := rfl
@[simp] theorem Dev.modHm_groups (d : Dev) (n : Nat) (g : Home → Home) : (d.modHm n g).groups = d.groups := rfl
@[simp] theorem Dev.modHm_waitRecs (d : Dev) (n : Nat) (g : Home → Home) : (d.modHm n g).waitRecs = d.waitRecs := rfl
@[simp] theorem Dev.modHm_nextGroup (d : Dev) (n : Nat) (g : Home → Home) : (d.modHm n g).nextGroup = d.nextGroup := rfl
@[simp] theorem Dev.modHm_phis (d : Dev) (n : Nat) (g : Home → Home) : (d.modHm n g).phis = d.phis := rfl
@[simp] theorem Dev.modHm_points (d : Dev) (n : Nat) (g : Home → Home) : (d.modHm n g).points = d.points := rfl
@[simp] theorem Dev.modHm_binn (d : Dev) (n : Nat) (g : Home → Home) : (d.modHm n g).binn = d.binn := rfl
@[simp] theorem Dev.modHm_ready (d : Dev) (n : Nat) (g : Home → Home) : (d.modHm n g).ready = d.ready := rfl
@[simp] theorem Dev.modHm_imgs (d : Dev) (n : Nat) (g : Home → Home) : (d.modHm n g).imgs = d.imgs := rfl
@[simp] theorem Dev.modHm_lljobs (d : Dev) (n : Nat) (g : Home → Home) : (d.modHm n g).lljobs = d.lljobs := rfl
@[simp] theorem Dev.modHm_overlay (d : Dev) (n : Nat) (g : Home → Home) : (d.modHm n g).overlay = d.overlay := rfl
@[simp] theorem Dev.modHm_mapc (d : Dev) (n : Nat) (g : Home → Home) : (d.modHm n g).mapc = d.mapc := rfl
@[simp] theorem Dev.modHm_dir (d : Dev) (n : Nat) (g : Home → Home) : (d.modHm n g).dir = d.dir := rfl
@[simp] theorem Dev.modHm_poison (d : Dev) (n : Nat) (g : Home → Home) : (d.modHm n g).poison = d.poison := rfl
@[simp] theorem Dev.modHm_poisonSrc (d : Dev) (n : Nat) (g : Home → Home) : (d.modHm n g).poisonSrc = d.poisonSrc := rfl
@[simp] theorem Dev.modHm_announced (d : Dev) (n : Nat) (g : Home → Home) : (d.modHm n g).announced = d.announced := rfl
@[simp] theorem Dev.modHm_pilot (d : Dev) (n : Nat) (g : Home → Home) : (d.modHm n g).pilot = d.pilot := rfl
@[simp] theorem Dev.modHm_corrected (d : Dev) (n : Nat) (g : Home → Home) : (d.modHm n g).corrected = d.corrected := rfl
@[simp] theorem Dev.modHm_hold (d : Dev) (n : Nat) (g : Home → Home) : (d.modHm n g).hold = d.hold := rfl
@[simp] theorem Dev.modHm_fe (d : Dev) (n : Nat) (g : Home → Home) : (d.modHm n g).fe = d.fe := rfl
@[simp] theorem Dev.modHm_recAcks (d : Dev) (n : Nat) (g : Home → Home) : (d.modHm n g).recAcks = d.recAcks := rfl
@[simp] theorem Dev.modHm_blocked (d : Dev) (n : Nat) (g : Home → Home) : (d.modHm n g).blocked = d.blocked := rfl
@[simp] theorem Dev.modHm_deadLost (d : Dev) (n : Nat) (g : Home → Home) : (d.modHm n g).deadLost = d.deadLost := rfl
@[simp] theorem Dev.modHm_gpf (d : Dev) (n : Nat) (g : Home → Home) : (d.modHm n g).gpf = d.gpf := rfl
@[simp] theorem Dev.modHm_allowPages (d : Dev) (n : Nat) (g : Home → Home) : (d.modHm n g).allowPages = d.allowPages := rfl
@[simp] theorem Dev.modHm_occupied (d : Dev) (n : Nat) (g : Home → Home) : (d.modHm n g).occupied = d.occupied := rfl
@[simp] theorem Dev.modHm_capDue (d : Dev) (n : Nat) (g : Home → Home) : (d.modHm n g).capDue = d.capDue := rfl
@[simp] theorem Dev.modHm_sdisc (d : Dev) (n : Nat) (g : Home → Home) : (d.modHm n g).sdisc = d.sdisc := rfl
@[simp] theorem Dev.modHm_rekey (d : Dev) (n : Nat) (g : Home → Home) : (d.modHm n g).rekey = d.rekey := rfl
@[simp] theorem Dev.modHm_sanitize (d : Dev) (n : Nat) (g : Home → Home) : (d.modHm n g).sanitize = d.sanitize := rfl
@[simp] theorem Dev.modHm_keys (d : Dev) (n : Nat) (g : Home → Home) : (d.modHm n g).keys = d.keys := rfl
@[simp] theorem Dev.modHm_keyCur (d : Dev) (n : Nat) (g : Home → Home) : (d.modHm n g).keyCur = d.keyCur := rfl
@[simp] theorem Dev.modHm_badKeys (d : Dev) (n : Nat) (g : Home → Home) : (d.modHm n g).badKeys = d.badKeys := rfl
@[simp] theorem Dev.modHm_seals (d : Dev) (n : Nat) (g : Home → Home) : (d.modHm n g).seals = d.seals := rfl
@[simp] theorem Dev.modHm_chain (d : Dev) (n : Nat) (g : Home → Home) : (d.modHm n g).chain = d.chain := rfl
@[simp] theorem Dev.modHm_sealHead (d : Dev) (n : Nat) (g : Home → Home) : (d.modHm n g).sealHead = d.sealHead := rfl
@[simp] theorem Dev.modHm_saving (d : Dev) (n : Nat) (g : Home → Home) : (d.modHm n g).saving = d.saving := rfl
@[simp] theorem Dev.modHm_ckpts (d : Dev) (n : Nat) (g : Home → Home) : (d.modHm n g).ckpts = d.ckpts := rfl
@[simp] theorem Dev.modHm_ckptReq (d : Dev) (n : Nat) (g : Home → Home) : (d.modHm n g).ckptReq = d.ckptReq := rfl
@[simp] theorem Dev.modHm_cutAt (d : Dev) (n : Nat) (g : Home → Home) : (d.modHm n g).cutAt = d.cutAt := rfl
@[simp] theorem Dev.modHm_commitEclk (d : Dev) (n : Nat) (g : Home → Home) : (d.modHm n g).commitEclk = d.commitEclk := rfl
@[simp] theorem Dev.modHm_locs (d : Dev) (n : Nat) (g : Home → Home) : (d.modHm n g).locs = d.locs := rfl
@[simp] theorem Dev.modHm_lbk (d : Dev) (n : Nat) (g : Home → Home) : (d.modHm n g).lbk = d.lbk := rfl
@[simp] theorem Dev.modHm_fuse (d : Dev) (n : Nat) (g : Home → Home) : (d.modHm n g).fuse = d.fuse := rfl
@[simp] theorem Dev.modHm_heads (d : Dev) (n : Nat) (g : Home → Home) : (d.modHm n g).heads = d.heads := rfl
@[simp] theorem Dev.modHm_stamp (d : Dev) (n : Nat) (g : Home → Home) : (d.modHm n g).stamp = d.stamp := rfl
@[simp] theorem Dev.modHm_alertCfg (d : Dev) (n : Nat) (g : Home → Home) : (d.modHm n g).alertCfg = d.alertCfg := rfl
@[simp] theorem Dev.modHm_patchNext (d : Dev) (n : Nat) (g : Home → Home) : (d.modHm n g).patchNext = d.patchNext := rfl
@[simp] theorem Dev.modHm_patchOn (d : Dev) (n : Nat) (g : Home → Home) : (d.modHm n g).patchOn = d.patchOn := rfl
@[simp] theorem Dev.modHm_i3c (d : Dev) (n : Nat) (g : Home → Home) : (d.modHm n g).i3c = d.i3c := rfl
@[simp] theorem Dev.modHm_ord (d : Dev) (n : Nat) (g : Home → Home) : (d.modHm n g).ord = d.ord := rfl
@[simp] theorem Dev.modHm_str (d : Dev) (n : Nat) (g : Home → Home) : (d.modHm n g).str = d.str := rfl
@[simp] theorem Dev.modHm_deck (d : Dev) (n : Nat) (g : Home → Home) : (d.modHm n g).deck = d.deck := rfl
@[simp] theorem Dev.modHm_engines (d : Dev) (n : Nat) (g : Home → Home) : (d.modHm n g).engines = d.engines := rfl
@[simp] theorem Dev.modHm_quads (d : Dev) (n : Nat) (g : Home → Home) : (d.modHm n g).quads = d.quads := rfl
@[simp] theorem Dev.modHm_chart (d : Dev) (n : Nat) (g : Home → Home) : (d.modHm n g).chart = d.chart := rfl
@[simp] theorem Dev.modHm_pwr (d : Dev) (n : Nat) (g : Home → Home) : (d.modHm n g).pwr = d.pwr := rfl
@[simp] theorem Dev.modHm_seqb (d : Dev) (n : Nat) (g : Home → Home) : (d.modHm n g).seqb = d.seqb := rfl
@[simp] theorem Dev.modHm_wch (d : Dev) (n : Nat) (g : Home → Home) : (d.modHm n g).wch = d.wch := rfl
@[simp] theorem Dev.modHm_saf (d : Dev) (n : Nat) (g : Home → Home) : (d.modHm n g).saf = d.saf := rfl
@[simp] theorem Dev.modHm_thm (d : Dev) (n : Nat) (g : Home → Home) : (d.modHm n g).thm = d.thm := rfl
@[simp] theorem Dev.modHm_ll (d : Dev) (n : Nat) (g : Home → Home) : (d.modHm n g).ll = d.ll := rfl
@[simp] theorem Dev.modHm_reg (d : Dev) (n : Nat) (g : Home → Home) (k : Nat) : (d.modHm n g).reg k = d.reg k := rfl
@[simp] theorem Dev.modHm_f (d : Dev) (n : Nat) (g : Home → Home) (K : Fld) : (d.modHm n g).f K = d.f K := rfl
@[simp] theorem Dev.modHm_on (d : Dev) (n : Nat) (g : Home → Home) (K : Fld) : (d.modHm n g).on K = d.on K := rfl
@[simp] theorem Dev.modHm_mode (d : Dev) (n : Nat) (g : Home → Home) (k : Nat) : (d.modHm n g).mode k = d.mode k := rfl
@[simp] theorem Dev.modHm_pt (d : Dev) (n : Nat) (g : Home → Home) (k : Nat) : (d.modHm n g).pt k = d.pt k := rfl
@[simp] theorem Dev.modHm_head (d : Dev) (n : Nat) (g : Home → Home) (k : Nat) : (d.modHm n g).head k = d.head k := rfl
@[simp] theorem Dev.modHm_eng (d : Dev) (n : Nat) (g : Home → Home) (k : Nat) : (d.modHm n g).eng k = d.eng k := rfl
@[simp] theorem Dev.modHm_quad (d : Dev) (n : Nat) (g : Home → Home) (k : Nat) : (d.modHm n g).quad k = d.quad k := rfl
@[simp] theorem Dev.modHm_stm (d : Dev) (n : Nat) (g : Home → Home) (k : Nat) : (d.modHm n g).stm k = d.stm k := rfl
@[simp] theorem Dev.modHm_seg (d : Dev) (n : Nat) (g : Home → Home) (k : Nat) : (d.modHm n g).seg k = d.seg k := rfl

/-! ### modHead -/

@[simp] theorem Dev.modHead_time (d : Dev) (n : Nat) (g : Head → Head) : (d.modHead n g).time = d.time := rfl
@[simp] theorem Dev.modHead_opSec (d : Dev) (n : Nat) (g : Head → Head) : (d.modHead n g).opSec = d.opSec := rfl
@[simp] theorem Dev.modHead_cycle (d : Dev) (n : Nat) (g : Head → Head) : (d.modHead n g).cycle = d.cycle := rfl
@[simp] theorem Dev.modHead_nextCsn (d : Dev) (n : Nat) (g : Head → Head) : (d.modHead n g).nextCsn = d.nextCsn := rfl
@[simp] theorem Dev.modHead_nextCsn2 (d : Dev) (n : Nat) (g : Head → Head) : (d.modHead n g).nextCsn2 = d.nextCsn2 := rfl
@[simp] theorem Dev.modHead_seqOn (d : Dev) (n : Nat) (g : Head → Head) : (d.modHead n g).seqOn = d.seqOn := rfl
@[simp] theorem Dev.modHead_phase (d : Dev) (n : Nat) (g : Head → Head) : (d.modHead n g).phase = d.phase := rfl
@[simp] theorem Dev.modHead_regs (d : Dev) (n : Nat) (g : Head → Head) : (d.modHead n g).regs = d.regs := rfl
@[simp] theorem Dev.modHead_locked (d : Dev) (n : Nat) (g : Head → Head) : (d.modHead n g).locked = d.locked := rfl
@[simp] theorem Dev.modHead_halves (d : Dev) (n : Nat) (g : Head → Head) : (d.modHead n g).halves = d.halves := rfl
@[simp] theorem Dev.modHead_freeCtr (d : Dev) (n : Nat) (g : Head → Head) : (d.modHead n g).freeCtr = d.freeCtr := rfl
@[simp] theorem Dev.modHead_out (d : Dev) (n : Nat) (g : Head → Head) : (d.modHead n g).out = d.out := rfl
@[simp] theorem Dev.modHead_sectors (d : Dev) (n : Nat) (g : Head → Head) : (d.modHead n g).sectors = d.sectors := rfl
@[simp] theorem Dev.modHead_segs (d : Dev) (n : Nat) (g : Head → Head) : (d.modHead n g).segs = d.segs := rfl
@[simp] theorem Dev.modHead_wnodes (d : Dev) (n : Nat) (g : Head → Head) : (d.modHead n g).wnodes = d.wnodes := rfl
@[simp] theorem Dev.modHead_groups (d : Dev) (n : Nat) (g : Head → Head) : (d.modHead n g).groups = d.groups := rfl
@[simp] theorem Dev.modHead_waitRecs (d : Dev) (n : Nat) (g : Head → Head) : (d.modHead n g).waitRecs = d.waitRecs := rfl
@[simp] theorem Dev.modHead_nextGroup (d : Dev) (n : Nat) (g : Head → Head) : (d.modHead n g).nextGroup = d.nextGroup := rfl
@[simp] theorem Dev.modHead_phis (d : Dev) (n : Nat) (g : Head → Head) : (d.modHead n g).phis = d.phis := rfl
@[simp] theorem Dev.modHead_points (d : Dev) (n : Nat) (g : Head → Head) : (d.modHead n g).points = d.points := rfl
@[simp] theorem Dev.modHead_homes (d : Dev) (n : Nat) (g : Head → Head) : (d.modHead n g).homes = d.homes := rfl
@[simp] theorem Dev.modHead_binn (d : Dev) (n : Nat) (g : Head → Head) : (d.modHead n g).binn = d.binn := rfl
@[simp] theorem Dev.modHead_ready (d : Dev) (n : Nat) (g : Head → Head) : (d.modHead n g).ready = d.ready := rfl
@[simp] theorem Dev.modHead_imgs (d : Dev) (n : Nat) (g : Head → Head) : (d.modHead n g).imgs = d.imgs := rfl
@[simp] theorem Dev.modHead_lljobs (d : Dev) (n : Nat) (g : Head → Head) : (d.modHead n g).lljobs = d.lljobs := rfl
@[simp] theorem Dev.modHead_overlay (d : Dev) (n : Nat) (g : Head → Head) : (d.modHead n g).overlay = d.overlay := rfl
@[simp] theorem Dev.modHead_mapc (d : Dev) (n : Nat) (g : Head → Head) : (d.modHead n g).mapc = d.mapc := rfl
@[simp] theorem Dev.modHead_dir (d : Dev) (n : Nat) (g : Head → Head) : (d.modHead n g).dir = d.dir := rfl
@[simp] theorem Dev.modHead_poison (d : Dev) (n : Nat) (g : Head → Head) : (d.modHead n g).poison = d.poison := rfl
@[simp] theorem Dev.modHead_poisonSrc (d : Dev) (n : Nat) (g : Head → Head) : (d.modHead n g).poisonSrc = d.poisonSrc := rfl
@[simp] theorem Dev.modHead_announced (d : Dev) (n : Nat) (g : Head → Head) : (d.modHead n g).announced = d.announced := rfl
@[simp] theorem Dev.modHead_pilot (d : Dev) (n : Nat) (g : Head → Head) : (d.modHead n g).pilot = d.pilot := rfl
@[simp] theorem Dev.modHead_corrected (d : Dev) (n : Nat) (g : Head → Head) : (d.modHead n g).corrected = d.corrected := rfl
@[simp] theorem Dev.modHead_hold (d : Dev) (n : Nat) (g : Head → Head) : (d.modHead n g).hold = d.hold := rfl
@[simp] theorem Dev.modHead_fe (d : Dev) (n : Nat) (g : Head → Head) : (d.modHead n g).fe = d.fe := rfl
@[simp] theorem Dev.modHead_recAcks (d : Dev) (n : Nat) (g : Head → Head) : (d.modHead n g).recAcks = d.recAcks := rfl
@[simp] theorem Dev.modHead_blocked (d : Dev) (n : Nat) (g : Head → Head) : (d.modHead n g).blocked = d.blocked := rfl
@[simp] theorem Dev.modHead_deadLost (d : Dev) (n : Nat) (g : Head → Head) : (d.modHead n g).deadLost = d.deadLost := rfl
@[simp] theorem Dev.modHead_gpf (d : Dev) (n : Nat) (g : Head → Head) : (d.modHead n g).gpf = d.gpf := rfl
@[simp] theorem Dev.modHead_allowPages (d : Dev) (n : Nat) (g : Head → Head) : (d.modHead n g).allowPages = d.allowPages := rfl
@[simp] theorem Dev.modHead_occupied (d : Dev) (n : Nat) (g : Head → Head) : (d.modHead n g).occupied = d.occupied := rfl
@[simp] theorem Dev.modHead_capDue (d : Dev) (n : Nat) (g : Head → Head) : (d.modHead n g).capDue = d.capDue := rfl
@[simp] theorem Dev.modHead_sdisc (d : Dev) (n : Nat) (g : Head → Head) : (d.modHead n g).sdisc = d.sdisc := rfl
@[simp] theorem Dev.modHead_rekey (d : Dev) (n : Nat) (g : Head → Head) : (d.modHead n g).rekey = d.rekey := rfl
@[simp] theorem Dev.modHead_sanitize (d : Dev) (n : Nat) (g : Head → Head) : (d.modHead n g).sanitize = d.sanitize := rfl
@[simp] theorem Dev.modHead_keys (d : Dev) (n : Nat) (g : Head → Head) : (d.modHead n g).keys = d.keys := rfl
@[simp] theorem Dev.modHead_keyCur (d : Dev) (n : Nat) (g : Head → Head) : (d.modHead n g).keyCur = d.keyCur := rfl
@[simp] theorem Dev.modHead_badKeys (d : Dev) (n : Nat) (g : Head → Head) : (d.modHead n g).badKeys = d.badKeys := rfl
@[simp] theorem Dev.modHead_seals (d : Dev) (n : Nat) (g : Head → Head) : (d.modHead n g).seals = d.seals := rfl
@[simp] theorem Dev.modHead_chain (d : Dev) (n : Nat) (g : Head → Head) : (d.modHead n g).chain = d.chain := rfl
@[simp] theorem Dev.modHead_sealHead (d : Dev) (n : Nat) (g : Head → Head) : (d.modHead n g).sealHead = d.sealHead := rfl
@[simp] theorem Dev.modHead_saving (d : Dev) (n : Nat) (g : Head → Head) : (d.modHead n g).saving = d.saving := rfl
@[simp] theorem Dev.modHead_ckpts (d : Dev) (n : Nat) (g : Head → Head) : (d.modHead n g).ckpts = d.ckpts := rfl
@[simp] theorem Dev.modHead_ckptReq (d : Dev) (n : Nat) (g : Head → Head) : (d.modHead n g).ckptReq = d.ckptReq := rfl
@[simp] theorem Dev.modHead_cutAt (d : Dev) (n : Nat) (g : Head → Head) : (d.modHead n g).cutAt = d.cutAt := rfl
@[simp] theorem Dev.modHead_commitEclk (d : Dev) (n : Nat) (g : Head → Head) : (d.modHead n g).commitEclk = d.commitEclk := rfl
@[simp] theorem Dev.modHead_locs (d : Dev) (n : Nat) (g : Head → Head) : (d.modHead n g).locs = d.locs := rfl
@[simp] theorem Dev.modHead_lbk (d : Dev) (n : Nat) (g : Head → Head) : (d.modHead n g).lbk = d.lbk := rfl
@[simp] theorem Dev.modHead_fuse (d : Dev) (n : Nat) (g : Head → Head) : (d.modHead n g).fuse = d.fuse := rfl
@[simp] theorem Dev.modHead_stamp (d : Dev) (n : Nat) (g : Head → Head) : (d.modHead n g).stamp = d.stamp := rfl
@[simp] theorem Dev.modHead_alertCfg (d : Dev) (n : Nat) (g : Head → Head) : (d.modHead n g).alertCfg = d.alertCfg := rfl
@[simp] theorem Dev.modHead_patchNext (d : Dev) (n : Nat) (g : Head → Head) : (d.modHead n g).patchNext = d.patchNext := rfl
@[simp] theorem Dev.modHead_patchOn (d : Dev) (n : Nat) (g : Head → Head) : (d.modHead n g).patchOn = d.patchOn := rfl
@[simp] theorem Dev.modHead_i3c (d : Dev) (n : Nat) (g : Head → Head) : (d.modHead n g).i3c = d.i3c := rfl
@[simp] theorem Dev.modHead_ord (d : Dev) (n : Nat) (g : Head → Head) : (d.modHead n g).ord = d.ord := rfl
@[simp] theorem Dev.modHead_str (d : Dev) (n : Nat) (g : Head → Head) : (d.modHead n g).str = d.str := rfl
@[simp] theorem Dev.modHead_deck (d : Dev) (n : Nat) (g : Head → Head) : (d.modHead n g).deck = d.deck := rfl
@[simp] theorem Dev.modHead_engines (d : Dev) (n : Nat) (g : Head → Head) : (d.modHead n g).engines = d.engines := rfl
@[simp] theorem Dev.modHead_quads (d : Dev) (n : Nat) (g : Head → Head) : (d.modHead n g).quads = d.quads := rfl
@[simp] theorem Dev.modHead_chart (d : Dev) (n : Nat) (g : Head → Head) : (d.modHead n g).chart = d.chart := rfl
@[simp] theorem Dev.modHead_pwr (d : Dev) (n : Nat) (g : Head → Head) : (d.modHead n g).pwr = d.pwr := rfl
@[simp] theorem Dev.modHead_seqb (d : Dev) (n : Nat) (g : Head → Head) : (d.modHead n g).seqb = d.seqb := rfl
@[simp] theorem Dev.modHead_wch (d : Dev) (n : Nat) (g : Head → Head) : (d.modHead n g).wch = d.wch := rfl
@[simp] theorem Dev.modHead_saf (d : Dev) (n : Nat) (g : Head → Head) : (d.modHead n g).saf = d.saf := rfl
@[simp] theorem Dev.modHead_thm (d : Dev) (n : Nat) (g : Head → Head) : (d.modHead n g).thm = d.thm := rfl
@[simp] theorem Dev.modHead_ll (d : Dev) (n : Nat) (g : Head → Head) : (d.modHead n g).ll = d.ll := rfl
@[simp] theorem Dev.modHead_reg (d : Dev) (n : Nat) (g : Head → Head) (k : Nat) : (d.modHead n g).reg k = d.reg k := rfl
@[simp] theorem Dev.modHead_f (d : Dev) (n : Nat) (g : Head → Head) (K : Fld) : (d.modHead n g).f K = d.f K := rfl
@[simp] theorem Dev.modHead_on (d : Dev) (n : Nat) (g : Head → Head) (K : Fld) : (d.modHead n g).on K = d.on K := rfl
@[simp] theorem Dev.modHead_mode (d : Dev) (n : Nat) (g : Head → Head) (k : Nat) : (d.modHead n g).mode k = d.mode k := rfl
@[simp] theorem Dev.modHead_pt (d : Dev) (n : Nat) (g : Head → Head) (k : Nat) : (d.modHead n g).pt k = d.pt k := rfl
@[simp] theorem Dev.modHead_hm (d : Dev) (n : Nat) (g : Head → Head) (k : Nat) : (d.modHead n g).hm k = d.hm k := rfl
@[simp] theorem Dev.modHead_eng (d : Dev) (n : Nat) (g : Head → Head) (k : Nat) : (d.modHead n g).eng k = d.eng k := rfl
@[simp] theorem Dev.modHead_quad (d : Dev) (n : Nat) (g : Head → Head) (k : Nat) : (d.modHead n g).quad k = d.quad k := rfl
@[simp] theorem Dev.modHead_stm (d : Dev) (n : Nat) (g : Head → Head) (k : Nat) : (d.modHead n g).stm k = d.stm k := rfl
@[simp] theorem Dev.modHead_seg (d : Dev) (n : Nat) (g : Head → Head) (k : Nat) : (d.modHead n g).seg k = d.seg k := rfl

/-! ### modEng -/

@[simp] theorem Dev.modEng_time (d : Dev) (n : Nat) (g : Engine → Engine) : (d.modEng n g).time = d.time := rfl
@[simp] theorem Dev.modEng_opSec (d : Dev) (n : Nat) (g : Engine → Engine) : (d.modEng n g).opSec = d.opSec := rfl
@[simp] theorem Dev.modEng_cycle (d : Dev) (n : Nat) (g : Engine → Engine) : (d.modEng n g).cycle = d.cycle := rfl
@[simp] theorem Dev.modEng_nextCsn (d : Dev) (n : Nat) (g : Engine → Engine) : (d.modEng n g).nextCsn = d.nextCsn := rfl
@[simp] theorem Dev.modEng_nextCsn2 (d : Dev) (n : Nat) (g : Engine → Engine) : (d.modEng n g).nextCsn2 = d.nextCsn2 := rfl
@[simp] theorem Dev.modEng_seqOn (d : Dev) (n : Nat) (g : Engine → Engine) : (d.modEng n g).seqOn = d.seqOn := rfl
@[simp] theorem Dev.modEng_phase (d : Dev) (n : Nat) (g : Engine → Engine) : (d.modEng n g).phase = d.phase := rfl
@[simp] theorem Dev.modEng_regs (d : Dev) (n : Nat) (g : Engine → Engine) : (d.modEng n g).regs = d.regs := rfl
@[simp] theorem Dev.modEng_locked (d : Dev) (n : Nat) (g : Engine → Engine) : (d.modEng n g).locked = d.locked := rfl
@[simp] theorem Dev.modEng_halves (d : Dev) (n : Nat) (g : Engine → Engine) : (d.modEng n g).halves = d.halves := rfl
@[simp] theorem Dev.modEng_freeCtr (d : Dev) (n : Nat) (g : Engine → Engine) : (d.modEng n g).freeCtr = d.freeCtr := rfl
@[simp] theorem Dev.modEng_out (d : Dev) (n : Nat) (g : Engine → Engine) : (d.modEng n g).out = d.out := rfl
@[simp] theorem Dev.modEng_sectors (d : Dev) (n : Nat) (g : Engine → Engine) : (d.modEng n g).sectors = d.sectors := rfl
@[simp] theorem Dev.modEng_segs (d : Dev) (n : Nat) (g : Engine → Engine) : (d.modEng n g).segs = d.segs := rfl
@[simp] theorem Dev.modEng_wnodes (d : Dev) (n : Nat) (g : Engine → Engine) : (d.modEng n g).wnodes = d.wnodes := rfl
@[simp] theorem Dev.modEng_groups (d : Dev) (n : Nat) (g : Engine → Engine) : (d.modEng n g).groups = d.groups := rfl
@[simp] theorem Dev.modEng_waitRecs (d : Dev) (n : Nat) (g : Engine → Engine) : (d.modEng n g).waitRecs = d.waitRecs := rfl
@[simp] theorem Dev.modEng_nextGroup (d : Dev) (n : Nat) (g : Engine → Engine) : (d.modEng n g).nextGroup = d.nextGroup := rfl
@[simp] theorem Dev.modEng_phis (d : Dev) (n : Nat) (g : Engine → Engine) : (d.modEng n g).phis = d.phis := rfl
@[simp] theorem Dev.modEng_points (d : Dev) (n : Nat) (g : Engine → Engine) : (d.modEng n g).points = d.points := rfl
@[simp] theorem Dev.modEng_homes (d : Dev) (n : Nat) (g : Engine → Engine) : (d.modEng n g).homes = d.homes := rfl
@[simp] theorem Dev.modEng_binn (d : Dev) (n : Nat) (g : Engine → Engine) : (d.modEng n g).binn = d.binn := rfl
@[simp] theorem Dev.modEng_ready (d : Dev) (n : Nat) (g : Engine → Engine) : (d.modEng n g).ready = d.ready := rfl
@[simp] theorem Dev.modEng_imgs (d : Dev) (n : Nat) (g : Engine → Engine) : (d.modEng n g).imgs = d.imgs := rfl
@[simp] theorem Dev.modEng_lljobs (d : Dev) (n : Nat) (g : Engine → Engine) : (d.modEng n g).lljobs = d.lljobs := rfl
@[simp] theorem Dev.modEng_overlay (d : Dev) (n : Nat) (g : Engine → Engine) : (d.modEng n g).overlay = d.overlay := rfl
@[simp] theorem Dev.modEng_mapc (d : Dev) (n : Nat) (g : Engine → Engine) : (d.modEng n g).mapc = d.mapc := rfl
@[simp] theorem Dev.modEng_dir (d : Dev) (n : Nat) (g : Engine → Engine) : (d.modEng n g).dir = d.dir := rfl
@[simp] theorem Dev.modEng_poison (d : Dev) (n : Nat) (g : Engine → Engine) : (d.modEng n g).poison = d.poison := rfl
@[simp] theorem Dev.modEng_poisonSrc (d : Dev) (n : Nat) (g : Engine → Engine) : (d.modEng n g).poisonSrc = d.poisonSrc := rfl
@[simp] theorem Dev.modEng_announced (d : Dev) (n : Nat) (g : Engine → Engine) : (d.modEng n g).announced = d.announced := rfl
@[simp] theorem Dev.modEng_pilot (d : Dev) (n : Nat) (g : Engine → Engine) : (d.modEng n g).pilot = d.pilot := rfl
@[simp] theorem Dev.modEng_corrected (d : Dev) (n : Nat) (g : Engine → Engine) : (d.modEng n g).corrected = d.corrected := rfl
@[simp] theorem Dev.modEng_hold (d : Dev) (n : Nat) (g : Engine → Engine) : (d.modEng n g).hold = d.hold := rfl
@[simp] theorem Dev.modEng_fe (d : Dev) (n : Nat) (g : Engine → Engine) : (d.modEng n g).fe = d.fe := rfl
@[simp] theorem Dev.modEng_recAcks (d : Dev) (n : Nat) (g : Engine → Engine) : (d.modEng n g).recAcks = d.recAcks := rfl
@[simp] theorem Dev.modEng_blocked (d : Dev) (n : Nat) (g : Engine → Engine) : (d.modEng n g).blocked = d.blocked := rfl
@[simp] theorem Dev.modEng_deadLost (d : Dev) (n : Nat) (g : Engine → Engine) : (d.modEng n g).deadLost = d.deadLost := rfl
@[simp] theorem Dev.modEng_gpf (d : Dev) (n : Nat) (g : Engine → Engine) : (d.modEng n g).gpf = d.gpf := rfl
@[simp] theorem Dev.modEng_allowPages (d : Dev) (n : Nat) (g : Engine → Engine) : (d.modEng n g).allowPages = d.allowPages := rfl
@[simp] theorem Dev.modEng_occupied (d : Dev) (n : Nat) (g : Engine → Engine) : (d.modEng n g).occupied = d.occupied := rfl
@[simp] theorem Dev.modEng_capDue (d : Dev) (n : Nat) (g : Engine → Engine) : (d.modEng n g).capDue = d.capDue := rfl
@[simp] theorem Dev.modEng_sdisc (d : Dev) (n : Nat) (g : Engine → Engine) : (d.modEng n g).sdisc = d.sdisc := rfl
@[simp] theorem Dev.modEng_rekey (d : Dev) (n : Nat) (g : Engine → Engine) : (d.modEng n g).rekey = d.rekey := rfl
@[simp] theorem Dev.modEng_sanitize (d : Dev) (n : Nat) (g : Engine → Engine) : (d.modEng n g).sanitize = d.sanitize := rfl
@[simp] theorem Dev.modEng_keys (d : Dev) (n : Nat) (g : Engine → Engine) : (d.modEng n g).keys = d.keys := rfl
@[simp] theorem Dev.modEng_keyCur (d : Dev) (n : Nat) (g : Engine → Engine) : (d.modEng n g).keyCur = d.keyCur := rfl
@[simp] theorem Dev.modEng_badKeys (d : Dev) (n : Nat) (g : Engine → Engine) : (d.modEng n g).badKeys = d.badKeys := rfl
@[simp] theorem Dev.modEng_seals (d : Dev) (n : Nat) (g : Engine → Engine) : (d.modEng n g).seals = d.seals := rfl
@[simp] theorem Dev.modEng_chain (d : Dev) (n : Nat) (g : Engine → Engine) : (d.modEng n g).chain = d.chain := rfl
@[simp] theorem Dev.modEng_sealHead (d : Dev) (n : Nat) (g : Engine → Engine) : (d.modEng n g).sealHead = d.sealHead := rfl
@[simp] theorem Dev.modEng_saving (d : Dev) (n : Nat) (g : Engine → Engine) : (d.modEng n g).saving = d.saving := rfl
@[simp] theorem Dev.modEng_ckpts (d : Dev) (n : Nat) (g : Engine → Engine) : (d.modEng n g).ckpts = d.ckpts := rfl
@[simp] theorem Dev.modEng_ckptReq (d : Dev) (n : Nat) (g : Engine → Engine) : (d.modEng n g).ckptReq = d.ckptReq := rfl
@[simp] theorem Dev.modEng_cutAt (d : Dev) (n : Nat) (g : Engine → Engine) : (d.modEng n g).cutAt = d.cutAt := rfl
@[simp] theorem Dev.modEng_commitEclk (d : Dev) (n : Nat) (g : Engine → Engine) : (d.modEng n g).commitEclk = d.commitEclk := rfl
@[simp] theorem Dev.modEng_locs (d : Dev) (n : Nat) (g : Engine → Engine) : (d.modEng n g).locs = d.locs := rfl
@[simp] theorem Dev.modEng_lbk (d : Dev) (n : Nat) (g : Engine → Engine) : (d.modEng n g).lbk = d.lbk := rfl
@[simp] theorem Dev.modEng_fuse (d : Dev) (n : Nat) (g : Engine → Engine) : (d.modEng n g).fuse = d.fuse := rfl
@[simp] theorem Dev.modEng_heads (d : Dev) (n : Nat) (g : Engine → Engine) : (d.modEng n g).heads = d.heads := rfl
@[simp] theorem Dev.modEng_stamp (d : Dev) (n : Nat) (g : Engine → Engine) : (d.modEng n g).stamp = d.stamp := rfl
@[simp] theorem Dev.modEng_alertCfg (d : Dev) (n : Nat) (g : Engine → Engine) : (d.modEng n g).alertCfg = d.alertCfg := rfl
@[simp] theorem Dev.modEng_patchNext (d : Dev) (n : Nat) (g : Engine → Engine) : (d.modEng n g).patchNext = d.patchNext := rfl
@[simp] theorem Dev.modEng_patchOn (d : Dev) (n : Nat) (g : Engine → Engine) : (d.modEng n g).patchOn = d.patchOn := rfl
@[simp] theorem Dev.modEng_i3c (d : Dev) (n : Nat) (g : Engine → Engine) : (d.modEng n g).i3c = d.i3c := rfl
@[simp] theorem Dev.modEng_ord (d : Dev) (n : Nat) (g : Engine → Engine) : (d.modEng n g).ord = d.ord := rfl
@[simp] theorem Dev.modEng_str (d : Dev) (n : Nat) (g : Engine → Engine) : (d.modEng n g).str = d.str := rfl
@[simp] theorem Dev.modEng_deck (d : Dev) (n : Nat) (g : Engine → Engine) : (d.modEng n g).deck = d.deck := rfl
@[simp] theorem Dev.modEng_quads (d : Dev) (n : Nat) (g : Engine → Engine) : (d.modEng n g).quads = d.quads := rfl
@[simp] theorem Dev.modEng_chart (d : Dev) (n : Nat) (g : Engine → Engine) : (d.modEng n g).chart = d.chart := rfl
@[simp] theorem Dev.modEng_pwr (d : Dev) (n : Nat) (g : Engine → Engine) : (d.modEng n g).pwr = d.pwr := rfl
@[simp] theorem Dev.modEng_seqb (d : Dev) (n : Nat) (g : Engine → Engine) : (d.modEng n g).seqb = d.seqb := rfl
@[simp] theorem Dev.modEng_wch (d : Dev) (n : Nat) (g : Engine → Engine) : (d.modEng n g).wch = d.wch := rfl
@[simp] theorem Dev.modEng_saf (d : Dev) (n : Nat) (g : Engine → Engine) : (d.modEng n g).saf = d.saf := rfl
@[simp] theorem Dev.modEng_thm (d : Dev) (n : Nat) (g : Engine → Engine) : (d.modEng n g).thm = d.thm := rfl
@[simp] theorem Dev.modEng_ll (d : Dev) (n : Nat) (g : Engine → Engine) : (d.modEng n g).ll = d.ll := rfl
@[simp] theorem Dev.modEng_reg (d : Dev) (n : Nat) (g : Engine → Engine) (k : Nat) : (d.modEng n g).reg k = d.reg k := rfl
@[simp] theorem Dev.modEng_f (d : Dev) (n : Nat) (g : Engine → Engine) (K : Fld) : (d.modEng n g).f K = d.f K := rfl
@[simp] theorem Dev.modEng_on (d : Dev) (n : Nat) (g : Engine → Engine) (K : Fld) : (d.modEng n g).on K = d.on K := rfl
@[simp] theorem Dev.modEng_mode (d : Dev) (n : Nat) (g : Engine → Engine) (k : Nat) : (d.modEng n g).mode k = d.mode k := rfl
@[simp] theorem Dev.modEng_pt (d : Dev) (n : Nat) (g : Engine → Engine) (k : Nat) : (d.modEng n g).pt k = d.pt k := rfl
@[simp] theorem Dev.modEng_hm (d : Dev) (n : Nat) (g : Engine → Engine) (k : Nat) : (d.modEng n g).hm k = d.hm k := rfl
@[simp] theorem Dev.modEng_head (d : Dev) (n : Nat) (g : Engine → Engine) (k : Nat) : (d.modEng n g).head k = d.head k := rfl
@[simp] theorem Dev.modEng_quad (d : Dev) (n : Nat) (g : Engine → Engine) (k : Nat) : (d.modEng n g).quad k = d.quad k := rfl
@[simp] theorem Dev.modEng_stm (d : Dev) (n : Nat) (g : Engine → Engine) (k : Nat) : (d.modEng n g).stm k = d.stm k := rfl
@[simp] theorem Dev.modEng_seg (d : Dev) (n : Nat) (g : Engine → Engine) (k : Nat) : (d.modEng n g).seg k = d.seg k := rfl

/-! ### modQuad -/

@[simp] theorem Dev.modQuad_time (d : Dev) (n : Nat) (g : Quad → Quad) : (d.modQuad n g).time = d.time := rfl
@[simp] theorem Dev.modQuad_opSec (d : Dev) (n : Nat) (g : Quad → Quad) : (d.modQuad n g).opSec = d.opSec := rfl
@[simp] theorem Dev.modQuad_cycle (d : Dev) (n : Nat) (g : Quad → Quad) : (d.modQuad n g).cycle = d.cycle := rfl
@[simp] theorem Dev.modQuad_nextCsn (d : Dev) (n : Nat) (g : Quad → Quad) : (d.modQuad n g).nextCsn = d.nextCsn := rfl
@[simp] theorem Dev.modQuad_nextCsn2 (d : Dev) (n : Nat) (g : Quad → Quad) : (d.modQuad n g).nextCsn2 = d.nextCsn2 := rfl
@[simp] theorem Dev.modQuad_seqOn (d : Dev) (n : Nat) (g : Quad → Quad) : (d.modQuad n g).seqOn = d.seqOn := rfl
@[simp] theorem Dev.modQuad_phase (d : Dev) (n : Nat) (g : Quad → Quad) : (d.modQuad n g).phase = d.phase := rfl
@[simp] theorem Dev.modQuad_regs (d : Dev) (n : Nat) (g : Quad → Quad) : (d.modQuad n g).regs = d.regs := rfl
@[simp] theorem Dev.modQuad_locked (d : Dev) (n : Nat) (g : Quad → Quad) : (d.modQuad n g).locked = d.locked := rfl
@[simp] theorem Dev.modQuad_halves (d : Dev) (n : Nat) (g : Quad → Quad) : (d.modQuad n g).halves = d.halves := rfl
@[simp] theorem Dev.modQuad_freeCtr (d : Dev) (n : Nat) (g : Quad → Quad) : (d.modQuad n g).freeCtr = d.freeCtr := rfl
@[simp] theorem Dev.modQuad_out (d : Dev) (n : Nat) (g : Quad → Quad) : (d.modQuad n g).out = d.out := rfl
@[simp] theorem Dev.modQuad_sectors (d : Dev) (n : Nat) (g : Quad → Quad) : (d.modQuad n g).sectors = d.sectors := rfl
@[simp] theorem Dev.modQuad_segs (d : Dev) (n : Nat) (g : Quad → Quad) : (d.modQuad n g).segs = d.segs := rfl
@[simp] theorem Dev.modQuad_wnodes (d : Dev) (n : Nat) (g : Quad → Quad) : (d.modQuad n g).wnodes = d.wnodes := rfl
@[simp] theorem Dev.modQuad_groups (d : Dev) (n : Nat) (g : Quad → Quad) : (d.modQuad n g).groups = d.groups := rfl
@[simp] theorem Dev.modQuad_waitRecs (d : Dev) (n : Nat) (g : Quad → Quad) : (d.modQuad n g).waitRecs = d.waitRecs := rfl
@[simp] theorem Dev.modQuad_nextGroup (d : Dev) (n : Nat) (g : Quad → Quad) : (d.modQuad n g).nextGroup = d.nextGroup := rfl
@[simp] theorem Dev.modQuad_phis (d : Dev) (n : Nat) (g : Quad → Quad) : (d.modQuad n g).phis = d.phis := rfl
@[simp] theorem Dev.modQuad_points (d : Dev) (n : Nat) (g : Quad → Quad) : (d.modQuad n g).points = d.points := rfl
@[simp] theorem Dev.modQuad_homes (d : Dev) (n : Nat) (g : Quad → Quad) : (d.modQuad n g).homes = d.homes := rfl
@[simp] theorem Dev.modQuad_binn (d : Dev) (n : Nat) (g : Quad → Quad) : (d.modQuad n g).binn = d.binn := rfl
@[simp] theorem Dev.modQuad_ready (d : Dev) (n : Nat) (g : Quad → Quad) : (d.modQuad n g).ready = d.ready := rfl
@[simp] theorem Dev.modQuad_imgs (d : Dev) (n : Nat) (g : Quad → Quad) : (d.modQuad n g).imgs = d.imgs := rfl
@[simp] theorem Dev.modQuad_lljobs (d : Dev) (n : Nat) (g : Quad → Quad) : (d.modQuad n g).lljobs = d.lljobs := rfl
@[simp] theorem Dev.modQuad_overlay (d : Dev) (n : Nat) (g : Quad → Quad) : (d.modQuad n g).overlay = d.overlay := rfl
@[simp] theorem Dev.modQuad_mapc (d : Dev) (n : Nat) (g : Quad → Quad) : (d.modQuad n g).mapc = d.mapc := rfl
@[simp] theorem Dev.modQuad_dir (d : Dev) (n : Nat) (g : Quad → Quad) : (d.modQuad n g).dir = d.dir := rfl
@[simp] theorem Dev.modQuad_poison (d : Dev) (n : Nat) (g : Quad → Quad) : (d.modQuad n g).poison = d.poison := rfl
@[simp] theorem Dev.modQuad_poisonSrc (d : Dev) (n : Nat) (g : Quad → Quad) : (d.modQuad n g).poisonSrc = d.poisonSrc := rfl
@[simp] theorem Dev.modQuad_announced (d : Dev) (n : Nat) (g : Quad → Quad) : (d.modQuad n g).announced = d.announced := rfl
@[simp] theorem Dev.modQuad_pilot (d : Dev) (n : Nat) (g : Quad → Quad) : (d.modQuad n g).pilot = d.pilot := rfl
@[simp] theorem Dev.modQuad_corrected (d : Dev) (n : Nat) (g : Quad → Quad) : (d.modQuad n g).corrected = d.corrected := rfl
@[simp] theorem Dev.modQuad_hold (d : Dev) (n : Nat) (g : Quad → Quad) : (d.modQuad n g).hold = d.hold := rfl
@[simp] theorem Dev.modQuad_fe (d : Dev) (n : Nat) (g : Quad → Quad) : (d.modQuad n g).fe = d.fe := rfl
@[simp] theorem Dev.modQuad_recAcks (d : Dev) (n : Nat) (g : Quad → Quad) : (d.modQuad n g).recAcks = d.recAcks := rfl
@[simp] theorem Dev.modQuad_blocked (d : Dev) (n : Nat) (g : Quad → Quad) : (d.modQuad n g).blocked = d.blocked := rfl
@[simp] theorem Dev.modQuad_deadLost (d : Dev) (n : Nat) (g : Quad → Quad) : (d.modQuad n g).deadLost = d.deadLost := rfl
@[simp] theorem Dev.modQuad_gpf (d : Dev) (n : Nat) (g : Quad → Quad) : (d.modQuad n g).gpf = d.gpf := rfl
@[simp] theorem Dev.modQuad_allowPages (d : Dev) (n : Nat) (g : Quad → Quad) : (d.modQuad n g).allowPages = d.allowPages := rfl
@[simp] theorem Dev.modQuad_occupied (d : Dev) (n : Nat) (g : Quad → Quad) : (d.modQuad n g).occupied = d.occupied := rfl
@[simp] theorem Dev.modQuad_capDue (d : Dev) (n : Nat) (g : Quad → Quad) : (d.modQuad n g).capDue = d.capDue := rfl
@[simp] theorem Dev.modQuad_sdisc (d : Dev) (n : Nat) (g : Quad → Quad) : (d.modQuad n g).sdisc = d.sdisc := rfl
@[simp] theorem Dev.modQuad_rekey (d : Dev) (n : Nat) (g : Quad → Quad) : (d.modQuad n g).rekey = d.rekey := rfl
@[simp] theorem Dev.modQuad_sanitize (d : Dev) (n : Nat) (g : Quad → Quad) : (d.modQuad n g).sanitize = d.sanitize := rfl
@[simp] theorem Dev.modQuad_keys (d : Dev) (n : Nat) (g : Quad → Quad) : (d.modQuad n g).keys = d.keys := rfl
@[simp] theorem Dev.modQuad_keyCur (d : Dev) (n : Nat) (g : Quad → Quad) : (d.modQuad n g).keyCur = d.keyCur := rfl
@[simp] theorem Dev.modQuad_badKeys (d : Dev) (n : Nat) (g : Quad → Quad) : (d.modQuad n g).badKeys = d.badKeys := rfl
@[simp] theorem Dev.modQuad_seals (d : Dev) (n : Nat) (g : Quad → Quad) : (d.modQuad n g).seals = d.seals := rfl
@[simp] theorem Dev.modQuad_chain (d : Dev) (n : Nat) (g : Quad → Quad) : (d.modQuad n g).chain = d.chain := rfl
@[simp] theorem Dev.modQuad_sealHead (d : Dev) (n : Nat) (g : Quad → Quad) : (d.modQuad n g).sealHead = d.sealHead := rfl
@[simp] theorem Dev.modQuad_saving (d : Dev) (n : Nat) (g : Quad → Quad) : (d.modQuad n g).saving = d.saving := rfl
@[simp] theorem Dev.modQuad_ckpts (d : Dev) (n : Nat) (g : Quad → Quad) : (d.modQuad n g).ckpts = d.ckpts := rfl
@[simp] theorem Dev.modQuad_ckptReq (d : Dev) (n : Nat) (g : Quad → Quad) : (d.modQuad n g).ckptReq = d.ckptReq := rfl
@[simp] theorem Dev.modQuad_cutAt (d : Dev) (n : Nat) (g : Quad → Quad) : (d.modQuad n g).cutAt = d.cutAt := rfl
@[simp] theorem Dev.modQuad_commitEclk (d : Dev) (n : Nat) (g : Quad → Quad) : (d.modQuad n g).commitEclk = d.commitEclk := rfl
@[simp] theorem Dev.modQuad_locs (d : Dev) (n : Nat) (g : Quad → Quad) : (d.modQuad n g).locs = d.locs := rfl
@[simp] theorem Dev.modQuad_lbk (d : Dev) (n : Nat) (g : Quad → Quad) : (d.modQuad n g).lbk = d.lbk := rfl
@[simp] theorem Dev.modQuad_fuse (d : Dev) (n : Nat) (g : Quad → Quad) : (d.modQuad n g).fuse = d.fuse := rfl
@[simp] theorem Dev.modQuad_heads (d : Dev) (n : Nat) (g : Quad → Quad) : (d.modQuad n g).heads = d.heads := rfl
@[simp] theorem Dev.modQuad_stamp (d : Dev) (n : Nat) (g : Quad → Quad) : (d.modQuad n g).stamp = d.stamp := rfl
@[simp] theorem Dev.modQuad_alertCfg (d : Dev) (n : Nat) (g : Quad → Quad) : (d.modQuad n g).alertCfg = d.alertCfg := rfl
@[simp] theorem Dev.modQuad_patchNext (d : Dev) (n : Nat) (g : Quad → Quad) : (d.modQuad n g).patchNext = d.patchNext := rfl
@[simp] theorem Dev.modQuad_patchOn (d : Dev) (n : Nat) (g : Quad → Quad) : (d.modQuad n g).patchOn = d.patchOn := rfl
@[simp] theorem Dev.modQuad_i3c (d : Dev) (n : Nat) (g : Quad → Quad) : (d.modQuad n g).i3c = d.i3c := rfl
@[simp] theorem Dev.modQuad_ord (d : Dev) (n : Nat) (g : Quad → Quad) : (d.modQuad n g).ord = d.ord := rfl
@[simp] theorem Dev.modQuad_str (d : Dev) (n : Nat) (g : Quad → Quad) : (d.modQuad n g).str = d.str := rfl
@[simp] theorem Dev.modQuad_deck (d : Dev) (n : Nat) (g : Quad → Quad) : (d.modQuad n g).deck = d.deck := rfl
@[simp] theorem Dev.modQuad_engines (d : Dev) (n : Nat) (g : Quad → Quad) : (d.modQuad n g).engines = d.engines := rfl
@[simp] theorem Dev.modQuad_chart (d : Dev) (n : Nat) (g : Quad → Quad) : (d.modQuad n g).chart = d.chart := rfl
@[simp] theorem Dev.modQuad_pwr (d : Dev) (n : Nat) (g : Quad → Quad) : (d.modQuad n g).pwr = d.pwr := rfl
@[simp] theorem Dev.modQuad_seqb (d : Dev) (n : Nat) (g : Quad → Quad) : (d.modQuad n g).seqb = d.seqb := rfl
@[simp] theorem Dev.modQuad_wch (d : Dev) (n : Nat) (g : Quad → Quad) : (d.modQuad n g).wch = d.wch := rfl
@[simp] theorem Dev.modQuad_saf (d : Dev) (n : Nat) (g : Quad → Quad) : (d.modQuad n g).saf = d.saf := rfl
@[simp] theorem Dev.modQuad_thm (d : Dev) (n : Nat) (g : Quad → Quad) : (d.modQuad n g).thm = d.thm := rfl
@[simp] theorem Dev.modQuad_ll (d : Dev) (n : Nat) (g : Quad → Quad) : (d.modQuad n g).ll = d.ll := rfl
@[simp] theorem Dev.modQuad_reg (d : Dev) (n : Nat) (g : Quad → Quad) (k : Nat) : (d.modQuad n g).reg k = d.reg k := rfl
@[simp] theorem Dev.modQuad_f (d : Dev) (n : Nat) (g : Quad → Quad) (K : Fld) : (d.modQuad n g).f K = d.f K := rfl
@[simp] theorem Dev.modQuad_on (d : Dev) (n : Nat) (g : Quad → Quad) (K : Fld) : (d.modQuad n g).on K = d.on K := rfl
@[simp] theorem Dev.modQuad_mode (d : Dev) (n : Nat) (g : Quad → Quad) (k : Nat) : (d.modQuad n g).mode k = d.mode k := rfl
@[simp] theorem Dev.modQuad_pt (d : Dev) (n : Nat) (g : Quad → Quad) (k : Nat) : (d.modQuad n g).pt k = d.pt k := rfl
@[simp] theorem Dev.modQuad_hm (d : Dev) (n : Nat) (g : Quad → Quad) (k : Nat) : (d.modQuad n g).hm k = d.hm k := rfl
@[simp] theorem Dev.modQuad_head (d : Dev) (n : Nat) (g : Quad → Quad) (k : Nat) : (d.modQuad n g).head k = d.head k := rfl
@[simp] theorem Dev.modQuad_eng (d : Dev) (n : Nat) (g : Quad → Quad) (k : Nat) : (d.modQuad n g).eng k = d.eng k := rfl
@[simp] theorem Dev.modQuad_stm (d : Dev) (n : Nat) (g : Quad → Quad) (k : Nat) : (d.modQuad n g).stm k = d.stm k := rfl
@[simp] theorem Dev.modQuad_seg (d : Dev) (n : Nat) (g : Quad → Quad) (k : Nat) : (d.modQuad n g).seg k = d.seg k := rfl

/-! ### setStm -/

@[simp] theorem Dev.setStm_time (d : Dev) (n : Nat) (x : Stream) : (d.setStm n x).time = d.time := rfl
@[simp] theorem Dev.setStm_opSec (d : Dev) (n : Nat) (x : Stream) : (d.setStm n x).opSec = d.opSec := rfl
@[simp] theorem Dev.setStm_cycle (d : Dev) (n : Nat) (x : Stream) : (d.setStm n x).cycle = d.cycle := rfl
@[simp] theorem Dev.setStm_nextCsn (d : Dev) (n : Nat) (x : Stream) : (d.setStm n x).nextCsn = d.nextCsn := rfl
@[simp] theorem Dev.setStm_nextCsn2 (d : Dev) (n : Nat) (x : Stream) : (d.setStm n x).nextCsn2 = d.nextCsn2 := rfl
@[simp] theorem Dev.setStm_seqOn (d : Dev) (n : Nat) (x : Stream) : (d.setStm n x).seqOn = d.seqOn := rfl
@[simp] theorem Dev.setStm_phase (d : Dev) (n : Nat) (x : Stream) : (d.setStm n x).phase = d.phase := rfl
@[simp] theorem Dev.setStm_regs (d : Dev) (n : Nat) (x : Stream) : (d.setStm n x).regs = d.regs := rfl
@[simp] theorem Dev.setStm_locked (d : Dev) (n : Nat) (x : Stream) : (d.setStm n x).locked = d.locked := rfl
@[simp] theorem Dev.setStm_halves (d : Dev) (n : Nat) (x : Stream) : (d.setStm n x).halves = d.halves := rfl
@[simp] theorem Dev.setStm_freeCtr (d : Dev) (n : Nat) (x : Stream) : (d.setStm n x).freeCtr = d.freeCtr := rfl
@[simp] theorem Dev.setStm_out (d : Dev) (n : Nat) (x : Stream) : (d.setStm n x).out = d.out := rfl
@[simp] theorem Dev.setStm_sectors (d : Dev) (n : Nat) (x : Stream) : (d.setStm n x).sectors = d.sectors := rfl
@[simp] theorem Dev.setStm_segs (d : Dev) (n : Nat) (x : Stream) : (d.setStm n x).segs = d.segs := rfl
@[simp] theorem Dev.setStm_wnodes (d : Dev) (n : Nat) (x : Stream) : (d.setStm n x).wnodes = d.wnodes := rfl
@[simp] theorem Dev.setStm_groups (d : Dev) (n : Nat) (x : Stream) : (d.setStm n x).groups = d.groups := rfl
@[simp] theorem Dev.setStm_waitRecs (d : Dev) (n : Nat) (x : Stream) : (d.setStm n x).waitRecs = d.waitRecs := rfl
@[simp] theorem Dev.setStm_nextGroup (d : Dev) (n : Nat) (x : Stream) : (d.setStm n x).nextGroup = d.nextGroup := rfl
@[simp] theorem Dev.setStm_phis (d : Dev) (n : Nat) (x : Stream) : (d.setStm n x).phis = d.phis := rfl
@[simp] theorem Dev.setStm_points (d : Dev) (n : Nat) (x : Stream) : (d.setStm n x).points = d.points := rfl
@[simp] theorem Dev.setStm_homes (d : Dev) (n : Nat) (x : Stream) : (d.setStm n x).homes = d.homes := rfl
@[simp] theorem Dev.setStm_binn (d : Dev) (n : Nat) (x : Stream) : (d.setStm n x).binn = d.binn := rfl
@[simp] theorem Dev.setStm_ready (d : Dev) (n : Nat) (x : Stream) : (d.setStm n x).ready = d.ready := rfl
@[simp] theorem Dev.setStm_imgs (d : Dev) (n : Nat) (x : Stream) : (d.setStm n x).imgs = d.imgs := rfl
@[simp] theorem Dev.setStm_lljobs (d : Dev) (n : Nat) (x : Stream) : (d.setStm n x).lljobs = d.lljobs := rfl
@[simp] theorem Dev.setStm_overlay (d : Dev) (n : Nat) (x : Stream) : (d.setStm n x).overlay = d.overlay := rfl
@[simp] theorem Dev.setStm_mapc (d : Dev) (n : Nat) (x : Stream) : (d.setStm n x).mapc = d.mapc := rfl
@[simp] theorem Dev.setStm_dir (d : Dev) (n : Nat) (x : Stream) : (d.setStm n x).dir = d.dir := rfl
@[simp] theorem Dev.setStm_poison (d : Dev) (n : Nat) (x : Stream) : (d.setStm n x).poison = d.poison := rfl
@[simp] theorem Dev.setStm_poisonSrc (d : Dev) (n : Nat) (x : Stream) : (d.setStm n x).poisonSrc = d.poisonSrc := rfl
@[simp] theorem Dev.setStm_announced (d : Dev) (n : Nat) (x : Stream) : (d.setStm n x).announced = d.announced := rfl
@[simp] theorem Dev.setStm_pilot (d : Dev) (n : Nat) (x : Stream) : (d.setStm n x).pilot = d.pilot := rfl
@[simp] theorem Dev.setStm_corrected (d : Dev) (n : Nat) (x : Stream) : (d.setStm n x).corrected = d.corrected := rfl
@[simp] theorem Dev.setStm_hold (d : Dev) (n : Nat) (x : Stream) : (d.setStm n x).hold = d.hold := rfl
@[simp] theorem Dev.setStm_fe (d : Dev) (n : Nat) (x : Stream) : (d.setStm n x).fe = d.fe := rfl
@[simp] theorem Dev.setStm_recAcks (d : Dev) (n : Nat) (x : Stream) : (d.setStm n x).recAcks = d.recAcks := rfl
@[simp] theorem Dev.setStm_blocked (d : Dev) (n : Nat) (x : Stream) : (d.setStm n x).blocked = d.blocked := rfl
@[simp] theorem Dev.setStm_deadLost (d : Dev) (n : Nat) (x : Stream) : (d.setStm n x).deadLost = d.deadLost := rfl
@[simp] theorem Dev.setStm_gpf (d : Dev) (n : Nat) (x : Stream) : (d.setStm n x).gpf = d.gpf := rfl
@[simp] theorem Dev.setStm_allowPages (d : Dev) (n : Nat) (x : Stream) : (d.setStm n x).allowPages = d.allowPages := rfl
@[simp] theorem Dev.setStm_occupied (d : Dev) (n : Nat) (x : Stream) : (d.setStm n x).occupied = d.occupied := rfl
@[simp] theorem Dev.setStm_capDue (d : Dev) (n : Nat) (x : Stream) : (d.setStm n x).capDue = d.capDue := rfl
@[simp] theorem Dev.setStm_sdisc (d : Dev) (n : Nat) (x : Stream) : (d.setStm n x).sdisc = d.sdisc := rfl
@[simp] theorem Dev.setStm_rekey (d : Dev) (n : Nat) (x : Stream) : (d.setStm n x).rekey = d.rekey := rfl
@[simp] theorem Dev.setStm_sanitize (d : Dev) (n : Nat) (x : Stream) : (d.setStm n x).sanitize = d.sanitize := rfl
@[simp] theorem Dev.setStm_keys (d : Dev) (n : Nat) (x : Stream) : (d.setStm n x).keys = d.keys := rfl
@[simp] theorem Dev.setStm_keyCur (d : Dev) (n : Nat) (x : Stream) : (d.setStm n x).keyCur = d.keyCur := rfl
@[simp] theorem Dev.setStm_badKeys (d : Dev) (n : Nat) (x : Stream) : (d.setStm n x).badKeys = d.badKeys := rfl
@[simp] theorem Dev.setStm_seals (d : Dev) (n : Nat) (x : Stream) : (d.setStm n x).seals = d.seals := rfl
@[simp] theorem Dev.setStm_chain (d : Dev) (n : Nat) (x : Stream) : (d.setStm n x).chain = d.chain := rfl
@[simp] theorem Dev.setStm_sealHead (d : Dev) (n : Nat) (x : Stream) : (d.setStm n x).sealHead = d.sealHead := rfl
@[simp] theorem Dev.setStm_saving (d : Dev) (n : Nat) (x : Stream) : (d.setStm n x).saving = d.saving := rfl
@[simp] theorem Dev.setStm_ckpts (d : Dev) (n : Nat) (x : Stream) : (d.setStm n x).ckpts = d.ckpts := rfl
@[simp] theorem Dev.setStm_ckptReq (d : Dev) (n : Nat) (x : Stream) : (d.setStm n x).ckptReq = d.ckptReq := rfl
@[simp] theorem Dev.setStm_cutAt (d : Dev) (n : Nat) (x : Stream) : (d.setStm n x).cutAt = d.cutAt := rfl
@[simp] theorem Dev.setStm_commitEclk (d : Dev) (n : Nat) (x : Stream) : (d.setStm n x).commitEclk = d.commitEclk := rfl
@[simp] theorem Dev.setStm_locs (d : Dev) (n : Nat) (x : Stream) : (d.setStm n x).locs = d.locs := rfl
@[simp] theorem Dev.setStm_lbk (d : Dev) (n : Nat) (x : Stream) : (d.setStm n x).lbk = d.lbk := rfl
@[simp] theorem Dev.setStm_fuse (d : Dev) (n : Nat) (x : Stream) : (d.setStm n x).fuse = d.fuse := rfl
@[simp] theorem Dev.setStm_heads (d : Dev) (n : Nat) (x : Stream) : (d.setStm n x).heads = d.heads := rfl
@[simp] theorem Dev.setStm_stamp (d : Dev) (n : Nat) (x : Stream) : (d.setStm n x).stamp = d.stamp := rfl
@[simp] theorem Dev.setStm_alertCfg (d : Dev) (n : Nat) (x : Stream) : (d.setStm n x).alertCfg = d.alertCfg := rfl
@[simp] theorem Dev.setStm_patchNext (d : Dev) (n : Nat) (x : Stream) : (d.setStm n x).patchNext = d.patchNext := rfl
@[simp] theorem Dev.setStm_patchOn (d : Dev) (n : Nat) (x : Stream) : (d.setStm n x).patchOn = d.patchOn := rfl
@[simp] theorem Dev.setStm_i3c (d : Dev) (n : Nat) (x : Stream) : (d.setStm n x).i3c = d.i3c := rfl
@[simp] theorem Dev.setStm_ord (d : Dev) (n : Nat) (x : Stream) : (d.setStm n x).ord = d.ord := rfl
@[simp] theorem Dev.setStm_deck (d : Dev) (n : Nat) (x : Stream) : (d.setStm n x).deck = d.deck := rfl
@[simp] theorem Dev.setStm_engines (d : Dev) (n : Nat) (x : Stream) : (d.setStm n x).engines = d.engines := rfl
@[simp] theorem Dev.setStm_quads (d : Dev) (n : Nat) (x : Stream) : (d.setStm n x).quads = d.quads := rfl
@[simp] theorem Dev.setStm_chart (d : Dev) (n : Nat) (x : Stream) : (d.setStm n x).chart = d.chart := rfl
@[simp] theorem Dev.setStm_pwr (d : Dev) (n : Nat) (x : Stream) : (d.setStm n x).pwr = d.pwr := rfl
@[simp] theorem Dev.setStm_seqb (d : Dev) (n : Nat) (x : Stream) : (d.setStm n x).seqb = d.seqb := rfl
@[simp] theorem Dev.setStm_wch (d : Dev) (n : Nat) (x : Stream) : (d.setStm n x).wch = d.wch := rfl
@[simp] theorem Dev.setStm_saf (d : Dev) (n : Nat) (x : Stream) : (d.setStm n x).saf = d.saf := rfl
@[simp] theorem Dev.setStm_thm (d : Dev) (n : Nat) (x : Stream) : (d.setStm n x).thm = d.thm := rfl
@[simp] theorem Dev.setStm_ll (d : Dev) (n : Nat) (x : Stream) : (d.setStm n x).ll = d.ll := rfl
@[simp] theorem Dev.setStm_reg (d : Dev) (n : Nat) (x : Stream) (k : Nat) : (d.setStm n x).reg k = d.reg k := rfl
@[simp] theorem Dev.setStm_f (d : Dev) (n : Nat) (x : Stream) (K : Fld) : (d.setStm n x).f K = d.f K := rfl
@[simp] theorem Dev.setStm_on (d : Dev) (n : Nat) (x : Stream) (K : Fld) : (d.setStm n x).on K = d.on K := rfl
@[simp] theorem Dev.setStm_mode (d : Dev) (n : Nat) (x : Stream) (k : Nat) : (d.setStm n x).mode k = d.mode k := rfl
@[simp] theorem Dev.setStm_pt (d : Dev) (n : Nat) (x : Stream) (k : Nat) : (d.setStm n x).pt k = d.pt k := rfl
@[simp] theorem Dev.setStm_hm (d : Dev) (n : Nat) (x : Stream) (k : Nat) : (d.setStm n x).hm k = d.hm k := rfl
@[simp] theorem Dev.setStm_head (d : Dev) (n : Nat) (x : Stream) (k : Nat) : (d.setStm n x).head k = d.head k := rfl
@[simp] theorem Dev.setStm_eng (d : Dev) (n : Nat) (x : Stream) (k : Nat) : (d.setStm n x).eng k = d.eng k := rfl
@[simp] theorem Dev.setStm_quad (d : Dev) (n : Nat) (x : Stream) (k : Nat) : (d.setStm n x).quad k = d.quad k := rfl
@[simp] theorem Dev.setStm_seg (d : Dev) (n : Nat) (x : Stream) (k : Nat) : (d.setStm n x).seg k = d.seg k := rfl

/-! ### setSeg -/

@[simp] theorem Dev.setSeg_time (d : Dev) (n : Nat) (x : Seg) : (d.setSeg n x).time = d.time := by simp only [Dev.setSeg]; split <;> rfl
@[simp] theorem Dev.setSeg_opSec (d : Dev) (n : Nat) (x : Seg) : (d.setSeg n x).opSec = d.opSec := by simp only [Dev.setSeg]; split <;> rfl
@[simp] theorem Dev.setSeg_cycle (d : Dev) (n : Nat) (x : Seg) : (d.setSeg n x).cycle = d.cycle := by simp only [Dev.setSeg]; split <;> rfl
@[simp] theorem Dev.setSeg_nextCsn (d : Dev) (n : Nat) (x : Seg) : (d.setSeg n x).nextCsn = d.nextCsn := by simp only [Dev.setSeg]; split <;> rfl
@[simp] theorem Dev.setSeg_nextCsn2 (d : Dev) (n : Nat) (x : Seg) : (d.setSeg n x).nextCsn2 = d.nextCsn2 := by simp only [Dev.setSeg]; split <;> rfl
@[simp] theorem Dev.setSeg_seqOn (d : Dev) (n : Nat) (x : Seg) : (d.setSeg n x).seqOn = d.seqOn := by simp only [Dev.setSeg]; split <;> rfl
@[simp] theorem Dev.setSeg_phase (d : Dev) (n : Nat) (x : Seg) : (d.setSeg n x).phase = d.phase := by simp only [Dev.setSeg]; split <;> rfl
@[simp] theorem Dev.setSeg_regs (d : Dev) (n : Nat) (x : Seg) : (d.setSeg n x).regs = d.regs := by simp only [Dev.setSeg]; split <;> rfl
@[simp] theorem Dev.setSeg_locked (d : Dev) (n : Nat) (x : Seg) : (d.setSeg n x).locked = d.locked := by simp only [Dev.setSeg]; split <;> rfl
@[simp] theorem Dev.setSeg_halves (d : Dev) (n : Nat) (x : Seg) : (d.setSeg n x).halves = d.halves := by simp only [Dev.setSeg]; split <;> rfl
@[simp] theorem Dev.setSeg_freeCtr (d : Dev) (n : Nat) (x : Seg) : (d.setSeg n x).freeCtr = d.freeCtr := by simp only [Dev.setSeg]; split <;> rfl
@[simp] theorem Dev.setSeg_out (d : Dev) (n : Nat) (x : Seg) : (d.setSeg n x).out = d.out := by simp only [Dev.setSeg]; split <;> rfl
@[simp] theorem Dev.setSeg_sectors (d : Dev) (n : Nat) (x : Seg) : (d.setSeg n x).sectors = d.sectors := by simp only [Dev.setSeg]; split <;> rfl
@[simp] theorem Dev.setSeg_wnodes (d : Dev) (n : Nat) (x : Seg) : (d.setSeg n x).wnodes = d.wnodes := by simp only [Dev.setSeg]; split <;> rfl
@[simp] theorem Dev.setSeg_groups (d : Dev) (n : Nat) (x : Seg) : (d.setSeg n x).groups = d.groups := by simp only [Dev.setSeg]; split <;> rfl
@[simp] theorem Dev.setSeg_waitRecs (d : Dev) (n : Nat) (x : Seg) : (d.setSeg n x).waitRecs = d.waitRecs := by simp only [Dev.setSeg]; split <;> rfl
@[simp] theorem Dev.setSeg_nextGroup (d : Dev) (n : Nat) (x : Seg) : (d.setSeg n x).nextGroup = d.nextGroup := by simp only [Dev.setSeg]; split <;> rfl
@[simp] theorem Dev.setSeg_phis (d : Dev) (n : Nat) (x : Seg) : (d.setSeg n x).phis = d.phis := by simp only [Dev.setSeg]; split <;> rfl
@[simp] theorem Dev.setSeg_points (d : Dev) (n : Nat) (x : Seg) : (d.setSeg n x).points = d.points := by simp only [Dev.setSeg]; split <;> rfl
@[simp] theorem Dev.setSeg_homes (d : Dev) (n : Nat) (x : Seg) : (d.setSeg n x).homes = d.homes := by simp only [Dev.setSeg]; split <;> rfl
@[simp] theorem Dev.setSeg_binn (d : Dev) (n : Nat) (x : Seg) : (d.setSeg n x).binn = d.binn := by simp only [Dev.setSeg]; split <;> rfl
@[simp] theorem Dev.setSeg_ready (d : Dev) (n : Nat) (x : Seg) : (d.setSeg n x).ready = d.ready := by simp only [Dev.setSeg]; split <;> rfl
@[simp] theorem Dev.setSeg_imgs (d : Dev) (n : Nat) (x : Seg) : (d.setSeg n x).imgs = d.imgs := by simp only [Dev.setSeg]; split <;> rfl
@[simp] theorem Dev.setSeg_lljobs (d : Dev) (n : Nat) (x : Seg) : (d.setSeg n x).lljobs = d.lljobs := by simp only [Dev.setSeg]; split <;> rfl
@[simp] theorem Dev.setSeg_overlay (d : Dev) (n : Nat) (x : Seg) : (d.setSeg n x).overlay = d.overlay := by simp only [Dev.setSeg]; split <;> rfl
@[simp] theorem Dev.setSeg_mapc (d : Dev) (n : Nat) (x : Seg) : (d.setSeg n x).mapc = d.mapc := by simp only [Dev.setSeg]; split <;> rfl
@[simp] theorem Dev.setSeg_dir (d : Dev) (n : Nat) (x : Seg) : (d.setSeg n x).dir = d.dir := by simp only [Dev.setSeg]; split <;> rfl
@[simp] theorem Dev.setSeg_poison (d : Dev) (n : Nat) (x : Seg) : (d.setSeg n x).poison = d.poison := by simp only [Dev.setSeg]; split <;> rfl
@[simp] theorem Dev.setSeg_poisonSrc (d : Dev) (n : Nat) (x : Seg) : (d.setSeg n x).poisonSrc = d.poisonSrc := by simp only [Dev.setSeg]; split <;> rfl
@[simp] theorem Dev.setSeg_announced (d : Dev) (n : Nat) (x : Seg) : (d.setSeg n x).announced = d.announced := by simp only [Dev.setSeg]; split <;> rfl
@[simp] theorem Dev.setSeg_pilot (d : Dev) (n : Nat) (x : Seg) : (d.setSeg n x).pilot = d.pilot := by simp only [Dev.setSeg]; split <;> rfl
@[simp] theorem Dev.setSeg_corrected (d : Dev) (n : Nat) (x : Seg) : (d.setSeg n x).corrected = d.corrected := by simp only [Dev.setSeg]; split <;> rfl
@[simp] theorem Dev.setSeg_hold (d : Dev) (n : Nat) (x : Seg) : (d.setSeg n x).hold = d.hold := by simp only [Dev.setSeg]; split <;> rfl
@[simp] theorem Dev.setSeg_fe (d : Dev) (n : Nat) (x : Seg) : (d.setSeg n x).fe = d.fe := by simp only [Dev.setSeg]; split <;> rfl
@[simp] theorem Dev.setSeg_recAcks (d : Dev) (n : Nat) (x : Seg) : (d.setSeg n x).recAcks = d.recAcks := by simp only [Dev.setSeg]; split <;> rfl
@[simp] theorem Dev.setSeg_blocked (d : Dev) (n : Nat) (x : Seg) : (d.setSeg n x).blocked = d.blocked := by simp only [Dev.setSeg]; split <;> rfl
@[simp] theorem Dev.setSeg_deadLost (d : Dev) (n : Nat) (x : Seg) : (d.setSeg n x).deadLost = d.deadLost := by simp only [Dev.setSeg]; split <;> rfl
@[simp] theorem Dev.setSeg_gpf (d : Dev) (n : Nat) (x : Seg) : (d.setSeg n x).gpf = d.gpf := by simp only [Dev.setSeg]; split <;> rfl
@[simp] theorem Dev.setSeg_allowPages (d : Dev) (n : Nat) (x : Seg) : (d.setSeg n x).allowPages = d.allowPages := by simp only [Dev.setSeg]; split <;> rfl
@[simp] theorem Dev.setSeg_occupied (d : Dev) (n : Nat) (x : Seg) : (d.setSeg n x).occupied = d.occupied := by simp only [Dev.setSeg]; split <;> rfl
@[simp] theorem Dev.setSeg_capDue (d : Dev) (n : Nat) (x : Seg) : (d.setSeg n x).capDue = d.capDue := by simp only [Dev.setSeg]; split <;> rfl
@[simp] theorem Dev.setSeg_sdisc (d : Dev) (n : Nat) (x : Seg) : (d.setSeg n x).sdisc = d.sdisc := by simp only [Dev.setSeg]; split <;> rfl
@[simp] theorem Dev.setSeg_rekey (d : Dev) (n : Nat) (x : Seg) : (d.setSeg n x).rekey = d.rekey := by simp only [Dev.setSeg]; split <;> rfl
@[simp] theorem Dev.setSeg_sanitize (d : Dev) (n : Nat) (x : Seg) : (d.setSeg n x).sanitize = d.sanitize := by simp only [Dev.setSeg]; split <;> rfl
@[simp] theorem Dev.setSeg_keys (d : Dev) (n : Nat) (x : Seg) : (d.setSeg n x).keys = d.keys := by simp only [Dev.setSeg]; split <;> rfl
@[simp] theorem Dev.setSeg_keyCur (d : Dev) (n : Nat) (x : Seg) : (d.setSeg n x).keyCur = d.keyCur := by simp only [Dev.setSeg]; split <;> rfl
@[simp] theorem Dev.setSeg_badKeys (d : Dev) (n : Nat) (x : Seg) : (d.setSeg n x).badKeys = d.badKeys := by simp only [Dev.setSeg]; split <;> rfl
@[simp] theorem Dev.setSeg_seals (d : Dev) (n : Nat) (x : Seg) : (d.setSeg n x).seals = d.seals := by simp only [Dev.setSeg]; split <;> rfl
@[simp] theorem Dev.setSeg_chain (d : Dev) (n : Nat) (x : Seg) : (d.setSeg n x).chain = d.chain := by simp only [Dev.setSeg]; split <;> rfl
@[simp] theorem Dev.setSeg_sealHead (d : Dev) (n : Nat) (x : Seg) : (d.setSeg n x).sealHead = d.sealHead := by simp only [Dev.setSeg]; split <;> rfl
@[simp] theorem Dev.setSeg_saving (d : Dev) (n : Nat) (x : Seg) : (d.setSeg n x).saving = d.saving := by simp only [Dev.setSeg]; split <;> rfl
@[simp] theorem Dev.setSeg_ckpts (d : Dev) (n : Nat) (x : Seg) : (d.setSeg n x).ckpts = d.ckpts := by simp only [Dev.setSeg]; split <;> rfl
@[simp] theorem Dev.setSeg_ckptReq (d : Dev) (n : Nat) (x : Seg) : (d.setSeg n x).ckptReq = d.ckptReq := by simp only [Dev.setSeg]; split <;> rfl
@[simp] theorem Dev.setSeg_cutAt (d : Dev) (n : Nat) (x : Seg) : (d.setSeg n x).cutAt = d.cutAt := by simp only [Dev.setSeg]; split <;> rfl
@[simp] theorem Dev.setSeg_commitEclk (d : Dev) (n : Nat) (x : Seg) : (d.setSeg n x).commitEclk = d.commitEclk := by simp only [Dev.setSeg]; split <;> rfl
@[simp] theorem Dev.setSeg_locs (d : Dev) (n : Nat) (x : Seg) : (d.setSeg n x).locs = d.locs := by simp only [Dev.setSeg]; split <;> rfl
@[simp] theorem Dev.setSeg_lbk (d : Dev) (n : Nat) (x : Seg) : (d.setSeg n x).lbk = d.lbk := by simp only [Dev.setSeg]; split <;> rfl
@[simp] theorem Dev.setSeg_fuse (d : Dev) (n : Nat) (x : Seg) : (d.setSeg n x).fuse = d.fuse := by simp only [Dev.setSeg]; split <;> rfl
@[simp] theorem Dev.setSeg_heads (d : Dev) (n : Nat) (x : Seg) : (d.setSeg n x).heads = d.heads := by simp only [Dev.setSeg]; split <;> rfl
@[simp] theorem Dev.setSeg_stamp (d : Dev) (n : Nat) (x : Seg) : (d.setSeg n x).stamp = d.stamp := by simp only [Dev.setSeg]; split <;> rfl
@[simp] theorem Dev.setSeg_alertCfg (d : Dev) (n : Nat) (x : Seg) : (d.setSeg n x).alertCfg = d.alertCfg := by simp only [Dev.setSeg]; split <;> rfl
@[simp] theorem Dev.setSeg_patchNext (d : Dev) (n : Nat) (x : Seg) : (d.setSeg n x).patchNext = d.patchNext := by simp only [Dev.setSeg]; split <;> rfl
@[simp] theorem Dev.setSeg_patchOn (d : Dev) (n : Nat) (x : Seg) : (d.setSeg n x).patchOn = d.patchOn := by simp only [Dev.setSeg]; split <;> rfl
@[simp] theorem Dev.setSeg_i3c (d : Dev) (n : Nat) (x : Seg) : (d.setSeg n x).i3c = d.i3c := by simp only [Dev.setSeg]; split <;> rfl
@[simp] theorem Dev.setSeg_ord (d : Dev) (n : Nat) (x : Seg) : (d.setSeg n x).ord = d.ord := by simp only [Dev.setSeg]; split <;> rfl
@[simp] theorem Dev.setSeg_str (d : Dev) (n : Nat) (x : Seg) : (d.setSeg n x).str = d.str := by simp only [Dev.setSeg]; split <;> rfl
@[simp] theorem Dev.setSeg_deck (d : Dev) (n : Nat) (x : Seg) : (d.setSeg n x).deck = d.deck := by simp only [Dev.setSeg]; split <;> rfl
@[simp] theorem Dev.setSeg_engines (d : Dev) (n : Nat) (x : Seg) : (d.setSeg n x).engines = d.engines := by simp only [Dev.setSeg]; split <;> rfl
@[simp] theorem Dev.setSeg_quads (d : Dev) (n : Nat) (x : Seg) : (d.setSeg n x).quads = d.quads := by simp only [Dev.setSeg]; split <;> rfl
@[simp] theorem Dev.setSeg_chart (d : Dev) (n : Nat) (x : Seg) : (d.setSeg n x).chart = d.chart := by simp only [Dev.setSeg]; split <;> rfl
@[simp] theorem Dev.setSeg_pwr (d : Dev) (n : Nat) (x : Seg) : (d.setSeg n x).pwr = d.pwr := by simp only [Dev.setSeg]; split <;> rfl
@[simp] theorem Dev.setSeg_seqb (d : Dev) (n : Nat) (x : Seg) : (d.setSeg n x).seqb = d.seqb := by simp only [Dev.setSeg]; split <;> rfl
@[simp] theorem Dev.setSeg_wch (d : Dev) (n : Nat) (x : Seg) : (d.setSeg n x).wch = d.wch := by simp only [Dev.setSeg]; split <;> rfl
@[simp] theorem Dev.setSeg_saf (d : Dev) (n : Nat) (x : Seg) : (d.setSeg n x).saf = d.saf := by simp only [Dev.setSeg]; split <;> rfl
@[simp] theorem Dev.setSeg_thm (d : Dev) (n : Nat) (x : Seg) : (d.setSeg n x).thm = d.thm := by simp only [Dev.setSeg]; split <;> rfl
@[simp] theorem Dev.setSeg_ll (d : Dev) (n : Nat) (x : Seg) : (d.setSeg n x).ll = d.ll := by simp only [Dev.setSeg]; split <;> rfl
@[simp] theorem Dev.setSeg_reg (d : Dev) (n : Nat) (x : Seg) (k : Nat) : (d.setSeg n x).reg k = d.reg k := by simp [Dev.reg]
@[simp] theorem Dev.setSeg_f (d : Dev) (n : Nat) (x : Seg) (K : Fld) : (d.setSeg n x).f K = d.f K := by simp [Dev.f, Dev.reg]
@[simp] theorem Dev.setSeg_on (d : Dev) (n : Nat) (x : Seg) (K : Fld) : (d.setSeg n x).on K = d.on K := by simp [Dev.on, Dev.f, Dev.reg]
@[simp] theorem Dev.setSeg_mode (d : Dev) (n : Nat) (x : Seg) (k : Nat) : (d.setSeg n x).mode k = d.mode k := by simp [Dev.mode, Dev.reg]
@[simp] theorem Dev.setSeg_pt (d : Dev) (n : Nat) (x : Seg) (k : Nat) : (d.setSeg n x).pt k = d.pt k := by simp [Dev.pt]
@[simp] theorem Dev.setSeg_hm (d : Dev) (n : Nat) (x : Seg) (k : Nat) : (d.setSeg n x).hm k = d.hm k := by simp [Dev.hm]
@[simp] theorem Dev.setSeg_head (d : Dev) (n : Nat) (x : Seg) (k : Nat) : (d.setSeg n x).head k = d.head k := by simp [Dev.head]
@[simp] theorem Dev.setSeg_eng (d : Dev) (n : Nat) (x : Seg) (k : Nat) : (d.setSeg n x).eng k = d.eng k := by simp [Dev.eng]
@[simp] theorem Dev.setSeg_quad (d : Dev) (n : Nat) (x : Seg) (k : Nat) : (d.setSeg n x).quad k = d.quad k := by simp [Dev.quad]
@[simp] theorem Dev.setSeg_stm (d : Dev) (n : Nat) (x : Seg) (k : Nat) : (d.setSeg n x).stm k = d.stm k := by simp [Dev.stm]

end Sys2Proof.Machine
end

