-- ==== Sys2Proof/Laws/Logbook.lean ====
section
/-! SUPPORT. What a write of the Logbook does to the supply while the supply is there (R620): nothing, but for the place of the next power-log
record; and so for the records of Commit. -/

namespace Sys2Proof.Machine

/-- What every step of a fold keeps, the fold keeps. -/
theorem foldl_keep {α β γ : Type} (p : α → γ) (f : α → β → α) (h : ∀ a x, p (f a x) = p a) (l : List β) (a : α) : p (l.foldl f a) = p a := by
  induction l generalizing a with
  | nil => rfl
  | cons x l ih => exact (ih (f a x)).trans (h a x)

/-- Counting an event for the Tally leaves the supply alone. -/
@[simp] theorem Dev.tally_pwr (d : Dev) (code unit_ n : Nat) : (d.tally code unit_ n).pwr = d.pwr := by
  unfold Dev.tally
  refine foldl_keep Dev.pwr _ ?_ _ d
  intro a x
  simp only [apply_ite Dev.pwr, Dev.setF_pwr, ite_self]

/-- A Logbook write while the supply is there leaves the supply alone. -/
theorem Dev.lbkWrite_pwr {d : Dev} (hv : 8000 ≤ d.pwr.vsys) (hw : 3200 ≤ d.pwr.wcap) (addr : Nat) (bs : List (BitVec 8)) :
    (d.lbkWrite addr bs).2.pwr = d.pwr := by
  unfold Dev.lbkWrite
  split
  · rfl
  · split
    · simp_all; omega
    · simp

/-- A counter that holds no intent has none to finish (R622). -/
theorem Dev.lbkIntent_idle {d : Dev} {off n : Nat} (h : (memRead d.lbk (lbkCounters + off + 16) 12).getD 0 0 ≠ 0xA5#8) : d.lbkIntent off n = d := by
  unfold Dev.lbkIntent
  dsimp only
  rw [if_neg]
  rw [decide_eq_false h]
  simp

/-- So does a write of a Logbook counter that holds no intent. -/
theorem Dev.lbkSetCounter_pwr {d : Dev} (hv : 8000 ≤ d.pwr.vsys) (hw : 3200 ≤ d.pwr.wcap) {off n : Nat} (hi : d.lbkIntent off n = d) (v : Nat) :
    (d.lbkSetCounter off n v).pwr = d.pwr := by
  have h := fun (e : Dev) (he : e.pwr = d.pwr) (a : Nat) (b : List (BitVec 8)) =>
    (Dev.lbkWrite_pwr (d := e) (by simpa [he] using hv) (by simpa [he] using hw) a b).trans he
  unfold Dev.lbkSetCounter
  rw [hi]
  dsimp only
  split
  · exact h d rfl _ _
  · split
    · exact h d rfl _ _
    · split
      · exact h _ (h d rfl _ _) _ _
      · split
        · exact h _ (h _ (h d rfl _ _) _ _) _ _
        · exact h _ (h _ (h _ (h d rfl _ _) _ _) _ _) _ _

/-- A power-log record changes the place of the next one alone. -/
theorem Dev.powerLog_pwr {d : Dev} (hv : 8000 ≤ d.pwr.vsys) (hw : 3200 ≤ d.pwr.wcap) (kind : Nat) (body : List (BitVec 8)) :
    ∃ k, (d.powerLog kind body).pwr = { d.pwr with plNext := k } := by
  have h := Dev.lbkWrite_pwr hv hw (powerAddr d.pwr.plNext) (d.powerRec kind d.pwr.plNext body ++ d.powerRec kind d.pwr.plNext body)
  unfold Dev.powerLog Dev.powerWrite
  dsimp only
  split
  · exact ⟨d.pwr.plNext + 1, by simp [h]⟩
  · exact ⟨d.pwr.plNext, by simp [h]⟩

/-- The counters record of Commit. -/
theorem Dev.countersRec_pwr {d : Dev} (hv : 8000 ≤ d.pwr.vsys) (hw : 3200 ≤ d.pwr.wcap) (ph : Nat) :
    ∃ k r, (d.countersRec ph).pwr = { d.pwr with plNext := k, railCounts := r } := by
  unfold Dev.countersRec
  split
  · exact ⟨d.pwr.plNext, d.pwr.railCounts, rfl⟩
  · obtain ⟨k, h⟩ := Dev.powerLog_pwr hv hw 3 (leBytes 2 ph ++ d.pwr.railCounts.flatMap (leBytes 2))
    exact ⟨k, List.replicate 18 0, by simp only [h]⟩

/-- The BROWNOUT record is one record of the power log. -/
theorem Dev.brownoutRec_log (d : Dev) : ∃ body, d.brownoutRec = d.draw.2.powerLog 2 body := ⟨_, rfl⟩

/-- It changes the place of the next record alone. -/
theorem Dev.brownoutRec_pwr {d : Dev} (hv : 8000 ≤ d.pwr.vsys) (hw : 3200 ≤ d.pwr.wcap) :
    ∃ k, d.brownoutRec.pwr = { d.pwr with plNext := k } := by
  obtain ⟨body, hb⟩ := d.brownoutRec_log
  obtain ⟨k, h⟩ := Dev.powerLog_pwr (d := d.draw.2) (by simpa using hv) (by simpa using hw) 2 body
  exact ⟨k, by rw [hb, h, Dev.draw_pwr]⟩

/-- Keeping the effective clocks leaves the supply alone. -/
@[simp] theorem Dev.saveEclk_pwr (d : Dev) : d.saveEclk.pwr = d.pwr := by
  unfold Dev.saveEclk
  split <;> rfl

end Sys2Proof.Machine
end

