-- ==== Sys2Proof/Laws/Memory.lean ====
section
/-! SUPPORT. The sparse byte memories (Logbook, local and shared memory): a read after a write, and the canonical form, which every
write keeps. -/

namespace Sys2Proof.Machine

/-! ### Association lists -/

theorem assocGet_set_same {α : Type} (k : Nat) (v : α) (l : List (Nat × α)) : assocGet k (assocSet k v l) = some v := by
  induction l with
  | nil => simp [assocSet, assocGet]
  | cons x t ih => simp only [assocSet]; split <;> [simp [assocGet]; split] <;> simp_all [assocGet]

theorem assocGet_set_ne {α : Type} {k j : Nat} (h : j ≠ k) (v : α) (l : List (Nat × α)) : assocGet j (assocSet k v l) = assocGet j l := by
  induction l with
  | nil => simp [assocSet, assocGet, h]
  | cons x t ih =>
    simp only [assocSet]
    split
    · simp [assocGet, h]
    · split
      · rename_i hk; subst hk; simp [assocGet, h]
      · simp [assocGet, ih]

theorem assocGet_del_ne {α : Type} {k j : Nat} (h : j ≠ k) (l : List (Nat × α)) : assocGet j (assocDel k l) = assocGet j l := by
  induction l with
  | nil => rfl
  | cons x t ih =>
    simp only [assocDel]
    split
    · rename_i hk; subst hk; simp [assocGet, h]
    · simp [assocGet, ih]

/-! ### The canonical form -/

theorem memWfFrom_none {l : Option Nat} {m : List Host.Cell} (h : memWfFrom l m = true) : memWfFrom none m = true := by
  cases m with
  | nil => rfl
  | cons x t => simp_all [memWfFrom]

theorem memWfFrom_weaken {j k : Nat} {m : List Host.Cell} (hj : j ≤ k) (h : memWfFrom (some k) m = true) : memWfFrom (some j) m = true := by
  cases m with
  | nil => rfl
  | cons x t => simp_all [memWfFrom]; omega

theorem assocDel_wf {k : Nat} {m : List Host.Cell} : ∀ {lo : Option Nat}, memWfFrom lo m = true → memWfFrom lo (assocDel k m) = true := by
  induction m with
  | nil => intro lo h; exact h
  | cons x t ih =>
    intro lo h
    simp only [assocDel]
    split
    · simp only [memWfFrom, Bool.and_eq_true] at h
      cases lo with
      | none => exact memWfFrom_none h.2
      | some l =>
        have h1 : l < x.1 := by simpa using h.1.1
        exact memWfFrom_weaken (Nat.le_of_lt h1) h.2
    · simp only [memWfFrom, Bool.and_eq_true] at h ⊢
      exact ⟨h.1, ih h.2⟩

theorem assocSet_wf {k : Nat} {b : BitVec 8} (hb : b ≠ 0) {m : List Host.Cell} :
    ∀ {lo : Option Nat}, (∀ l, lo = some l → l < k) → memWfFrom lo m = true → memWfFrom lo (assocSet k b m) = true := by
  induction m with
  | nil => intro lo hl h; cases lo <;> simp_all [assocSet, memWfFrom]
  | cons x t ih =>
    intro lo hl h
    simp only [memWfFrom, Bool.and_eq_true] at h
    simp only [assocSet]
    split
    · rename_i hk
      cases lo <;> simp_all [memWfFrom]
    · split
      · rename_i hk; subst hk
        cases lo <;> simp_all [memWfFrom]
      · rename_i h1 h2
        have hlt : x.1 < k := by omega
        simp only [memWfFrom, Bool.and_eq_true]
        exact ⟨h.1, ih (fun l hl' => by cases hl'; exact hlt) h.2⟩

/-- A byte written keeps the canonical form. -/
theorem memSet_wf {m : List Host.Cell} (h : Memory.wf m = true) (a : Nat) (b : BitVec 8) : Memory.wf (memSet m a b) = true := by
  simp only [memSet]
  split
  · exact assocDel_wf h
  · rename_i hb; exact assocSet_wf hb (by simp) h

/-- Every write keeps the canonical form. -/
theorem memWrite_wf (bs : List (BitVec 8)) : ∀ (m : List Host.Cell) (a : Nat), Memory.wf m = true → Memory.wf (memWrite m a bs) = true := by
  induction bs with
  | nil => intro m a h; exact h
  | cons b t ih => intro m a h; exact ih _ _ (memSet_wf h a b)

/-! ### Reading after writing -/

theorem assocGet_below {m : List Host.Cell} : ∀ {l a : Nat}, memWfFrom (some l) m = true → a ≤ l → assocGet a m = none := by
  induction m with
  | nil => intros; rfl
  | cons x t ih =>
    intro l a h hl
    simp only [memWfFrom, Bool.and_eq_true, decide_eq_true_eq] at h
    have : a ≠ x.1 := by omega
    simp [assocGet, this]
    exact ih h.2 (by omega)

theorem assocGet_del_same {m : List Host.Cell} : ∀ {lo : Option Nat} {a : Nat}, memWfFrom lo m = true → assocGet a (assocDel a m) = none := by
  induction m with
  | nil => intros; rfl
  | cons x t ih =>
    intro lo a h
    simp only [memWfFrom, Bool.and_eq_true] at h
    simp only [assocDel]
    split
    · rename_i hk; subst hk; exact assocGet_below h.2 (Nat.le_refl _)
    · rename_i hk; simp only [assocGet, hk, if_false]; exact ih h.2

/-- A byte reads as what was last written to it. -/
theorem memGet_memSet_same {m : List Host.Cell} (h : Memory.wf m = true) (a : Nat) (b : BitVec 8) : memGet (memSet m a b) a = b := by
  simp only [memSet, memGet]
  split
  · rename_i hb; rw [assocGet_del_same h]; simp [hb]
  · simp [assocGet_set_same]

/-- A write leaves every other byte as it was. -/
theorem memGet_memSet_ne {a j : Nat} (h : j ≠ a) (m : List Host.Cell) (b : BitVec 8) : memGet (memSet m a b) j = memGet m j := by
  simp only [memSet, memGet]
  split
  · rw [assocGet_del_ne h]
  · rw [assocGet_set_ne h]

theorem memGet_memWrite_out (bs : List (BitVec 8)) :
    ∀ (m : List Host.Cell) (a j : Nat), j < a ∨ a + bs.length ≤ j → memGet (memWrite m a bs) j = memGet m j := by
  induction bs with
  | nil => intros; rfl
  | cons b t ih =>
    intro m a j h
    simp only [List.length_cons] at h
    simp only [memWrite]
    rw [ih _ _ _ (by omega), memGet_memSet_ne (by omega)]

theorem memGet_memWrite_in (bs : List (BitVec 8)) :
    ∀ (m : List Host.Cell) (a i : Nat), Memory.wf m = true → i < bs.length → memGet (memWrite m a bs) (a + i) = bs.getD i 0 := by
  induction bs with
  | nil => intro m a i _ h; simp at h
  | cons b t ih =>
    intro m a i hw h
    simp only [memWrite]
    cases i with
    | zero => rw [memGet_memWrite_out _ _ _ _ (by omega)]; simp [memGet_memSet_same hw]
    | succ n =>
      have h' : n < t.length := by simpa using h
      have := ih (memSet m a b) (a + 1) n (memSet_wf hw a b) h'
      simpa [Nat.add_assoc, Nat.add_comm 1 n] using this

/-- What is written reads back. -/
theorem memRead_memWrite {m : List Host.Cell} (h : Memory.wf m = true) (a : Nat) (bs : List (BitVec 8)) :
    memRead (memWrite m a bs) a bs.length = bs := by
  apply List.ext_getElem
  · simp [memRead]
  · intro i h1 h2
    simp only [memRead, List.getElem_map, List.getElem_range]
    rw [memGet_memWrite_in _ _ _ _ h h2]
    simp [List.getD, h2]

end Sys2Proof.Machine
end

