-- ==== Sys2Proof/Laws/Registers.lean ====
section
/-! SUPPORT. The register file: a read after a write, its canonical form, and counters of the commit sequencer, which a register write leaves
alone. -/

namespace Sys2Proof.Machine

/-! ### The canonical form of the register file -/

theorem regsWf_cons {x : Nat × BitVec 64} {t : List (Nat × BitVec 64)} :
    regsWf (x :: t) = true ↔ x.2 ≠ BitVec.ofNat 64 (resetVal x.1) ∧ (∀ y ∈ t.head?, x.1 < y.1) ∧ regsWf t = true := by
  cases t with
  | nil => simp [regsWf]
  | cons y t => simp [regsWf, and_assoc, and_left_comm]

theorem regsWf_tail {x : Nat × BitVec 64} {t : List (Nat × BitVec 64)} (h : regsWf (x :: t) = true) : regsWf t = true := (regsWf_cons.mp h).2.2

theorem regsWf_above {x : Nat × BitVec 64} : ∀ {t : List (Nat × BitVec 64)}, regsWf (x :: t) = true → ∀ y ∈ t, x.1 < y.1 := by
  intro t
  induction t generalizing x with
  | nil => intro _ y hy; cases hy
  | cons z t ih =>
    intro h y hy
    have hz : x.1 < z.1 := (regsWf_cons.mp h).2.1 z (by simp)
    rcases List.mem_cons.mp hy with rfl | hy
    · exact hz
    · exact Nat.lt_trans hz (ih (regsWf_tail h) y hy)

theorem regsWf_of {x : Nat × BitVec 64} {t : List (Nat × BitVec 64)} (h1 : x.2 ≠ BitVec.ofNat 64 (resetVal x.1)) (h2 : ∀ y ∈ t, x.1 < y.1)
    (h3 : regsWf t = true) : regsWf (x :: t) = true :=
  regsWf_cons.mpr ⟨h1, fun y hy => h2 y (List.mem_of_mem_head? hy), h3⟩

theorem mem_assocDel {α : Type} {k : Nat} {y : Nat × α} : ∀ {l : List (Nat × α)}, y ∈ assocDel k l → y ∈ l := by
  intro l
  induction l with
  | nil => intro h; exact h
  | cons x t ih =>
    simp only [assocDel]
    split
    · exact List.mem_cons_of_mem _
    · intro h
      rcases List.mem_cons.mp h with rfl | h
      · simp
      · exact List.mem_cons_of_mem _ (ih h)

theorem mem_assocSet {α : Type} {k : Nat} {v : α} {y : Nat × α} : ∀ {l : List (Nat × α)}, y ∈ assocSet k v l → y = (k, v) ∨ y ∈ l := by
  intro l
  induction l with
  | nil => intro h; simp [assocSet] at h; exact .inl h
  | cons x t ih =>
    simp only [assocSet]
    split
    · intro h; rcases List.mem_cons.mp h with h | h <;> [exact .inl h; exact .inr h]
    · split
      · intro h
        rcases List.mem_cons.mp h with h | h
        · exact .inl h
        · exact .inr (List.mem_cons_of_mem _ h)
      · intro h
        rcases List.mem_cons.mp h with rfl | h
        · exact .inr (by simp)
        · rcases ih h with h | h
          · exact .inl h
          · exact .inr (List.mem_cons_of_mem _ h)

theorem assocDel_regsWf {k : Nat} : ∀ {l : List (Nat × BitVec 64)}, regsWf l = true → regsWf (assocDel k l) = true := by
  intro l
  induction l with
  | nil => intro h; exact h
  | cons x t ih =>
    intro h
    simp only [assocDel]
    split
    · exact regsWf_tail h
    · exact regsWf_of (regsWf_cons.mp h).1 (fun y hy => regsWf_above h y (mem_assocDel hy)) (ih (regsWf_tail h))

theorem assocSet_regsWf {k : Nat} {v : BitVec 64} (hv : v ≠ BitVec.ofNat 64 (resetVal k)) :
    ∀ {l : List (Nat × BitVec 64)}, regsWf l = true → regsWf (assocSet k v l) = true := by
  intro l
  induction l with
  | nil => intro _; exact regsWf_of hv (by simp) rfl
  | cons x t ih =>
    intro h
    simp only [assocSet]
    split
    · rename_i hk
      refine regsWf_of hv (fun y hy => ?_) h
      rcases List.mem_cons.mp hy with rfl | hy
      · exact hk
      · exact Nat.lt_trans hk (regsWf_above h y hy)
    · split
      · rename_i hk; subst hk
        exact regsWf_of hv (fun y hy => regsWf_above h y hy) (regsWf_tail h)
      · rename_i h1 h2
        refine regsWf_of (regsWf_cons.mp h).1 (fun y hy => ?_) (ih (regsWf_tail h))
        rcases mem_assocSet hy with rfl | hy
        · show x.1 < k; omega
        · exact regsWf_above h y hy

/-- A register write keeps the register file's canonical form. -/
theorem Dev.setReg_wf {d : Dev} (h : regsWf d.regs = true) (off v : Nat) : regsWf (d.setReg off v).regs = true := by
  simp only [Dev.setReg]
  split
  · exact assocDel_regsWf h
  · rename_i hv; exact assocSet_regsWf hv h

theorem assocGet_del_regs {k : Nat} : ∀ {l : List (Nat × BitVec 64)}, regsWf l = true → assocGet k (assocDel k l) = none := by
  intro l
  induction l with
  | nil => intro _; rfl
  | cons x t ih =>
    intro h
    simp only [assocDel]
    split
    · rename_i hk; subst hk
      have := regsWf_above h
      clear ih h
      induction t with
      | nil => rfl
      | cons y t ih =>
        have hy : x.1 ≠ y.1 := Nat.ne_of_lt (this y (by simp))
        simp only [assocGet, hy, if_false]
        exact ih (fun z hz => this z (List.mem_cons_of_mem _ hz))
    · rename_i hk; simp only [assocGet, hk, if_false]; exact ih (regsWf_tail h)

/-- A register reads as what was last written to it. -/
theorem Dev.reg_setReg_same {d : Dev} (h : regsWf d.regs = true) (off v : Nat) (hv : v < 2 ^ 64) (hr : resetVal off < 2 ^ 64) :
    (d.setReg off v).reg off = v := by
  simp only [Dev.setReg]
  split
  · rename_i he
    have hvr : v = resetVal off := by
      have := congrArg BitVec.toNat he
      rwa [BitVec.toNat_ofNat, BitVec.toNat_ofNat, Nat.mod_eq_of_lt hv, Nat.mod_eq_of_lt hr] at this
    simp [Dev.reg, assocGet_del_regs h, hvr]
  · simp only [Dev.reg, assocGet_set_same, BitVec.toNat_ofNat]; exact Nat.mod_eq_of_lt hv

/-- A register write leaves every other register as it was. -/
@[simp] theorem Dev.reg_setReg_ne {d : Dev} {off j : Nat} (h : j ≠ off) (v : Nat) : (d.setReg off v).reg j = d.reg j := by
  simp only [Dev.setReg]
  split <;> simp [Dev.reg, assocGet_del_ne h, assocGet_set_ne h]

end Sys2Proof.Machine
end

