-- ==== Sys2Proof/Laws/Services.lean ====
section
/-! SUPPORT. The shared operations of the commands, each said once: a command in its operand ranges, the mailbox, an order, a requester's
access to the Helm space, a port's request. -/

namespace Sys2Proof.Machine

/-- A command within its operand ranges answers a next state, with its queue as it was. -/
@[simp] theorem act_ok (s : State) (f : Dev → Dev) : act true s f = .next { s with dev := f s.dev } := rfl

/-- A command outside its operand ranges stops. -/
@[simp] theorem act_bad (s : State) (f : Dev → Dev) : act false s f = .fault .illFormed := rfl

/-! ### Mailbox and orders -/

theorem Dev.served_gate {d : Dev} {h : Nat} (hs : d.served h = true) (op : Nat) : d.mboxOn h = true ∧ d.mboxGate op = none := by
  simp [Dev.served, Dev.on] at hs
  obtain ⟨⟨⟨h1, h2⟩, h3⟩, h4⟩ := hs
  refine ⟨h1, ?_⟩
  simp [Dev.mboxGate, Dev.starting, Dev.on, h2, h3, h4]

/-- A mailbox command of a head that is served answers with what `f` gives. -/
theorem Dev.mailbox_served {d : Dev} {h : Nat} (hs : d.served h = true) (op : Nat) (f : Dev → Nat × List (BitVec 8) × Dev) :
    d.mailbox h op f = (f d.touch).2.2.reply h op (f d.touch).1 (if (f d.touch).1 = rcSuccess then (f d.touch).2.1 else []) := by
  obtain ⟨h1, h2⟩ := Dev.served_gate hs op
  simp [Dev.mailbox, h1, h2]

/-- So does one whose opcode alone is served, as the Primary Event Log is while the device starts (R321). -/
theorem Dev.mailbox_serves {d : Dev} {h op : Nat} (hs : d.serves h op = true) (f : Dev → Nat × List (BitVec 8) × Dev) :
    d.mailbox h op f = (f d.touch).2.2.reply h op (f d.touch).1 (if (f d.touch).1 = rcSuccess then (f d.touch).2.1 else []) := by
  simp [Dev.serves] at hs
  simp [Dev.mailbox, hs.1, hs.2]

/-- A mailbox that turns the opcode away answers with its code alone. -/
theorem Dev.mailbox_gate {d : Dev} {h op rc : Nat} (hm : d.mboxOn h = true) (hg : d.mboxGate op = some rc)
    (f : Dev → Nat × List (BitVec 8) × Dev) : d.mailbox h op f = d.reply h op rc [] := by
  simp [Dev.mailbox, hm, hg]

/-- A mailbox that is not reached changes nothing. -/
theorem Dev.mailbox_off {d : Dev} {h : Nat} (hm : d.mboxOn h = false) (op : Nat) (f : Dev → Nat × List (BitVec 8) × Dev) :
    d.mailbox h op f = d := by
  simp [Dev.mailbox, hm]

/-- An order of its program that is ready has its program's effect. -/
theorem Dev.asOrder_run {d : Dev} {id prog : Nat} {x : Order} (h : d.orderReady id prog x) (op : Nat) (bg : Bool)
    (parse : List (BitVec 8) → Nat × List Nat) (answer : Order → Nat × List (BitVec 8)) (eff : Dev → Order → Dev) :
    d.asOrder (.run id) prog op bg parse answer eff = eff d x := by
  obtain ⟨h1, h2, h3, h4⟩ := h
  simp [Dev.asOrder, h1, h2, h3, h4]

/-! ### The Helm space -/

/-- A requester that is not let in changes nothing (R334). -/
theorem Dev.helmIn_off {d : Dev} {by_ : Nat} (h : d.helmOn by_ = false ∨ d.mayWrite by_ = false) (off width v : Nat) :
    d.helmIn by_ off width v = d := by
  rcases h with h | h <;> simp [Dev.helmIn, Dev.letWrite, h]

/-- A requester that is let in writes. -/
theorem Dev.helmIn_on {d : Dev} {by_ : Nat} (h1 : d.helmOn by_ = true) (h2 : d.mayWrite by_ = true) (off width v : Nat) :
    d.helmIn by_ off width v = (if by_ < 2 then d.touch else d).helmWrite by_ off width v := by
  simp [Dev.helmIn, Dev.letWrite, h1, h2]

/-- A 32-bit write of a 32-bit register. -/
theorem Dev.helm32_row {d : Dev} {by_ off v : Nat} {r : RegRow} (h1 : sqPlace off = none) (h2 : regRow? off = some r) (h3 : r.at off = off) :
    d.helm32 by_ off v = d.regWrite by_ off 0xFFFFFFFF v := by
  simp [Dev.helm32, h1, h2, h3]

/-- A 64-bit write of a 64-bit register. -/
theorem Dev.helmWrite_row {d : Dev} {by_ off v : Nat} {r : RegRow} (h0 : off % 8 = 0) (h1 : sqPlace off = none) (h2 : regRow? off = some r)
    (h3 : r.width = 64) : d.helmWrite by_ off 64 v = d.regWrite by_ off (2 ^ 64 - 1) (v % 2 ^ 64) := by
  simp [Dev.helmWrite, h0, h1, h2, h3]

/-! ### Requests of the ports (R32, R71) -/

/-- A read that nothing holds back, and that no retrain blocks, is answered at once. -/
theorem Dev.memReadReq_now {d : Dev} {p tag a : Nat} {ev : RdEnv} (h : d.mustHold p tag a false = false) (hb : (d.memReadNow p a ev).2.blocked = none) :
    d.memReadReq p tag a ev = (d.memReadNow p a ev).2.answer p tag (d.memReadNow p a ev).1 := by
  simp [Dev.memReadReq, h, hb]

/-- A request that arrives on a credit goes on; one without a credit is not accepted. -/
theorem Dev.request_credit {d e : Dev} {p : Nat} {wr : Bool} (h : d.creditFor p wr = some e) (f : Dev → Dev) : d.request p wr f = f e.touch := by
  simp [Dev.request, h]

end Sys2Proof.Machine
end

