-- ==== Sys2Proof/Tests/Slice0.lean ====
section
/-! SUPPORT. Tests of this model: the ranges of every command, a few effects whose results come from the manual's text, and for each
statement a state and operands that meet its hypotheses. -/

open Sys2Proof Sys2Proof.Machine

namespace Sys2Proof.Tests

/-! ### Small states -/

/-- A read that meets nothing unusual. -/
def e0 : RdEnv := ⟨[], false, false, false⟩

/-- A recovery that meets nothing unusual. -/
def r0 : RecEnv := { copyA := true, copyB := true, prevA := true, prevB := true, differ := false, prevDiffer := false, survey := List.replicate 16 [], rebuilt := [], bad := [], micros := 0 }

/-- The device right after reset, in another phase. -/
def inPhase (p : Phase) : Dev := { ({} : Dev) with phase := p }

/-- A device in Active with WINDOW mode and a window of 16 GiB, the sequencer running and both links in L0. -/
def dA : Dev :=
  (((({ (inPhase .active) with seqOn := true } : Dev).setReg 0x104 1).setF DEV_LAYOUT.WIN_GIB 16).setF (DEV_PORTSTAT.RATE 0) 5).setF (DEV_PORTSTAT.RATE 1) 5

/-- The same with modes in force. -/
def dM (bits : Nat) : Dev := dA.setReg 0x104 (bits + 1)

/-- An order with a program and arguments, running. -/
def ordOf (prog : Nat) (args : List Nat) : Order := ⟨1, 0, 0, prog, mkEntry prog args, 5, 255, false, none⟩

/-- A device in Active on which it runs. -/
def dO (prog : Nat) (args : List Nat) : Dev := { dA with ord := { dA.ord with run := [ordOf prog args] } }

/-- It is ready to take effect. -/
def ready (d : Dev) (id prog : Nat) : Bool :=
  match d.order id with
  | some x => x.prog == prog && x.done.isNone && !d.ordBlocked x
  | none => false

theorem ready_of {d : Dev} {id prog : Nat} (h : ready d id prog = true) : ∃ x, d.orderReady id prog x := by
  unfold ready at h
  split at h
  · next x hx =>
    simp at h
    exact ⟨x, hx, h.1.1, h.1.2, h.2⟩
  · simp at h

/-- A seal of 4 KiB at address 0, of a page that nothing has written. -/
def seal0 : Seal := ⟨1, 0, 0, 0, 4096, 3, 0, [sealZero]⟩

/-- A device in Active with stream 5 enabled, framed or not, on a valid region. -/
def dS : Dev := ((dM 2).setReg (0x8000 + 8 * 5) 1).setStm 5 { (({} : Stream)) with lbase := 300000, depth := 64, valid := true }

/-- Engine 0 of an active device, changed. -/
def dE (f : Engine → Engine) : Dev := dA.modEng 0 f

/-- A value in a general register. -/
def withG (i : Nat) (v : Word) (x : Engine) : Engine := x.wr i v

set_option Elab.async false

theorem test_wf_accepts_0 : ([
  .memRd 0 0 0 e0,
  .memRdData 0 0 0 e0,
  .memWr 0 0 0 0 false false,
  .memWrPtl 0 0 0 0 0 false false e0,
  .unsupportedM2sOpcode 0 0 0 0,
  .globalPersistentFlush 0,
  .perst 0 0,
  .linkTraining 0 0 0 false false,
  .l1Entry 0,
  .l1Exit 0,
  .d3hotEntry 0,
  .decoderCommit 0 0 0 0 0 1 256,
  .msixUnmask 0 0,
  .identify 0,
  .getEventRecords 0 0,
  .clearEventRecords 0 0 false [],
  .getEventInterruptPolicy 0,
  .setEventInterruptPolicy 0 (List.replicate 4 0),
  .getFwInfo 0,
  .transferFw 0 0 0 [],
  .activateFw 0 0 0,
  .getTimestamp 0,
  .setTimestamp 0 0,
  .getSupportedLogs 0,
  .getLog 0 0 0,
  .identifyMemoryDevice 0,
  .getPartitionInfo 0,
  .setPartitionInfo 0 [],
  .getLsa 0 0 0,
  .setLsa 0 0 [],
  .getHealthInfo 0,
  .getAlertConfiguration 0,
  .setAlertConfiguration 0 0 0 0 0,
  .getShutdownState 0,
  .setShutdownState 0 0,
  .getPoisonList 0 0 0,
  .injectPoison 0 0,
  .clearPoison 0 0 0,
  .scanMedia 0 17155,
  .persistentMemorySecurity 0 17664,
  .sanitize 0 0 false [],
  .secureErase 0 0 false [],
  .getDeviceIdentity 0 [],
  .getMode 0 [],
  .getChartSlots 0 [],
  .writeChartChunk 0 [],
  .runOrder 0 [],
  .getOrderResult 0 [],
  .readSealRecord 0 [],
  .readDeckLog 0 [],
  .readPowerLog 0 [],
  .readLogbookPage 0 [],
  .writeRegistryPage 0 [],
  .lockRegistryPage 0 [],
  .getCapacity 0 [],
  .reset 0 [],
  .sqTailWrite 0 0 0,
  .cqHeadWrite 0 0 0,
  .orderDispatch 0,
  .orderCompletion 0] : List Instr).all Instr.wf = true := by decide +kernel

theorem test_wf_accepts_1 : ([
  .modeChange (.run 0),
  .checkpoint (.run 0),
  .discard (.run 0),
  .secureDiscard (.run 0) 1,
  .sealRange (.run 0) e0,
  .unseal (.run 0),
  .sealVerify (.run 0) e0,
  .sealExport (.run 0) e0,
  .trigger (.run 0),
  .streamReset (.run 0),
  .rekey (.run 0) 1 false,
  .fix (.run 0),
  .deckClear (.run 0),
  .deckRun (.run 0),
  .deckStop (.run 0),
  .chartCheck (.run 0),
  .helmSpaceWrite 0 0 0 0,
  .halfReadLatch 0 0,
  .pntArbWrite 0 0 0 0,
  .pntRetireWrite 0 0 0,
  .wlvPlaceWrite 0 0 0 0,
  .strCtlWrite 0 0 0 0,
  .strActTrigger 0 0,
  .strActQueueReset 0 0,
  .strNoteRead 0 0,
  .pwrCtlOff 0,
  .pwrCtlBanktest 0,
  .pwrThrWrite 0 0,
  .fixCtlTrigger 0 0,
  .seqCmdFix 0 0 0,
  .seqCmdStatus 0 0 none,
  .rstCtlDevice 0 0,
  .rstWdogKick 0 0,
  .padholdRelease 0 0,
  .talSelWrite 0 0 0,
  .talCfgWrite 0 0,
  .safInjWrite 0 0,
  .llnChWrite 0 0 0 0,
  .i3cRead [],
  .i3cWrite [],
  .i3cStatus [],
  .i3cResponse false,
  .entdaa 0,
  .setdasa 0,
  .rstdaa,
  .enec 0,
  .disec 0,
  .getpid,
  .getbcr,
  .getdcr,
  .getstatus,
  .getmrl,
  .setmrl 0,
  .getmwl,
  .setmwl 0,
  .rstact 0,
  .ibiRetry false,
  .i3cAddressInDoze,
  .producerWrite 0 0 0 0 0 false,
  .creditRaise 0] : List Instr).all Instr.wf = true := by decide +kernel

theorem test_wf_accepts_2 : ([
  .streamPageSpill 0 0 e0,
  .headRefill 0,
  .consumerRead 0 0 0 e0,
  .producerWindowRead 0 0 0,
  .triggerLineWrite 0 0 0 0,
  .read 0 0 0,
  .mark 0 0,
  .rewind 0 0,
  .release 0 0 0,
  .drop 0 0,
  .opReset 0 0,
  .opInvalid 0 0 0 false,
  .queueReset 0 0,
  .ringReclaim 0,
  .boundaryRecord,
  .windowClose 0,
  .windowRecord 0,
  .add 0 0 0 0,
  .sub 0 0 0 0,
  .and 0 0 0 0,
  .or 0 0 0 0,
  .xor 0 0 0 0,
  .shl 0 0 0 0,
  .shr 0 0 0 0,
  .sar 0 0 0 0,
  .mul 0 0 0 0,
  .mulh 0 0 0 0,
  .div 0 0 0 0,
  .rem 0 0 0 0,
  .addi 0 0 0 0,
  .andi 0 0 0 0,
  .ori 0 0 0 0,
  .xori 0 0 0 0,
  .lhi 0 0 0 0,
  .beq 0 0 0 0,
  .bne 0 0 0 0,
  .blt 0 0 0 0,
  .bge 0 0 0 0,
  .bltu 0 0 0 0,
  .bgeu 0 0 0 0,
  .jal 0 0 0,
  .jr 0 0 0 0,
  .ld8 0 0 0 0 e0,
  .ld16 0 0 0 0 e0,
  .ld32 0 0 0 0 e0,
  .ld64 0 0 0 0 e0,
  .ld8u 0 0 0 0 e0,
  .ld16u 0 0 0 0 e0,
  .ld32u 0 0 0 0 e0,
  .st8 0 0 0 0,
  .st16 0 0 0 0,
  .st32 0 0 0 0,
  .st64 0 0 0 0,
  .ldRsv 0 0 0 0 e0,
  .stCnd 0 0 0 0,
  .barCore 0 0,
  .barQuad 0 0,
  .barChip 0 0,
  .mread 0 0 0 0 0 0 e0,
  .mwrite 0 0 0 0 0 0 false] : List Instr).all Instr.wf = true := by decide +kernel

theorem test_wf_accepts_3 : ([
  .mclear 0 0 0 0 0 0,
  .mverify 0 0 0 0 e0,
  .mfoldPage 0 0 0 0 e0,
  .mfoldSector 0 0 0 0 e0,
  .mfoldSealed 0 0 0 0 e0,
  .mref 0 0 0 0 0,
  .msense 0 0 0 0 0 (List.replicate 512 0),
  .mediaTicketComplete 0 0,
  .qpeek 0 0 0 0 0 0 e0,
  .qtake 0 0 0 0 0 0 e0,
  .qmark 0 0 0 0 0,
  .qrewind 0 0 0 0 0,
  .qrelease 0 0 0 0 0,
  .qdrop 0 0 0 0 0,
  .qcredit 0 0 0 0 0,
  .fixInstruction 0 0 0,
  .wait 0 0 0 0 false,
  .sleep 0 0 0 0,
  .sleepEnd 0,
  .trap 0 0 0,
  .exit 0,
  .event 0,
  .yield 0,
  .eret 0 0,
  .getsys 0 0 0 0 e0,
  .putsys 0 0 0 0,
  .taskTake 0 0 e0,
  .wdogKick 0 0,
  .budget 0,
  .engineWatchdog 0,
  .lockstepMismatch 0,
  .engineFault 0,
  .engineSelfTestDone 0 false,
  .writeMergeDrain 0 0,
  .forwardingBufferDrain 0,
  .barrierDrainTimeout 0,
  .sectorReady 0 0,
  .pageRoute 0,
  .mergeReadDone 0 e0,
  .sectorProgramDone 0 false,
  .overlayInstall 0,
  .pageInstall 0,
  .placementLogClose 0 false,
  .lineLogClose 0 0,
  .lineLogCommit 0 false false,
  .watermark 0,
  .rowComplete 0 0 0,
  .rowTimeout 0 0 0,
  .groupClose 0 0,
  .groupOpen 0,
  .segmentAgeClose 0,
  .settleEnd 0,
  .verifyReadDone 0 e0,
  .parityRelease 0,
  .clearSchedule 0,
  .segmentClearDone 0 0,
  .collectionStart 0,
  .foldQueue 0 0,
  .mapFlush 0 0,
  .checkpointStart 0] : List Instr).all Instr.wf = true := by decide +kernel

theorem test_wf_accepts_4 : ([
  .checkpointComplete,
  .spareRecompute,
  .berthLow,
  .metadataPoolTopup 0,
  .staticLevelling 0,
  .poolWearExchange 0,
  .marginSweep,
  .refreshQueue 0,
  .lodestoneSample 0 0 (List.replicate 512 0),
  .eclkUpdate,
  .scrubPass 0 [],
  .keySweep false,
  .burstCrcFail 0 false 1,
  .ackTimeout 0 1,
  .quickRetrain 0 0,
  .quickRetrainDone 0 false,
  .fullTrainingDone 0 false,
  .dieFatalStatus 0,
  .stuckCell 0 0,
  .pointDeath 0 0,
  .rehomingComplete 0 false,
  .deadDieRecovery 0 0 e0,
  .crossbarSelfCheck 0 false,
  .secureDiscardResume,
  .rekeyResume,
  .bankTest 2000 0,
  .bankTestDue 0,
  .bankVoltageLow,
  .automaticModeChange,
  .brownout,
  .flushEnd false (List.replicate 16 0),
  .commitEnd,
  .supplyReturn,
  .vinOvervoltage,
  .railStep 0,
  .railStepDone 0 0,
  .railStepFail 0 0,
  .railFault 0 0 0,
  .railDischarged 0 false,
  .railsDownComplete,
  .minimumOffTimeEnd,
  .orderlyShutdown 0,
  .step 0,
  .down,
  .flush,
  .seqFix 0,
  .status,
  .chart 0 (List.replicate 256 0) 0,
  .seqNoack 0 0,
  .lineFlush,
  .seqOrphan,
  .seqDiscovery (List.replicate 7 none),
  .seqGroupPoll (List.replicate 7 none),
  .watchPowerOn,
  .watchStop,
  .crystalSwitch,
  .crystalFail 0,
  .wakeEdge 0 0,
  .wakeLevel 0 0,
  .wakeReleaseOff 0 0] : List Instr).all Instr.wf = true := by decide +kernel

theorem test_wf_accepts_5 : ([
  .wchAlarm,
  .resetN,
  .deviceReset 0,
  .resetFlushEnd false (List.replicate 16 0),
  .chipWatchdog,
  .dozeEntry,
  .dozeReached,
  .padHoldLatch,
  .maintenanceWake,
  .dozeWake 0,
  .optionLoad (List.replicate 4 0),
  .referenceCheck false false,
  .pllLock,
  .mediaInitialisation,
  .recovery r0,
  .chartApply,
  .activeReached 0,
  .noLinkTimeout,
  .heartbeatTimeout,
  .pllUnlock 0,
  .clockDeviation,
  .sequencerMismatch,
  .safeNReadback,
  .latentFaultTest 0,
  .fixNEdge,
  .deckLogFlush 0,
  .tallyDump,
  .logbookSegmentWrite 0 [],
  .operatingSecond,
  .sensorRead 0 0 none,
  .thermalEvaluation,
  .criticalTimeout,
  .coolDownEnd,
  .llWindowExcursion 0,
  .llSample 0 0 false,
  .llEdge 0 false 0,
  .llFrameClose,
  .llLevelWake 0 false 0,
  .llStreamCheck,
  .builtInSelfTest 0,
  .quietClockGate,
  .sanitizeRestart,
  .brownoutWatch 0,
  .resetNRelease,
  .placementQueueRefill 0 0] : List Instr).all Instr.wf = true := by decide +kernel

theorem test_wf_refuses_0 : ([
  .memRd 2 0 0 e0,
  .memRd 0 65536 0 e0,
  .memRd 0 0 281474976710656 e0,
  .memRdData 2 0 0 e0,
  .memRdData 0 65536 0 e0,
  .memRdData 0 0 281474976710656 e0,
  .memWr 2 0 0 0 false false,
  .memWr 0 65536 0 0 false false,
  .memWr 0 0 281474976710656 0 false false,
  .memWrPtl 2 0 0 0 0 false false e0,
  .memWrPtl 0 65536 0 0 0 false false e0,
  .memWrPtl 0 0 281474976710656 0 0 false false e0,
  .unsupportedM2sOpcode 2 0 0 0,
  .unsupportedM2sOpcode 0 65536 0 0,
  .unsupportedM2sOpcode 0 0 16 0,
  .unsupportedM2sOpcode 0 0 0 281474976710656,
  .globalPersistentFlush 2,
  .perst 2 0,
  .perst 0 2,
  .linkTraining 2 0 0 false false,
  .linkTraining 0 6 0 false false,
  .linkTraining 0 0 5 false false,
  .l1Entry 2,
  .l1Exit 2,
  .d3hotEntry 2,
  .decoderCommit 2 0 0 0 0 1 256,
  .decoderCommit 0 4 0 0 0 1 256,
  .decoderCommit 0 0 4503599627370496 0 0 1 256,
  .decoderCommit 0 0 0 4503599627370496 0 1 256,
  .decoderCommit 0 0 0 0 4503599627370496 1 256,
  .decoderCommit 0 0 0 0 0 77777 256,
  .decoderCommit 0 0 0 0 0 1 77777,
  .msixUnmask 2 0,
  .msixUnmask 0 8,
  .identify 2,
  .getEventRecords 2 0,
  .getEventRecords 0 4,
  .clearEventRecords 2 0 false [],
  .clearEventRecords 0 4 false [],
  .clearEventRecords 0 0 false [65536],
  .getEventInterruptPolicy 2,
  .setEventInterruptPolicy 2 (List.replicate 4 0),
  .setEventInterruptPolicy 0 (List.replicate 5 0),
  .setEventInterruptPolicy 0 [4, 0, 0, 0],
  .getFwInfo 2,
  .transferFw 2 0 0 [],
  .transferFw 0 256 0 [],
  .transferFw 0 0 4294967296 [],
  .transferFw 0 0 0 (List.replicate 4097 0),
  .activateFw 2 0 0,
  .activateFw 0 256 0,
  .activateFw 0 0 256,
  .getTimestamp 2,
  .setTimestamp 2 0,
  .setTimestamp 0 18446744073709551616,
  .getSupportedLogs 2,
  .getLog 2 0 0,
  .getLog 0 4294967296 0,
  .getLog 0 0 4294967296,
  .identifyMemoryDevice 2] : List Instr).all (fun c => !c.wf) = true := by decide +kernel

theorem test_wf_refuses_1 : ([
  .getPartitionInfo 2,
  .setPartitionInfo 2 [],
  .setPartitionInfo 0 (List.replicate 4097 0),
  .getLsa 2 0 0,
  .getLsa 0 4294967296 0,
  .getLsa 0 0 4294967296,
  .setLsa 2 0 [],
  .setLsa 0 4294967296 [],
  .setLsa 0 0 (List.replicate 4097 0),
  .getHealthInfo 2,
  .getAlertConfiguration 2,
  .setAlertConfiguration 2 0 0 0 0,
  .setAlertConfiguration 0 256 0 0 0,
  .setAlertConfiguration 0 0 256 0 0,
  .setAlertConfiguration 0 0 0 256 0,
  .setAlertConfiguration 0 0 0 0 65536,
  .getShutdownState 2,
  .setShutdownState 2 0,
  .setShutdownState 0 256,
  .getPoisonList 2 0 0,
  .getPoisonList 0 18446744073709551616 0,
  .getPoisonList 0 0 18446744073709551616,
  .injectPoison 2 0,
  .injectPoison 0 18446744073709551616,
  .clearPoison 2 0 0,
  .clearPoison 0 18446744073709551616 0,
  .scanMedia 2 17155,
  .scanMedia 0 17154,
  .scanMedia 0 17158,
  .persistentMemorySecurity 2 17664,
  .persistentMemorySecurity 0 17663,
  .persistentMemorySecurity 0 17920,
  .sanitize 2 0 false [],
  .sanitize 0 6 false [],
  .secureErase 2 0 false [],
  .secureErase 0 6 false [],
  .getDeviceIdentity 2 [],
  .getDeviceIdentity 0 (List.replicate 4097 0),
  .getMode 2 [],
  .getMode 0 (List.replicate 4097 0),
  .getChartSlots 2 [],
  .getChartSlots 0 (List.replicate 4097 0),
  .writeChartChunk 2 [],
  .writeChartChunk 0 (List.replicate 4097 0),
  .runOrder 2 [],
  .runOrder 0 (List.replicate 4097 0),
  .getOrderResult 2 [],
  .getOrderResult 0 (List.replicate 4097 0),
  .readSealRecord 2 [],
  .readSealRecord 0 (List.replicate 4097 0),
  .readDeckLog 2 [],
  .readDeckLog 0 (List.replicate 4097 0),
  .readPowerLog 2 [],
  .readPowerLog 0 (List.replicate 4097 0),
  .readLogbookPage 2 [],
  .readLogbookPage 0 (List.replicate 4097 0),
  .writeRegistryPage 2 [],
  .writeRegistryPage 0 (List.replicate 4097 0),
  .lockRegistryPage 2 [],
  .lockRegistryPage 0 (List.replicate 4097 0)] : List Instr).all (fun c => !c.wf) = true := by decide +kernel

theorem test_wf_refuses_2 : ([
  .getCapacity 2 [],
  .getCapacity 0 (List.replicate 4097 0),
  .reset 2 [],
  .reset 0 (List.replicate 4097 0),
  .sqTailWrite 4 0 0,
  .sqTailWrite 0 3 0,
  .sqTailWrite 0 0 4294967296,
  .cqHeadWrite 4 0 0,
  .cqHeadWrite 0 3 0,
  .cqHeadWrite 0 0 4294967296,
  .orderDispatch 4,
  .orderCompletion 18446744073709551616,
  .modeChange (.mbox 2 []),
  .checkpoint (.mbox 2 []),
  .discard (.mbox 2 []),
  .secureDiscard (.mbox 2 []) 1,
  .secureDiscard (.run 0) 0,
  .secureDiscard (.run 0) 8,
  .sealRange (.mbox 2 []) e0,
  .unseal (.mbox 2 []),
  .sealVerify (.mbox 0 []) e0,
  .sealExport (.mbox 0 []) e0,
  .trigger (.mbox 0 []),
  .streamReset (.mbox 0 []),
  .rekey (.mbox 2 []) 1 false,
  .rekey (.run 0) 0 false,
  .rekey (.run 0) 6 false,
  .fix (.mbox 2 []),
  .deckClear (.mbox 2 []),
  .deckRun (.mbox 0 []),
  .deckStop (.mbox 0 []),
  .chartCheck (.mbox 2 []),
  .helmSpaceWrite 4 0 0 0,
  .helmSpaceWrite 0 65536 0 0,
  .helmSpaceWrite 0 0 65 0,
  .halfReadLatch 4 0,
  .halfReadLatch 0 65536,
  .pntArbWrite 4 0 0 0,
  .pntArbWrite 0 16 0 0,
  .pntArbWrite 0 0 3 0,
  .pntRetireWrite 4 0 0,
  .pntRetireWrite 0 3 0,
  .wlvPlaceWrite 4 0 0 0,
  .wlvPlaceWrite 0 16 0 0,
  .wlvPlaceWrite 0 0 3 0,
  .strCtlWrite 4 0 0 0,
  .strCtlWrite 0 4096 0 0,
  .strCtlWrite 0 0 3 0,
  .strActTrigger 4 0,
  .strActTrigger 0 4096,
  .strActQueueReset 4 0,
  .strActQueueReset 0 4096,
  .strNoteRead 4 0,
  .strNoteRead 0 2,
  .pwrCtlOff 4,
  .pwrCtlBanktest 4,
  .pwrThrWrite 4 0,
  .fixCtlTrigger 4 0,
  .seqCmdFix 4 0 0,
  .seqCmdFix 0 256 0] : List Instr).all (fun c => !c.wf) = true := by decide +kernel

theorem test_wf_refuses_3 : ([
  .seqCmdFix 0 0 65536,
  .seqCmdStatus 4 0 none,
  .seqCmdStatus 0 256 none,
  .seqCmdStatus 0 0 (some 65536),
  .rstCtlDevice 4 0,
  .rstCtlDevice 0 4294967296,
  .rstWdogKick 4 0,
  .padholdRelease 4 0,
  .talSelWrite 4 0 0,
  .talSelWrite 0 44 0,
  .talCfgWrite 4 0,
  .safInjWrite 4 0,
  .llnChWrite 4 0 0 0,
  .llnChWrite 0 8 0 0,
  .llnChWrite 0 0 3 0,
  .i3cRead (List.replicate 265 0),
  .i3cWrite (List.replicate 265 0),
  .i3cStatus (List.replicate 265 0),
  .entdaa 128,
  .setdasa 128,
  .enec 256,
  .disec 256,
  .setmrl 65536,
  .setmwl 65536,
  .rstact 256,
  .producerWrite 2 0 0 0 0 false,
  .producerWrite 0 65536 0 0 0 false,
  .producerWrite 0 0 281474976710656 0 0 false,
  .creditRaise 4096,
  .streamPageSpill 4096 0 e0,
  .streamPageSpill 0 4503599627370496 e0,
  .headRefill 4096,
  .consumerRead 2 0 0 e0,
  .consumerRead 0 65536 0 e0,
  .consumerRead 0 0 281474976710656 e0,
  .producerWindowRead 2 0 0,
  .producerWindowRead 0 65536 0,
  .producerWindowRead 0 0 281474976710656,
  .triggerLineWrite 2 0 0 0,
  .triggerLineWrite 0 65536 0 0,
  .triggerLineWrite 0 0 4096 0,
  .triggerLineWrite 0 0 0 18446744073709551616,
  .read 3 0 0,
  .read 0 4096 0,
  .read 0 0 18446744073709551616,
  .mark 3 0,
  .mark 0 4096,
  .rewind 3 0,
  .rewind 0 4096,
  .release 3 0 0,
  .release 0 4096 0,
  .release 0 0 18446744073709551616,
  .drop 3 0,
  .drop 0 4096,
  .opReset 3 0,
  .opReset 0 4096,
  .opInvalid 3 0 0 false,
  .opInvalid 0 4096 0 false,
  .opInvalid 0 0 256 false,
  .opInvalid 0 0 1 true] : List Instr).all (fun c => !c.wf) = true := by decide +kernel

theorem test_wf_refuses_4 : ([
  .queueReset 4096 0,
  .queueReset 0 4,
  .ringReclaim 4096,
  .windowClose 4096,
  .windowRecord 4096,
  .add 16 0 0 0,
  .add 0 32 0 0,
  .add 0 0 32 0,
  .add 0 0 0 32,
  .sub 16 0 0 0,
  .sub 0 32 0 0,
  .sub 0 0 32 0,
  .sub 0 0 0 32,
  .and 16 0 0 0,
  .and 0 32 0 0,
  .and 0 0 32 0,
  .and 0 0 0 32,
  .or 16 0 0 0,
  .or 0 32 0 0,
  .or 0 0 32 0,
  .or 0 0 0 32,
  .xor 16 0 0 0,
  .xor 0 32 0 0,
  .xor 0 0 32 0,
  .xor 0 0 0 32,
  .shl 16 0 0 0,
  .shl 0 32 0 0,
  .shl 0 0 32 0,
  .shl 0 0 0 32,
  .shr 16 0 0 0,
  .shr 0 32 0 0,
  .shr 0 0 32 0,
  .shr 0 0 0 32,
  .sar 16 0 0 0,
  .sar 0 32 0 0,
  .sar 0 0 32 0,
  .sar 0 0 0 32,
  .mul 16 0 0 0,
  .mul 0 32 0 0,
  .mul 0 0 32 0,
  .mul 0 0 0 32,
  .mulh 16 0 0 0,
  .mulh 0 32 0 0,
  .mulh 0 0 32 0,
  .mulh 0 0 0 32,
  .div 16 0 0 0,
  .div 0 32 0 0,
  .div 0 0 32 0,
  .div 0 0 0 32,
  .rem 16 0 0 0,
  .rem 0 32 0 0,
  .rem 0 0 32 0,
  .rem 0 0 0 32,
  .addi 16 0 0 0,
  .addi 0 32 0 0,
  .addi 0 0 32 0,
  .addi 0 0 0 65536,
  .andi 16 0 0 0,
  .andi 0 32 0 0,
  .andi 0 0 32 0] : List Instr).all (fun c => !c.wf) = true := by decide +kernel

theorem test_wf_refuses_5 : ([
  .andi 0 0 0 65536,
  .ori 16 0 0 0,
  .ori 0 32 0 0,
  .ori 0 0 32 0,
  .ori 0 0 0 65536,
  .xori 16 0 0 0,
  .xori 0 32 0 0,
  .xori 0 0 32 0,
  .xori 0 0 0 65536,
  .lhi 16 0 0 0,
  .lhi 0 32 0 0,
  .lhi 0 0 65536 0,
  .lhi 0 0 0 67108864,
  .beq 16 0 0 0,
  .beq 0 32 0 0,
  .beq 0 0 32 0,
  .beq 0 0 0 65536,
  .bne 16 0 0 0,
  .bne 0 32 0 0,
  .bne 0 0 32 0,
  .bne 0 0 0 65536,
  .blt 16 0 0 0,
  .blt 0 32 0 0,
  .blt 0 0 32 0,
  .blt 0 0 0 65536,
  .bge 16 0 0 0,
  .bge 0 32 0 0,
  .bge 0 0 32 0,
  .bge 0 0 0 65536,
  .bltu 16 0 0 0,
  .bltu 0 32 0 0,
  .bltu 0 0 32 0,
  .bltu 0 0 0 65536,
  .bgeu 16 0 0 0,
  .bgeu 0 32 0 0,
  .bgeu 0 0 32 0,
  .bgeu 0 0 0 65536,
  .jal 16 0 0,
  .jal 0 32 0,
  .jal 0 0 2097152,
  .jr 16 0 0 0,
  .jr 0 32 0 0,
  .jr 0 0 32 0,
  .jr 0 0 0 65536,
  .ld8 16 0 0 0 e0,
  .ld8 0 32 0 0 e0,
  .ld8 0 0 32 0 e0,
  .ld8 0 0 0 65536 e0,
  .ld16 16 0 0 0 e0,
  .ld16 0 32 0 0 e0,
  .ld16 0 0 32 0 e0,
  .ld16 0 0 0 65536 e0,
  .ld32 16 0 0 0 e0,
  .ld32 0 32 0 0 e0,
  .ld32 0 0 32 0 e0,
  .ld32 0 0 0 65536 e0,
  .ld64 16 0 0 0 e0,
  .ld64 0 32 0 0 e0,
  .ld64 0 0 32 0 e0,
  .ld64 0 0 0 65536 e0] : List Instr).all (fun c => !c.wf) = true := by decide +kernel

theorem test_wf_refuses_6 : ([
  .ld8u 16 0 0 0 e0,
  .ld8u 0 32 0 0 e0,
  .ld8u 0 0 32 0 e0,
  .ld8u 0 0 0 65536 e0,
  .ld16u 16 0 0 0 e0,
  .ld16u 0 32 0 0 e0,
  .ld16u 0 0 32 0 e0,
  .ld16u 0 0 0 65536 e0,
  .ld32u 16 0 0 0 e0,
  .ld32u 0 32 0 0 e0,
  .ld32u 0 0 32 0 e0,
  .ld32u 0 0 0 65536 e0,
  .st8 16 0 0 0,
  .st8 0 32 0 0,
  .st8 0 0 32 0,
  .st8 0 0 0 65536,
  .st16 16 0 0 0,
  .st16 0 32 0 0,
  .st16 0 0 32 0,
  .st16 0 0 0 65536,
  .st32 16 0 0 0,
  .st32 0 32 0 0,
  .st32 0 0 32 0,
  .st32 0 0 0 65536,
  .st64 16 0 0 0,
  .st64 0 32 0 0,
  .st64 0 0 32 0,
  .st64 0 0 0 65536,
  .ldRsv 16 0 0 0 e0,
  .ldRsv 0 32 0 0 e0,
  .ldRsv 0 0 32 0 e0,
  .ldRsv 0 0 0 65536 e0,
  .stCnd 16 0 0 0,
  .stCnd 0 32 0 0,
  .stCnd 0 0 32 0,
  .stCnd 0 0 0 32,
  .barCore 16 0,
  .barCore 0 67108864,
  .barQuad 16 0,
  .barQuad 0 67108864,
  .barChip 16 0,
  .barChip 0 67108864,
  .mread 16 0 0 0 0 0 e0,
  .mread 0 32 0 0 0 0 e0,
  .mread 0 0 32 0 0 0 e0,
  .mread 0 0 0 32 0 0 e0,
  .mread 0 0 0 0 32 0 e0,
  .mread 0 0 0 0 0 64 e0,
  .mwrite 16 0 0 0 0 0 false,
  .mwrite 0 32 0 0 0 0 false,
  .mwrite 0 0 32 0 0 0 false,
  .mwrite 0 0 0 32 0 0 false,
  .mwrite 0 0 0 0 64 0 false,
  .mwrite 0 0 0 0 0 67108864 false,
  .mclear 16 0 0 0 0 0,
  .mclear 0 32 0 0 0 0,
  .mclear 0 0 32 0 0 0,
  .mclear 0 0 0 32 0 0,
  .mclear 0 0 0 0 67108864 0,
  .mclear 0 0 0 0 0 4294967296] : List Instr).all (fun c => !c.wf) = true := by decide +kernel

theorem test_wf_refuses_7 : ([
  .mverify 16 0 0 0 e0,
  .mverify 0 32 0 0 e0,
  .mverify 0 0 32 0 e0,
  .mverify 0 0 0 67108864 e0,
  .mfoldPage 16 0 0 0 e0,
  .mfoldPage 0 32 0 0 e0,
  .mfoldPage 0 0 32 0 e0,
  .mfoldPage 0 0 0 67108864 e0,
  .mfoldSector 16 0 0 0 e0,
  .mfoldSector 0 32 0 0 e0,
  .mfoldSector 0 0 32 0 e0,
  .mfoldSector 0 0 0 67108864 e0,
  .mfoldSealed 16 0 0 0 e0,
  .mfoldSealed 0 32 0 0 e0,
  .mfoldSealed 0 0 32 0 e0,
  .mfoldSealed 0 0 0 67108864 e0,
  .mref 16 0 0 0 0,
  .mref 0 32 0 0 0,
  .mref 0 0 32 0 0,
  .mref 0 0 0 64 0,
  .mref 0 0 0 0 67108864,
  .msense 16 0 0 0 0 (List.replicate 512 0),
  .msense 0 32 0 0 0 (List.replicate 512 0),
  .msense 0 0 32 0 0 (List.replicate 512 0),
  .msense 0 0 0 32 0 (List.replicate 512 0),
  .msense 0 0 0 0 67108864 (List.replicate 512 0),
  .msense 0 0 0 0 0 (List.replicate 513 0),
  .msense 0 0 0 0 0 (257 :: List.replicate 511 0),
  .mediaTicketComplete 16 0,
  .mediaTicketComplete 0 32,
  .qpeek 16 0 0 0 0 0 e0,
  .qpeek 0 32 0 0 0 0 e0,
  .qpeek 0 0 32 0 0 0 e0,
  .qpeek 0 0 0 32 0 0 e0,
  .qpeek 0 0 0 0 32 0 e0,
  .qpeek 0 0 0 0 0 64 e0,
  .qtake 16 0 0 0 0 0 e0,
  .qtake 0 32 0 0 0 0 e0,
  .qtake 0 0 32 0 0 0 e0,
  .qtake 0 0 0 32 0 0 e0,
  .qtake 0 0 0 0 32 0 e0,
  .qtake 0 0 0 0 0 64 e0,
  .qmark 16 0 0 0 0,
  .qmark 0 32 0 0 0,
  .qmark 0 0 32 0 0,
  .qmark 0 0 0 32 0,
  .qmark 0 0 0 0 67108864,
  .qrewind 16 0 0 0 0,
  .qrewind 0 32 0 0 0,
  .qrewind 0 0 32 0 0,
  .qrewind 0 0 0 32 0,
  .qrewind 0 0 0 0 67108864,
  .qrelease 16 0 0 0 0,
  .qrelease 0 32 0 0 0,
  .qrelease 0 0 32 0 0,
  .qrelease 0 0 0 32 0,
  .qrelease 0 0 0 0 67108864,
  .qdrop 16 0 0 0 0,
  .qdrop 0 32 0 0 0,
  .qdrop 0 0 32 0 0] : List Instr).all (fun c => !c.wf) = true := by decide +kernel

theorem test_wf_refuses_8 : ([
  .qdrop 0 0 0 32 0,
  .qdrop 0 0 0 0 67108864,
  .qcredit 16 0 0 0 0,
  .qcredit 0 32 0 0 0,
  .qcredit 0 0 32 0 0,
  .qcredit 0 0 0 64 0,
  .qcredit 0 0 0 0 67108864,
  .fixInstruction 16 0 0,
  .fixInstruction 0 32 0,
  .fixInstruction 0 0 67108864,
  .wait 16 0 0 0 false,
  .wait 0 32 0 0 false,
  .wait 0 0 32 0 false,
  .wait 0 0 0 32 false,
  .sleep 16 0 0 0,
  .sleep 0 32 0 0,
  .sleep 0 0 32 0,
  .sleep 0 0 0 67108864,
  .sleepEnd 16,
  .trap 16 0 0,
  .trap 0 65536 0,
  .trap 0 0 67108864,
  .exit 16,
  .event 16,
  .yield 16,
  .eret 16 0,
  .eret 0 67108864,
  .getsys 16 0 0 0 e0,
  .getsys 0 32 0 0 e0,
  .getsys 0 0 65536 0 e0,
  .getsys 0 0 0 67108864 e0,
  .putsys 16 0 0 0,
  .putsys 0 32 0 0,
  .putsys 0 0 65536 0,
  .putsys 0 0 0 67108864,
  .taskTake 16 0 e0,
  .taskTake 0 32 e0,
  .wdogKick 16 0,
  .wdogKick 0 32,
  .budget 16,
  .engineWatchdog 16,
  .lockstepMismatch 16,
  .engineFault 16,
  .engineSelfTestDone 16 false,
  .writeMergeDrain 16 0,
  .writeMergeDrain 0 4398046511104,
  .forwardingBufferDrain 4,
  .barrierDrainTimeout 16,
  .sectorReady 2147483648 0,
  .sectorReady 0 3,
  .pageRoute 134217728,
  .mergeReadDone 134217728 e0,
  .sectorProgramDone 2147483648 false,
  .overlayInstall 2147483648,
  .pageInstall 134217728,
  .placementLogClose 16 false,
  .lineLogClose 16 0,
  .lineLogClose 0 3,
  .lineLogCommit 16 false false,
  .watermark 16] : List Instr).all (fun c => !c.wf) = true := by decide +kernel

theorem test_wf_refuses_9 : ([
  .rowComplete 4294967296 0 0,
  .rowComplete 0 1024 0,
  .rowComplete 0 0 65536,
  .rowTimeout 4294967296 0 0,
  .rowTimeout 0 1024 0,
  .rowTimeout 0 0 65536,
  .groupClose 4294967296 0,
  .groupClose 0 4,
  .groupOpen 4,
  .segmentAgeClose 131072,
  .settleEnd 4294967296,
  .verifyReadDone 2147483648 e0,
  .parityRelease 4294967296,
  .clearSchedule 16,
  .segmentClearDone 131072 0,
  .segmentClearDone 0 4294967296,
  .collectionStart 16,
  .foldQueue 134217728 0,
  .foldQueue 0 3,
  .mapFlush 16 0,
  .mapFlush 0 16384,
  .checkpointStart 3,
  .metadataPoolTopup 16,
  .staticLevelling 16,
  .poolWearExchange 16,
  .refreshQueue 131072,
  .lodestoneSample 16 0 (List.replicate 512 0),
  .lodestoneSample 0 120 (List.replicate 512 0),
  .lodestoneSample 0 0 (List.replicate 513 0),
  .lodestoneSample 0 0 (257 :: List.replicate 511 0),
  .scrubPass 4294967296 [],
  .burstCrcFail 16 false 1,
  .burstCrcFail 0 false 0,
  .burstCrcFail 0 false 5,
  .ackTimeout 16 1,
  .ackTimeout 0 0,
  .ackTimeout 0 5,
  .quickRetrain 16 0,
  .quickRetrain 0 16,
  .quickRetrainDone 16 false,
  .fullTrainingDone 16 false,
  .dieFatalStatus 16,
  .stuckCell 16 0,
  .stuckCell 0 32,
  .pointDeath 16 0,
  .pointDeath 0 16,
  .rehomingComplete 16 false,
  .deadDieRecovery 16 0 e0,
  .deadDieRecovery 0 134217728 e0,
  .crossbarSelfCheck 4 false,
  .bankTest 1999 0,
  .bankTest 65536 0,
  .bankTest 2000 4294967296,
  .bankTestDue 8,
  .flushEnd false (List.replicate 17 0),
  .flushEnd false (4294967296 :: List.replicate 15 0),
  .railStep 6,
  .railStepDone 6 0,
  .railStepDone 0 65536,
  .railStepFail 6 0] : List Instr).all (fun c => !c.wf) = true := by decide +kernel

theorem test_wf_refuses_10 : ([
  .railStepFail 0 8,
  .railFault 6 0 0,
  .railFault 0 8 0,
  .railFault 0 0 65536,
  .railDischarged 6 false,
  .orderlyShutdown 16,
  .step 65536,
  .seqFix 65536,
  .chart 65536 (List.replicate 256 0) 0,
  .chart 0 (List.replicate 257 0) 0,
  .chart 0 (List.replicate 256 0) 4294967296,
  .seqNoack 8 0,
  .seqNoack 0 256,
  .seqDiscovery (List.replicate 8 none),
  .seqDiscovery (some 65536 :: List.replicate 6 none),
  .seqGroupPoll (List.replicate 8 none),
  .seqGroupPoll (some 65536 :: List.replicate 6 none),
  .crystalFail 2,
  .wakeEdge 4 0,
  .wakeEdge 0 18446744073709551616,
  .wakeLevel 4 0,
  .wakeLevel 0 18446744073709551616,
  .wakeReleaseOff 4 0,
  .wakeReleaseOff 0 18446744073709551616,
  .deviceReset 256,
  .resetFlushEnd false (List.replicate 17 0),
  .resetFlushEnd false (4294967296 :: List.replicate 15 0),
  .dozeWake 8,
  .optionLoad (List.replicate 5 0),
  .optionLoad [4, 0, 0, 0],
  .optionLoad [0, 4, 0, 0],
  .optionLoad [0, 0, 2, 0],
  .optionLoad [0, 0, 0, 8],
  .recovery { r0 with survey := [] },
  .activeReached 2,
  .pllUnlock 3,
  .latentFaultTest 4503599627370496,
  .deckLogFlush 4,
  .logbookSegmentWrite 1048576 [],
  .logbookSegmentWrite 0 (List.replicate 257 0),
  .sensorRead 3 0 none,
  .sensorRead 0 0 (some 65536),
  .sensorRead 0 16 none,
  .sensorRead 1 8 none,
  .llWindowExcursion 8,
  .llSample 8 0 false,
  .llSample 0 4096 false,
  .llEdge 8 false 0,
  .llEdge 0 false 18446744073709551616,
  .llLevelWake 8 false 0,
  .llLevelWake 0 false 18446744073709551616,
  .builtInSelfTest 4503599627370496,
  .brownoutWatch 65536,
  .placementQueueRefill 16 0,
  .placementQueueRefill 0 4] : List Instr).all (fun c => !c.wf) = true := by decide +kernel


/-! ### Effects, with results from the manual's text -/

/-- The device after a command; the factory's where the command does not answer one. -/
def after (i : Instr) (d : Dev) : Dev :=
  match exec i { State.reset with dev := d } with
  | .next t => t.dev
  | _ => {}

/-- Engine 3 with two registers set, after an instruction. -/
def eng3 (a b : Nat) (i : Instr) : Engine := (after i (dA.modEng 3 (fun x => (x.wr 1 (BitVec.ofNat 64 a)).wr 2 (BitVec.ofNat 64 b)))).eng 3

/-- Its register 4. -/
def g4 (a b : Nat) (i : Instr) : Nat := ((eng3 a b i).rd 4).toNat

-- Chapter 2, "the home of a line"; chapter 9, stream 300; chapter 10, streams 1,000 and 77.
theorem test_home : homeOf 0x0ABCDEF240 = 1 ∧ homeOfPage 0xABCDEF = 1 ∧ homeOfPage 0xABCDF0 = 0xF ∧ dA.serving 1 = 1 := by decide +kernel
theorem test_streams : homeOfStream 0x12C = 0xF ∧ apBase 300 = 0x6012C00000 ∧ homeOfStream 1000 = 5 ∧ apBase 1000 = 0x603E800000 := by decide +kernel

-- Chapter 4, "one segment through a hot day": at x = 9.339 (612,033 units of 2^-16) references 159, 99 and 34, margin 313/16.
theorem test_references : refCode 0 107 612033 = 159 ∧ refCode 1 127 612033 = 99 ∧ refCode 2 133 612033 = 34 ∧ marginAt 612033 = 313 := by decide +kernel

-- Chapter 6, "spare after a dead die and a failed cell": with all Points live and no wear the spare is 9,830 segments.
theorem test_spare : (after .spareRecompute { dA with capDue := true }).f WLV_CAP.SPARE = 9830 := by decide +kernel

-- Chapter 14, "a 330 µF bank": 33.00 V and 1.523 ms over 150 Ω give 330.0 µF and 169.1 mJ.
theorem test_bank : bankC 33000 1523000 150 = 3300 ∧ bankE 3300 33 = 1691 ∧ bankPass 3300 33 = true ∧ bankPass 1600 33 = false := by decide +kernel

-- Chapter 17, "a carry cut short": cell 2 is the highest that changes, and the intent completes the carry.
theorem test_carry : topCell 131071 131072 5 = 2 ∧
    (({ dA with lbk := memWrite (memWrite [] (lbkCounters + 32) [0x00, 0xFF, 0x01]) (lbkCounters + 48) (intentBytes 2 131072) } : Dev).lbkIntent 32 5).lbkCounter 32 5 =
      131072 := by decide +kernel

-- Chapter 12, "two orders across the ring end": the program stands in bits 15:0 of the first word.
theorem test_order_entry : fieldLe (mkEntry 0x30 [0x2000000000, 0x40000000]) 0 4 = 0xFF000030 ∧ fieldLe (mkEntry 0x30 [0x2000000000, 0x40000000]) 8 8 = 0x2000000000 := by decide +kernel

-- Checks whose value the literature gives for the message "123456789": CRC-32C 0xE3069283, CRC-16 0x29B1 (initial value 0xFFFF).
theorem test_crcs : crc32c [0x31, 0x32, 0x33, 0x34, 0x35, 0x36, 0x37, 0x38, 0x39] = 0xE3069283 ∧
    crc16Link [0x31, 0x32, 0x33, 0x34, 0x35, 0x36, 0x37, 0x38, 0x39] = 0x29B1 := by decide +kernel

-- SHA-256 of the empty message begins 0xE3B0C442.
theorem test_sha : (sha256 []).take 4 = [0xE3, 0xB0, 0xC4, 0x42] := by decide +kernel

-- Engine arithmetic (chapter 11): it wraps at 64 bits; sar copies the sign; addi sign-extends its immediate; g0 stays zero (R402).
theorem test_add_wraps : g4 (2 ^ 64 - 1) 2 (.add 3 4 1 2) = 1 := by decide +kernel
theorem test_sub_wraps : g4 1 2 (.sub 3 4 1 2) = 2 ^ 64 - 1 := by decide +kernel
theorem test_sar_sign : g4 (2 ^ 63) 63 (.sar 3 4 1 2) = 2 ^ 64 - 1 ∧ g4 (2 ^ 63) 63 (.shr 3 4 1 2) = 1 ∧ g4 1 63 (.shl 3 4 1 2) = 2 ^ 63 := by decide +kernel
theorem test_mulh : g4 (2 ^ 64 - 1) (2 ^ 64 - 1) (.mul 3 4 1 2) = 1 := by decide +kernel
theorem test_addi_sign : g4 5 0 (.addi 3 4 1 0xFFFF) = 4 := by decide +kernel
theorem test_logic : g4 12 10 (.and 3 4 1 2) = 8 ∧ g4 12 10 (.or 3 4 1 2) = 14 ∧ g4 12 10 (.xor 3 4 1 2) = 6 := by decide +kernel
theorem test_g0 : (eng3 1 2 (.add 3 0 1 2)).rd 0 = 0 := by decide +kernel
theorem test_branch : (eng3 1 2 (.bltu 3 2 1 8)).pc ≠ (eng3 2 1 (.bltu 3 2 1 8)).pc ∧ (eng3 2 2 (.bltu 3 2 1 8)).pc = (dA.eng 3).pc + 4 := by decide +kernel

-- Local memory, a store and its load, and a misaligned load: an engine fault at helm (R414), the exception at deck (R412, Table 11.2).
theorem test_store : memGet (eng3 0x40 0x1122334455667788 (.st32 3 2 1 4)).loc 0x44 = 0x88 ∧ memGet (eng3 0x40 0x1122334455667788 (.st32 3 2 1 4)).loc 0x48 = 0 := by decide +kernel
theorem test_helm_fault : (eng3 0x42 0 (.ld32 3 4 1 0 e0)).state = .halted ∧ (eng3 0x42 0 (.ld32 3 4 1 0 e0)).causeCode = 0 := by decide +kernel
theorem test_misaligned : 
    (let x := (after (.ld32 3 4 1 0 e0) (dA.modEng 3 (fun x => { (x.wr 1 0x42).wr 4 7 with priv := 1, pc := 0x20000, budget := 5, deck := some 0 }))).eng 3
     x.causeCode = 6 ∧ x.causeDetail = 4 ∧ x.badaddr = 0x42 ∧ x.epc = 0x20000 ∧ x.prev = 1 ∧ x.priv = 0 ∧ x.rd 4 = 7) := by decide +kernel

-- Registers: a write to a read-only register is ignored.
theorem test_read_only : (after (.helmSpaceWrite 1 0x100 32 0) dA).reg 0x100 = dA.reg 0x100 := by decide +kernel

-- A waiting command is taken first in, first out.
theorem test_queue : (match step { State.reset with dev := dA, pending := [.getbcr, .getdcr] } with | .next t => t.pending | _ => []) = [.getdcr] := by decide +kernel

-- The table gives no command any bits.
theorem test_no_words : decodeTableWord 0 0 = none ∧ decodeTableWord 32 0xFFFFFFFF = none := by decide +kernel
/-! ### Witnesses: states and operands that meet the hypotheses of each statement -/

theorem wit_EveryCommandCompletes : (Instr.perst 1 1).wf = true ∧ (Instr.perst 2 0).wf = false := by decide +kernel

theorem wit_IdleStep : (inPhase .watchOff).phase = .watchOff ∧ dA.phase ≠ .watchOff ∧ dA.fabricOn = true ∧ (dA.time + 1) % 65536 ≠ 0 ∧
    (inPhase .dormant).fabricOn = false ∧ ({ dA with time := 65535 } : Dev).fabricOn = true ∧ (65535 + 1) % 65536 = 0 := by decide +kernel

theorem wit_StepKeepsInv : ∃ s t : State, s.Inv ∧ step s = .next t :=
  ⟨State.reset, _, by unfold State.Inv Dev.Inv; decide +kernel, rfl⟩

theorem wit_RegistryLockIsPermanent : ∃ s t : State, s.dev.fuse = true ∧ step s = .next t :=
  ⟨⟨[], { (inPhase .dormant) with fuse := true }⟩, _, rfl, rfl⟩

/-- A device after it has taken a credit of a port. -/
def paid (d : Dev) (p : Nat) (wr : Bool) : Dev := (d.creditFor p wr).getD d

/-- A credit that is there is taken. -/
theorem paid_of {d : Dev} {p : Nat} {wr : Bool} (h : (d.creditFor p wr).isSome = true) : d.creditFor p wr = some (paid d p wr) := by
  unfold paid
  cases hc : d.creditFor p wr with
  | none => simp [hc] at h
  | some e => rfl

/-- The link of Point 0 retrains, and sector 0 of the window stands on it alone. -/
def dTrain : Dev :=
  { dA.setF (PNT_LINK.STATE 0) 3 with overlay := [(0, { pinned := false, mask := 15, phys := 300 * 16384 + 5, epoch := 0, twin := none })] }

theorem wit_MemReads : (dA.creditFor 1 false).isSome = true ∧ (paid dA 1 false).touch.mustHold 1 65535 0 false = false ∧
    ((paid dA 1 false).touch.memReadNow 1 0 e0).2.blocked = none ∧ (dTrain.creditFor 1 false).isSome = true ∧
    (paid dTrain 1 false).touch.mustHold 1 7 0 false = false ∧ ((paid dTrain 1 false).touch.memReadNow 1 0 e0).2.blocked = some 4915205 ∧
    dS.portReady 0 = true ∧ dS.touch.mustHold 0 0 (apBase 5 + 0x81000) false = false ∧
    (dS.apOff (apBase 5 + 0x81000)).any (fun o => decide (0x81000 ≤ o)) = true ∧ (dS.touch.memReadNow 0 (apBase 5 + 0x81000) e0).2.blocked = none ∧
    (dS.apOff (apBase 5 + 0x1000)).any (fun o => decide (0x1000 ≤ o) && decide (o < 0x80000)) = true ∧
    (dS.touch.memReadNow 0 (apBase 5 + 0x1000) e0).2.blocked = none ∧
    (dS.apOff (apBase 5 + 0x7FFFF)).any (fun o => decide (0x1000 ≤ o) && decide (o < 0x80000)) = true ∧ apBase 5 + 0x81000 < 2 ^ 48 := by decide +kernel

/-- A whole line of the window in the Binnacle, by one full write or by parts. -/
def dB (whole : Bool) : Dev := { dA with binn := [{ line := 7, data := 9, mask := fullMask, csn := 4, st := .pending, since := 0, whole := whole }] }

theorem wit_ReadSeesNewestWrite : ((dB true).creditFor 0 false).isSome = true ∧ (dB true).blocked = none ∧ (dB true).mustHold 0 1 448 false = false ∧
    (dB true).region 448 = .window ∧ (dB true).hove (homeOf (64 * (448 / 64))) = false ∧ ((dB true).binnAt (448 / 64)).map (·.whole) = some true ∧
    ((dB true).binnAt (448 / 64)).map (·.mask) = some fullMask ∧ (dB false).poisoned (448 / 64) = false := by decide +kernel

theorem wit_MemWrites : (dA.creditFor 1 true).isSome = true ∧ (paid dA 1 true).touch.mustHold 1 65535 (2 ^ 34 - 64) true = false ∧
    dA.region (2 ^ 34 - 64) = .window ∧ ((paid dA 1 true).touch.acceptWrite 1 65535 (2 ^ 34 - 64) 0 1 false false e0 0).blocked = none ∧
    (dTrain.creditFor 1 true).isSome = true ∧ (paid dTrain 1 true).touch.mustHold 1 7 0 true = false ∧ dTrain.region 0 = .window ∧
    ((paid dTrain 1 true).touch.acceptWrite 1 7 0 0 1 false false e0 (entryCheck (0 / 64) 0 1)).blocked = some 4915205 := by decide +kernel

theorem wit_HoldupWriteCompletes : ((dM 128).creditFor 0 true).isSome = true ∧ (dM 128).blocked = none ∧ (dM 128).mustHold 0 1 64 true = false ∧
    (dM 128).region 64 = .window ∧ (dM 128).hove (homeOf (64 * (64 / 64))) = false ∧ (dM 128).mHoldup = true ∧ (dM 128).f WLV_CAP.BERTH_LOW = 0 ∧
    (dM 128).f WLV_CAP.STATE = 0 ∧ (dM 128).binnAt (64 / 64) = none := by decide +kernel

/-- Point 0 is dying. -/
def dDying : Dev := dA.setF (PNT_STAT.STATE 0) 1

/-- A write of Port W waits in the hold buffer of quadrant 0. -/
def dHeld : Dev := { dA with hold := [{ quad := 0, port := 0, tag := 3, otag := 0, a := 0, wr := some (0, 0), poison := false, bad := false, ev := e0 }] }

/-- Write credits are withheld from both ports, which have none left. -/
def dBare : Dev := ((dA.modHm 0 (fun x => { x with withheld := true })).modHead 0 (fun x => { x with credits := (0, 0) })).modHead 1 (fun x => { x with credits := (0, 0) })

theorem wit_OtherMemRequests : (dDying.creditFor 1 false).isSome = true ∧ dDying.mustHold 1 0 0 false = true ∧ (dDying.creditFor 1 true).isSome = true ∧
    dDying.mustHold 1 0 0 true = true ∧ dHeld.mustHold 0 3 64 true = true ∧ dHeld.mustHold 0 3 64 false = false ∧ (dHeld.aheadOf 0 3).map (·.quad) = some 0 ∧
    (dHeld.creditFor 0 true).isSome = true ∧ dBare.creditFor 1 true = none ∧ (inPhase .dormant).creditFor 1 false = none ∧ (Instr.unsupportedM2sOpcode 1 0 15 0).wf = true ∧
    (dA.creditFor 1 false).isSome = true ∧ dA.hold.any (fun r => r.wr.isSome) = false ∧ dA.portReady 1 = true ∧ dHeld.hold.any (fun r => r.wr.isSome) = true ∧
    dHeld.portReady 1 = true := by decide +kernel

theorem wit_PortRows : dA.f (DEV_PORTSTAT.PERST 1) = 0 ∧ dA.f (DEV_PORTSTAT.RATE 1) ≠ 0 ∧ (inPhase .linkTrain).portsOn = true ∧
    (inPhase .linkTrain).phase ≠ .doze ∧ (inPhase .linkTrain).f (DEV_PORTSTAT.RATE 0) = 0 ∧ (((inPhase .linkTrain).takeRef 0 true).head 0).phyRef = true ∧
    (Instr.linkTraining 0 5 4 false true).wf = true ∧ (Instr.linkTraining 0 4 1 false true).wf = true ∧ (Instr.linkTraining 0 0 1 false true).wf = true ∧
    ((dA.takeRef 0 true).head 0).phyRef = true ∧ dA.phase ≠ .doze ∧ (Instr.linkTraining 1 5 4 true false).wf = true ∧ (((inPhase .linkTrain).takeRef 1 false).head 1).phyRef = false ∧
    ((dA.takeRef 1 false).head 1).phyRef = false ∧ dA.portsOn = true ∧ dA.inL0 1 = true ∧
    (dA.setF (DEV_PORTSTAT.L1 1) 1).f (DEV_PORTSTAT.L1 1) ≠ 0 ∧ (dA.setF (DEV_PORTSTAT.L1 1) 1).phase = .active ∧
    (Instr.decoderCommit 1 3 0 (2 ^ 30) 0 1 256).wf = true ∧ dA.decoderFails 1 3 (2 ^ 30) 0 1 = false ∧
    ((dA.modHead 1 (fun x => { x with pend := 128 })).head 1).pend.testBit 7 = true ∧
    ((dA.setF (DEV_INTSTAT.PEND 1) 128).f (DEV_INTSTAT.PEND 1)).testBit 7 = true := by decide +kernel

theorem wit_MailboxAnswer : earlyOps.contains 0x0001 = true ∧ earlyOps.contains 0x4103 = false ∧ (inPhase .becalmed).phase = .becalmed ∧
    (inPhase .chart).starting = true ∧ (dA.setF SAF_STAT.HOVE 1).f SAF_STAT.HOVE ≠ 0 ∧ hoveOps.contains 0x4103 = false ∧ dA.f SAF_STAT.HOVE = 0 ∧
    ({ dA with sanitize := some (0, 1, false) } : Dev).sanitize ≠ none ∧ dA.phase = .active := by decide +kernel

/-- Every opcode of the mailbox is served by both heads of a device in Active with both links in L0. -/
theorem wit_served (op : Nat) : dA.serves 0 op = true ∧ dA.serves 1 op = true := by
  have h (k : Nat) (hs : dA.served k = true) : dA.serves k op = true := by
    obtain ⟨h1, h2⟩ := Dev.served_gate hs op
    simp [Dev.serves, h1, h2]
  exact ⟨h 0 (by decide +kernel), h 1 (by decide +kernel)⟩

theorem wit_MailboxReports : (Instr.getLog 1 0 4).wf = true ∧ 0 + 4 ≤ 4 * supportedOps.length ∧ (Instr.getLog 1 0 4097).wf = true ∧
    (Instr.getLsa 1 131071 1).wf = true ∧ 131071 + 1 ≤ 131072 ∧ (Instr.getLsa 1 131072 1).wf = true ∧ 131072 < 131072 + 1 ∧
    (Instr.getPoisonList 1 0 1).wf = true := by decide +kernel

theorem wit_MailboxSets : (Instr.clearEventRecords 1 3 true []).wf = true ∧ (Instr.clearEventRecords 1 3 false [7]).wf = true ∧
    [7].all (fun k => ((dA.head 1).logs.getD 3 {}).recs.any (fun r => r.1 = k)) = false ∧
    ([] : List Nat).all (fun k => ((dA.head 1).logs.getD 3 {}).recs.any (fun r => r.1 = k)) = true ∧ (Instr.clearEventRecords 1 3 false []).wf = true ∧
    (Instr.setEventInterruptPolicy 1 [0, 1, 0, 1]).wf = true ∧
    ([0, 1, 0, 1] : List Nat).any (fun m => decide (2 ≤ m)) = false ∧ (Instr.setEventInterruptPolicy 1 [0, 1, 0, 2]).wf = true ∧
    ([0, 1, 0, 2] : List Nat).any (fun m => decide (2 ≤ m)) = true ∧ (Instr.transferFw 1 2 262143 [5]).wf = true ∧
    (Instr.transferFw 1 2 262144 [5]).wf = true ∧ (Instr.transferFw 1 3 0 [5]).wf = true ∧ (Instr.activateFw 1 1 2).wf = true ∧
    (Instr.activateFw 1 1 3).wf = true ∧ (Instr.activateFw 1 0 2).wf = true ∧ (Instr.setTimestamp 1 7).wf = true ∧
    (Instr.setLsa 1 131071 [5]).wf = true ∧ (Instr.setLsa 1 131072 [5]).wf = true ∧ (Instr.setAlertConfiguration 1 3 3 90 95).wf = true ∧
    (Instr.setAlertConfiguration 1 4 3 90 95).wf = true ∧ (Instr.setShutdownState 1 1).wf = true ∧
    (Instr.injectPoison 1 64).wf = true ∧ (dM 1024).region 64 = .window ∧ (dM 1024).mSurvey = true ∧
    (dM 1024).seals.any (fun x => x.meets (64 / 64 * 64) 64) = false ∧ (dM 1024).injected < 64 ∧ (dM 1024).serves 1 0x4301 = true ∧
    dA.region 64 = .window ∧ dA.mSurvey = false ∧ dA.region (2 ^ 40) ≠ .window ∧ (Instr.injectPoison 1 (2 ^ 40)).wf = true ∧
    (Instr.clearPoison 1 64 0).wf = true ∧ (Instr.clearPoison 1 (2 ^ 40) 0).wf = true ∧ (Instr.setPartitionInfo 1 []).wf = true ∧
    (Instr.scanMedia 1 0x4303).wf = true ∧ (Instr.persistentMemorySecurity 1 0x4500).wf = true := by decide +kernel

theorem wit_MailboxSets_limit : 64 ≤ ({ dM 1024 with poisonSrc := List.replicate 64 (0, 1) } : Dev).injected := by decide +kernel

theorem wit_VendorCommands : (assocGet 5 ({ dA with chain := [(5, [1])] } : Dev).chain).isSome = true ∧ assocGet 5 dA.chain = none ∧
    fieldLe (leBytes 8 5) 0 8 = 5 ∧ (leBytes 8 5).length = 8 ∧ (leBytes 4 0 ++ leBytes 4 4096).length = 8 ∧ fieldLe (leBytes 4 0 ++ leBytes 4 4096) 4 4 = 4096 ∧
    fieldLe (leBytes 4 1 ++ leBytes 4 4096) 0 4 = 1 ∧
    fieldLe (leBytes 2 2687) 0 2 = 2687 ∧ fieldLe (leBytes 2 2688) 0 2 = 2688 ∧ fieldLe (leBytes 2 2703) 0 2 = 2703 ∧
    fieldLe (leBytes 2 2704) 0 2 = 2704 ∧ fieldLe (leBytes 2 4096) 0 2 = 4096 ∧ dA.mboxOn 1 = true ∧ (inPhase .linkTrain).mboxGate 0xC034 = some rcMediaDisabled ∧
    ((inPhase .linkTrain).setF (DEV_PORTSTAT.RATE 1) 5).mboxOn 1 = true ∧ (inPhase .dormant).mboxOn 1 = false ∧
    (List.replicate 256 (0 : BitVec 8)).length = 256 ∧ dA.fuse = false ∧ ({ dA with fuse := true } : Dev).fuse = true ∧
    fieldLe (leBytes 4 0x4B434F4C) 0 4 = 0x4B434F4C ∧ fieldLe (leBytes 4 0) 0 4 ≠ 0x4B434F4C ∧ fieldLe ([0#8]) 0 1 = 0 ∧ fieldLe ([1#8]) 0 1 = 1 ∧
    fieldLe ([2#8]) 0 1 = 2 ∧ (List.replicate 264 (0 : BitVec 8)).length = 264 ∧ fieldLe (List.replicate 264 (0 : BitVec 8)) 0 1 ≤ 1 ∧
    fieldLe (List.replicate 264 (0 : BitVec 8)) 1 3 = 0 ∧ fieldLe (List.replicate 264 (0 : BitVec 8)) 4 4 % 256 = 0 ∧ 0 + 256 ≤ slotSize ∧
    dA.chart.slot ≠ some 0 ∧ ({ dA with chart := { dA.chart with slot := some 0 } } : Dev).chart.slot = some 0 := by decide +kernel

theorem wit_MailboxBackground : (mkEntry 0x11 []).length = 64 ∧ (dA.head 1).bg = none ∧
    ((dA.modHead 1 (fun x => { x with bg := some (1, 1) })).head 1).bg ≠ none ∧ (Instr.secureErase 1 0 true []).wf = true ∧ (Instr.sanitize 1 0 true []).wf = true ∧
    ({ dA with sanitize := some (1, 0, false) } : Dev).sanitize = some (1, 0, false) ∧ dA.seals.any (fun x => decide (x.num < 2 ^ 64)) = false ∧
    ({ dA with seals := [seal0] } : Dev).seals.any (fun x => decide (x.num < 2 ^ 64)) = true ∧ dA.noClear = false ∧
    ({ dA with sanitize := some (1, 6, true) } : Dev).sanitize = some (1, 6, true) ∧ dA.phase = .active := by decide +kernel

/-- A ring of Port W with one entry to dispatch. -/
def dRing : Dev := ({ dA with ord := { dA.ord with sq := listSet dA.ord.sq 0 (mkEntry 0x11 []) } } : Dev).setF (ORD_SQ.TAIL 0) 1

/-- Its completion ring is full. -/
def dStall : Dev := dRing.setF (ORD_CQ.TAIL 0) 15

theorem wit_OrderRings : (Instr.sqTailWrite 0 2 15).wf = true ∧ dA.helmOn 0 = true ∧ dA.mayWrite 0 = true ∧
    (15 % 16 + 16 - dA.f (ORD_SQ.HEAD 2)) % 16 ≥ (dA.f (ORD_SQ.TAIL 2) + 16 - dA.f (ORD_SQ.HEAD 2)) % 16 ∧
    ((dA.setF (ORD_CQ.TAIL 2) 3).f (ORD_CQ.TAIL 2) + 16 - (dA.setF (ORD_CQ.TAIL 2) 3).f (ORD_CQ.HEAD 2)) % 16 ≥
      (3 % 16 + 16 - (dA.setF (ORD_CQ.TAIL 2) 3).f (ORD_CQ.HEAD 2)) % 16 ∧
    (dA.f (ORD_CQ.TAIL 2) + 16 - dA.f (ORD_CQ.HEAD 2)) % 16 < (3 % 16 + 16 - dA.f (ORD_CQ.HEAD 2)) % 16 ∧
    dRing.takesOrders = true ∧ dRing.f (ORD_SQ.HEAD 0) ≠ dRing.f (ORD_SQ.TAIL 0) ∧ (dRing.runOf 0).length < 4 ∧ dRing.cqFree 0 = true ∧
    dRing.ord.ringReset.contains 0 = false ∧ dRing.fenced 0 (padTo 64 (dRing.ord.sq.getD (16 * 0 + dRing.f (ORD_SQ.HEAD 0)) [])) = false ∧
    dStall.takesOrders = true ∧ dStall.f (ORD_SQ.HEAD 0) ≠ dStall.f (ORD_SQ.TAIL 0) ∧ (dStall.runOf 0).length < 4 ∧ dStall.cqFree 0 = false ∧
    dStall.ord.ringReset.contains 0 = false ∧ dStall.fenced 0 (padTo 64 (dStall.ord.sq.getD (16 * 0 + dStall.f (ORD_SQ.HEAD 0)) [])) = false ∧
    regsWf dA.regs = true ∧ ({ dA with ord := { dA.ord with run := [{ ordOf 0x11 [] with done := some (0, 0, 0) }] } } : Dev).order 1 =
      some { ordOf 0x11 [] with done := some (0, 0, 0) } ∧ dA.seqOn = true := by decide +kernel

theorem wit_OrdersAtOnce : ready (dO 0x11 []) 1 0x11 = true ∧ ready (dO 0x10 [0, 0]) 1 0x10 = true ∧ ready (dO prgTrigger [5, 0]) 1 prgTrigger = true ∧
    (ordOf prgTrigger [4095, 0]).arg 0 < 4096 ∧ 4096 ≤ (ordOf prgTrigger [4096, 0]).arg 0 ∧ dS.f (STR_CTL.EN 5) ≠ 0 ∧ dA.f (STR_CTL.EN 4095) = 0 ∧
    ready (dO prgStreamReset [5]) 1 prgStreamReset = true ∧ (dS.stm 5).valid = true ∧ (dA.stm 5).valid = false ∧
    ready (dO prgFix []) 1 prgFix = true ∧ ready (dO prgDeckClear []) 1 prgDeckClear = true ∧ ready (dO prgUnseal [1]) 1 prgUnseal = true ∧
    (dO prgUnseal [1]).sealOf (ordOf prgUnseal [1]) = none ∧ ready (dO prgChartCheck [1]) 1 prgChartCheck = true ∧ (ordOf prgChartCheck [1]).arg 0 < 2 ∧
    2 ≤ (ordOf prgChartCheck [2]).arg 0 ∧ dA.phase ≠ .becalmed ∧
    ready ({ dO prgChartCheck [1] with phase := .becalmed } : Dev) 1 prgChartCheck = true ∧
    dA.mboxOn 1 = true ∧ ({ dA with sanitize := some (0, 1, false) } : Dev).mboxGate 0xC035 = some rcBusy ∧ (inPhase .dormant).mboxOn 1 = false ∧
    (leBytes 8 0 ++ leBytes 8 4096).length = 8 * 2 ∧ (dA.head 1).bg = none ∧ ((dA.modHead 1 (fun x => { x with bg := some (1, 1) })).head 1).bg ≠ none := by
  decide +kernel

/-- A chain record can be written: Points 0 and 1 have open metadata segments. -/
def dChain (prog : Nat) (args : List Nat) : Dev :=
  { (((dO prog args).setF (PNT_LINK.STATE 0) 2).setF (PNT_LINK.STATE 1) 2) with groups := [⟨1, 3, 0, [(0, 0), (1, 0)], [], 0, []⟩], seals := [seal0] }

/-- A seal whose one page stands at a die whose link retrains. -/
def dChainTrain (prog : Nat) (args : List Nat) : Dev :=
  { (dChain prog args).setF (PNT_LINK.STATE 0) 3 with seals := [{ seal0 with psas := [300 * 1024] }] }

theorem wit_RangeOrders : ready (dO prgDiscard [0, 4096]) 1 prgDiscard = true ∧ (dO prgDiscard [0, 4096]).rangeBad 0 4096 = none ∧
    (dO prgDiscard [0, 4096]).rangeWaits 0 4096 = false ∧ (dO prgDiscard [1, 4096]).rangeBad 1 4096 = some (2, 0) ∧
    (dO prgDiscard [0, 4096]).discardRange 0 4096 5 0 = none ∧ ((dChain prgDiscard [8192, 4096]).discardRange 8192 4096 5 0).isSome = true ∧
    ({ dA with seals := [{ seal0 with num := 2 ^ 64 }] } : Dev).rangeWaits 0 4096 = true ∧
    ready (dO prgSdisc [0, 4096]) 1 prgSdisc = true ∧ (dO prgSdisc [0, 4096]).sdisc.any (fun y => y.order = 1) = false ∧
    ({ dA with sdisc := [⟨0, 0, 4096, 3, 2, []⟩] } : Dev).f WLV_SDISC.BUSY = 0 ∧ ready (dO prgSeal [0, 0, 0, 4096]) 1 prgSeal = true ∧
    ((dChain prgSeal [0, 0, 0, 4096]).sealRange (ordOf prgSeal [0, 0, 0, 4096]) e0).blocked = none ∧
    ready (dChain prgUnseal [1]) 1 prgUnseal = true ∧ (dChain prgUnseal [1]).sealOf (ordOf prgUnseal [1]) = some seal0 ∧
    (dChain prgUnseal [1]).chainReady = true ∧
    ready (dChain prgVerify [1]) 1 prgVerify = true ∧ ((dChain prgVerify [1]).sealBytes seal0 e0).1.isOk = true ∧
    ((dChain prgVerify [1]).sealBytes seal0 e0).2.blocked = none ∧
    ((dChain prgVerify [1]).sealBytes { seal0 with psas := [0] } e0).1.isOk = false ∧
    ((dChainTrain prgVerify [1]).sealBytes { seal0 with psas := [300 * 1024] } e0).2.blocked = some (300 * 1024) ∧
    ready (dChain prgExport [1, 8192]) 1 prgExport = true ∧
    (dChain prgExport [1, 8192]).sealOf (ordOf prgExport [1, 8192]) = some seal0 ∧ (ordOf prgExport [1, 8192]).arg 1 % 4096 = 0 ∧
    8192 + seal0.len ≤ (dChain prgExport [1, 8192]).winBytes ∧ (dChain prgExport [1, 8192]).seals.find? (fun y => y.meets 8192 seal0.len) = none ∧
    (dChain prgExport [1, 0]).seals.find? (fun y => y.meets 0 seal0.len) = some seal0 ∧ (dChain prgExport [1, 0]).blocked = none := by decide +kernel

theorem wit_KeysAndDeckOrders : ready ((dO prgRekey [7]).setReg (0x3900 + 8 * 7) (2 ^ 64 - 1)) 1 prgRekey = true ∧ regsWf (dO prgRekey [7]).regs = true ∧
    (ordOf prgRekey [7]).arg 0 < 8 ∧ (dA.setF (SCR_RANGE.EN 7) 1).f (SCR_RANGE.EN 7) ≠ 0 ∧ dA.rekey = none ∧
    ({ dA with rekey := some ⟨0, 1, 2, []⟩ } : Dev).f SCR_KEYSTAT.REKEY_BUSY = 0 ∧ dA.powered = true ∧ ({ dA with badKeys := [3] } : Dev).badKeys ≠ [] ∧
    dA.badKeys = [] ∧ (Instr.scrubPass 5 [.overlay 3, .wearNode 2 4]).wf = true ∧ ready (dO prgDeckRun [0]) 1 prgDeckRun = true ∧ (dO prgDeckRun [0]).deckOf 1 = false ∧
    ready (dO prgDeckStop [16]) 1 prgDeckStop = true ∧ 16 ≤ (ordOf prgDeckStop [16]).arg 0 ∧ ready (dO prgDeckStop [15]) 1 prgDeckStop = true ∧
    ((dA.modEng 15 (fun x => { x with deck := some 1 })).eng 15).deck ≠ none ∧ (dA.eng 15).priv = 0 := by decide +kernel

theorem wit_HelmWrites : dA.helmOn 1 = true ∧ dA.mayWrite 1 = true ∧ dA.helmOn 3 = true ∧ sqPlace 0xFFFC = none ∧ regRow? 0xE0 = none ∧ sqPlace 0xE0 = none ∧
    (regRow? 0x204).map (·.width) = some 32 ∧ (regRow? 0x204).map (·.at 0x204) = some 0x204 ∧ sqPlace 0x204 = none ∧
    (inPhase .dormant).helmOn 3 = false ∧ (dA.setReg 0x18 0).mayWrite 1 = false := by decide +kernel

theorem wit_HelmCommands : dA.helmOn 3 = true ∧ dA.mayWrite 3 = true ∧ (3 : Nat) % 2 = 1 ∧ (2 : Nat).testBit 1 = true ∧ dS.f (STR_CTL.EN 5) ≠ 0 ∧
    (dM 1024).mSurvey = true ∧ dA.mSurvey = false ∧ ((dM 1024).injectAct 8 0).isSome = true ∧ ((dM 1024).injectAct 14 0).isNone = true := by decide +kernel

theorem wit_HelmReads : dA.mayRead 1 = true ∧ 0x230 % 8 = 0 ∧ (regRow? 0x230).map (·.width) = some 64 ∧ (regRow? 0x230).map (·.at 0x230) = some 0x230 ∧
    0x234 % 8 = 4 ∧ (regRow? 0x234).map (·.width) = some 64 ∧ (regRow? 0x234).map (·.at 0x234) = some (0x234 - 4) ∧
    (({ dA with halves := [(1, 0x230, 9)] } : Dev).halves.find? (fun h => h.1 = 1 && h.2.1 = 0x234 - 4)).isSome = true := by decide +kernel
/-- The I3C target has an address. -/
def dI : Dev := { dA with i3c := { dA.i3c with addr := some 9, ibiOn := true, ibiHeld := true } }

/-- A frame with its CRC. -/
def framed (b : List (BitVec 8)) : List (BitVec 8) := b ++ [crc8 b]

theorem wit_I3cTarget : dI.i3cPrivate = true ∧ (framed [1, 0, 2, 1]).length = 5 ∧ frameOk (framed [1, 0, 2, 1]) = true ∧ fieldLe (framed [1, 0, 2, 1]) 0 1 = 1 ∧
    i3cRange (fieldLe (framed [1, 0, 2, 1]) 1 2) (fieldLe (framed [1, 0, 2, 1]) 3 1) = true ∧ dI.helmOn 2 = true ∧
    fieldLe (framed [2, 4, 2, 1, 0, 0, 0, 0]) 0 1 = 2 ∧ (framed [2, 4, 2, 1, 0, 0, 0, 0]).length = 5 + 4 * fieldLe (framed [2, 4, 2, 1, 0, 0, 0, 0]) 3 1 ∧
    frameOk (framed [2, 4, 2, 1, 0, 0, 0, 0]) = true ∧ dI.mayWrite 2 = true ∧ (dI.setReg 0x18 0).mayWrite 2 = false ∧
    fieldLe (framed [3]) 0 1 = 3 ∧ (framed [3]).length = 2 ∧ frameOk (framed [3]) = true ∧ dI.i3c.resp = none ∧
    ({ dI with i3c := { dI.i3c with resp := some [0] } } : Dev).i3c.resp = some [0] ∧ dA.i3cOn = true ∧ dA.i3c.addr = none ∧ dI.i3cOn = true ∧
    dI.i3c.ibiOn = true ∧ dI.i3c.ibiHeld = true ∧ (dI.setF (DEV_INTSTAT.PEND 2) 4).f (DEV_INTSTAT.PEND 2) ≠ 0 ∧
    ({ dI with phase := .doze } : Dev).phase = .doze ∧ dI.i3c.addr ≠ none := by decide +kernel

theorem wit_StreamRequests : dS.portReady 1 = true ∧ dS.apOff (apBase 5 + 0x1000) = some 0x1000 ∧ dS.apOff (apBase 5 + 0x7FFFF) = some 0x7FFFF ∧
    apBase 5 + 0x7FFFF < 2 ^ 48 ∧ (6 : Nat) < 255 ∧ dS.memOn = true ∧ dS.mStream = true ∧ (Instr.opInvalid 2 5 7 true).wf = true := by decide +kernel

/-- A framed stream with one frame of 128 bytes, read up to 64 and released up to 0. -/
def strF : Stream := { (({} : Stream)) with pos := { end_ := 4096, rel := 0, rpos := 64, mark := some 0, limit := 9, avail := 128, nexthdr := 128 }, frames := [⟨0, 128, 7, false⟩] }

theorem wit_ConsumerOperations : (65 : Nat) % 64 ≠ 0 ∧ (64 : Nat) % 64 = 0 ∧ strF.pos.rpos ≤ strF.pos.avail ∧ (({} : Stream)).pos.mark = none ∧
    strF.pos.mark = some 0 ∧ strF.pos.rpos < 128 ∧ (128 : Nat) % 64 = 0 ∧ strF.pos.end_ < 8192 ∧ strF.pos.rel < 64 ∧ 64 ≤ strF.pos.rpos ∧ 64 ≤ strF.pos.end_ ∧
    ({ strF with pos := { strF.pos with rel := 64 } } : Stream).pos.rel = 64 ∧ (({} : Stream)).frameAt true 0 = none ∧ (strF.frameAt true strF.pos.rpos).isSome = true ∧
    (6 : Nat) < 7 := by decide +kernel

/-- A stream with a window whose record is due, and an open metadata segment for it. -/
def dW : Dev :=
  { ((({ dS with time := 4096 * 65536 } : Dev).setF (PNT_LINK.STATE 0) 2).setF (PNT_LINK.STATE 1) 2).setStm 5
      { dS.stm 5 with windows := [⟨0, 1, 0, some 0, false, none, false⟩, ⟨0, 1, 0, none, false, none, false⟩] } with
    groups := [⟨1, 3, 0, [(0, 0), (1, 0)], [], 0, []⟩] }

/-- A stream whose slot 0 stands whole in its tail and has joined, with segment 300 of Point 0 open for stream spills or not. -/
def dSpill (space : Bool) : Dev :=
  let d := (dS.setStm 5 { dS.stm 5 with tail := (List.range 64).map (fun i => (i, {})), pos := { (dS.stm 5).pos with end_ := 4096 } }).setF (PNT_LINK.STATE 0) 2
  if space then
    { d.modQueue 2 0 (fun q => { q with slots := [⟨300, 3, List.range 16, true⟩] }) with groups := [⟨1, 2, 0, [(0, 300), (1, 300)], [], 0, []⟩] }
  else d

theorem wit_StreamUpkeep_spill : dS.spillDue 5 0 = false ∧ (Instr.streamPageSpill 5 0 e0).wf = true ∧ (dSpill false).spillDue 5 0 = true ∧
    (dSpill true).spillDue 5 0 = true ∧
    (((dSpill true).setF WLV_CAP.STATE 3).spillSpace 5 0 (((dSpill true).setF WLV_CAP.STATE 3).stm 5)) = none ∧
    ((dSpill false).spillSpace 5 0 ((dSpill false).stm 5)).map (·.1) = some 0 ∧
    (((dSpill false).spillSpace 5 0 ((dSpill false).stm 5)).bind (fun r => r.2.placeSpill ((dSpill false).stm 5) 0 ((dSpill false).spillImg 5 0))).isNone = true ∧
    (((dSpill true).spillSpace 5 0 ((dSpill true).stm 5)).bind (fun r => r.2.placeSpill ((dSpill true).stm 5) 0 ((dSpill true).spillImg 5 0))).isSome = true := by
  decide +kernel

theorem wit_StreamUpkeep : dS.f (STR_CTL.EN 5) ≠ 0 ∧ (dS.stm 5).failed = false ∧ (Instr.queueReset 4095 2).wf = true ∧ (dS.stm 5).valid = true ∧
    dS.ticks / 4096 ≤ dS.str.lastBound ∧ dW.str.lastBound < dW.ticks / 4096 ∧
    (dW.stm 5).windows.any (fun w => w.pend.isNone && decide (w.t1 ≤ dW.time)) = true ∧ (dW.stm 5).dueWindow.isSome = true ∧ dW.chainReady = true ∧
    dW.seqOn = true := by decide +kernel

theorem wit_EngineArithmetic : dA.engReady 15 false = true ∧ (dE (withG 31 5)).gr 0 31 ≠ 0 ∧ dA.gr 0 31 = 0 ∧ rsBad rsvA 0 = false ∧ rsBad rsvA (2 ^ 26 - 1) = true := by
  decide +kernel

theorem wit_EngineBranches : dA.engReady 15 false = true ∧ (dE (withG 1 5)).engReady 0 false = true ∧ (dE (withG 1 5)).gr 0 1 ≠ (dE (withG 1 5)).gr 0 2 ∧
    2 ^ 21 - 1 < 2 ^ 21 := by decide +kernel

theorem wit_EngineLoads : e0.ue = false ∧ (dE (withG 1 0x3FFF8)).engReady 0 false = true ∧
    (effAddr ((dE (withG 1 0x3FFF8)).gr 0 1) 0).toNat % 8 = 0 ∧ eRegion 0x3FFF8 = .loc 0x3FFF8 ∧ dA.mayAccess 0 (.loc 0x3FFF8) false = true ∧
    eRegion 0x1000008 = .shared 0 8 ∧ eRegion 0x1200000 = .shared 1 0 ∧ dA.onWay 0 (0x1200000 / 64) = (0, 0) ∧ dA.mayAccess 0 (.shared 1 0) false = true ∧
    eRegion 0x2000000 = .rom 0 ∧ dA.mayAccess 0 (.rom 0) false = true ∧ eRegion 0x3000008 = .helm 8 ∧ dA.mayAccess 0 (.helm 8) false = true ∧
    eRegion devBase = .dev 0 ∧ dA.mayAccess 0 (.dev 0) false = true ∧ (dA.onWay 0 (devBase / 64)).2 = 0 ∧ dA.mustHold 2 0 0 false = false ∧
    ((dB true).memReadNow 2 448 e0).1 = some 9 ∧ (0x1001 : Nat) % 8 ≠ 0 := by decide +kernel

theorem wit_EngineStores : dA.engReady 15 false = true ∧ (effAddr (0x40 : Word) 0xFFF8).toNat = 0x38 ∧ eRegion 0x38 = .loc 0x38 ∧
    dA.mayAccess 15 (.loc 0x38) true = true ∧ eRegion (0x1600000) = .shared (15 / 4) 0 ∧ eRegion 0x1000000 = .shared 0 0 ∧ (0 : Nat) ≠ 15 / 4 ∧ dA.fwdFull (15 / 4) = false ∧
    eRegion 0x3000204 = .helm 0x204 ∧ dA.mayAccess 15 (.helm 0x204) true = true ∧ eRegion (devBase + 64) = .dev 64 ∧ (dA.eng 15).merge = [] ∧
    dA.mayAccess 15 (.dev 64) true = true ∧ (0x3A : Nat) % 4 ≠ 0 ∧ dA.mayAccess 15 (.rom 0) true = false ∧ e0.ue = false ∧
    ((dE (fun x => { x with rsv := some 0 })).eng 0).rsv = some (((dE (fun x => { x with rsv := some 0 })).gr 0 1).toNat / 256) ∧
    eRegion ((dE (fun x => { x with rsv := some 0 })).gr 0 1).toNat = .loc 0 ∧ (dA.eng 0).rsv ≠ some ((dA.gr 0 1).toNat / 256) := by decide +kernel

/-- Line `l` of engine 0, with its first byte. -/
def mline (l : Nat) : MLine := { line := l, data := 0, mask := 1, since := 0, eng := 0 }

/-- Engine 0 with a line in its write merge since time 0, 1 µs later. -/
def dMerge : Dev := { dE (fun x => { x with merge := [mline (devBase / 64)] }) with time := usUnits 1 }

/-- A line in the forwarding buffer of quadrant 0 for the shared memory of quadrant 1. -/
def dFwd : Dev := dA.modQuad 0 (fun x => { x with fwd := [mline (0x1200000 / 64)] })

/-- Its store. -/
def rStuck : Req := { quad := 0, port := 2, tag := 0, otag := 0, a := 0, wr := some (0, 1), poison := false, bad := false, ev := e0 }

/-- The slice of home 0 is full of lines of its sector 0. -/
def dSlice : Dev := { dA with binn := List.replicate 8192 { line := 0, data := 0, mask := 1, csn := 1, st := .pending, since := 0 } }

/-- Engine 0 waits at a bar.chip for a store that a dying Point holds, 50 µs later. -/
def dStuck : Dev :=
  { ((dE (fun x => { x with waiting := true, draining := 2 })).setF (PNT_STAT.STATE 0) 1) with
    time := usUnits 50, hold := [rStuck] }

theorem wit_EngineOrdering : dA.engReady 15 false = true ∧ rsBad (rsvD + rsvA + rsvB) 0 = false ∧ (dA.eng 15).merge = [] ∧
    (dA.quad (15 / 4)).fwd.any (·.eng == 15) = false ∧ dA.heldOf 15 = [] ∧
    ((dMerge.eng 0).merge.find? (fun m => m.line == devBase / 64)).isSome = true ∧ dMerge.engClk = true ∧ 0 + usUnits 1 ≤ dMerge.time ∧
    dMerge.mayLeave 0 (mline (devBase / 64)) = true ∧ dFwd.engClk = true ∧ (dFwd.quad 0).fwd.length = 1 ∧ eRegion (64 * (0x1200000 / 64)) = .shared 1 0 ∧
    (dStuck.eng 0).waiting = true ∧ (dStuck.eng 0).draining ≠ 0 ∧ (dStuck.eng 0).barAt + usUnits 50 ≤ dStuck.time ∧ (dStuck.heldOf 0).length = 1 ∧ rsBad (rsvD + rsvA + rsvB) (2 ^ 26 - 1) = true ∧
    eRegion (64 * (devBase / 64)) = .dev 0 ∧ dA.sliceAdmits 0 = true ∧ dSlice.sliceAdmits 0 = false ∧
    dStuck.dyingReq rStuck = true ∧
    ((dStuck.discardStore 0 rStuck).modEng 0 (fun y => { y with draining := 0 })).heldOf 0 = [] := by decide +kernel

/-- Engine 0 holds every ticket. -/
def dTick : Dev := dE (fun x => { x with tickets := (List.range 32).map (fun i => { num := i, pend := 0 }) })

theorem wit_EngineMedia : dA.engReady 15 true = true ∧ dA.noClear = false ∧ dTick.engReady 0 true = true ∧ (dTick.eng 0).freeTicket = none ∧
    (dA.eng 15).freeTicket = some 0 ∧ psaValid (2 ^ 31) = false ∧ psaValid (7680 * 16384) = false ∧ (dA.setF (PNT_LINK.STATE 0) 2).psaRefused 0 false = none ∧ (dA.setF (PNT_LINK.STATE 0) 2).psaRefused 0 true = none ∧
    (dE (withG 2 0x3FEE0)).bufOk 0 0x3FEE0 272 = true ∧ (0x3FEE0 : Nat) % 16 = 0 ∧ dA.bufOk 0 0 304 = true ∧ (Instr.msense 15 1 2 3 0 (List.replicate 512 7)).wf = true ∧ dA.bufOk 0 0 32 = true ∧
    (dTick.eng 0).tickets.find? (fun y => y.num == 31 && y.status.isNone) = some { num := 31, pend := 0 } ∧ dTick.engClk = true ∧
    ({ num := 31, pend := 0 } : Ticket).waits = .now ∧
    ((dE (fun x => { x with tickets := [{ num := 0, status := some 7, pend := 7 }] })).eng 0).waitPick 0 = some { num := 0, status := some 7, pend := 7 } ∧
    (dA.gr 0 1).toNat < 32 ∧ (dA.eng 0).waitPick (dA.gr 0 1).toNat = none := by decide +kernel

/-- An engine may consume stream 5, whose number stands in g1: engine writes and engine reads are allowed by the STR_CTL in force. -/
def dQ : Dev := ((dS.setReg (0x8000 + 8 * 5) (1 + 3 * 2 ^ 7)).setStm 5 { dS.stm 5 with ctl := 1 + 3 * 2 ^ 7 }).modEng 0 (withG 1 5)

theorem wit_EngineQueues : dQ.engReady 0 false = true ∧ dQ.mustHold 2 0 (apBase 5) true = false ∧ dQ.mustHold 2 0 (apBase 5) false = false ∧
    dQ.qRefused 5 = none ∧ (dQ.qOp 0 5 2 0).1 = 0 ∧
    (let d := dQ.setStm 5 { dQ.stm 5 with pos := { (dQ.stm 5).pos with mark := some 0 } }; d.qRefused 5 = none ∧ (d.qOp 0 5 3 0).1 = 0) ∧
    (let d := dQ.setStm 5 { dQ.stm 5 with pos := { (dQ.stm 5).pos with rpos := 64, end_ := 64 } }; d.qRefused 5 = none ∧ (d.qOp 0 5 4 64).1 = 0) ∧
    (dQ.gr 0 3).toNat % 64 = 0 ∧ (dQ.gr 0 3).toNat ≤ 4096 ∧ (dQ.gr 0 2).toNat % 64 = 0 ∧ dQ.bufOk 0 (dQ.gr 0 2).toNat 0 = true ∧
    (dQ.qLines 5 0 (dQ.stm 5).pos.rpos e0).1 = some [] ∧ dA.qRefused 0 = some 6 ∧ (dQ.setStm 5 { dQ.stm 5 with ctl := 1 }).qRefused 5 = some 3 ∧ (65 : Nat) % 64 ≠ 0 ∧ (4096 : Nat) < 4160 := by decide +kernel

theorem wit_EngineException : dA.engines.length = 16 ∧ (15 : Nat) < 16 := by decide +kernel

/-- Engine 15 at deck privilege, in its deck window. -/
def dDeck : Dev := dA.modEng 15 (fun x => { x with priv := 1, pc := 0x20000, budget := 5, deck := some 0 })

theorem wit_EngineTrapsAndFaults : dA.engReady 15 false = true ∧ (dA.eng 15).priv = 0 ∧ (0x7FFF : Nat) < 0x8000 ∧ (0xFFFF : Nat) < 65536 ∧
    dDeck.engReady 15 false = true ∧ (dDeck.eng 15).priv = 1 ∧ dDeck.engUp 15 = true ∧ ({ dDeck with time := 2 ^ 40 } : Dev).budgetDue 15 = true ∧
    dA.engReady 15 true = true ∧ 15 < dA.engines.length ∧ dA.engClk = true ∧ dA.working 15 = true ∧
    (({ dA with time := msUnits 50 } : Dev).eng 15).kickAt + msUnits 50 ≤ ({ dA with time := msUnits 50 } : Dev).time ∧
    (dM 64).mLockstep = true ∧ ((dM 64).pairOf 15).all (fun i => (dM 64).working i) = true ∧
    ((dE (fun x => { x with resetting := true })).eng 0).resetting = true ∧ dA.f SAF_STAT.HOVE = 0 := by decide +kernel

theorem wit_EngineSystem : dA.engReady 15 (!sysDeckGet 0xFFFF) = true ∧ (0xFFFF : Nat) ≠ 0x0E ∧ dA.engReady 15 (!sysDeckPut 0) = true ∧ dA.engReady 15 true = true ∧
    dDeck.engReady 15 false = true ∧ (dDeck.eng 15).priv = 1 ∧ ((dE (fun x => { x with events := 1, wakeEn := 1 })).eng 0).awake ≠ 0 ∧
    (dA.eng 15).awake = 0 ∧ (((dE (withG 1 5)).eng 0).rd 1).toNat ≠ 0 ∧ ((dA.eng 15).rd 1).toNat = 0 ∧ (dA.eng 15).wakeEn = 0 ∧
    ((dE (fun x => { x with wakeEn := 1 })).eng 0).awake = 0 ∧ ((dE (fun x => { x with wakeEn := 1 })).eng 0).wakeEn ≠ 0 ∧
    ((dE (fun x => { x with state := .asleep, sleepUntil := some 0 })).eng 0).state = .asleep ∧ dA.engClk = true ∧ (0 : Nat) ≤ dA.time := by decide +kernel



/-! ### Witnesses: write path, media, power, starts, sensing, logs -/

/-- A sector of an image, for logical sector 0, with or without a place. -/
def sec0 (psa : Option Nat) (ok inst : Bool) : ImgSec := { l := 0, mask := 15, data := 0, checks := [], psa := psa, okA := ok, installed := inst }

/-- An image of page 0. -/
def img0 (whole : Bool) (why : Nat) (t : ImgSec) (merging logged : Bool) : Img :=
  { pg := 0, kind := 0, whole := whole, why := why, secs := [t], merging := merging, logged := logged, twin := false, baseA := 0, baseB := 0, high := [], old := [], sealNo := 0 }

/-- A device with one image, and die link 0 up. -/
def dImg (x : Img) : Dev := { dA.setF (PNT_LINK.STATE 0) 2 with imgs := [x] }

/-- A pending entry of a line. -/
def bent (l : Nat) : BEntry := { line := l, data := 0, mask := fullMask, csn := 1, st := .pending, since := 0 }

/-- Four pending lines of sector 0 in the Binnacle. -/
def dBin : Dev := { dA with time := usUnits 40000, binn := (List.range 4).map bent }

/-- The slice of home 0 holds a number of lines. -/
def dPress (k : Nat) : Dev := { dA with binn := List.replicate k (bent 0) }

/-- The program of an image's sector is due at address 7 on Point 0. -/
def due7 (d : Dev) (x : Img) : Bool := d.imgIdx (fun x => !x.merging && d.mayProgram x && x.secs.any (·.at 7)) == some 0 && d.imgs.head? == some x

/-- An image whose sector is to be programmed at address 7. -/
def imgP : Img := img0 false 1 (sec0 (some 7) false false) false false

theorem wit_WritePath_places : (Instr.sectorReady 0 2).wf = true ∧ dBin.secPending 0 ≠ [] ∧ dBin.readyCause 0 0 = true ∧ dBin.readyCause 0 1 = true ∧
    dA.imgIdx (fun i => i.pg == 0 && i.unplaced) = none ∧
    (dImg (img0 true 0 (sec0 none false false) false false)).imgIdx (fun i => i.pg == 0 && i.unplaced) = some 0 ∧
    (Instr.mergeReadDone 0 e0).wf = true ∧
    (let x := img0 true 0 { sec0 none false false with mask := 14 } true false
     (dImg x).imgIdx (fun x => x.pg == 0 && x.merging) = some 0 ∧ (dImg x).imgs[0]? = some x ∧ ((dImg x).mergeDone 0 0 x e0).blocked = none) ∧
    due7 { dA with imgs := [imgP] } imgP = true ∧ ({ dA with imgs := [imgP] } : Dev).dieGone (psaPoint 7) = true ∧
    due7 (dImg imgP) imgP = true ∧ (dImg imgP).dieGone (psaPoint 7) = false ∧ (dImg imgP).skipped 7 = false ∧ (dImg imgP).cellStarts 7 = true ∧
    imgP.secs.findIdx? (·.at 7) = some 0 ∧ imgP.secs[0]? = some (sec0 (some 7) false false) ∧
    (let d := (dImg imgP).modSeg 0 (fun x => { x with retired := 2 ^ 32 - 1 })
     due7 d imgP = true ∧ d.dieGone (psaPoint 7) = false ∧ d.skipped 7 = true) ∧
    (let x := { imgP with secs := [sec0 (some 39) false false, sec0 (some 7) false false] }
     due7 (dImg x) x = true ∧ (dImg x).dieGone (psaPoint 7) = false ∧ (dImg x).skipped 7 = false ∧ (dImg x).cellStarts 7 = false) := by
  decide +kernel

/-- A merge read meets a die whose link retrains: both copies of the map page of its page stand there. -/
def dWaitMerge : Dev :=
  { (dImg (img0 true 0 { sec0 none false false with mask := 14 } true false)).setF (PNT_LINK.STATE 0) 3 with
    dir := [(16384 * homeOfSec 0, (300 * 1024, 301 * 1024))] }

theorem wit_WritePath_waits : dWaitMerge.imgIdx (fun x => x.pg == 0 && x.merging) = some 0 ∧
    (dWaitMerge.mergeDone 0 0 (img0 true 0 { sec0 none false false with mask := 14 } true false) e0).blocked ≠ none := by decide +kernel

/-- From 6,144 lines on the slice is under pressure. -/
theorem slice_pressed (k : Nat) (hk : 6144 ≤ k) : (dPress k).secPending 0 ≠ [] ∧ (dPress k).readyCause 0 2 = true := by
  have h : homeOf (64 * (bent 0).line) = homeOfSec 0 := by decide +kernel
  have hn : k ≠ 0 := by omega
  constructor
  · simp [Dev.secPending, dPress, hn, bent]
  · simp [Dev.readyCause, Dev.sliceCount, dPress, List.countP_replicate, h, hk]

theorem wit_WritePath_pressure : (dPress 6144).secPending 0 ≠ [] ∧ (dPress 6144).readyCause 0 2 = true := slice_pressed 6144 (by omega)

/-- An overlay entry at a place. -/
def ovl (phys : Nat) : Ovl := { pinned := false, mask := 15, phys := phys, epoch := 0, twin := none }

/-- Sixteen overlay entries in the set of sector 0. -/
def dWays : Dev := { dA with overlay := ([21, 42, 63, 69, 80, 111, 122, 138, 159, 160, 181, 207, 218, 229, 240, 261].map (16385 * ·)).map (fun l => (l, ovl 0)) }

/-- A placement log entry. -/
def pent : PEnt := { kind := 2, seg := 0, first := 0, target := 0 }

/-- An image of one overlay sector, programmed and logged. -/
def imgL : Img := img0 false 1 (sec0 (some 7) true false) false true

/-- An image whose placement log entry stands, with a line that waits in a line log. -/
def dUrgent : Dev :=
  let x := { imgL with secs := [{ sec0 (some 7) true false with used := [(0, 1)] }] }
  ((dImg x).modHm 0 (fun h => { h with llog := [{ csn := 1, line := 0, mask := 1, data := 0 }] })).modPt 0 (fun p => { p with
    plog := ((dImg x).imgEntries x).map (·.2) })

theorem wit_WritePath_installs : dUrgent.plogUrgent 0 = true ∧ 28 ≤ ((dA.modPt 15 (fun p => { p with plog := List.replicate 28 pent })).pt 15).plog.length ∧
    (let d := { dA.modPt 15 (fun p => { p with plog := [pent] }) with time := usUnits 10 }
     (d.pt 15).plog = [pent] ∧ pent.added + usUnits 10 ≤ d.time) ∧
    (let d := dImg imgL
     d.imgIdx (fun x => !x.whole && x.programmed && d.imgLogged x && x.secs.any (fun t => t.l == 0 && !t.installed)) = some 0 ∧
     d.imgs[0]? = some imgL ∧ imgL.secs.findIdx? (fun t => t.l == 0 && !t.installed) = some 0 ∧ d.ovlBlocked 0 = false ∧
     ({ d with overlay := dWays.overlay } : Dev).ovlBlocked 0 = true) ∧
    (let x := img0 true 0 (sec0 (some 7) true false) false true
     let d := dImg x
     d.imgIdx (fun x => x.pg == 0 && x.whole && x.open && d.imgCommitted x) = some 0 ∧ d.imgs[0]? = some x ∧ x.why ≠ 5 ∧ d.relBlocked x = [] ∧
     d.installWaits x = false) ∧
    (let x := img0 true 0 { sec0 (some 7) true false with relA := true } false true
     let d := { dImg x with overlay := dWays.overlay }
     d.imgIdx (fun x => x.pg == 0 && x.whole && x.open && d.imgCommitted x) = some 0 ∧ d.relBlocked x ≠ []) ∧
    (let x := img0 true 5 (sec0 (some 7) true false) false true
     let d := dImg x
     d.imgIdx (fun x => x.pg == 0 && x.whole && x.open && d.imgCommitted x) = some 0 ∧ d.imgs[0]? = some x ∧ x.why = 5) := by decide +kernel

/-- A line of a line log. -/
def ll0 : LogLine := { csn := 0, line := 0, mask := 1, data := 0 }

/-- Group 1 of a kind, with segment 300 or metadata segment 0 of Points 0 and 1, row 0 of it begun. -/
def grp (kind sg : Nat) : Group := ⟨1, kind, 0, [(0, sg), (1, sg)], [{ r := 0, first := 0 }], 0, []⟩

/-- An open group of kind 0 with member segment 300 of Point 0. -/
def dGroup : Dev := { dA with groups := [grp 0 300] }

/-- Twelve sectors of page 0 in the overlay. -/
def dFold : Dev := { dA with overlay := (List.range 16).map (fun i => (i, ovl i)) }

/-- A line log sector of home 15 under way, and an open metadata group for it or none. -/
def dLlog (g : Bool) : Dev :=
  { (dA.setF (PNT_LINK.STATE 0) 2).setF (PNT_LINK.STATE 1) 2 with
    lljobs := [{ home := 15, lines := [ll0], acks := [] }], groups := if g then [⟨1, 3, 0, [(0, 0), (1, 0)], [], 0, []⟩] else [] }

theorem wit_LineLogAndQueues : 3 ≤ ((dA.modHm 15 (fun x => { x with llog := [ll0, ll0, ll0] })).hm 15).llog.length ∧
    (let d := { dA.modHm 15 (fun x => { x with llog := [ll0] }) with time := 3436 }
     (d.hm 15).llog = [ll0] ∧ ll0.time + d.llWait ≤ d.time) ∧
    ((((dA.modHm 15 (fun x => { x with llog := [{ ll0 with merged := true }] })).hm 15).llog.take 3).any (·.merged)) = true ∧
    (dLlog true).lljobs.find? (fun j => j.home = 15) = some { home := 15, lines := [ll0], acks := [] } ∧
    ((dLlog false).programLlog { home := 15, lines := [ll0], acks := [] } true).1 = none ∧
    ((dLlog true).programLlog { home := 15, lines := [ll0], acks := [] } true).1.isSome = true ∧
    (let r := (dLlog true).programLlog { home := 15, lines := [ll0], acks := [] } true
     r.1.any (fun psa => (r.2.groupOf (psaSeg psa)).any (fun g => (r.2.programPartial g (psaSec psa / 16) (psaSec psa % 16) true).isSome)) = true) ∧
    dA.mHoldup = false ∧ ((dA.modHm 15 (fun x => { x with wmDue := true })).hm 15).wmDue = true ∧ (Instr.mapFlush 15 16383).wf = true ∧ dA.noClear = false ∧
    (Instr.foldQueue 0 2).wf = true ∧ dFold.foldCause 0 0 = true ∧ ((dA.modHm (homeOfPage 0) (fun x => { x with setFull := [0] })).foldCause 0 1) = true ∧
    (dFold.setF OVL_MARK.LOW 0).foldCause 0 2 = true ∧ dGroup.openGroup 0 = some (grp 0 300) ∧ dGroup.openSeg 0 0 = some 300 ∧ (dGroup.queue 0 0).count < 256 := by
  decide +kernel

/-- A closed group 100 ms later, with segment 300 of Points 0 and 1 in a state. -/
def dClosed (st : Nat) : Dev :=
  { (((dA.setF (PNT_LINK.STATE 0) 2).modSeg 300 (fun x => { x with state := st, birth := 0 })).modSeg 8492 (fun x => { x with state := st, birth := 0 })) with
    time := msUnits 100, groups := [⟨1, 0, 1, [(0, 300), (1, 300)], [], 0, if st = 5 then [mkPsa 300 0] else []⟩] }

/-- Its sector to verify has been programmed. -/
def dVerify : Dev := { dClosed 5 with sectors := [(mkPsa 300 0, { data := 0, md := 0, tail := 0, failed := false, body := .raw })] }

/-- A read that corrects `n` bits. -/
def bch (n : Nat) : RdEnv := ⟨[some n], false, false, false⟩

theorem wit_ParityGroups : (1 : Nat) < 2 ^ 32 ∧ (dGroup.group 1).isSome = true ∧ (Instr.groupOpen 3).wf = true ∧ (Instr.groupClose 1 3).wf = true ∧
    (Instr.rowComplete 1 0 0).wf = true ∧ (grp 0 300).row 0 = some { r := 0, first := 0 } ∧ (grp 0 300).st = 0 ∧ dGroup.coldStop = false ∧
    ((dGroup.modSeg 300 (fun x => { x with retired := 2 ^ 32 - 1 })).modSeg 8492 (fun x => { x with retired := 2 ^ 32 - 1 })).rowFull (grp 0 300) 0 = true ∧
    dGroup.rowFull (grp 0 300) 0 = false ∧ 0 + msUnits 1 ≤ ({ dGroup with time := msUnits 1 } : Dev).time ∧
    ((dClosed 4).group 1).isSome = true ∧ 0 + msUnits 100 ≤ (dClosed 4).time ∧ ((dClosed 4).seg (8192 * 0 + 300)).state = 4 ∧
    (let x : Group := ⟨1, 0, 1, [(0, 300), (1, 300)], [], 0, []⟩
     ({ dClosed 5 with groups := [x] } : Dev).group 1 = some x ∧ x.st = 1 ∧ x.toVerify = [] ∧
     x.members.all (fun m => ((dClosed 5).seg (8192 * m.1 + m.2)).state = 5 || !(dClosed 5).live m.1) = true) := by decide +kernel

theorem wit_ParityGroups_verify : (Instr.verifyReadDone (mkPsa 300 0) (bch 17)).wf = true ∧
    dVerify.groups.any (fun g => g.st = 1 && g.toVerify.contains (mkPsa 300 0)) = true ∧ (dVerify.seg (psaSeg (mkPsa 300 0))).state = 5 ∧
    (dVerify.modSeg 300 (fun x => { x with state := 9 })).seg (psaSeg (mkPsa 300 0)) ≠ {} ∧
    ((dVerify.decode (mkPsa 300 0) true (bch 17)).2.1.pt (psaPoint (mkPsa 300 0))).lastBch = 17 ∧
    ((dVerify.decode (mkPsa 300 0) true (bch 0)).2.1.pt (psaPoint (mkPsa 300 0))).lastBch ≤ Nat.min 16 (dVerify.f OVL_VERIFY.MARGIN_BITS) ∧
    Nat.min 16 (dVerify.f OVL_VERIFY.MARGIN_BITS) < 17 ∧ ((dVerify.decode (mkPsa 300 0) true (bch 0)).2.1.verifyDone [mkPsa 300 0]).blocked = none ∧
    ((dVerify.decode (mkPsa 300 0) true (bch 17)).2.1.verifyMove (mkPsa 300 0) e0).blocked = none ∧
    (dVerify.verifyRead (mkPsa 300 0) (bch 17)).blocked = none ∧
    ((dVerify.setF (PNT_LINK.STATE 0) 3).verifyRead (mkPsa 300 0) (bch 17)).blocked ≠ none := by decide +kernel

/-- Point 0 with a segment changed. -/
def dSeg (f : Seg → Seg) : Dev := dA.modSeg 300 f

/-- A Point whose metadata pool is worn. -/
def dWorn : Dev := dA.modSeg 5 (fun x => { x with count := 2 ^ 30 })

/-- A segment that clears, and one that is DIRTY beside it. -/
def dClear : Dev := (dSeg (fun x => { x with state := 1 })).modSeg 301 (fun x => { x with state := 0 })

theorem wit_Wear : dA.live 15 = true ∧ dA.noClear = false ∧ (dSeg (fun x => { x with state := 0 })).countListed 0 (fun _ x => x.state == 1) = 0 ∧
    (dSeg (fun x => { x with state := 0 })).oldestDirty 0 = some 300 ∧ 0 < dClear.countListed 0 (fun _ x => x.state == 1) ∧ dA.oldestDirty 0 = none ∧
    (dA.setF THM_STAT.CRIT 1).noClear = true ∧ (Instr.segmentClearDone 300 0).wf = true ∧ 300 / 8192 = 0 ∧ (dClear.seg 300).state = 1 ∧
    dClear.noClear = false ∧ dClear.clearWaits 300 = false ∧ (dClear.seg 301).state ≠ 1 ∧
    ({ dClear with waitRecs := [(0, .mrec 0 (.clear 300 1))] } : Dev).clearWaits 300 = true ∧
    dA.f (PNT_CLRPOOL.TARGET 0) ≤ dA.clearedData 0 + dA.awaiting 0 ∧
    (let d := ((dSeg (fun x => { x with state := 6 })).setF (WLV_ROOT.MAX 0) 3000000)
     (d.pt 0).staticSeg = none ∧ d.f (WLV_ROOT.MIN 0) + d.f WLV_CTL.SPREAD < d.f (WLV_ROOT.MAX 0) ∧
     d.pickSeg false (((d.listedSegs 0).filter (fun x => x.2.state = 6 && x.2.pool = 0)).map (·.1)) = some 300) ∧
    dA.f (WLV_ROOT.MAX 0) ≤ dA.f (WLV_ROOT.MIN 0) + dA.f WLV_CTL.SPREAD ∧
    (let d := dA.modSeg 5 (fun x => { x with state := 8 }); d.share 4096 0 = d.metaPool 0 + 1) ∧ dA.share 4096 0 ≤ dA.metaPool 0 ∧
    ({ dA with capDue := true } : Dev).capDue = true ∧ (dA.pt 15).failedCells.contains 31 = false ∧ dClear.cellOps 0 31 = [0] ∧
    0 + usUnits 50 ≤ ({ dClear with time := usUnits 50 } : Dev).time ∧ dClear.time < 0 + usUnits 50 ∧ dA.dead 15 = false := by decide +kernel

/-- Of the data segments of Point 0 one is STABLE, and others are LOST. -/
def dFull (k : Nat) : Dev :=
  { dA.setF (PNT_CLRPOOL.TARGET 0) 64 with segs := (300, { (({} : Seg)) with state := 6 }) :: List.replicate k (256, { (({} : Seg)) with state := 9 }) }

/-- With few segments left a collection starts. -/
theorem full_collects (k : Nat) (hk : 7400 ≤ k) : (dFull k).live 0 = true ∧
    (dFull k).clearedData 0 + (dFull k).awaiting 0 < (dFull k).f (PNT_CLRPOOL.TARGET 0) ∧
    (dFull k).countListed 0 (fun _ x => x.state == 7) < 4 ∧ (dFull k).victim 0 = some 300 := by
  have h0 : (dFull k).live 0 = true := by
    show (dA.setF (PNT_CLRPOOL.TARGET 0) 64).live 0 = true
    decide +kernel
  have h1 : (dFull k).f (PNT_CLRPOOL.TARGET 0) = 64 := by
    show (dA.setF (PNT_CLRPOOL.TARGET 0) 64).f (PNT_CLRPOOL.TARGET 0) = 64
    decide +kernel
  have hn : k ≠ 0 := by omega
  have h2 : (dFull k).dead 0 = false := by
    show (dA.setF (PNT_CLRPOOL.TARGET 0) 64).dead 0 = false
    decide +kernel
  refine ⟨h0, ?_, ?_, ?_⟩
  · rw [h1, Dev.clearedData, h2]
    simp [Dev.awaiting, Dev.countListed, dFull, List.countP_replicate]
    omega
  · simp [Dev.countListed, dFull, List.countP_replicate]
  · simp [Dev.victim, Dev.listedSegs, dFull]

theorem wit_Wear_collection : (dFull 7423).live 0 = true ∧
    (dFull 7423).clearedData 0 + (dFull 7423).awaiting 0 < (dFull 7423).f (PNT_CLRPOOL.TARGET 0) ∧
    (dFull 7423).countListed 0 (fun _ x => x.state == 7) < 4 ∧ (dFull 7423).victim 0 = some 300 := full_collects 7423 (by omega)

/-- A fold that counts and adds, over a list of elements of weight 1. -/
theorem foldl_weigh (f : Nat → Nat) (l : List Nat) (h : ∀ x ∈ l, f x = 1) (a : Nat × Nat) :
    l.foldl (fun a x => (a.1 + f x, a.2 + 1)) a = (a.1 + l.length, a.2 + l.length) := by
  induction l generalizing a with
  | nil => simp
  | cons x l ih =>
    have hx := h x (by simp)
    have := ih (fun y hy => h y (by simp [hy])) (a.1 + 1, a.2 + 1)
    simp [hx, this]
    omega

/-- A fold whose steps keep something ends with something. -/
theorem foldl_some (f : Option Nat → Nat → Option Nat) (h : ∀ b x, (f (some b) x).isSome = true) (l : List Nat) (b : Nat) :
    (l.foldl f (some b)).isSome = true := by
  induction l generalizing b with
  | nil => rfl
  | cons x l ih =>
    obtain ⟨c, hc⟩ := Option.isSome_iff_exists.mp (h b x)
    rw [List.foldl_cons, hc]
    exact ih c

/-- Of a list that is not empty one segment is picked. -/
theorem pick_some (d : Dev) (high : Bool) (l : List Nat) (h : l ≠ []) : (d.pickSeg high l).isSome = true := by
  cases l with
  | nil => exact absurd rfl h
  | cons x l =>
    unfold Dev.pickSeg
    rw [List.foldl_cons]
    refine foldl_some _ ?_ l x
    intro b y
    dsimp only
    split <;> split <;> rfl

/-- The segments of Point 0: 256 of the metadata pool at first, then those of the data pool. -/
theorem segs_split : segsOf 0 = List.range 256 ++ (List.range 7424).map (256 + ·) := by
  have h : segsOf 0 = (List.range (256 + 7424)).map (8192 * 0 + ·) := rfl
  rw [h, List.range_add]
  simp

/-- A segment of the worn Point that is not the worn one. -/
theorem worn_seg (sg : Nat) (h : sg ≠ 5) (h8 : sg < 8192) : dWorn.seg sg = factorySeg sg := by
  have h0 : dWorn.segs = [(5, { (({} : Seg)) with pool := 1, count := 2 ^ 30 })] := by decide +kernel
  have h1 : (dWorn.f (PNT_STAT.STATE 0) == 2) = false := by decide +kernel
  have h2 : sg / 8192 = 0 := by omega
  simp [Dev.seg, h0, h1, h2, assocGet, h]

/-- A member of the second part. -/
theorem mem_second (a : Nat) (h : a ∈ (List.range 7424).map (256 + ·)) : ∃ k, k < 7424 ∧ a = 256 + k := by
  obtain ⟨k, hk, rfl⟩ := List.mem_map.mp h
  exact ⟨k, List.mem_range.mp hk, rfl⟩

/-- A filter of the segments that takes no data segment looks at the first 256 alone. -/
theorem filter_meta (q : Nat → Bool) (h : ∀ k, k < 7424 → q (256 + k) = false) : (segsOf 0).filter q = (List.range 256).filter q := by
  have h2 : ((List.range 7424).map (256 + ·)).filter q = [] := by
    rw [List.filter_eq_nil_iff]
    intro a ha
    obtain ⟨k, hk, rfl⟩ := mem_second a ha
    simp [h k hk]
  rw [segs_split, List.filter_append, h2, List.append_nil]

/-- One that takes every data segment, and no other, keeps them all. -/
theorem filter_data (q : Nat → Bool) (h : ∀ k, k < 7424 → q (256 + k) = true) (h0 : (List.range 256).filter q = []) :
    (segsOf 0).filter q = (List.range 7424).map (256 + ·) := by
  have h2 : ((List.range 7424).map (256 + ·)).filter q = (List.range 7424).map (256 + ·) := by
    rw [List.filter_eq_self]
    intro a ha
    obtain ⟨k, hk, rfl⟩ := mem_second a ha
    exact h k hk
  rw [segs_split, List.filter_append, h0, h2, List.nil_append]

/-- A data segment of the worn Point is as the factory left it. -/
theorem worn_data (k : Nat) (hk : k < 7424) : dWorn.seg (256 + k) = {} := by
  rw [worn_seg _ (by omega) (by omega)]
  have : ¬ (256 + k) % 8192 < 256 := by omega
  simp [factorySeg, this]

/-- The wear of its data pool. -/
theorem worn_pool0 : dWorn.poolWear 0 0 = (7424, 7424) := by
  have hf := filter_data (fun sg => (dWorn.seg sg).pool == 0 && (dWorn.seg sg).state != 8 && (dWorn.seg sg).state != 9)
    (fun k hk => by simp [worn_data k hk]) (by decide +kernel)
  rw [Dev.poolWear, hf, foldl_weigh]
  · simp
  · intro x hx
    obtain ⟨k, hk, rfl⟩ := mem_second x hx
    simp [Dev.effCount, worn_data k hk, Seg.leaf]

/-- The wear of its metadata pool. -/
theorem worn_pool1 : dWorn.poolWear 0 1 = (2 ^ 30 + 255, 256) := by
  have hf := filter_meta (fun sg => (dWorn.seg sg).pool == 1 && (dWorn.seg sg).state != 8 && (dWorn.seg sg).state != 9)
    (fun k hk => by simp [worn_data k hk])
  rw [Dev.poolWear, hf]
  decide +kernel

theorem wit_Wear_exchange : (dWorn.pt 0).exchanged = none ∧ (dWorn.poolWear 0 1).2 ≠ 0 ∧ (dWorn.poolWear 0 0).2 ≠ 0 ∧
    ((dWorn.poolWear 0 0).1 + dWorn.f WLV_CTL.SPREAD * (dWorn.poolWear 0 0).2) * (dWorn.poolWear 0 1).2 < (dWorn.poolWear 0 1).1 * (dWorn.poolWear 0 0).2 := by
  rw [worn_pool0, worn_pool1]
  decide +kernel

/-- The cleared segments of its data pool. -/
theorem worn_cleared0 : (dWorn.clearedList 0 0).filter (fun sg => dWorn.halfOff sg == (false, false)) = (List.range 7424).map (256 + ·) := by
  have hp : dWorn.pt 0 = {} := by decide +kernel
  have hf := filter_data (fun sg => (dWorn.seg sg).state == 2 && (dWorn.seg sg).pool == 0 && (dWorn.pt 0).flushSeg != some sg && !(dWorn.seg sg).fatal)
    (fun k hk => by simp [worn_data k hk, hp]) (by decide +kernel)
  rw [Dev.clearedList, hf, List.filter_eq_self]
  intro x hx
  obtain ⟨k, hk, rfl⟩ := mem_second x hx
  have : (256 + k) / 8192 = 0 := by omega
  simp [Dev.halfOff, worn_data k hk, this, hp]

/-- Those of its metadata pool. -/
theorem worn_cleared1 : dWorn.clearedList 0 1 = (List.range 256).filter (fun sg => (dWorn.seg sg).state == 2 && (dWorn.seg sg).pool == 1 &&
    (dWorn.pt 0).flushSeg != some sg && !(dWorn.seg sg).fatal) := by
  rw [Dev.clearedList]
  exact filter_meta _ (fun k hk => by simp [worn_data k hk])

theorem wit_Wear_exchangePick : dWorn.pickSeg true ((dWorn.clearedList 0 1).filter (fun sg => dWorn.halfOff sg == (false, false))) = some 5 ∧
    (dWorn.pickSeg false ((dWorn.clearedList 0 0).filter (fun sg => dWorn.halfOff sg == (false, false)))).isSome = true := by
  constructor
  · rw [worn_cleared1]
    decide +kernel
  · rw [worn_cleared0]
    exact pick_some _ _ _ (by simp only [ne_eq, List.map_eq_nil_iff, List.range_eq_nil]; omega)

/-- Each of the 512 lodestones of a slice at its level's code. -/
def stones : List Nat := (List.range 512).map (fun e => 50 * (e % 4) + 10)

theorem wit_DriftAndCheckpoints_drift : dA.phase ≠ .watchOff ∧ dA.phase ≠ .dormant ∧ dA.seqOn = true ∧ regsWf dA.regs = true ∧
    (let d := { dA with time := secUnits 1 }
     secUnits (d.wch.eclkSecs + 1) ≤ d.time ∧ d.eclkWaits d.wch.eclkSecs = false) ∧
    (let d := { inPhase .powerUp with time := secUnits 1 }
     d.phase ≠ .dormant ∧ d.seqOn = false ∧ secUnits (d.wch.eclkSecs + 1) ≤ d.time ∧ d.eclkWaits d.wch.eclkSecs = false ∧ 15 < d.wch.eclkApart.length) ∧
    dA.time < secUnits (dA.wch.eclkSecs + 1) ∧ (inPhase .dormant).phase = .dormant ∧ (Instr.segmentAgeClose 300).wf = true ∧ (Instr.refreshQueue 300).wf = true ∧
    (let d := (dSeg (fun x => { x with state := 3, birth := 0 })).setReg 0x3880 (4096 * 65536)
     (d.seg 300).state = 3 ∧ (d.seg 300).holdsData = true ∧ ((d.seg 300).birth + 4096) * 65536 ≤ d.eclk (300 / 8192)) ∧ (dA.seg 300).state ≠ 3 ∧
    (let d := dSeg (fun x => { x with state := 6, refreshDue := true })
     (d.seg 300).refreshDue = true ∧ (d.seg 300).state = 6 ∧ (d.pt (300 / 8192)).tasks.countP (fun t => t.kind == 2) < 8) ∧ (dA.seg 300).state ≠ 6 ∧
    (let d := { dSeg (fun x => { x with birth := 0 }) with time := 2 ^ 60 }
     d.sampleDue 0 4 = true ∧ (d.setF (PNT_LINK.STATE 0) 2).dieGone 0 = false ∧ d.dieGone 0 = true ∧
     nextFrom (d.groupData 0 4) (8192 * 0 + 64 * 4 + (d.phi (8192 * 0 + 64 * 4)).nextSeg) = some 300) ∧
    dA.sampleDue 0 4 = false ∧ dA.groupData 0 4 = [] := by decide +kernel

theorem wit_DriftAndCheckpoints_stones : (Instr.lodestoneSample 0 4 stones).wf = true := by decide +kernel

/-- A device that can cut a checkpoint. -/
def dCut : Dev := { ((dA.setF (PNT_LINK.STATE 0) 2).setF (PNT_LINK.STATE 1) 2) with groups := [⟨1, 3, 0, [(0, 0), (1, 0)], [], 0, []⟩], time := 2 ^ 50, ckptReq := true }

theorem wit_DriftAndCheckpoints_checkpoints : (Instr.checkpointStart 2).wf = true ∧ dCut.phase ≠ .doze ∧ dCut.cutReady = true ∧ dCut.ckptCause 0 = true ∧ dCut.ckptCause 2 = true ∧
    (dCut.setF MAP_LOGS.SINCE_CUT (2 ^ 20 - 1)).ckptCause 1 = true ∧ (inPhase .doze).phase = .doze ∧ dA.ckptCause 2 = false ∧ dA.saving = none ∧
    ({ dA with saving := some {} } : Dev).saving = some {} ∧ dCut.ckptPrograms = true ∧ (dA.setF THM_STAT.CRIT 1).ckptPrograms = false ∧
    8000 ≤ dA.pwr.vsys ∧ 3200 ≤ dA.pwr.wcap ∧ ({ dA with pwr := { dA.pwr with vsys := 7999 } } : Dev).pwr.vsys < 8000 := by decide +kernel


/-- The link of Point 15 in a state. -/
def dLink (st : Nat) : Dev := dA.setF (PNT_LINK.STATE 15) st

/-- A retrain of it is due. -/
def dDue : Dev := (dLink 2).modPt 15 (fun p => { p with retrainDue := some 1 })

theorem wit_LinksAndPointDeath_links : (dLink 2).linkUp 15 = true ∧ (Instr.quickRetrain 15 1).wf = true ∧ (dLink 3).f (PNT_LINK.STATE 15) = 3 ∧
    (dLink 1).f (PNT_LINK.STATE 15) = 1 ∧ (dA.pt 15).trainFails = 0 ∧ ((dA.modPt 15 (fun p => { p with trainFails := 1 })).pt 15).trainFails ≠ 0 ∧
    dA.dead 15 = false ∧ (dLink 2).f (PNT_LINK.STATE 15) ≠ 0 ∧ (dLink 2).f (PNT_LINK.STATE 15) ≠ 4 ∧ dDue.f (PNT_LINK.STATE 15) = 2 ∧
    (dDue.pt 15).retrainDue = some 1 ∧ (dA.pt 15).retrainDue ≠ some 1 ∧ (dLink 4).linkUp 15 = false ∧ (dLink 4).f (PNT_LINK.STATE 15) = 4 ∧
    8 ≤ ((({ dLink 2 with time := 9 } : Dev).modPt 15 (fun p => { p with retrains := List.range 8 })).pt 15).retrains.length ∧
    (List.range 8).filter (fun t => decide (9 - t < secUnits 1)) = List.range 8 ∧ ((dLink 2).pt 15).retrains.length < 8 := by decide +kernel

theorem wit_LinksAndPointDeath_death : (Instr.pointDeath 15 4).wf = true ∧ dA.live 15 = true ∧
    ((dA.setF (PNT_LINK.STATE 15) 4).setF (PNT_LINK.LAST_CAUSE 15) 4).f (PNT_LINK.STATE 15) = 4 ∧
    ((dA.setF (PNT_LINK.STATE 15) 4).setF (PNT_LINK.LAST_CAUSE 15) 4).f (PNT_LINK.LAST_CAUSE 15) = 4 ∧
    (dA.setF (PNT_STAT.STATE 15) 1).f (PNT_STAT.STATE 15) = 1 ∧ dA.f (PNT_LINK.STATE 15) ≠ 4 ∧ (dA.setF (PNT_STAT.STATE 15) 2).dead 15 = true ∧
    (Instr.deadDieRecovery 15 0 e0).wf = true ∧ ((dA.setF (PNT_STAT.STATE 15) 2).recoverPage 15 0 e0).blocked = none ∧ dA.dead 15 = false := by decide +kernel

/-- A device with another supply. -/
def dP (p : Phase) (f : Power → Power) : Dev := { inPhase p with pwr := f (inPhase p).pwr }

theorem wit_SupplyAndFlush_supply : (Instr.brownoutWatch 65535).wf = true ∧ (dP .active (fun p => { p with vin := 5000 })).pwr.vin < 100 * dA.f PWR_THR.VBO ∧
    42000 < (dP .active (fun p => { p with vin := 42001 })).pwr.vin ∧ dA.f PWR_STAT.OV = 0 ∧ dA.pwr.vin ≤ 42000 ∧
    (inPhase .flush).vinGood = true ∧ (dP .flush (fun p => { p with vin := 0 })).vinGood = false ∧ (inPhase .railsDown).vinGood = true ∧
    (inPhase .dormant).vinGood = true ∧ (inPhase .active).vinGood = true ∧ (Instr.flushEnd false (List.replicate 16 0)).wf = true ∧
    (dP .active (fun p => { p with hbGate := true, enables := 63 })).pwr.hbGate = true ∧ (dP .active (fun p => { p with enables := 63 })).railsOn = 6 ∧
    dA.pwr.bankDone = false ∧ (dA.setF PWR_CTL.BANKTEST 1).f PWR_CTL.BANKTEST ≠ 0 ∧
    (let d := { dP .active (fun p => { p with bankDone := true }) with time := secUnits 86400 }
     d.pwr.bankDone = true ∧ d.pwr.bankTestAt + secUnits 86400 ≤ d.time ∧ d.f PWR_BANK.PASS = 0 ∧ d.pwr.bankTestAt + secUnits 60 ≤ d.time) ∧
    (dP .active (fun p => { p with bank := 1 })).pwr.bank ≠ dA.vhold ∧ (Instr.bankTest 2000 0).wf = true ∧
    (dP .active (fun p => { p with hbGate := true, bankDue := true, bankDone := true })).mayTest = true ∧
    (dP .active (fun p => { p with hbGate := true })).pwr.watch = false ∧ dA.pwr.hbGate = false := by decide +kernel

/-- A Commit whose supply has returned, or not; VSYS is too low for its records, which fail. -/
def dCom (ret : Bool) : Dev := dP .commit (fun p => { p with detected := some (1350, 0, 0), returned := ret, vsys := 0 })

theorem wit_SupplyAndFlush_commit : dA.phase ≠ .commit ∧ (dCom true).phase = .commit ∧ (dCom true).pwr.outcome ≠ 3 ∧ (dCom true).commitRecs.pwr.outcome ≠ 3 ∧
    (dCom true).commitRecs.pwr.returned = true ∧ ((dCom true).commitRecs.pwr.detected.getD (0, 0, 0)).2.1 ≠ 3 ∧ (dCom true).commitRecs.pwr.down ≠ 3 ∧
    (dCom false).commitRecs.pwr.returned = false := by decide +kernel

/-- Power-up with steps 1 to k made, and k + 1 under way or not. -/
def dUp (k : Nat) (ramp : Bool) : Dev := (dP .powerUp (fun p => { p with enables := 2 ^ k - 1, ramp := if ramp then some (k, 0) else none })).setF ORD_CHART.VALID 1

theorem wit_Rails : (dUp 0 false).pwr.ramp = none ∧ (dUp 0 false).railsOn = 0 ∧ 0 < (dUp 0 false).stepBound ∧ (dUp 5 false).railsOn = 5 ∧ 5 < (dUp 5 false).stepBound ∧
    (dUp 5 false).railsOn ≠ 4 ∧ dA.phase ≠ .powerUp ∧
    (Instr.railStepDone 5 3200).wf = true ∧ (dUp 5 true).pwr.ramp.map (·.1) = some 5 ∧ 3200 < 4000 ∧ (vsWindow 5).2 < 4000 ∧ (Instr.railStepDone 5 4000).wf = true ∧
    (vsWindow 5).1 ≤ 3200 ∧ 3200 ≤ (vsWindow 5).2 ∧ (dUp 5 true).pwr.downAfterStep = false ∧ (Instr.railFault 5 1 0).wf = true ∧
    (dP .powerUp (fun p => { p with downAfterStep := true })).pwr.downAfterStep = true ∧
    (dP .active (fun p => { p with enables := 63 })).pwr.enables.testBit 5 = true ∧ (dP .active (fun p => { p with enables := 63 })).phase ≠ .powerUp ∧
    (dP .active (fun p => { p with enables := 63 })).phase ≠ .railsDown ∧ (dP .railsDown (fun p => { p with enables := 31 })).railsOn = 5 ∧
    (inPhase .railsDown).railsOn = 0 ∧ (inPhase .railsDown).pwr.enables = 0 ∧ dA.f THM_STAT.THERMAL = 0 ∧ (inPhase .dormant).phase = .dormant ∧
    (inPhase .dormant).pwr.minOffEnd ≤ (inPhase .dormant).wch.ticks ∧ ((inPhase .dormant).setF PWR_STAT.ON_LATCH 1).f PWR_STAT.ON_LATCH ≠ 0 ∧
    (inPhase .dormant).pwr.locked = false ∧ (inPhase .dormant).f PWR_STAT.ON_LATCH = 0 ∧ (Instr.orderlyShutdown 1).wf = true ∧
    1 = (inPhase .shutdown).pwr.offStep + 1 := by decide +kernel

/-- A SEQ slave of number 3. -/
def dSlave (p : Phase) : Dev := { inPhase p with wch := { (inPhase p).wch with straps := [0, 0, 0, 3], ticks := 32768 } }

/-- A SEQ master. -/
def dMaster (p : Phase) : Dev := ({ inPhase p with wch := { (inPhase p).wch with straps := [0, 0, 1, 0] } } : Dev).setF SEQ_CFG.MASTER 1

/-- A CRC of 16 bits is below 2^16. -/
theorem crc16Link_lt (bs : List (BitVec 8)) : crc16Link bs < 2 ^ 32 := by
  have hbit : ∀ (c : Nat) (b : Bool), c < 2 ^ 16 → crcBit 16 0x1021 c b < 2 ^ 16 := by
    intro c b _
    unfold crcBit
    dsimp only
    split
    · exact Nat.xor_lt_two_pow (Nat.mod_lt _ (by decide)) (by decide)
    · exact Nat.mod_lt _ (by decide)
  have hbyte : ∀ (c : Nat) (b : BitVec 8), c < 2 ^ 16 → crcByte 16 0x1021 c b < 2 ^ 16 := by
    intro c b h
    simp only [crcByte, List.foldl_cons, List.foldl_nil]
    repeat' apply hbit
    exact h
  have hall : ∀ (l : List (BitVec 8)) (c : Nat), c < 2 ^ 16 → l.foldl (crcByte 16 0x1021) c < 2 ^ 16 := by
    intro l
    induction l with
    | nil => intro c h; exact h
    | cons b l ih => intro c h; exact ih _ (hbyte c b h)
  exact Nat.lt_trans (hall bs 0xFFFF (by decide)) (by decide)

/-- A block of 256 bytes with its CRC is a well-formed CHART. -/
theorem chart_wf (data : List Byte) (h : data.length = 256) : okChart 511 data (crc16Link data) = true := by
  have := crc16Link_lt data
  simp only [okChart, h, this, Bool.and_eq_true, decide_eq_true_eq]
  decide

theorem wit_SeqBus_chart : (Instr.chart 511 (List.replicate 256 0) (crc16Link (List.replicate 256 0))).wf = true := chart_wf _ List.length_replicate

/-- A frame of a master that is not acknowledged stands. -/
def dAgain (n : Nat) : Dev := { dMaster .active with seqb := { (dMaster .active).seqb with pending := some (7, 4, 0), tries := n } }

theorem wit_SeqBus : (Instr.seqFix 255).wf = true ∧ (inPhase .dormant).phase = .dormant ∧ (Instr.step 1).wf = true ∧
    (dSlave .powerUp).phase = .powerUp ∧ (dSlave .powerUp).seqSlave = true ∧ (dSlave .powerUp).seqDaLow = false ∧ 1 ≤ (dSlave .powerUp).railsOn + 1 ∧
    ((dSlave .becalmed).setF ORD_CHART.CAUSE 5).seqSlave = true ∧ ((dSlave .becalmed).setF ORD_CHART.CAUSE 5).phase = .becalmed ∧
    ((dSlave .becalmed).setF ORD_CHART.CAUSE 5).f ORD_CHART.CAUSE = 5 ∧
    (((dSlave .becalmed).setF ORD_CHART.CAUSE 5).lbkWrite (slotSize * ((dSlave .becalmed).setF ORD_CHART.CAUSE 5).seqSlot + 256 * 511) (List.replicate 256 0)).1 = true ∧
    dA.seqDaLow = false ∧ dA.phase ≠ .watchOff ∧ (dSlave .powerUp).seqb.heard = false ∧ (dSlave .powerUp).seqb.orphaned = false ∧
    (dSlave .powerUp).seqb.optEnd + 32768 ≤ (dSlave .powerUp).wch.ticks ∧ dA.seqSlave = false ∧ (Instr.seqNoack 7 4).wf = true ∧
    (dMaster .active).f SEQ_CFG.MASTER ≠ 0 ∧
    ((dMaster .active).f SEQ_STAT.FAILED).testBit 7 = false ∧ (dMaster .active).seqb.pending = none ∧ (dAgain 2).seqb.pending = some (7, 4, 0) ∧
    (dAgain 2).seqb.tries < 3 ∧ 3 ≤ (dAgain 3).seqb.tries ∧ (7 : Nat) ≠ 6 ∧ (Instr.seqDiscovery (List.replicate 7 (some 0))).wf = true ∧
    (dMaster .powerUp).railsOn = 0 ∧ (dMaster .powerUp).seqb.step = 0 ∧ (Instr.seqGroupPoll (List.replicate 7 none)).wf = true ∧
    ({ dMaster .powerUp with seqb := { (dMaster .powerUp).seqb with step := 1 } } : Dev).seqb.step ≠ 0 ∧ (Instr.seqCmdFix 1 0xA7 0).wf = true ∧
    ((dMaster .active).setReg 0x18 1).mayWrite 3 = true ∧ (dMaster .active).seqMaySend 0xA7 = true ∧ (Instr.seqCmdStatus 1 0xA7 (some 0)).wf = true ∧
    (Instr.seqCmdStatus 1 0xAF none).wf = true := by decide +kernel

theorem wit_SeqBus_chartWrong : (Instr.chart 0xFFFF (List.replicate 256 0) 0).wf = true ∧
    ∃ crc, (Instr.chart 511 (List.replicate 256 0) crc).wf = true ∧ crc16Link (List.replicate 256 0) ≠ crc := by
  refine ⟨by decide +kernel, ?_⟩
  by_cases h : crc16Link (List.replicate 256 0) = 0
  · exact ⟨1, by decide +kernel, by rw [h]; decide⟩
  · exact ⟨0, by decide +kernel, h⟩

/-- The Watch domain of a device changed. -/
def dT (p : Phase) (f : Watch → Watch) : Dev := { inPhase p with wch := f (inPhase p).wch }

theorem wit_WatchDomain_resets : (inPhase .watchOff).phase = .watchOff ∧ 4500 ≤ (inPhase .watchOff).pwr.vin ∧ (dP .active (fun p => { p with vin := 0 })).pwr.vin < 4500 ∧
    (let d := dT .active (fun w => { w with ticks := 16384 })
     d.f WCH_STAT.XTAL = 0 ∧ d.wch.crystalDone = false ∧ 16384 ≤ d.wch.ticks ∧ d.wch.ticks < 65536) ∧ (dA.setF WCH_STAT.XTAL 1).f WCH_STAT.XTAL ≠ 0 ∧
    65536 ≤ (dT .active (fun w => { w with ticks := 65536 })).wch.ticks ∧ dA.phase ≠ .watchOff ∧ dA.f WCH_STAT.XTAL = 0 ∧
    dA.wch.resetPin = false ∧ (dT .active (fun w => { w with resetPin := true })).wch.resetPin = true ∧ dA.wch.maint = false ∧ dA.wch.wdogHeld = none ∧
    dA.phase = .active ∧ (Instr.deviceReset 2).wf = true ∧ (Instr.resetFlushEnd false (List.replicate 16 0)).wf = true ∧
    (inPhase .doze).phase = .doze := by decide +kernel

/-- A wake input enabled, by edge or by level. -/
def dWake (p : Phase) (level : Nat) : Dev := (((inPhase p).setF (WCH_WAKECFG.EN 3) 1).setF (WCH_WAKECFG.LEVEL 3) level).setF (WCH_WAKECFG.OFFREQ 3) 1

/-- An active device in which nothing works, later. -/
def dIdle : Dev := { dM 2048 with time := 2 ^ 60, engines := List.replicate 16 ({ (({} : Engine)) with state := .asleep }) }

theorem wit_WatchDomain_wakes : (Instr.wakeEdge 3 0).wf = true ∧ (dWake .dormant 0).f (WCH_WAKECFG.EN 3) ≠ 0 ∧ (dWake .dormant 0).f (WCH_WAKECFG.LEVEL 3) = 0 ∧
    0 + (dWake .dormant 0).f (WCH_WAKECFG.DEB 3) ≤ (dWake .dormant 0).wch.ticks ∧ (dWake .dormant 0).wch.entryTick = 0 ∧
    (let d := (dWake .dormant 0).setF (WCH_WAKECFG.DEB 3) 5; d.wch.ticks < 0 + d.f (WCH_WAKECFG.DEB 3)) ∧
    ({ dWake .dormant 0 with wch := { (dWake .dormant 0).wch with entryTick := 1, ticks := 999999 } } : Dev).inWindow 999999 = false ∧
    (Instr.wakeLevel 3 0).wf = true ∧ (dWake .active 1).f (WCH_WAKECFG.EN 3) ≠ 0 ∧ (dWake .active 1).f (WCH_WAKECFG.LEVEL 3) ≠ 0 ∧
    (Instr.wakeReleaseOff 3 0).wf = true ∧ (dWake .active 1).f (WCH_WAKECFG.OFFREQ 3) ≠ 0 ∧ (dWake .active 1).phase = .active ∧
    ((dWake .active 1).setF (WCH_WAKECFG.OFFREQ 3) 0).f (WCH_WAKECFG.OFFREQ 3) = 0 ∧ dA.f (WCH_WAKECFG.EN 3) = 0 := by decide +kernel

theorem wit_WatchDomain_doze :
    (let d := { (inPhase .active).setF WCH_DOZECFG.EN 1 with time := 2 ^ 60 }
     d.phase = .active ∧ d.f WCH_DOZECFG.EN ≠ 0 ∧ d.quiet = true ∧ d.wch.eligFrom + 65536 * Nat.max 1 (d.f WCH_DOZECFG.IDLE) ≤ d.time) ∧
    (let d := (inPhase .active).setF WCH_DOZECFG.EN 1
     d.quiet = true ∧ d.time < d.wch.eligFrom + 65536 * Nat.max 1 (d.f WCH_DOZECFG.IDLE)) ∧ ((inPhase .active).setF WCH_DOZECFG.EN 0).f WCH_DOZECFG.EN = 0 ∧
    (inPhase .dozeEntry).phase = .dozeEntry ∧ (inPhase .doze).phase = .doze ∧ (Instr.dozeWake 3).wf = true ∧ dIdle.phase = .active ∧
    dIdle.mQuiet = true ∧ dIdle.mLogline = false ∧ dIdle.wch.idleFrom + usUnits 20 ≤ dIdle.time ∧ dIdle.imgs = [] ∧ dIdle.lljobs = [] ∧ dIdle.ord.run = [] ∧
    (∀ x ∈ dIdle.segs, x.2.state ≠ 1) ∧ (∀ e ∈ dIdle.engines, (e.state = .asleep ∨ e.state = .retired) ∧ ∀ t ∈ e.tickets, t.status.isSome = true) ∧
    dA.mQuiet = false := by decide +kernel

/-- Media initialisation with every die link in a state. -/
def dInit (st : Nat) : Dev := (List.range 16).foldl (fun d n => d.setF (PNT_LINK.STATE n) st) (inPhase .mediaInit)

theorem wit_Starts : (Instr.optionLoad [0, 0, 1, 0]).wf = true ∧ (inPhase .optLoad).wch.resetPin = false ∧ [0, 0, 1, 0].getD 0 0 ≠ 3 ∧ (inPhase .clocks).wch.pllRef = false ∧
    (inPhase .clocks).f CLK_CFG.CLKMODE < 2 ∧ 2 ≤ ((inPhase .clocks).setF CLK_CFG.CLKMODE 2).f CLK_CFG.CLKMODE ∧
    (dT .clocks (fun w => { w with pllRef := true })).wch.pllRef = true ∧ (Instr.builtInSelfTest 0).wf = true ∧ (inPhase .selfTest).phase = .selfTest ∧
    (∀ n, n < 16 → 2 ≤ (dInit 2).f (PNT_LINK.STATE n)) ∧ (∃ n, n < 16 ∧ (inPhase .mediaInit).f (PNT_LINK.STATE n) = 0) ∧
    (∀ n, n < 16 → (dInit 1).f (PNT_LINK.STATE n) ≠ 0) ∧ (∃ n, n < 16 ∧ (dInit 1).f (PNT_LINK.STATE n) = 1) ∧ (Instr.recovery r0).wf = true ∧
    ({ inPhase .chart with chart := { (inPhase .chart).chart with slot := some 1 } } : Dev).chart.slot = some 1 ∧
    ((inPhase .linkTrain).setF (DEV_PORTSTAT.RATE 1) 5).inL0 1 = true ∧ (inPhase .linkTrain).inL0 0 = false ∧ (inPhase .linkTrain).inL0 1 = false ∧
    (inPhase .linkTrain).wch.linkWaitFrom + secUnits 1 ≤ ({ inPhase .linkTrain with time := secUnits 1 } : Dev).time ∧
    (inPhase .linkTrain).time < (inPhase .linkTrain).wch.linkWaitFrom + secUnits 1 := by decide +kernel

theorem wit_ModesAndSafety : dA.powered = true ∧ (Instr.pllUnlock 2).wf = true ∧ (dA.setF CLK_STAT.MED_LOCK 1).f (pllLockBit 2) ≠ 0 ∧ dA.clocksOn = true ∧
    dA.phase ≠ .watchOff ∧ ({ dA with saf := { dA.saf with lftDue := true } } : Dev).saf.lftDue = true ∧ dA.saf.lftDue = false ∧ (Instr.latentFaultTest 1).wf = true := by decide +kernel

theorem wit_LogsAndCounters : (Instr.deckLogFlush 0).wf = true ∧ dA.canPost = true ∧ ({ dA with deck := { dA.deck with flushDue := true } } : Dev).deckDue 0 = true ∧
    ({ dA with time := 2 ^ 60 } : Dev).deckDue 2 = true ∧ dA.wch.gated = false ∧
    (let d := { dA.setF TAL_CFG.PERIOD 1 with time := msUnits 1 }
     d.tallyPeriod ≠ 0 ∧ d.deck.tallyFrom + msUnits ((d.deck.tallyLast + 1) * d.tallyPeriod) ≤ d.time) ∧
    (Instr.logbookSegmentWrite 255 [1]).wf = true ∧ 255 % 256 + [1].length ≤ 256 ∧ dA.segmentPage (255 / 256) = true ∧ Memory.wf dA.lbk = true ∧
    8000 ≤ dA.pwr.vsys ∧ 3200 ≤ dA.pwr.wcap ∧ ({ dA with pwr := { dA.pwr with wcap := 3199 } } : Dev).pwr.wcap < 3200 ∧
    secUnits (dA.wch.opSecs + 1) ≤ ({ dA with time := secUnits 1 } : Dev).time ∧ ({ dA with pwr := { dA.pwr with enables := 1 } } : Dev).pwr.enables.testBit 0 = true := by
  decide +kernel

/-- Media sensors of one reading each, 10 ms after the last evaluation. -/
def dHot : Dev := { dA with time := msUnits 10, thm := { dA.thm with media := List.replicate 16 { (({} : Sensor)) with cnt := 1, sum := 7000 } } }

theorem wit_Sensing_temperatures : (Instr.sensorRead 0 15 (some 65535)).wf = true ∧ (Instr.sensorRead 1 7 none).wf = true ∧ (Instr.sensorRead 2 7 (some 0)).wf = true ∧
    dHot.mediaSensed = true ∧ dHot.thm.evalAt + msUnits 10 ≤ dHot.time ∧ dHot.hotMean.isSome = true ∧ dA.time < dA.thm.evalAt + msUnits 10 ∧
    (let d := { dA.setF THM_STAT.CRIT 1 with thm := { dA.thm with critFrom := some 0 } }
     d.thm.critFrom = some 0 ∧ d.mediaSensed = true ∧ d.f THM_STAT.CRIT ≠ 0) ∧ dA.thm.critFrom = none ∧
    (let d := ((inPhase .dormant).setF THM_STAT.THERMAL 1).setF PWR_STAT.ON_LATCH 1
     d.phase = .dormant ∧ d.f THM_STAT.THERMAL ≠ 0 ∧ d.pwr.minOffEnd ≤ d.wch.ticks ∧ d.f PWR_STAT.ON_LATCH ≠ 0 ∧ d.pwr.locked = false) ∧
    dA.phase ≠ .dormant := by decide +kernel

/-- Log-line channel 7 enabled, sampling or taking both edges. -/
def dL (sample : Nat) : Dev := (((dM 512).setF (LLN_CH.EN 7) 1).setF (LLN_CH.SAMPLE 7) sample).setF (LLN_CH.EDGE 7) 3

theorem wit_Sensing_logLine : (Instr.llSample 7 4095 true).wf = true ∧ (dL 1).llSensed = true ∧ (dL 1).llOn 7 (LLN_CH.EN 0) = true ∧ (dL 1).llOn 7 (LLN_CH.SAMPLE 0) = true ∧
    dA.llOn 7 (LLN_CH.EN 0) = false ∧
    (let d := { dA.setF (LLN_CH.EN 7) 1 with ll := { dA.ll with winCnt := List.replicate 8 8 } }
     d.mLogline = false ∧ d.f (LLN_CH.EN 7) ≠ 0 ∧ 8 ≤ d.ll.winCnt.getD 7 0 ∧ d.ll.winOut.getD 7 false = false) ∧ (dL 0).mLogline = true ∧
    (Instr.llEdge 7 true 0).wf = true ∧ (dL 0).llOn 7 (LLN_CH.EDGE 0) = true ∧ (dL 0).f (LLN_VAL.LEVEL 7) ≠ b2n true ∧
    0 + usUnits ((dL 0).llF 7 (LLN_CH.DEB 0)) ≤ (dL 0).time ∧ (dL 0).f (LLN_VAL.LEVEL 7) = b2n false ∧
    edgeWanted (((dL 0).setF (LLN_VAL.LEVEL 7) (b2n true)).llF 7 (LLN_CH.EDGE 0)) true = true ∧
    (let d := (dL 0).setF (LLN_CH.EDGE 7) 2
     edgeWanted ((d.setF (LLN_VAL.LEVEL 7) (b2n true)).llF 7 (LLN_CH.EDGE 0)) true = false) ∧
    (let d := (dL 0).setF (LLN_CH.DEB 7) 9
     d.time < 0 + usUnits (d.llF 7 (LLN_CH.DEB 0))) ∧
    (let d := { dA with time := 2 ^ 60, ll := { dA.ll with recs := [[0]], checkDue := true } }
     d.ll.recs ≠ [] ∧ d.ll.frameFrom + msUnits (Nat.max 1 (d.f LLN_CTL.CLOSE)) ≤ d.time ∧ d.powered = true ∧ d.ll.checkDue = true) ∧
    (Instr.llLevelWake 7 true 0).wf = true ∧ 0 + dA.f WCH_LLWAKE.DEB ≤ dA.wch.ticks ∧ ((dA.setF WCH_LLWAKE.EN 128).f WCH_LLWAKE.EN).testBit 7 = true ∧
    (dA.f WCH_LLWAKE.EN).testBit 7 = false := by decide +kernel

theorem wit_EngineRegisters : dA.engines.length = 16 ∧ (dA.eng 15).g.length = 32 ∧ (31 : Nat) < 32 := by decide +kernel

theorem wit_EngineReturn : dA.engReady 15 true = true ∧ dDeck.engReady 15 false = true ∧ (dDeck.eng 15).priv = 1 := by decide +kernel

theorem wit_AdopterOrder : dA.live 13 = true ∧ (dA.setF (PNT_STAT.STATE 12) 2).live 12 = false ∧ (dA.setF (PNT_STAT.STATE 12) 2).live 13 = true ∧
    ((dA.setF (PNT_STAT.STATE 12) 2).setF (PNT_STAT.STATE 13) 2).live 13 = false ∧ ((dA.setF (PNT_STAT.STATE 12) 2).setF (PNT_STAT.STATE 13) 2).live 14 = true ∧
    (((dA.setF (PNT_STAT.STATE 12) 2).setF (PNT_STAT.STATE 13) 2).setF (PNT_STAT.STATE 14) 2).live 14 = false := by decide +kernel

theorem wit_SqTailIgnored : (Instr.sqTailWrite 1 2 3).wf = true ∧
    (let d := dA.setF (ORD_SQ.TAIL 2) 5
     d.helmOn 1 = true ∧ d.mayWrite 1 = true ∧ regsWf d.regs = true ∧
     (3 % 16 + 16 - d.f (ORD_SQ.HEAD 2)) % 16 < (d.f (ORD_SQ.TAIL 2) + 16 - d.f (ORD_SQ.HEAD 2)) % 16) := by decide +kernel

theorem wit_EventLogs_clear : (Instr.clearEventRecords 1 3 true []).wf = true ∧ dA.served 1 = true ∧ dA.heads.length = 2 ∧ (dA.head 1).logs.length = 4 := by decide +kernel

/-- A record of an event. -/
def rec0 : CxlRec := .vendor { code := 0x100 } 0

theorem wit_EventLogs : dA.heads.length = 2 ∧ (dA.head 1).logs.length = 4 ∧ ((dA.head 1).logs.getD 3 {}).recs.length < 256 ∧
    256 ≤ (((dA.modHead 1 (fun h => { h with logs := List.replicate 4 { (({} : CxlLog)) with recs := List.replicate 256 (1, rec0) } })).head 1).logs.getD 3 {}).recs.length := by
  decide +kernel

theorem wit_InterruptOnce : regsWf dA.regs = true ∧ ((dA.setF (DEV_INTSTAT.PEND 2) 255).f (DEV_INTSTAT.PEND 2)).testBit 7 = true ∧
    (dA.f (DEV_INTSTAT.PEND 1)).testBit 7 = false ∧ (dA.head 1).msix = true ∧ ((dA.modHead 1 (fun h => { h with mask := 0 })).head 1).mask.testBit 7 = false ∧
    dA.inL0 1 = true ∧ dI.i3c.ibiOn = true ∧ dI.i3c.addr ≠ none ∧ (dI.f (DEV_INTSTAT.PEND 2)).testBit 7 = false := by decide +kernel

/-- A record of 128 bytes. -/
def dr0 : DeckRec := .event { code := 0x100 }

theorem wit_DeckBuffer : regsWf dA.regs = true ∧ bufBytes dA.deck.buf ≤ 65536 ∧ dA.f DECK_STAT.FULL = 0 ∧ dA.deck.owed = 0 ∧ bufBytes (dA.deck.buf ++ [dr0]) ≤ 65536 ∧
    (let d := { dA with deck := { dA.deck with owed := 3 } }
     d.deck.owed ≠ 0 ∧ bufBytes (d.deck.buf ++ [DeckRec.lost d.deck.owed d.opSec d.cycle d.time (d.f FIX_NUM.NUMBER), dr0]) ≤ 65536) ∧
    65536 < bufBytes (List.replicate 512 dr0 ++ [dr0]) ∧ dA.f DECK_STAT.DROPPED < 2 ^ 16 - 1 := by decide +kernel

end Sys2Proof.Tests
end

/-! The state right after reset: the register file lists no register, so each one reads as the reset value of its row in the register
map (R6). -/

namespace Sys2Proof.Machine

/-- A register whose offset the register file does not list reads as its reset value. -/
theorem Dev.reg_of_assocGet_none {d : Dev} {off : Nat} (h : assocGet off d.regs = none) : d.reg off = resetVal off := by
  simp [Dev.reg, h]

/-- At an offset outside PNT_HOMEMAP and WLV_PLACE the reset value is that of the map's row. -/
theorem resetVal_of_row {off : Nat} {r : RegRow} (hhome : off ≠ 0x3000) (hplace : off < 0x4080 ∨ 0x4100 ≤ off) (hrow : regRow? off = some r) :
    resetVal off = r.reset := by
  have hnot : ¬ (0x4080 ≤ off ∧ off < 0x4100) := by omega
  simp [resetVal, hhome, hnot, hrow]

/-- PNT_HOMEMAP's value names Point `m` as the home of every index `m`. -/
theorem resetVal_PNT_HOMEMAP : resetVal 0x3000 = 0xFEDCBA9876543210 := rfl

theorem resetVal_MODE_REQ : resetVal 0x100 = 0 :=
  resetVal_of_row (r := ⟨0x100, 0, 1, 32, 0, 0, 0, 0, 0, 0, 0⟩) (by decide) (by decide) (by decide +kernel)

theorem resetVal_MODE_EFF : resetVal 0x104 = 0 :=
  resetVal_of_row (r := ⟨0x104, 0, 1, 32, 0, 0, 0, 0, 0, 0, 0⟩) (by decide) (by decide) (by decide +kernel)

/-- PWR_THR's thresholds: VBO, its lowest byte, is 0x38, which is 56. -/
theorem resetVal_PWR_THR : resetVal 0x204 = 0x642138 :=
  resetVal_of_row (r := ⟨0x204, 0, 1, 32, 0x642138, 0xffffff, 0, 0, 0, 0, 0⟩) (by decide) (by decide) (by decide +kernel)

theorem resetVal_SAF_STAT : resetVal 0xc00 = 0 :=
  resetVal_of_row (r := ⟨0xc00, 0, 1, 32, 0, 0, 8, 0, 0, 0, 0⟩) (by decide) (by decide) (by decide +kernel)

theorem resetVal_MAP_CKPT : resetVal 0x3e08 = 0 :=
  resetVal_of_row (r := ⟨0x3e08, 0, 1, 64, 0, 0, 0, 0, 0, 0, 0⟩) (by decide) (by decide) (by decide +kernel)

/-- After reset every register reads as its reset value (R6). -/
@[simp] theorem State.reset_reg (off : Nat) : State.reset.dev.reg off = resetVal off :=
  Dev.reg_of_assocGet_none rfl

/-- After reset a field reads as its bits of its register's reset value. -/
theorem State.reset_f (F : Fld) : State.reset.dev.f F = bits (resetVal F.off) F.lo F.w := by
  simp [Dev.f]

theorem State.reset_SAF_STAT_HOVE : State.reset.dev.f SAF_STAT.HOVE = 0 := by
  rw [State.reset_f, show SAF_STAT.HOVE = ⟨0xc00, 0, 1⟩ from rfl, resetVal_SAF_STAT]; rfl

theorem State.reset_PWR_THR_VBO : State.reset.dev.f PWR_THR.VBO = 56 := by
  rw [State.reset_f, show PWR_THR.VBO = ⟨0x204, 0, 8⟩ from rfl, resetVal_PWR_THR]; rfl

theorem State.reset_MAP_CKPT_GEN : State.reset.dev.f MAP_CKPT.GEN = 0 := by
  rw [State.reset_f, show MAP_CKPT.GEN = ⟨0x3e08, 32, 32⟩ from rfl, resetVal_MAP_CKPT]; rfl

/-- Settles O4: the queue, the phase, the medium, the Binnacle and the seals are the fields of the state after reset; what a register or a
field reads comes from the reset value of its register (`State.reset_reg`, `State.reset_f`). -/
theorem resetState : Obligations.ResetState :=
  ⟨rfl, rfl, State.reset_reg, rfl, rfl, rfl, State.reset_SAF_STAT_HOVE, (State.reset_reg _).trans resetVal_PNT_HOMEMAP,
    (State.reset_reg _).trans resetVal_MODE_REQ, (State.reset_reg _).trans resetVal_MODE_EFF, State.reset_PWR_THR_VBO,
    State.reset_MAP_CKPT_GEN⟩

end Sys2Proof.Machine

/-! The persistence contract (chapter 01): the reads and writes of the ports that arrive on a credit and that nothing holds back, and what a
read of a whole Binnacle line and a write with HOLDUP leave as they were. -/

namespace Sys2Proof.Machine

/-! ### What counting for the Tally leaves as it was -/

/-- What neither the Tally's counters and overflow flag nor the deck-log state changes, counting an event for the Tally leaves as it was. -/
theorem Dev.tally_keep {α : Type} (p : Dev → α) {unit_ : Nat} (hcount : ∀ e i v, i < 176 + 8 * unit_ → p (Dev.setF e (TAL_CNT.COUNT i) v) = p e)
    (hovf : ∀ e v, p (Dev.setF e TAL_STAT.OVF v) = p e) (hdeck : ∀ e k, p { e with deck := k } = p e) (d : Dev) (code n : Nat) :
    p (d.tally code unit_ n) = p d := by
  unfold Dev.tally
  refine List.foldlRecOn (motive := fun e => p e = p d) _ _ rfl (fun e he c hc => ?_)
  have hi : (if code < 0x40 then 8 * unit_ else if code < 0x80 then 128 + 8 * unit_ else 160) + c < 176 + 8 * unit_ := by
    have hlt : c < 16 := by
      have hc := List.mem_range.mp hc
      split at hc <;> omega
    split
    · omega
    · split <;> omega
  simp only [apply_ite p, hdeck, hovf, hcount _ _ _ hi, ite_self, he]

/-- So it leaves what no register write and no change of the deck-log state touches. -/
theorem Dev.tally_frame {α : Type} (p : Dev → α) (hreg : ∀ e F v, p (Dev.setF e F v) = p e) (hdeck : ∀ e k, p { e with deck := k } = p e)
    (d : Dev) (code unit_ n : Nat) : p (d.tally code unit_ n) = p d :=
  Dev.tally_keep p (fun e _ v _ => hreg e _ v) (fun e v => hreg e _ v) hdeck d code n

@[simp] theorem Dev.tally_out (d : Dev) (code unit_ n : Nat) : (d.tally code unit_ n).out = d.out :=
  Dev.tally_frame (·.out) Dev.setF_out (fun _ _ => rfl) ..
@[simp] theorem Dev.tally_time (d : Dev) (code unit_ n : Nat) : (d.tally code unit_ n).time = d.time :=
  Dev.tally_frame (·.time) Dev.setF_time (fun _ _ => rfl) ..
@[simp] theorem Dev.tally_nextCsn (d : Dev) (code unit_ n : Nat) : (d.tally code unit_ n).nextCsn = d.nextCsn :=
  Dev.tally_frame (·.nextCsn) Dev.setF_nextCsn (fun _ _ => rfl) ..
@[simp] theorem Dev.tally_binn (d : Dev) (code unit_ n : Nat) : (d.tally code unit_ n).binn = d.binn :=
  Dev.tally_frame (·.binn) Dev.setF_binn (fun _ _ => rfl) ..
@[simp] theorem Dev.tally_sectors (d : Dev) (code unit_ n : Nat) : (d.tally code unit_ n).sectors = d.sectors :=
  Dev.tally_frame (·.sectors) Dev.setF_sectors (fun _ _ => rfl) ..
@[simp] theorem Dev.tally_lbk (d : Dev) (code unit_ n : Nat) : (d.tally code unit_ n).lbk = d.lbk :=
  Dev.tally_frame (·.lbk) Dev.setF_lbk (fun _ _ => rfl) ..
@[simp] theorem Dev.tally_blocked (d : Dev) (code unit_ n : Nat) : (d.tally code unit_ n).blocked = d.blocked :=
  Dev.tally_frame (·.blocked) Dev.setF_blocked (fun _ _ => rfl) ..
@[simp] theorem Dev.tally_poison (d : Dev) (code unit_ n : Nat) : (d.tally code unit_ n).poison = d.poison :=
  Dev.tally_frame (·.poison) Dev.setF_poison (fun _ _ => rfl) ..

@[simp] theorem Dev.tally_binnAt (d : Dev) (code unit_ n line : Nat) : (d.tally code unit_ n).binnAt line = d.binnAt line := by
  simp [Dev.binnAt]

@[simp] theorem Dev.tally_poisoned (d : Dev) (code unit_ n line : Nat) : (d.tally code unit_ n).poisoned line = d.poisoned line := by
  simp [Dev.poisoned, Dev.poisonMask]

/-- The Tally counters of a unit below 16 lie from TAL_STAT (0x2408) up to 0x2E40: counting leaves every other register as it was. -/
theorem Dev.tally_reg {unit_ off : Nat} (hu : unit_ < 16) (hoff : off < 0x2408 ∨ 0x2E40 ≤ off) (d : Dev) (code n : Nat) :
    (d.tally code unit_ n).reg off = d.reg off :=
  Dev.tally_keep (·.reg off) (fun _ i _ hi => Dev.reg_setReg_ne (by simp only [TAL_CNT.COUNT]; omega) _)
    (fun _ _ => Dev.reg_setReg_ne (by simp only [TAL_STAT.OVF]; omega) _) (fun _ _ => rfl) d code n

/-- The serving Point of a home is one of the sixteen. -/
theorem Dev.serving_lt (d : Dev) (h : Nat) : d.serving h < 16 := Nat.mod_lt _ (show 0 < 2 ^ 4 by decide)

section
variable {unit_ : Nat} (hu : unit_ < 16) (d : Dev) (code n : Nat)
include hu

theorem Dev.tally_f {F : Fld} (hoff : F.off < 0x2408 ∨ 0x2E40 ≤ F.off) : (d.tally code unit_ n).f F = d.f F := by
  simp [Dev.f, Dev.tally_reg hu hoff]

theorem Dev.tally_serving (h : Nat) : (d.tally code unit_ n).serving h = d.serving h :=
  Dev.tally_f hu d code n (.inr (show 0x2E40 ≤ 0x3000 by decide))

theorem Dev.tally_hove (h : Nat) : (d.tally code unit_ n).hove h = d.hove h := by
  simp [Dev.hove, Dev.tally_f hu d code n (F := SAF_SCOPE.HOMES) (.inl (by decide))]

end

/-! ### Requests that arrive on a credit (R26, R71) -/

/-- The device with other credits of its heads and other idle times. -/
def Dev.arrived (d : Dev) (hs : List Head) (w : Watch) : Dev := { d with heads := hs, wch := w }

/-- So a request that arrives on a credit finds the device. -/
theorem Dev.creditFor_touch {d e : Dev} {p : Nat} {wr : Bool} (h : d.creditFor p wr = some e) : ∃ hs w, e.touch = d.arrived hs w := by
  simp only [Dev.creditFor, Option.ite_none_left_eq_some, Option.some.injEq] at h
  obtain ⟨-, -, rfl⟩ := h
  exact ⟨_, _, rfl⟩

/-- Where a command completes, what it leaves may be named by an equal device. -/
theorem Runs.congr {c : Instr} {d t t' : Dev} (h : Runs c d t) (ht : t = t') : Runs c d t' := ht ▸ h

section
variable {d e : Dev} {p tag a : Nat} (hp : p < 2) (ht : tag < 65536) (ha : a < 2 ^ 48)
include hp ht ha

/-- The operands of a port's request are in their ranges. -/
theorem portOperands_ok : (decide (p < 2) && decide (tag < 65536) && decide (a < 2 ^ 48)) = true := by
  simp only [hp, ht, ha, decide_true, Bool.and_self]

/-- MEM_RD on a credit is the request at its home. -/
theorem runs_memRd (hc : d.creditFor p false = some e) (ev : RdEnv) : Runs (.memRd p tag a ev) d (e.touch.memReadReq p tag a ev) := by
  intro q
  show execMemRd p tag a ev ⟨q, d⟩ = _
  simp only [execMemRd, okMemRd, portOperands_ok hp ht ha, act_ok, Dev.request_credit hc]

/-- MEM_RD_DATA on a credit is the request at its home. -/
theorem runs_memRdData (hc : d.creditFor p false = some e) (ev : RdEnv) : Runs (.memRdData p tag a ev) d (e.touch.memReadReq p tag a ev) := by
  intro q
  show execMemRdData p tag a ev ⟨q, d⟩ = _
  simp only [execMemRdData, okMemRdData, portOperands_ok hp ht ha, act_ok, Dev.request_credit hc]

/-- MEM_WR on a credit is the request at its home. -/
theorem runs_memWr (hc : d.creditFor p true = some e) (data : Line) (poison bad : Bool) :
    Runs (.memWr p tag a data poison bad) d
      (e.touch.memWrite p tag a data fullMask poison bad ⟨[], false, false, false⟩ (entryCheck (a / 64) data fullMask)) := by
  intro q
  show execMemWr p tag a data poison bad ⟨q, d⟩ = _
  simp only [execMemWr, okMemWr, portOperands_ok hp ht ha, act_ok, Dev.request_credit hc]

/-- MEM_WR_PTL on a credit is the request at its home. -/
theorem runs_memWrPtl (hc : d.creditFor p true = some e) (data : Line) (mask : Mask) (poison bad : Bool) (ev : RdEnv) :
    Runs (.memWrPtl p tag a data mask poison bad ev) d
      (e.touch.memWrite p tag a data mask poison bad ev (entryCheck (a / 64) data mask)) := by
  intro q
  show execMemWrPtl p tag a data mask poison bad ev ⟨q, d⟩ = _
  simp only [execMemWrPtl, okMemWrPtl, portOperands_ok hp ht ha, act_ok, Dev.request_credit hc]

/-- CONSUMER_READ of a port that is ready, at an offset of its window, is the same request as a read. -/
theorem runs_consumerRead (hr : d.portReady p = true) (ho : (d.apOff a).any (fun o => decide (0x81000 ≤ o)) = true) (ev : RdEnv) :
    Runs (.consumerRead p tag a ev) d (d.touch.memReadReq p tag a ev) := by
  intro q
  show execConsumerRead p tag a ev ⟨q, d⟩ = _
  simp only [execConsumerRead, okConsumerRead, portOperands_ok hp ht ha, act_ok, hr, ho, Bool.and_self, if_true]

/-- PRODUCER_WINDOW_READ of a port that is ready, at an offset of its window, is the same request as a read. -/
theorem runs_producerWindowRead (hr : d.portReady p = true)
    (ho : (d.apOff a).any (fun o => decide (0x1000 ≤ o) && decide (o < 0x80000)) = true) :
    Runs (.producerWindowRead p tag a) d (d.touch.memReadReq p tag a ⟨[], false, false, false⟩) := by
  intro q
  show execProducerWindowRead p tag a ⟨q, d⟩ = _
  simp only [execProducerWindowRead, okProducerWindowRead, portOperands_ok hp ht ha, act_ok, hr, ho, Bool.and_self, if_true,
    cleanRead]

end

/-! ### Reads (R32, R34, R71, R102, R676) -/

/-- The answer to a port is a message. -/
theorem Dev.answer_port {p : Nat} (hp : p < 2) (d : Dev) (tag : Nat) (x : Option Line) :
    d.answer p tag x = d.send (match x with | some v => .rd p tag v | none => .rdPoison p tag) := if_pos hp

/-- A read from a port that nothing holds back, and that no retrain blocks, is answered with what its region holds. -/
theorem Dev.memReadReq_sent {d : Dev} {p tag a : Nat} {ev : RdEnv} (hp : p < 2) (h : d.mustHold p tag a false = false)
    (hb : (d.memReadNow p a ev).2.blocked = none) :
    d.memReadReq p tag a ev =
      (d.memReadNow p a ev).2.send (match (d.memReadNow p a ev).1 with | some v => .rd p tag v | none => .rdPoison p tag) :=
  (Dev.memReadReq_now h hb).trans (Dev.answer_port hp ..)

/-- A read that waits for the retrain of a die's link goes to the front end, and nothing of it has happened. -/
theorem Dev.memReadReq_waits {d : Dev} {p tag a w : Nat} {ev : RdEnv} (h : d.mustHold p tag a false = false)
    (hb : (d.memReadNow p a ev).2.blocked = some w) :
    d.memReadReq p tag a ev =
      { d with fe := d.fe ++ [(w, ⟨d.serving (d.homeAt a) / 4, p, tag, d.ordTag p tag, a, none, false, false, ev, 0⟩)] } := by
  simp [Dev.memReadReq, h, hb]

/-- Settles O8: a read that is not blocked is answered (`Dev.memReadReq_sent`), a blocked one goes to the front end
(`Dev.memReadReq_waits`). -/
theorem memReads : Obligations.MemReads := by
  intro p tag a ev d e hp ht ha
  refine ⟨fun hc hold => ⟨fun hb => ?_, fun w hb => ?_⟩, fun hr hold hb => ⟨fun ho => ?_, ?_⟩⟩
  · have hsent := Dev.memReadReq_sent hp hold hb
    exact ⟨(runs_memRd hp ht ha hc ev).congr hsent, (runs_memRdData hp ht ha hc ev).congr hsent⟩
  · refine ⟨_, (runs_memRd hp ht ha hc ev).congr (Dev.memReadReq_waits hold hb), ?_⟩
    obtain ⟨hs, x, he⟩ := Dev.creditFor_touch hc
    rw [he]
    exact ⟨rfl, rfl, rfl, rfl⟩
  · exact (runs_consumerRead hp ht ha hr ho ev).congr (Dev.memReadReq_sent hp hold hb)
  · rintro rfl ho
    exact (runs_producerWindowRead hp ht ha hr ho).congr (Dev.memReadReq_sent hp hold hb)

/-- A line that stands in the Binnacle and answers a read by itself is read there: the read is counted, and nothing else changes. -/
theorem Dev.readWindow_binn {d : Dev} {line : Nat} {b : BEntry} {ev : RdEnv} (hue : ev.ue = false) (hh : d.hove (homeOf (64 * line)) = false)
    (hb : d.binnAt line = some b) (hs : b.serves (d.poisoned line) = true) :
    d.readWindow line ev = (some b.data, d.tally 0x0B (d.serving (homeOf (64 * line))) 1) := by
  simp [Dev.readWindow, hue, hh, hb, hs]

/-- So is a read of it from a port, where the line passes its check at delivery. -/
theorem Dev.memReadNow_binn {d : Dev} {p a : Nat} {b : BEntry} {ev : RdEnv} (hue : ev.ue = false) (heg : ev.egress = false)
    (hr : d.region a = .window) (hh : d.hove (homeOf (64 * (a / 64))) = false) (hb : d.binnAt (a / 64) = some b)
    (hs : b.serves (d.poisoned (a / 64)) = true) :
    d.memReadNow p a ev =
      (some b.data, (d.tally 0x09 (d.serving (homeOf a)) 1).tally 0x0B (d.serving (homeOf (64 * (a / 64)))) 1) := by
  have hu := d.serving_lt (homeOf a)
  have hread := Dev.readWindow_binn (d := d.tally 0x09 (d.serving (homeOf a)) 1) (line := a / 64) hue
    (by rw [Dev.tally_hove hu]; exact hh) (by simpa using hb) (by simpa using hs)
  rw [Dev.tally_serving hu] at hread
  simp [Dev.memReadNow, hr, hread, Dev.egress, heg]

/-- Settles O9: the Binnacle's entry answers by itself, so the read counts for the Tally (`Dev.memReadNow_binn`) and sends the entry's bytes. -/
theorem readSeesNewestWrite : Obligations.ReadSeesNewestWrite := by
  intro p tag a d e b hp ht ha hc hblk hold hr hh hb hm hw
  have hs : b.serves (d.poisoned (a / 64)) = true := by
    rcases hw with hw | hw <;> simp [BEntry.serves, hm, hw, fullMask]
  obtain ⟨hds, x, he⟩ := Dev.creditFor_touch hc
  have hnow := Dev.memReadNow_binn (d := d.arrived hds x) (p := p) (ev := ⟨[], false, false, false⟩) rfl rfl hr hh hb hs
  have hsent := Dev.memReadReq_sent (d := d.arrived hds x) (ev := ⟨[], false, false, false⟩) hp hold
    (by rw [hnow]; simpa [Dev.arrived] using hblk)
  have hrun := runs_memRd hp ht ha hc ⟨[], false, false, false⟩
  rw [he, hsent, hnow] at hrun
  exact ⟨_, hrun, by simp [Dev.send, Dev.arrived]⟩

/-! ### Writes (R9, R10, R30, R136, R676) -/

/-- A write of the window that is not held, and that no retrain blocks, is accepted. -/
theorem Dev.memWrite_accepted {d : Dev} {p tag a chk : Nat} {data : Line} {mask : Mask} {poison bad : Bool} {ev : RdEnv}
    (h : d.mustHold p tag a true = false) (hr : d.region a = .window)
    (hb : (d.acceptWrite p tag a data mask poison bad ev chk).blocked = none) :
    d.memWrite p tag a data mask poison bad ev chk = d.acceptWrite p tag a data mask poison bad ev chk := by
  simp [Dev.memWrite, h, hr, hb]

/-- One whose merge read waits for the retrain of a die's link goes to the front end, and nothing of it has happened. -/
theorem Dev.memWrite_waits {d : Dev} {p tag a chk n : Nat} {data : Line} {mask : Mask} {poison bad : Bool} {ev : RdEnv}
    (h : d.mustHold p tag a true = false) (hr : d.region a = .window)
    (hb : (d.acceptWrite p tag a data mask poison bad ev chk).blocked = some n) :
    d.memWrite p tag a data mask poison bad ev chk =
      { d with fe := d.fe ++ [(n, ⟨d.serving (homeOf a) / 4, p, tag, d.ordTag p tag, a, some (data, mask), poison, bad, ev, chk⟩)] } := by
  simp [Dev.memWrite, h, hr, hb]

/-- Settles O10: a write that is not blocked is accepted (`Dev.memWrite_accepted`), a blocked one goes to the front end
(`Dev.memWrite_waits`). -/
theorem memWrites : Obligations.MemWrites := by
  intro p tag a data mask poison bad ev d e hp ht ha hc hold hr
  obtain ⟨hs, x, he⟩ := Dev.creditFor_touch hc
  have hwin : e.touch.region a = .window := by rw [he]; exact hr
  refine ⟨fun hb => ?_, fun hb => ?_, fun n hb => ?_⟩
  · exact (runs_memWr hp ht ha hc data poison bad).congr (Dev.memWrite_accepted hold hwin hb)
  · exact (runs_memWrPtl hp ht ha hc data mask poison bad ev).congr (Dev.memWrite_accepted hold hwin hb)
  · refine ⟨_, (runs_memWrPtl hp ht ha hc data mask poison bad ev).congr (Dev.memWrite_waits hold hwin hb), ?_⟩
    rw [he]
    exact ⟨rfl, rfl, rfl, rfl⟩

/-! ### A sound full-line write with HOLDUP (R9, R136) -/

/-- A full mask enables every byte. -/
theorem maskBits_fullMask : maskBits fullMask 64 = 2 ^ 512 - 1 := by decide +kernel

/-- A merge under a full mask takes every byte of the new line. -/
@[simp] theorem mergeLine_fullMask (old new : Line) : mergeLine old new fullMask = new := by
  have hk : BitVec.ofNat 512 (2 ^ 512 - 1) = BitVec.allOnes 512 := by decide +kernel
  simp only [mergeLine, maskBits_fullMask, hk, BitVec.not_allOnes, BitVec.and_zero, BitVec.zero_or, BitVec.and_allOnes]

/-- The entry check of a full-line write is the line check of its bytes. -/
@[simp] theorem entryCheck_fullMask (line : Nat) (data : Line) : entryCheck line data fullMask = lineCheck data (termDev line) := by
  simp [entryCheck]

/-- The Binnacle entry that a full-line write makes of a line that had none. -/
def BEntry.fresh (line csn now chk : Nat) (data : Line) : BEntry :=
  { line := line, data := data, mask := fullMask, csn := csn, st := .pending, since := now, check := chk, first := csn, whole := true }

/-- The device with one more Binnacle entry, and with other homes and Pilot caches. -/
def Dev.entered (d : Dev) (b : BEntry) (hs : List Home) (pl : List (Nat × PilotLine)) : Dev :=
  { d with binn := d.binn ++ [b], homes := hs, pilot := pl }

section
variable {d : Dev} {b : BEntry} {hs : List Home} {pl : List (Nat × PilotLine)}

@[simp] theorem Dev.entered_mHoldup : (d.entered b hs pl).mHoldup = d.mHoldup := rfl

/-- A line that had no entry has the one entered. -/
theorem Dev.entered_binnAt_same (h : d.binnAt b.line = none) : (d.entered b hs pl).binnAt b.line = some b := by
  unfold Dev.binnAt at h
  simp [Dev.entered, Dev.binnAt, List.find?_append, h]

/-- Every other line has the entry that it had. -/
theorem Dev.entered_binnAt_ne {l : Nat} (h : l ≠ b.line) : (d.entered b hs pl).binnAt l = d.binnAt l := by
  simp [Dev.entered, Dev.binnAt, List.find?_append, h.symm]

end

/-- The state of a slice's write credits is that of its home. -/
theorem Dev.credits_homes (d : Dev) (h : Nat) : ∃ hs, d.credits h = { d with homes := hs } := by
  unfold Dev.credits
  dsimp only
  split
  · exact ⟨_, rfl⟩
  · split <;> exact ⟨_, rfl⟩

/-- A full-line write to a line that nothing stands against enters the Binnacle as a new entry. -/
theorem Dev.binnWrite_fresh {d : Dev} {line : Nat} (hb : d.binnAt line = none) (csn : Nat) (data : Line) (chk : Nat) :
    ∃ hs, d.binnWrite line csn data fullMask chk = d.entered (BEntry.fresh line csn d.time chk data) hs d.pilot := by
  obtain ⟨hs, h⟩ := Dev.credits_homes { d with binn := d.binn ++ [BEntry.fresh line csn d.time chk data] } (homeOf (64 * line))
  refine ⟨hs, ?_⟩
  simp only [Dev.binnWrite, hb, mergeLine_fullMask, beq_self_eq_true]
  exact h

@[simp] theorem Dev.clearRsv_reg (d : Dev) (line off : Nat) : (d.clearRsv line).reg off = d.reg off := rfl

/-- Taking a CSN changes no register but the Tally's. -/
theorem Dev.takeCsn_reg {off : Nat} (hoff : off < 0x2408 ∨ 0x2E40 ≤ off) (d : Dev) : d.takeCsn.reg off = d.reg off :=
  Dev.tally_reg (unit_ := 0) (by decide) hoff d 0x81 1

/-- The device after a write to a line took its CSN (R30) and ended the reservations of its granule (R424). -/
def Dev.accepting (d : Dev) (line : Nat) : Dev :=
  ((d.takeCsn.modHm (homeOf (64 * line)) (fun x => { x with
      newest := d.nextCsn, accepted := if d.mHoldup then x.accepted else x.accepted ++ [d.nextCsn] })).tally 0x0A
    (d.serving (homeOf (64 * line))) 1).clearRsv line

section
variable (d : Dev) (line : Nat)

@[simp] theorem Dev.accepting_out : (d.accepting line).out = d.out := by simp [Dev.accepting, Dev.clearRsv, Dev.takeCsn]
@[simp] theorem Dev.accepting_time : (d.accepting line).time = d.time := by simp [Dev.accepting, Dev.clearRsv, Dev.takeCsn]
@[simp] theorem Dev.accepting_nextCsn : (d.accepting line).nextCsn = d.nextCsn + 1 := by simp [Dev.accepting, Dev.clearRsv, Dev.takeCsn]
@[simp] theorem Dev.accepting_binn : (d.accepting line).binn = d.binn := by simp [Dev.accepting, Dev.clearRsv, Dev.takeCsn]
@[simp] theorem Dev.accepting_sectors : (d.accepting line).sectors = d.sectors := by simp [Dev.accepting, Dev.clearRsv, Dev.takeCsn]
@[simp] theorem Dev.accepting_lbk : (d.accepting line).lbk = d.lbk := by simp [Dev.accepting, Dev.clearRsv, Dev.takeCsn]
@[simp] theorem Dev.accepting_blocked : (d.accepting line).blocked = d.blocked := by simp [Dev.accepting, Dev.clearRsv, Dev.takeCsn]
@[simp] theorem Dev.accepting_binnAt (l : Nat) : (d.accepting line).binnAt l = d.binnAt l := by simp [Dev.binnAt]

/-- Registers outside the Tally's stay as they were. -/
theorem Dev.accepting_reg {off : Nat} (hoff : off < 0x2408 ∨ 0x2E40 ≤ off) : (d.accepting line).reg off = d.reg off := by
  rw [Dev.accepting, Dev.clearRsv_reg, Dev.tally_reg (d.serving_lt _) hoff, Dev.modHm_reg, Dev.takeCsn_reg hoff]

theorem Dev.accepting_f {F : Fld} (hoff : F.off < 0x2408 ∨ 0x2E40 ≤ F.off) : (d.accepting line).f F = d.f F := by
  simp [Dev.f, Dev.accepting_reg d line hoff]

@[simp] theorem Dev.accepting_hove (h : Nat) : (d.accepting line).hove h = d.hove h := by
  simp [Dev.hove, Dev.accepting_f d line (F := SAF_SCOPE.HOMES) (.inl (by decide))]

@[simp] theorem Dev.accepting_mHoldup : (d.accepting line).mHoldup = d.mHoldup := by
  simp [Dev.mHoldup, Dev.mode, Dev.accepting_reg d line (off := 0x104) (.inl (by decide))]

end

/-- While a line stands with every byte in the Binnacle, a write of it changes of the rest the Pilot caches alone. -/
theorem Dev.pilotWrite_entered {d : Dev} {b : BEntry} (hb : d.binnAt b.line = none) (hm : b.mask = fullMask) (hs : List Home)
    (pl : List (Nat × PilotLine)) (data : Line) (mask : Mask) (ev : RdEnv) :
    ∃ l, (d.entered b hs pl).pilotWrite b.line data mask ev = d.entered b hs l := by
  have hat := Dev.entered_binnAt_same (hs := hs) (pl := pl) hb
  unfold Dev.pilotWrite
  split
  · exact ⟨_, rfl⟩
  · split
    · exact ⟨pl, rfl⟩
    · simp only [Dev.wholeLine, hat, hm, if_true]
      exact ⟨_, rfl⟩

/-- A write of every byte of a poisoned line is no partial write of it. -/
@[simp] theorem Dev.partialPoison_fullMask (d : Dev) (line : Nat) : d.partialPoison line fullMask = d := by
  simp [Dev.partialPoison, fullMask]

/-- A device with spare and without BERTH_LOW refuses no write for space. -/
theorem Dev.needsSpace_open {d : Dev} (hlow : d.f WLV_CAP.BERTH_LOW = 0) (hst : d.f WLV_CAP.STATE = 0) (pg : Nat) :
    d.needsSpace pg = (false, d) := by
  simp [Dev.needsSpace, Dev.on, hlow, hst]

/-- The CSN, the home's slice and the reservations of a write that is accepted. -/
theorem Dev.accepting_eq (d : Dev) (line : Nat) :
    ((d.takeCsn.modHm (homeOf (64 * line)) (fun x => { x with
      newest := d.nextCsn, accepted := if d.mHoldup then x.accepted else x.accepted ++ [d.nextCsn] })).tally 0x0A
    (d.serving (homeOf (64 * line))) 1).clearRsv line = d.accepting line := rfl

theorem Dev.send_binnAt (d : Dev) (m : Msg) (line : Nat) : (d.send m).binnAt line = d.binnAt line := rfl

/-- The completion of a port's write is a message. -/
theorem Dev.complete_port {p : Nat} (hp : p < 2) (d : Dev) (tag : Nat) : d.complete p tag = d.send (.wrDone p tag) := if_pos hp

/-- With HOLDUP, a sound full-line write that is refused nothing takes its CSN, enters the Binnacle and completes (R9). -/
theorem Dev.acceptWrite_holdup {d : Dev} {a : Nat} (hh : d.hove (homeOf (64 * (a / 64))) = false) (hm : d.mHoldup = true)
    (hlow : d.f WLV_CAP.BERTH_LOW = 0) (hst : d.f WLV_CAP.STATE = 0) (hb : d.binnAt (a / 64) = none) (p tag : Nat) (data : Line) (ev : RdEnv)
    (chk : Nat) :
    ∃ hs pl, d.acceptWrite p tag a data fullMask false false ev chk =
      ((d.accepting (a / 64)).entered (BEntry.fresh (a / 64) d.nextCsn d.time chk data) hs pl).complete p tag := by
  have hnone : (d.accepting (a / 64)).binnAt (a / 64) = none := (Dev.accepting_binnAt ..).trans hb
  have hspace : (d.accepting (a / 64)).needsSpace (a / 64 / 64) = (false, d.accepting (a / 64)) :=
    Dev.needsSpace_open ((Dev.accepting_f d _ (.inr (by decide))).trans hlow) ((Dev.accepting_f d _ (.inr (by decide))).trans hst) _
  obtain ⟨hs, hbinn⟩ := Dev.binnWrite_fresh hnone d.nextCsn data chk
  obtain ⟨pl, hpil⟩ : ∃ pl, ((d.accepting (a / 64)).binnWrite (a / 64) d.nextCsn data fullMask chk).pilotWrite (a / 64) data fullMask ev =
      (d.accepting (a / 64)).entered (BEntry.fresh (a / 64) d.nextCsn d.time chk data) hs pl := by
    rw [hbinn, Dev.accepting_time]
    exact Dev.pilotWrite_entered hnone rfl ..
  refine ⟨hs, pl, ?_⟩
  simp only [Dev.acceptWrite, Dev.accepting_eq, Dev.partialPoison_fullMask, Dev.accepting_hove, hh, hspace, hpil]
  simp only [Dev.entered_mHoldup, Dev.accepting_mHoldup, hm, Bool.false_eq_true, if_false, if_true]

/-- Settles O11: the write is accepted as `Dev.acceptWrite_holdup` says; the rest is what the entry, the CSN and the completion leave as it
was. -/
theorem holdupWriteCompletes : Obligations.HoldupWriteCompletes := by
  intro p tag a data d e hp ht ha hc hblk hold hr hh hm hlow hst hb
  obtain ⟨hds, x, he⟩ := Dev.creditFor_touch hc
  obtain ⟨hs, pl, hacc⟩ := Dev.acceptWrite_holdup (d := d.arrived hds x) hh hm hlow hst hb p tag data
    ⟨[], false, false, false⟩ (entryCheck (a / 64) data fullMask)
  rw [Dev.complete_port hp] at hacc
  have hwr := Dev.memWrite_accepted (d := d.arrived hds x) (p := p) (tag := tag) hold hr
    (by rw [hacc]; simpa [Dev.entered, Dev.arrived] using hblk)
  have hrun := runs_memWr hp ht ha hc data false false
  rw [he, hwr, hacc, entryCheck_fullMask] at hrun
  have hnone : ((d.arrived hds x).accepting (a / 64)).binnAt (a / 64) = none := (Dev.accepting_binnAt ..).trans hb
  refine ⟨_, hrun, ?_, ?_, (Dev.send_binnAt ..).trans (Dev.entered_binnAt_same hnone),
    fun l hl => (Dev.send_binnAt ..).trans ((Dev.entered_binnAt_ne hl).trans (Dev.accepting_binnAt ..)), ?_, ?_⟩ <;>
    simp [Dev.send, Dev.entered, Dev.arrived]

end Sys2Proof.Machine

/-! Requests that are not served on arrival (chapter 01): held requests, requests without a credit, unsupported opcodes and Global
Persistent Flush; and the adopter of a dead Point (chapter 02). -/

namespace Sys2Proof.Machine

/-! ### Held requests (R34, R71, R72) -/

@[simp] theorem Dev.tally_hold (d : Dev) (code unit_ n : Nat) : (d.tally code unit_ n).hold = d.hold :=
  Dev.tally_frame (·.hold) Dev.setF_hold (fun _ _ => rfl) ..

/-- The hold buffer that takes a request: its own quadrant's, or, where R34 alone holds it, that of the write that it follows (R72). -/
def Dev.HoldQuad (d : Dev) (p tag a q : Nat) : Prop :=
  (d.mustHold p tag a false = true → q = d.serving (d.homeAt a) / 4) ∧
    (d.mustHold p tag a false = false → ∃ r, d.aheadOf p tag = some r ∧ q = r.quad)

section
variable {d : Dev} {p tag a : Nat}

/-- A request that is held stands behind those held before it, and no message is sent. -/
theorem Dev.holdReq_appends {q : Nat} (hq : d.HoldQuad p tag a q) (wr : Option (BitVec 512 × BitVec 64)) (poison bad : Bool) (ev : RdEnv)
    (chk : Nat) :
    (d.holdReq p tag a wr poison bad ev chk).hold = d.hold ++ [⟨q, p, tag, d.ordTag p tag, a, wr, poison, bad, ev, chk⟩] ∧
      (d.holdReq p tag a wr poison bad ev chk).out = d.out := by
  obtain ⟨hown, hahead⟩ := hq
  cases hm : d.mustHold p tag a false with
  | true => simp [Dev.holdReq, hm, hown hm]
  | false =>
    obtain ⟨r, hr, rfl⟩ := hahead hm
    simp [Dev.holdReq, hm, hr]

/-- A read that must be held is held. -/
theorem Dev.memReadReq_held (h : d.mustHold p tag a false = true) (ev : RdEnv) :
    d.memReadReq p tag a ev = d.holdReq p tag a none false false ev 0 := by
  simp [Dev.memReadReq, h]

/-- A write that must be held is held. -/
theorem Dev.memWrite_held (h : d.mustHold p tag a true = true) (data : Line) (mask : Mask) (poison bad : Bool) (ev : RdEnv)
    (chk : Nat) :
    d.memWrite p tag a data mask poison bad ev chk = d.holdReq p tag a (some (data, mask)) poison bad ev chk := by
  simp [Dev.memWrite, h]

end

/-! ### Requests without a credit (R26, R138) -/

/-- A request without a credit waits at its sender. -/
theorem Dev.request_noCredit {d : Dev} {p : Nat} {wr : Bool} (h : d.creditFor p wr = none) (f : Dev → Dev) : d.request p wr f = d := by
  simp [Dev.request, h]

/-- A command whose operands are in their ranges, and that is a request of a port, is that request. -/
theorem runs_request {c : Instr} {d : Dev} {ok wr : Bool} {p : Nat} {f : Dev → Dev}
    (hc : ∀ q, exec c ⟨q, d⟩ = act ok ⟨q, d⟩ (fun d => d.request p wr f)) (hok : ok = true) : Runs c d (d.request p wr f) := by
  intro q
  rw [hc, hok, act_ok]

/-! ### Unsupported opcodes and Global Persistent Flush (R19, R20, R294) -/

/-- An unsupported opcode on a credit is completed, and nothing else. -/
theorem runs_unsupportedM2sOpcode {d e : Dev} {p tag op a : Nat} (hw : (Instr.unsupportedM2sOpcode p tag op a).wf = true)
    (hc : d.creditFor p false = some e) : Runs (.unsupportedM2sOpcode p tag op a) d (e.touch.send (.otherDone p tag op)) :=
  (runs_request (fun _ => rfl) hw).congr (Dev.request_credit hc _)

/-- GLOBAL_PERSISTENT_FLUSH of a port that is ready waits for the writes up to the present CSN; a held write makes the shutdown dirty
first. -/
theorem runs_globalPersistentFlush {d e : Dev} {p : Nat} (hp : p < 2) (hr : d.portReady p = true)
    (he : e = if d.hold.any (fun r => r.wr.isSome) then d.dirtyShutdown else d) :
    Runs (.globalPersistentFlush p) d ({ e.touch with gpf := e.gpf ++ [(p, e.csn)] } : Dev).gpfSettle := by
  subst he
  intro q
  show execGlobalPersistentFlush p ⟨q, d⟩ = _
  have hok : okGlobalPersistentFlush p = true := decide_eq_true hp
  simp only [execGlobalPersistentFlush, hok, act_ok, hr, Bool.not_true, Bool.false_eq_true, if_false]

/-- Settles O12: a request that must be held goes to its hold buffer (`Dev.holdReq_appends`), one without a credit changes nothing
(`Dev.request_noCredit`), and an unsupported opcode and a Global Persistent Flush run as their own lemmas say. -/
theorem otherMemRequests : Obligations.OtherMemRequests := by
  refine ⟨?_, fun p tag op a d e hw hc => runs_unsupportedM2sOpcode hw hc, fun p d hp hr => ⟨fun hh => ?_, fun hh => ?_⟩⟩
  · intro p tag a data poison bad ev d e hp ht ha
    have hok := portOperands_ok hp ht ha
    refine ⟨fun hc hold => ?read, fun hc hold q hown hahead => ?write, fun hc => ?readNoCredit, fun hc => ?writeNoCredit⟩
    case read =>
      obtain ⟨hs, w, he⟩ := Dev.creditFor_touch hc
      have hq : (d.arrived hs w).HoldQuad p tag a (d.serving (d.homeAt a) / 4) :=
        ⟨fun _ => rfl, fun h => absurd (hold.symm.trans h) (by decide)⟩
      have hheld := Dev.memReadReq_held (d := d.arrived hs w) hold ev
      exact ⟨_, (runs_memRd hp ht ha hc ev).congr (he ▸ hheld), Dev.holdReq_appends hq ..⟩
    case write =>
      obtain ⟨hs, w, he⟩ := Dev.creditFor_touch hc
      have hq : (d.arrived hs w).HoldQuad p tag a q := ⟨hown, hahead⟩
      have hheld := Dev.memWrite_held (d := d.arrived hs w) hold data fullMask poison bad ⟨[], false, false, false⟩
        (entryCheck (a / 64) data fullMask)
      exact ⟨_, (runs_memWr hp ht ha hc data poison bad).congr (he ▸ hheld), Dev.holdReq_appends hq ..⟩
    case readNoCredit =>
      have hstay := Dev.request_noCredit hc fun d => d.memReadReq p tag a ev
      exact ⟨(runs_request (fun _ => rfl) hok).congr hstay, (runs_request (fun _ => rfl) hok).congr hstay⟩
    case writeNoCredit => exact (runs_request (fun _ => rfl) hok).congr (Dev.request_noCredit hc _)
  · exact runs_globalPersistentFlush hp hr (by rw [hh]; rfl)
  · exact runs_globalPersistentFlush hp hr (by rw [hh]; rfl)

/-! ### The adopter of a dead Point (R70) -/

/-- The Point that comes `k` places after Point `n` in its quadrant. -/
def quadNext (n k : Nat) : Nat := 4 * (n / 4) + (n + k) % 4

/-- It is a Point of the same quadrant. -/
theorem quadNext_div (n k : Nat) : quadNext n k / 4 = n / 4 := by
  unfold quadNext; omega

/-- One to three places on, it is another Point. -/
theorem quadNext_ne {n k : Nat} (h1 : 1 ≤ k) (h3 : k ≤ 3) : quadNext n k ≠ n := by
  unfold quadNext; omega

/-- The adopter is the first live Point of the three that follow. -/
theorem Dev.adopter_eq (d : Dev) (n : Nat) : d.adopter n = [quadNext n 1, quadNext n 2, quadNext n 3].find? d.live := rfl

/-- So it is one of them. -/
theorem Dev.adopter_some {d : Dev} {n a : Nat} (h : d.adopter n = some a) : ∃ k, 1 ≤ k ∧ k ≤ 3 ∧ a = quadNext n k := by
  have hmem := List.mem_of_find?_eq_some (d.adopter_eq n ▸ h)
  simp only [List.mem_cons, List.not_mem_nil, or_false] at hmem
  obtain rfl | rfl | rfl := hmem
  · exact ⟨1, by decide, by decide, rfl⟩
  · exact ⟨2, by decide, by decide, rfl⟩
  · exact ⟨3, by decide, by decide, rfl⟩

/-- Settles O56: the search tries the three Points in order (`Dev.adopter_eq`), and each is another one of the quadrant. -/
theorem adopterOrder : Obligations.AdopterOrder := by
  intro n d hn
  refine ⟨fun h1 => ?_, fun h1 h2 => ?_, fun h1 h2 h3 => ?_, fun h1 h2 h3 => ?_, fun a ha => ?_⟩
  · exact List.find?_cons_of_pos h1
  · exact (List.find?_cons_of_neg (by simp [h1])).trans (List.find?_cons_of_pos h2)
  · simp [Dev.adopter_eq, quadNext, h1, h2, h3]
  · simp [Dev.adopter_eq, quadNext, h1, h2, h3]
  · obtain ⟨k, hk1, hk3, rfl⟩ := Dev.adopter_some ha
    have hquad := quadNext_div n k
    exact ⟨quadNext_ne hk1 hk3, hquad, by omega⟩

end Sys2Proof.Machine

/-! The wear of a live Point (chapters 03, 05 and 06): its clears, collection, levelling, pools and stuck cells, each with the condition under
which it acts and the conditions under which it leaves the device as it is. -/

namespace Sys2Proof.Machine

/-- A command that is an effect `f` on the device, with its operands in their ranges, completes with what `f` gives. -/
theorem Runs.of_act {c : Instr} {d t : Dev} {ok : Bool} {f : Dev → Dev} (hc : ∀ s, exec c s = act ok s f) (hok : ok = true)
    (ht : f d = t) : Runs c d t := by
  intro q
  rw [hc, hok, act_ok, ht]

section
variable {d : Dev} {n : Nat}

/-! ### Clears (R57, R89 to R91, R178) -/

section
variable (hn : n < 16)
include hn

/-- A live Point on which no segment clears starts the clear of its oldest DIRTY segment (R57, R178). -/
theorem runs_clearSchedule_starts {sg : Nat} (hlive : d.live n = true) (hclear : d.noClear = false)
    (hnone : d.countListed n (fun _ x => x.state == 1) = 0) (hold : d.oldestDirty n = some sg) :
    Runs (.clearSchedule n) d ((d.startClear sg).queueTask n { kind := 4, arg := sg }) :=
  .of_act (fun s => (rfl : execClearSchedule n s = _)) (decide_eq_true hn) (by simp [hlive, hclear, hnone, hold])

/-- No clear starts while clears are off, while a segment clears, or without a DIRTY segment. -/
theorem runs_clearSchedule_idle
    (h : d.noClear = true ∨ 0 < d.countListed n (fun _ x => x.state == 1) ∨ d.oldestDirty n = none) : Runs (.clearSchedule n) d d :=
  .of_act (fun s => (rfl : execClearSchedule n s = _)) (decide_eq_true hn) (by
    obtain hoff | hbusy | hempty := h
    · simp [hoff]
    · simp [hbusy]
    · simp [hempty])

end

/-- The clear of a segment that is being cleared ends, once its CLEAR record stands (R90). -/
theorem runs_segmentClearDone_ends {sg retired : Nat} (hwf : (Instr.segmentClearDone sg retired).wf = true) (hlive : d.live (sg / 8192) = true)
    (hst : (d.seg sg).state = 1) (hclear : d.noClear = false) (hrec : d.clearWaits sg = false) :
    Runs (.segmentClearDone sg retired) d (d.clearDone sg retired) :=
  .of_act (fun s => (rfl : execSegmentClearDone sg retired s = _)) hwf (if_neg (by simp [hst, hclear, hrec, hlive]))

/-- No clear ends of a segment that does not clear, while clears are off, or whose CLEAR record waits. -/
theorem runs_segmentClearDone_idle {sg retired : Nat} (hwf : (Instr.segmentClearDone sg retired).wf = true)
    (h : (d.seg sg).state ≠ 1 ∨ d.noClear = true ∨ d.clearWaits sg = true) : Runs (.segmentClearDone sg retired) d d :=
  .of_act (fun s => (rfl : execSegmentClearDone sg retired s = _)) hwf (if_pos (by
    obtain hst | hoff | hrec := h
    · simp [hst]
    · simp [hoff]
    · simp [hrec]))

/-! ### Collection and levelling (R177, R196) -/

section
variable (hn : n < 16)
include hn

/-- A live Point that is short of cleared segments collects its victim, if it has one (R177). -/
theorem runs_collectionStart_collects (hlive : d.live n = true) (hshort : d.clearedData n + d.awaiting n < d.f (PNT_CLRPOOL.TARGET n))
    (hfew : d.countListed n (fun _ x => x.state == 7) < 4) :
    Runs (.collectionStart n) d (match d.victim n with | some sg => d.collect sg | none => d) :=
  .of_act (fun s => (rfl : execCollectionStart n s = _)) (decide_eq_true hn) (if_pos (by simp [hlive, hshort, hfew]))

/-- No collection starts with cleared segments enough, or while four segments are collected. -/
theorem runs_collectionStart_idle
    (h : d.f (PNT_CLRPOOL.TARGET n) ≤ d.clearedData n + d.awaiting n ∨ 4 ≤ d.countListed n (fun _ x => x.state == 7)) :
    Runs (.collectionStart n) d d :=
  .of_act (fun s => (rfl : execCollectionStart n s = _)) (decide_eq_true hn) (if_neg (by
    obtain hfull | hbusy := h
    · simp [hfull.not_gt]
    · simp [hbusy.not_gt]))

/-- Where no levelling runs and the spread of the counts is passed, the STABLE data segment of lowest count is collected (R196). -/
theorem runs_staticLevelling_collects {sg : Nat} (hlive : d.live n = true) (hfree : ∀ g, (d.pt n).staticSeg = some g → (d.seg g).state ≠ 7)
    (hspread : d.f (WLV_ROOT.MIN n) + d.f WLV_CTL.SPREAD < d.f (WLV_ROOT.MAX n))
    (hpick : d.pickSeg false (((d.listedSegs n).filter (fun x => x.2.state = 6 && x.2.pool = 0)).map (·.1)) = some sg) :
    Runs (.staticLevelling n) d (((d.collect sg).cnt WLV_STAT.STATIC).modPt n (fun p => { p with staticSeg := some sg })) :=
  .of_act (fun s => (rfl : execStaticLevelling n s = _)) (decide_eq_true hn) (by
    cases hseg : (d.pt n).staticSeg with
    | none => simp [hlive, hspread, hpick]
    | some g => simp [hfree g hseg, hlive, hspread, hpick])

/-- Within the spread nothing is levelled. -/
theorem runs_staticLevelling_idle (hspread : d.f (WLV_ROOT.MAX n) ≤ d.f (WLV_ROOT.MIN n) + d.f WLV_CTL.SPREAD) :
    Runs (.staticLevelling n) d d :=
  .of_act (fun s => (rfl : execStaticLevelling n s = _)) (decide_eq_true hn) (if_pos (by simp [hspread]))

/-! ### Pools (R183, R197, R199, R207) -/

/-- Where the mean count of the metadata pool passes that of the data pool by more than the spread, and no exchange took place for 10 s, a
segment of each goes to the other (R197). -/
theorem runs_poolWearExchange_exchanges {x y : Nat} (hlive : d.live n = true) (hlast : ∀ t, (d.pt n).exchanged = some t → t + secUnits 10 ≤ d.time)
    (hmeta : (d.poolWear n 1).2 ≠ 0) (hdata : (d.poolWear n 0).2 ≠ 0)
    (hspread : ((d.poolWear n 0).1 + d.f WLV_CTL.SPREAD * (d.poolWear n 0).2) * (d.poolWear n 1).2 < (d.poolWear n 1).1 * (d.poolWear n 0).2)
    (hx : d.pickSeg true ((d.clearedList n 1).filter (fun sg => d.halfOff sg == (false, false))) = some x)
    (hy : d.pickSeg false ((d.clearedList n 0).filter (fun sg => d.halfOff sg == (false, false))) = some y) :
    Runs (.poolWearExchange n) d (((d.setPool x 0).setPool y 1).modPt n (fun p => { p with exchanged := some d.time })) :=
  .of_act (fun s => (rfl : execPoolWearExchange n s = _)) (decide_eq_true hn) (by
    cases ht : (d.pt n).exchanged with
    | none => simp [hlive, hmeta, hdata, hspread, hx, hy]
    | some t => simp [hlast t ht, hlive, hmeta, hdata, hspread, hx, hy])

/-- Within the spread no segments are exchanged. -/
theorem runs_poolWearExchange_idle
    (hspread : (d.poolWear n 1).1 * (d.poolWear n 0).2 ≤ ((d.poolWear n 0).1 + d.f WLV_CTL.SPREAD * (d.poolWear n 0).2) * (d.poolWear n 1).2) :
    Runs (.poolWearExchange n) d d :=
  .of_act (fun s => (rfl : execPoolWearExchange n s = _)) (decide_eq_true hn) (if_pos (by simp [hspread]))

/-- A metadata pool one segment short of its share takes the cleared data segment of lowest count (R183). -/
theorem runs_metadataPoolTopup_one {sg : Nat} (hlive : d.live n = true) (hshort : d.share 4096 n = d.metaPool n + 1)
    (hpick : d.pickSeg false (d.clearedList n 0) = some sg) : Runs (.metadataPoolTopup n) d (d.setPool sg 1) :=
  .of_act (fun s => (rfl : execMetadataPoolTopup n s = _)) (decide_eq_true hn) (by simp [hlive, hshort, hpick])

/-- A metadata pool that has its share takes none. -/
theorem runs_metadataPoolTopup_idle (hfull : d.share 4096 n ≤ d.metaPool n) : Runs (.metadataPoolTopup n) d d :=
  .of_act (fun s => (rfl : execMetadataPoolTopup n s = _)) (decide_eq_true hn) (by simp [Nat.sub_eq_zero_of_le hfull])

/-! ### Stuck cells (R68, R673) -/

/-- An operation that has stood at a sound cell for 50 µs is aborted, and the cell fails. -/
theorem runs_stuckCell_fails {c : Nat} (hc : c < 32) (hsound : (d.pt n).failedCells.contains c = false)
    (hop : ∃ t, t ∈ d.cellOps n c ∧ t + usUnits 50 ≤ d.time) (hdead : d.dead n = false) :
    Runs (.stuckCell n c) d ((d.post { code := 0x014, level := 0, point := n, cell := c }).failCell n c) :=
  .of_act (fun s => (rfl : execStuckCell n c s = _)) (by simp [okStuckCell, hn, hc]) (if_neg (by simpa [hdead] using And.intro hsound hop))

/-- Nothing fails at a cell whose operations have all stood there for less. -/
theorem runs_stuckCell_idle {c : Nat} (hc : c < 32) (hops : ∀ t, t ∈ d.cellOps n c → d.time < t + usUnits 50) : Runs (.stuckCell n c) d d :=
  .of_act (fun s => (rfl : execStuckCell n c s = _)) (by simp [okStuckCell, hn, hc]) (if_pos (by simpa using .inr hops))

end

end

/-- Settles O43: each command of the wear of a live Point runs as its own lemma says, where it acts and where it does not. -/
theorem wear : Obligations.Wear := by
  intro n d hn hlive
  refine ⟨fun sg => runs_clearSchedule_starts hn hlive, runs_clearSchedule_idle hn, ?clearDone, runs_collectionStart_collects hn hlive,
    runs_collectionStart_idle hn, fun sg => runs_staticLevelling_collects hn hlive, runs_staticLevelling_idle hn,
    fun x y => runs_poolWearExchange_exchanges hn hlive, runs_poolWearExchange_idle hn, fun sg => runs_metadataPoolTopup_one hn hlive,
    runs_metadataPoolTopup_idle hn, .of_act (fun s => (rfl : execSpareRecompute s = _)) rfl rfl, .of_act (fun s => (rfl : execBerthLow s = _)) rfl rfl,
    fun c hc => ⟨runs_stuckCell_fails hn hc, runs_stuckCell_idle hn hc⟩⟩
  case clearDone =>
    rintro sg retired hwf rfl
    exact ⟨runs_segmentClearDone_ends hwf hlive, runs_segmentClearDone_idle hwf⟩

end Sys2Proof.Machine

/-! Die links and the death of a Point (chapters 02 and 03): what each command does on a link or a Point in the state that it is for, and that
it leaves the device as it is in any other. -/

namespace Sys2Proof.Machine

section
variable {n : Nat} {d : Dev}

section
variable (hn : n < 16)
include hn

/-! ### Bursts (R99 to R103, R677) -/

section
variable {k : Nat} (h1 : 1 ≤ k) (h4 : k ≤ 4)
include h1 h4

/-- A re-send of a burst has its number in its range. -/
theorem okAckTimeout_of_le : okAckTimeout n k = true := by
  simp [okAckTimeout, hn, h1, h4]

/-- A burst that fails on a link without traffic changes nothing. -/
theorem runs_burstCrcFail_down (hup : d.linkUp n = false) (rd : Bool) : Runs (.burstCrcFail n rd k) d d :=
  .of_act (fun s => (rfl : execBurstCrcFail n rd k s = _)) (okAckTimeout_of_le hn h1 h4) (if_pos (by simp [hup]))

/-- Nor does a missing acknowledgement. -/
theorem runs_ackTimeout_down (hup : d.linkUp n = false) : Runs (.ackTimeout n k) d d :=
  .of_act (fun s => (rfl : execAckTimeout n k s = _)) (okAckTimeout_of_le hn h1 h4) (if_pos (by simp [hup]))

end

section
variable (hup : d.linkUp n = true)
include hup

/-- Each of the first three failures of a burst asks for it again (R100). -/
theorem runs_burstCrcFail_resends {k : Nat} (h1 : 1 ≤ k) (h4 : k < 4) (rd : Bool) : Runs (.burstCrcFail n rd k) d (d.resendFirst n k) :=
  .of_act (fun s => (rfl : execBurstCrcFail n rd k s = _)) (okAckTimeout_of_le hn h1 h4.le) (by simp [hup, h4])

/-- After the third re-send of a burst that is read the link retrains, with cause 1 (R102). -/
theorem runs_burstCrcFail_read : Runs (.burstCrcFail n true 4) d ((d.cnt (PNT_LINKERR.BURST_FAIL n)).needRetrain n 1) :=
  .of_act (fun s => (rfl : execBurstCrcFail n true 4 s = _)) (okAckTimeout_of_le hn (by decide) le_rfl) (by simp [hup])

/-- After that of a burst that is programmed it retrains with cause 2, and what the die was to take is placed elsewhere (R103). -/
theorem runs_burstCrcFail_program :
    Runs (.burstCrcFail n false 4) d (((d.cnt (PNT_LINKERR.BURST_FAIL n)).needRetrain n 2).moveOff (fun p => psaPoint p = n) false) :=
  .of_act (fun s => (rfl : execBurstCrcFail n false 4 s = _)) (okAckTimeout_of_le hn (by decide) le_rfl) (by simp [hup])

/-- Each of the first three missing acknowledgements counts, and asks for the burst again (R677). -/
theorem runs_ackTimeout_resends {k : Nat} (h1 : 1 ≤ k) (h4 : k < 4) :
    Runs (.ackTimeout n k) d ((d.cnt (PNT_LINKERR.TIMEOUTS n)).resendFirst n k) :=
  .of_act (fun s => (rfl : execAckTimeout n k s = _)) (okAckTimeout_of_le hn h1 h4.le) (by simp [hup, h4])

/-- After the third re-send the link retrains with cause 3. -/
theorem runs_ackTimeout_retrains :
    Runs (.ackTimeout n 4) d (((d.cnt (PNT_LINKERR.TIMEOUTS n)).cnt (PNT_LINKERR.BURST_FAIL n)).needRetrain n 3) :=
  .of_act (fun s => (rfl : execAckTimeout n 4 s = _)) (okAckTimeout_of_le hn (by decide) le_rfl) (by simp [hup])

end

/-! ### Retraining and training (R104, R105) -/

/-- A quick retrain that ends well brings the link up, and its waiting reads go on (R676). -/
theorem runs_quickRetrainDone_up (hst : d.f (PNT_LINK.STATE n) = 3) :
    Runs (.quickRetrainDone n true) d ((d.setF (PNT_LINK.STATE n) 2).releaseFront n) :=
  .of_act (fun s => (rfl : execQuickRetrainDone n true s = _)) (decide_eq_true hn) (by simp [hst])

/-- One that fails makes the die dead. -/
theorem runs_quickRetrainDone_fails (hst : d.f (PNT_LINK.STATE n) = 3) :
    Runs (.quickRetrainDone n false) d ((d.declareDead n 4).releaseFront n) :=
  .of_act (fun s => (rfl : execQuickRetrainDone n false s = _)) (decide_eq_true hn) (by simp [hst])

/-- Outside a quick retrain none ends. -/
theorem runs_quickRetrainDone_idle (hst : d.f (PNT_LINK.STATE n) ≠ 3) (ok : Bool) : Runs (.quickRetrainDone n ok) d d :=
  .of_act (fun s => (rfl : execQuickRetrainDone n ok s = _)) (decide_eq_true hn) (if_pos (by simp [hst]))

/-- A full training that ends well brings the link up. -/
theorem runs_fullTrainingDone_up (hst : d.f (PNT_LINK.STATE n) = 1) :
    Runs (.fullTrainingDone n true) d ((d.setF (PNT_LINK.STATE n) 2).modPt n (fun p => { p with trainFails := 0 })) :=
  .of_act (fun s => (rfl : execFullTrainingDone n true s = _)) (decide_eq_true hn) (by simp [hst])

/-- A first failure is noted. -/
theorem runs_fullTrainingDone_fails (hst : d.f (PNT_LINK.STATE n) = 1) (hfirst : (d.pt n).trainFails = 0) :
    Runs (.fullTrainingDone n false) d (d.modPt n (fun p => { p with trainFails := 1 })) :=
  .of_act (fun s => (rfl : execFullTrainingDone n false s = _)) (decide_eq_true hn) (by simp [hst, hfirst])

/-- A further one makes the die dead. -/
theorem runs_fullTrainingDone_dies (hst : d.f (PNT_LINK.STATE n) = 1) (hagain : (d.pt n).trainFails ≠ 0) :
    Runs (.fullTrainingDone n false) d (d.declareDead n 5) :=
  .of_act (fun s => (rfl : execFullTrainingDone n false s = _)) (decide_eq_true hn) (by simp [hst, hagain])

/-- Outside a full training none ends. -/
theorem runs_fullTrainingDone_idle (hst : d.f (PNT_LINK.STATE n) ≠ 1) (ok : Bool) : Runs (.fullTrainingDone n ok) d d :=
  .of_act (fun s => (rfl : execFullTrainingDone n ok s = _)) (decide_eq_true hn) (if_pos (by simp [hst]))

/-- A fatal status makes a die dead whose link was trained and that is not dead. -/
theorem runs_dieFatalStatus_dies (hdead : d.dead n = false) (h0 : d.f (PNT_LINK.STATE n) ≠ 0) (h4 : d.f (PNT_LINK.STATE n) ≠ 4) :
    Runs (.dieFatalStatus n) d (d.declareDead n 7) :=
  .of_act (fun s => (rfl : execDieFatalStatus n s = _)) (decide_eq_true hn) (if_neg (by simp [hdead, h0, h4]))

/-- That of a die whose link is dead changes nothing. -/
theorem runs_dieFatalStatus_idle (h4 : d.f (PNT_LINK.STATE n) = 4) : Runs (.dieFatalStatus n) d d :=
  .of_act (fun s => (rfl : execDieFatalStatus n s = _)) (decide_eq_true hn) (if_pos (by simp [h4]))

end

/-- The quick retrain that is due runs on a link that is up. -/
theorem runs_quickRetrain_starts {cause : Nat} (hwf : (Instr.quickRetrain n cause).wf = true) (hst : d.f (PNT_LINK.STATE n) = 2)
    (hdue : (d.pt n).retrainDue = some cause) : Runs (.quickRetrain n cause) d (d.startRetrain n cause) :=
  .of_act (fun s => (rfl : execQuickRetrain n cause s = _)) hwf (if_pos (by simp [hst, hdue]))

/-- One that is not due changes nothing. -/
theorem runs_quickRetrain_notDue {cause : Nat} (hwf : (Instr.quickRetrain n cause).wf = true) (hdue : (d.pt n).retrainDue ≠ some cause) :
    Runs (.quickRetrain n cause) d d :=
  .of_act (fun s => (rfl : execQuickRetrain n cause s = _)) hwf (if_neg (by simp [hdue]))

/-- The ninth quick retrain within a second makes the die dead instead (R105). -/
theorem Dev.needRetrain_ninth (hup : d.linkUp n = true)
    (h8 : 8 ≤ ((d.pt n).retrains.filter (fun t => decide (d.time - t < secUnits 1))).length) (cause : Nat) :
    d.needRetrain n cause = d.declareDead n 6 := by
  simp [Dev.needRetrain, hup, h8]

/-- Any other is noted with its time, and falls due. -/
theorem Dev.needRetrain_due (hup : d.linkUp n = true)
    (h8 : ((d.pt n).retrains.filter (fun t => decide (d.time - t < secUnits 1))).length < 8) (cause : Nat) :
    d.needRetrain n cause = d.modPt n (fun p => { p with
      retrains := (d.pt n).retrains.filter (fun t => decide (d.time - t < secUnits 1)) ++ [d.time], retrainDue := some cause }) := by
  simp [Dev.needRetrain, hup, h8.not_ge]

/-! ### Death of a Point, rehoming, recovery (Table 2.7, R74) -/

/-- A live Point dies of the cause for which its die was declared dead. -/
theorem runs_pointDeath_dies {cause : Nat} (hwf : (Instr.pointDeath n cause).wf = true)
    (h : d.live n = true ∧ d.f (PNT_LINK.STATE n) = 4 ∧ d.f (PNT_LINK.LAST_CAUSE n) = cause) :
    Runs (.pointDeath n cause) d (d.pointDies n) := by
  obtain ⟨hlive, hst, hcause⟩ := h
  exact .of_act (fun s => (rfl : execPointDeath n cause s = _)) hwf (if_neg (by simp [hlive, hst, hcause]))

/-- No other Point dies. -/
theorem runs_pointDeath_idle {cause : Nat} (hwf : (Instr.pointDeath n cause).wf = true)
    (h : ¬ (d.live n = true ∧ d.f (PNT_LINK.STATE n) = 4 ∧ d.f (PNT_LINK.LAST_CAUSE n) = cause)) : Runs (.pointDeath n cause) d d :=
  .of_act (fun s => (rfl : execPointDeath n cause s = _)) hwf (if_pos (by
    by_contra hdies
    exact h (by simpa [and_assoc] using hdies)))

/-- A DYING Point is re-homed, and no other. -/
theorem runs_rehomingComplete (hn : n < 16) (ok : Bool) :
    Runs (.rehomingComplete n ok) d (if d.f (PNT_STAT.STATE n) = 1 then d.rehomed n ok else d) :=
  .of_act (fun s => (rfl : execRehomingComplete n ok s = _)) (decide_eq_true hn) (by
    by_cases hst : d.f (PNT_STAT.STATE n) = 1 <;> simp [hst])

section
variable {pg : Nat} {ev : RdEnv} (hwf : (Instr.deadDieRecovery n pg ev).wf = true)
include hwf

/-- A page of a DEAD Point is rebuilt where no retrain blocks its reads (R676). -/
theorem runs_deadDieRecovery_recovers (hdead : d.dead n = true) (hblk : (d.recoverPage n pg ev).blocked = none) :
    Runs (.deadDieRecovery n pg ev) d (d.recoverPage n pg ev) :=
  .of_act (fun s => (rfl : execDeadDieRecovery n pg ev s = _)) hwf (by simp [hdead, Dev.reading, hblk])

/-- No page is rebuilt of a Point that is not DEAD, or while a retrain blocks its reads. -/
theorem runs_deadDieRecovery_idle (h : d.dead n = false ∨ (d.recoverPage n pg ev).blocked ≠ none) : Runs (.deadDieRecovery n pg ev) d d :=
  .of_act (fun s => (rfl : execDeadDieRecovery n pg ev s = _)) hwf (by
    obtain hdead | hblk := h
    · simp [hdead]
    · simp [Dev.reading, Option.isSome_iff_ne_none.mpr hblk])

end

end

/-- The self-check of a quadrant's crossbar slice is counted, with what it found. -/
def Dev.crossbarChecked (d : Dev) (q : Nat) (ok : Bool) : Dev :=
  d.modQuad q (fun x => { x with checks := satAdd 32 x.checks 1, checkFails := satAdd 32 x.checkFails (b2n !ok) })

/-- The self-check is counted, and where it fails the slice fails (R68). -/
theorem runs_crossbarSelfCheck {q : Nat} (hq : q < 4) (d : Dev) (ok : Bool) :
    Runs (.crossbarSelfCheck q ok) d (if ok then d.crossbarChecked q ok else (d.crossbarChecked q ok).crossbarFail q) :=
  .of_act (fun s => (rfl : execCrossbarSelfCheck q ok s = _)) (decide_eq_true hq) rfl

/-- Settles O45: each command of a die's link and of a Point's death runs as its own lemma says; on a link that is dead, and so neither up
nor in training, none of them acts. -/
theorem linksAndPointDeath : Obligations.LinksAndPointDeath := by
  refine ⟨fun n d hn => ⟨?resends, ?fails, ?retrains, ?quick, ?quickDone, ?training, runs_dieFatalStatus_dies hn, ?dead⟩,
    fun n d hn => ⟨?dies, runs_rehomingComplete hn, ?recovers, ?crossbar⟩⟩
  case resends => exact fun rd k hup h1 h4 => ⟨runs_burstCrcFail_resends hn hup h1 h4 rd, runs_ackTimeout_resends hn hup h1 h4⟩
  case fails => exact fun hup => ⟨runs_burstCrcFail_read hn hup, runs_burstCrcFail_program hn hup, runs_ackTimeout_retrains hn hup⟩
  case retrains => exact fun cause hup => ⟨fun h8 => Dev.needRetrain_ninth hup h8 cause, fun h8 => Dev.needRetrain_due hup h8 cause⟩
  case quick => exact fun cause hwf => ⟨runs_quickRetrain_starts hwf, runs_quickRetrain_notDue hwf⟩
  case quickDone => exact fun hst => ⟨runs_quickRetrainDone_up hn hst, runs_quickRetrainDone_fails hn hst⟩
  case training =>
    exact fun hst => ⟨runs_fullTrainingDone_up hn hst, runs_fullTrainingDone_fails hn hst, runs_fullTrainingDone_dies hn hst⟩
  case dead =>
    intro rd k ok h1 h4 hup hst
    exact ⟨runs_burstCrcFail_down hn h1 h4 hup rd, runs_ackTimeout_down hn h1 h4 hup, runs_quickRetrainDone_idle hn (by omega) ok,
      runs_fullTrainingDone_idle hn (by omega) ok, runs_dieFatalStatus_idle hn hst⟩
  case dies => exact fun cause hwf => ⟨runs_pointDeath_dies hwf, runs_pointDeath_idle hwf⟩
  case recovers => exact fun pg ev hwf => ⟨runs_deadDieRecovery_recovers hwf, runs_deadDieRecovery_idle hwf⟩
  case crossbar => exact fun q hq => ⟨runs_crossbarSelfCheck hq d true, runs_crossbarSelfCheck hq d false⟩

end Sys2Proof.Machine

/-! The drift clock, margins, refresh and lodestones (chapter 04), and checkpoints (chapter 07): each command's effect where its condition
stands, and that it leaves the device as it is where the condition fails. -/

namespace Sys2Proof.Machine

/-! ### A register written with a value of any size -/

/-- A register takes the low 64 bits of what is written. -/
theorem Dev.reg_setReg_mod {d : Dev} (h : regsWf d.regs = true) {off : Nat} (hr : resetVal off < 2 ^ 64) (v : Nat) :
    (d.setReg off v).reg off = v % 2 ^ 64 := by
  have hlow : BitVec.ofNat 64 (v % 2 ^ 64) = BitVec.ofNat 64 v := BitVec.eq_of_toNat_eq (by simp)
  have hset : d.setReg off (v % 2 ^ 64) = d.setReg off v := by simp only [Dev.setReg, hlow]
  rw [← hset, Dev.reg_setReg_same h off _ (Nat.mod_lt _ (by decide)) hr]

/-- DRF_ECLK is 64 bits wide for each of the sixteen dies. -/
theorem resetVal_DRF_ECLK_lt : ∀ n, n < 16 → resetVal (0x3880 + 8 * n) < 2 ^ 64 := by decide +kernel

/-! ### The drift clock at the end of a second (R110, R113, R554) -/

/-- What each die's drift clock grows by for second `k`: AF at the die's temperature over it. -/
def Dev.eclkGrowth (d : Dev) (k : Nat) : List Nat := (List.range 16).map (fun n => accel (d.dieT n k))

theorem Dev.eclkGrowth_getD {n : Nat} (hn : n < 16) (d : Dev) (k : Nat) : (d.eclkGrowth k).getD n 0 = accel (d.dieT n k) := by
  simp [Dev.eclkGrowth, hn]

/-- A second has been counted, and its temperature readings are dropped. -/
def Dev.secondCounted (d : Dev) : Dev := { d with
  wch := { d.wch with eclkSecs := d.wch.eclkSecs + 1 }
  thm := { d.thm with media := d.thm.media.map (fun (x : Sensor) => { x with secSum := 0, secCnt := 0 }) } }

/-- Die `n`'s drift clock grows by its entry of `add`. -/
def Dev.growEclk (add : List Nat) (d : Dev) (n : Nat) : Dev := d.setReg (0x3880 + 8 * n) (d.eclk n + add.getD n 0)

/-- The drift clocks of the first `k` dies grow. -/
def Dev.growEclks (d : Dev) (add : List Nat) (k : Nat) : Dev := (List.range k).foldl (Dev.growEclk add) d

theorem Dev.growEclks_succ (d : Dev) (add : List Nat) (k : Nat) :
    d.growEclks add (k + 1) = Dev.growEclk add (d.growEclks add k) k := by
  simp [Dev.growEclks, List.range_succ]

/-- What no register write touches stands as it was. -/
theorem Dev.growEclks_keep {α : Type} (p : Dev → α) (hp : ∀ e off v, p (Dev.setReg e off v) = p e) (d : Dev) (add : List Nat) (k : Nat) :
    p (d.growEclks add k) = p d :=
  List.foldlRecOn (motive := fun e => p e = p d) _ _ rfl (fun _ he _ _ => (hp ..).trans he)

theorem Dev.growEclks_wf {d : Dev} (h : regsWf d.regs = true) (add : List Nat) (k : Nat) : regsWf (d.growEclks add k).regs = true :=
  List.foldlRecOn (motive := fun e : Dev => regsWf e.regs = true) _ _ h (fun _ he _ _ => Dev.setReg_wf he ..)

/-- The clock of a die whose turn has not come stands as it was. -/
theorem Dev.growEclks_eclk_ge {n k : Nat} (h : k ≤ n) (d : Dev) (add : List Nat) : (d.growEclks add k).eclk n = d.eclk n := by
  induction k with
  | zero => rfl
  | succ k ih =>
    rw [Dev.growEclks_succ, ← ih (by omega)]
    exact Dev.reg_setReg_ne (by omega) _

/-- The clock of each other die has grown once, modulo 2^64. -/
theorem Dev.growEclks_eclk_lt {d : Dev} (hwf : regsWf d.regs = true) (add : List Nat) {n k : Nat} (hn : n < k) (hk : k ≤ 16) :
    (d.growEclks add k).eclk n = (d.eclk n + add.getD n 0) % 2 ^ 64 := by
  induction k with
  | zero => omega
  | succ k ih =>
    rw [Dev.growEclks_succ]
    obtain hlt | rfl := Nat.lt_succ_iff_lt_or_eq.mp hn
    · exact (Dev.reg_setReg_ne (by omega) _).trans (ih hlt (by omega))
    · rw [← Dev.growEclks_eclk_ge le_rfl d add]
      exact Dev.reg_setReg_mod (Dev.growEclks_wf hwf add n) (resetVal_DRF_ECLK_lt n (by omega)) _

/-- Until the sequencer resumes, the growth is held apart (R113). -/
def Dev.growApart (d : Dev) (add : List Nat) : Dev :=
  { d with wch := { d.wch with eclkApart := d.wch.eclkApart.zipIdx.map (fun x => x.1 + add.getD x.2 0) } }

theorem Dev.growApart_getD {d : Dev} {n : Nat} (hn : n < d.wch.eclkApart.length) (add : List Nat) :
    (d.growApart add).wch.eclkApart.getD n 0 = d.wch.eclkApart.getD n 0 + add.getD n 0 := by
  simp [Dev.growApart, hn]

section
variable {d : Dev}

section
variable (hoff : d.phase ≠ .watchOff) (hdorm : d.phase ≠ .dormant) (hend : secUnits (d.wch.eclkSecs + 1) ≤ d.time)
  (hready : d.eclkWaits d.wch.eclkSecs = false)
include hoff hdorm hend hready

/-- A second that has ended and can be evaluated is counted, and the clocks grow: in DRF_ECLK once the sequencer has resumed, apart before. -/
theorem runs_eclkUpdate_grows :
    Runs .eclkUpdate d (if d.seqOn then d.secondCounted.growEclks (d.eclkGrowth d.wch.eclkSecs) 16
      else d.secondCounted.growApart (d.eclkGrowth d.wch.eclkSecs)) :=
  .of_act (fun s => (rfl : execEclkUpdate s = _)) rfl (if_neg (by simp [hoff, hdorm, hend, hready]))

end

/-- No second ends with the Watch domain off, in Dormant, before its time, or while it waits for its readings. -/
theorem runs_eclkUpdate_idle
    (h : d.phase = .watchOff ∨ d.phase = .dormant ∨ d.time < secUnits (d.wch.eclkSecs + 1) ∨ d.eclkWaits d.wch.eclkSecs = true) :
    Runs .eclkUpdate d d :=
  .of_act (fun s => (rfl : execEclkUpdate s = _)) rfl (if_pos (by
    obtain hoff | hdorm | hearly | hwait := h
    · simp [hoff]
    · simp [hdorm]
    · simp [hearly]
    · simp [hwait]))

/-! ### Old segments, margins and refresh (R116, R120, R121) -/

section
variable {sg : Nat} (hwf : (Instr.segmentAgeClose sg).wf = true)
include hwf

/-- The group of an open segment that is 4,096 s old closes. -/
theorem runs_segmentAgeClose_closes
    (h : (d.seg sg).state = 3 ∧ (d.seg sg).holdsData = true ∧ ((d.seg sg).birth + 4096) * 65536 ≤ d.eclk (sg / 8192)) :
    Runs (.segmentAgeClose sg) d (d.groupClose (d.seg sg).group 1 true) :=
  .of_act (fun s => (rfl : execSegmentAgeClose sg s = _)) hwf (if_pos (by simpa [and_assoc] using h))

/-- That of any other segment does not. -/
theorem runs_segmentAgeClose_idle
    (h : ¬ ((d.seg sg).state = 3 ∧ (d.seg sg).holdsData = true ∧ ((d.seg sg).birth + 4096) * 65536 ≤ d.eclk (sg / 8192))) :
    Runs (.segmentAgeClose sg) d d :=
  .of_act (fun s => (rfl : execSegmentAgeClose sg s = _)) hwf (if_neg (by simpa [and_assoc] using h))

end

section
variable {sg : Nat} (hwf : (Instr.refreshQueue sg).wf = true)
include hwf

/-- A stable segment that is due for refresh is collected by a task of its Point, which holds fewer than 8. -/
theorem runs_refreshQueue_queues
    (h : (d.seg sg).refreshDue = true ∧ (d.seg sg).state = 6 ∧ (d.pt (sg / 8192)).tasks.countP (fun t => t.kind == 2) < 8) :
    Runs (.refreshQueue sg) d ((d.setState sg 7).queueTask (sg / 8192) { kind := 2, arg := sg, urgent := (d.seg sg).lowMargin }) :=
  .of_act (fun s => (rfl : execRefreshQueue sg s = _)) hwf (if_pos (by simpa [and_assoc] using h))

/-- No refresh of any other segment is queued, nor a ninth. -/
theorem runs_refreshQueue_idle
    (h : ¬ ((d.seg sg).refreshDue = true ∧ (d.seg sg).state = 6 ∧ (d.pt (sg / 8192)).tasks.countP (fun t => t.kind == 2) < 8)) :
    Runs (.refreshQueue sg) d d :=
  .of_act (fun s => (rfl : execRefreshQueue sg s = _)) hwf (if_neg (by simpa [and_assoc] using h))

end

/-! ### Lodestones (R123 to R126) -/

section
variable {n g : Nat} {els : List Nat} (hwf : (Instr.lodestoneSample n g els).wf = true)
include hwf

/-- A group that is due, on a die that is not gone, is sampled in the next of its segments that hold data. -/
theorem runs_lodestoneSample_samples {sg : Nat} (hdue : d.sampleDue n g = true) (hdie : d.dieGone n = false)
    (hnext : nextFrom (d.groupData n g) (8192 * n + 64 * g + (d.phi (8192 * n + 64 * g)).nextSeg) = some sg) :
    Runs (.lodestoneSample n g els) d (d.sampleLodestone n g sg (d.phi (8192 * n + 64 * g)) els) :=
  .of_act (fun s => (rfl : execLodestoneSample n g els s = _)) hwf (by simp [hnext, hdue, hdie])

/-- No group is sampled that is not due, whose die is gone, or that holds no data. -/
theorem runs_lodestoneSample_idle (h : d.sampleDue n g = false ∨ d.dieGone n = true ∨ d.groupData n g = []) :
    Runs (.lodestoneSample n g els) d d :=
  .of_act (fun s => (rfl : execLodestoneSample n g els s = _)) hwf (by
    dsimp only
    split
    next => rfl
    next sg hnext =>
      refine if_pos ?_
      obtain hdue | hdie | hempty := h
      · simp [hdue]
      · simp [hdie]
      · simp [hempty, nextFrom] at hnext)

end

/-! ### Checkpoints (R232 to R236, R239, R620) -/

section
variable {cause : Nat} (hwf : (Instr.checkpointStart cause).wf = true)
include hwf

/-- Outside Doze a checkpoint is cut for a cause that stands, where a cut can be made. -/
theorem runs_checkpointStart_cuts (hdoze : d.phase ≠ .doze) (hready : d.cutReady = true) (hcause : d.ckptCause cause = true) :
    Runs (.checkpointStart cause) d d.cut :=
  .of_act (fun s => (rfl : execCheckpointStart cause s = _)) hwf (if_pos (by simp [hdoze, hready, hcause]))

/-- None is cut in Doze, where no cut can be made, or without its cause. -/
theorem runs_checkpointStart_idle (h : d.phase = .doze ∨ d.cutReady = false ∨ d.ckptCause cause = false) :
    Runs (.checkpointStart cause) d d :=
  .of_act (fun s => (rfl : execCheckpointStart cause s = _)) hwf (if_neg (by
    obtain hdoze | hready | hcause := h
    · simp [hdoze]
    · simp [hready]
    · simp [hcause]))

end

/-- Without a checkpoint in progress none completes. -/
theorem runs_checkpointComplete_none (h : d.saving = none) : Runs .checkpointComplete d d :=
  .of_act (fun s => (rfl : execCheckpointComplete s = _)) rfl (by simp [h])

section
variable {c : Snap} (hsave : d.saving = some c)
include hsave

/-- One in progress waits while its programs may not be issued. -/
theorem runs_checkpointComplete_waits (hprog : d.ckptPrograms = false) : Runs .checkpointComplete d d :=
  .of_act (fun s => (rfl : execCheckpointComplete s = _)) rfl (by simp [hsave, hprog])

/-- It completes where the supply carries the writes of its locators. -/
theorem runs_checkpointComplete_done (hprog : d.ckptPrograms = true) (hvsys : 8000 ≤ d.pwr.vsys) (hwcap : 3200 ≤ d.pwr.wcap) :
    Runs .checkpointComplete d (d.ckptDone c) :=
  .of_act (fun s => (rfl : execCheckpointComplete s = _)) rfl (by simp [hsave, hprog, hvsys.not_gt, hwcap.not_gt])

/-- Where the supply does not, the writes are refused and counted (R620). -/
theorem runs_checkpointComplete_refused (hprog : d.ckptPrograms = true) (hlow : d.pwr.vsys < 8000 ∨ d.pwr.wcap < 3200) :
    Runs .checkpointComplete d ((d.cnt LBK_STAT.REFUSED).post0 0x112) :=
  .of_act (fun s => (rfl : execCheckpointComplete s = _)) rfl (by simp [hsave, hprog, hlow])

end

end

/-- Settles O44: each command runs as its own lemma says. What the end of a second leaves as it was follows from what a register write leaves
(`Dev.growEclks_keep`), and the new clocks are those of `Dev.growEclks_eclk_lt` and `Dev.growApart_getD`. -/
theorem driftAndCheckpoints : Obligations.DriftAndCheckpoints := by
  refine ⟨fun d => ⟨fun hoff hdorm hend hready => ⟨_, runs_eclkUpdate_grows hoff hdorm hend hready, ?grown⟩, runs_eclkUpdate_idle,
      fun sg hwf => ⟨runs_segmentAgeClose_closes hwf, runs_segmentAgeClose_idle hwf⟩, .of_act (fun s => (rfl : execMarginSweep s = _)) rfl rfl,
      fun sg hwf => ⟨runs_refreshQueue_queues hwf, runs_refreshQueue_idle hwf⟩,
      fun n g els hwf => ⟨fun sg => runs_lodestoneSample_samples hwf, runs_lodestoneSample_idle hwf⟩⟩,
    fun d c => ⟨fun cause hwf => ⟨runs_checkpointStart_cuts hwf, runs_checkpointStart_idle hwf⟩, runs_checkpointComplete_none,
      fun hsave => ⟨runs_checkpointComplete_waits hsave, runs_checkpointComplete_done hsave, runs_checkpointComplete_refused hsave⟩⟩⟩
  case grown =>
    cases hseq : d.seqOn with
    | true =>
      refine ⟨congrArg Watch.eclkSecs (Dev.growEclks_keep (·.wch) Dev.setReg_wch ..), Dev.growEclks_keep (·.sectors) Dev.setReg_sectors ..,
        Dev.growEclks_keep (·.lbk) Dev.setReg_lbk .., Dev.growEclks_keep (·.out) Dev.setReg_out .., fun _ hregs n hn => ?_, nofun⟩
      rw [← Dev.eclkGrowth_getD hn d d.wch.eclkSecs]
      exact Dev.growEclks_eclk_lt (d := d.secondCounted) hregs _ hn le_rfl
    | false =>
      refine ⟨rfl, rfl, rfl, rfl, nofun, fun _ => ⟨rfl, fun n hn hlen => ?_⟩⟩
      rw [← Dev.eclkGrowth_getD hn d d.wch.eclkSecs]
      exact Dev.growApart_getD (d := d.secondCounted) hlen _

end Sys2Proof.Machine

/-! The write path (chapters 05 and 07): ready sectors become images, and their programs, placement logs and installs follow. Each command's
effect where its condition stands. -/

namespace Sys2Proof.Machine

/-! ### Reads that a retrain can block (R676) -/

section
variable {d : Dev} {f : Dev → Dev}

/-- A command whose reads can be made has its effect. -/
theorem Dev.reading_done (h : (f d).blocked = none) : d.reading f = f d := by
  simp [Dev.reading, h]

/-- One whose reads must wait has none. -/
theorem Dev.reading_waits (h : (f d).blocked ≠ none) : d.reading f = d := by
  simp [Dev.reading, Option.isSome_iff_ne_none.mpr h]

end

section
variable {d : Dev}

/-! ### From ready sectors to images (R141 to R144) -/

/-- A sector with pending lines becomes ready for a cause that stands. -/
theorem runs_sectorReady {l cause : Nat} (hwf : (Instr.sectorReady l cause).wf = true) (hpend : d.secPending l ≠ [])
    (hcause : d.readyCause l cause = true) : Runs (.sectorReady l cause) d { d with ready := setAdd l d.ready } :=
  .of_act (fun s => (rfl : execSectorReady l cause s = _)) hwf (if_pos (by simp [hpend, hcause]))

section
variable {pg : Nat} (hpg : pg < 2 ^ 27)
include hpg

/-- A page without an image that waits for addresses is routed. -/
theorem runs_pageRoute_routes (hidx : d.imgIdx (fun i => i.pg == pg && i.unplaced) = none) : Runs (.pageRoute pg) d (d.routePage pg) :=
  .of_act (fun s => (rfl : execPageRoute pg s = _)) (decide_eq_true hpg) (by simp only [hidx])

/-- An image of the page that waits for addresses takes those it can have (R66). -/
theorem runs_pageRoute_places {i : Nat} (hidx : d.imgIdx (fun i => i.pg == pg && i.unplaced) = some i) :
    Runs (.pageRoute pg) d (d.placeMissing i) :=
  .of_act (fun s => (rfl : execPageRoute pg s = _)) (decide_eq_true hpg) (by simp only [hidx])

end

/-- The merge reads of a page's image come in. -/
theorem runs_mergeReadDone {pg i : Nat} {ev : RdEnv} {x : Img} (hwf : (Instr.mergeReadDone pg ev).wf = true)
    (hidx : d.imgIdx (fun i => i.pg == pg && i.merging) = some i) (himg : d.imgs[i]? = some x) :
    Runs (.mergeReadDone pg ev) d (d.reading (fun d => d.mergeDone pg i x ev)) :=
  .of_act (fun s => (rfl : execMergeReadDone pg ev s = _)) hwf (by simp only [Dev.reading, hidx, himg])

/-! ### Programs (R54 to R57, R87, R103) -/

/-- On a die that cannot take it, the sectors of an image there are placed again (R103). -/
theorem Dev.programDue_gone {i psa : Nat} (hgone : d.dieGone (psaPoint psa) = true) (ok : Bool) :
    d.programDue i psa ok = d.replaceImg i (fun p => psaPoint p == psaPoint psa) false :=
  if_pos hgone

section
variable {i psa : Nat} (hdie : d.dieGone (psaPoint psa) = false)
include hdie

/-- So are its sectors in the skipped rows of the segment. -/
theorem Dev.programDue_skipped (hskip : d.skipped psa = true) (ok : Bool) :
    d.programDue i psa ok = d.replaceImg i (fun p => psaSeg p == psaSeg psa && d.skipped p) false := by
  simp only [Dev.programDue, hdie, hskip, if_true, Bool.false_eq_true, if_false]

section
variable (hskip : d.skipped psa = false)
include hskip

/-- A program whose cell does not start it waits. -/
theorem Dev.programDue_waits (hcell : d.cellStarts psa = false) (ok : Bool) : d.programDue i psa ok = d := by
  simp [Dev.programDue, hdie, hskip, hcell]

/-- One that its cell starts is made, for the first copy of its sector unless that copy has been programmed or stands elsewhere. -/
theorem Dev.programDue_programs {x : Img} {j : Nat} {t : ImgSec} (himg : d.imgs[i]? = some x) (hcell : d.cellStarts psa = true)
    (hj : x.secs.findIdx? (·.at psa) = some j) (ht : x.secs[j]? = some t) (ok : Bool) :
    d.programDue i psa ok = d.programSec i j psa (!(t.psa == some psa && !t.okA)) ok := by
  simp [Dev.programDue, Dev.imgSecAt, hdie, hskip, hcell, himg, hj, ht]

end

end

/-- A program is due for the first image that has a sector waiting at its address and may be programmed. -/
theorem runs_sectorProgramDone {i psa : Nat} {ok : Bool} {t : Dev} (hpsa : psa < 2 ^ 31)
    (hidx : d.imgIdx (fun x => !x.merging && d.mayProgram x && x.secs.any (·.at psa)) = some i) (ht : d.programDue i psa ok = t) :
    Runs (.sectorProgramDone psa ok) d t :=
  .of_act (fun s => (rfl : execSectorProgramDone psa ok s = _)) (decide_eq_true hpsa) (by simp only [hidx, ht])

/-! ### Placement logs (R153) -/

/-- A placement log sector closes with 28 entries, 10 µs after its first, or for a write that waits for it. -/
theorem runs_placementLogClose {n : Nat} (hn : n < 16) (ok : Bool)
    (h : 28 ≤ (d.pt n).plog.length ∨ (∃ e t, (d.pt n).plog = e :: t ∧ e.added + usUnits 10 ≤ d.time) ∨ d.plogUrgent n = true) :
    Runs (.placementLogClose n ok) d (d.closePlog n ok) :=
  .of_act (fun s => (rfl : execPlacementLogClose n ok s = _)) (decide_eq_true hn) (if_pos (by
    obtain hfull | ⟨e, t, hlog, hold⟩ | hurgent := h
    · simp [hfull]
    · simp [hlog, hold]
    · simp [hurgent]))

/-! ### Installs (R149, R151, R225) -/

section
variable {l i : Nat} (hl : l < 2 ^ 31)
  (hidx : d.imgIdx (fun x => !x.whole && x.programmed && d.imgLogged x && x.secs.any (fun t => t.l == l && !t.installed)) = some i)
include hl hidx

/-- A programmed and logged sector that meets a full overlay set waits (R151). -/
theorem runs_overlayInstall_defers (hfull : d.ovlBlocked l = true) : Runs (.overlayInstall l) d (d.setFullDefer l) :=
  .of_act (fun s => (rfl : execOverlayInstall l s = _)) (decide_eq_true hl) (by simp only [hidx, hfull, if_true])

/-- Any other is installed (R149). -/
theorem runs_overlayInstall_installs {x : Img} {j : Nat} (himg : d.imgs[i]? = some x)
    (hj : x.secs.findIdx? (fun t => t.l == l && !t.installed) = some j) (hroom : d.ovlBlocked l = false) :
    Runs (.overlayInstall l) d (d.installSec i j) :=
  .of_act (fun s => (rfl : execOverlayInstall l s = _)) (decide_eq_true hl) (by
    simp only [hidx, hroom, himg, Option.map_some, Option.bind_some, hj, Bool.false_eq_true, if_false])

end

section
variable {pg i : Nat} {x : Img} (hpg : pg < 2 ^ 27)
  (hidx : d.imgIdx (fun x => x.pg == pg && x.whole && x.open && d.imgCommitted x) = some i) (himg : d.imgs[i]? = some x)
include hpg hidx himg

/-- A committed page that is a relocated sealed version moves in the page list of its seal (R287). -/
theorem runs_pageInstall_sealed (hwhy : x.why = 5) : Runs (.pageInstall pg) d (d.installSealed i) :=
  .of_act (fun s => (rfl : execPageInstall pg s = _)) (decide_eq_true hpg) (by simp only [hidx, himg, hwhy, if_true])

section
variable (hwhy : x.why ≠ 5)
include hwhy

/-- One with a relocated sector that meets a full overlay set waits (R150, R151). -/
theorem runs_pageInstall_defers (hrel : d.relBlocked x ≠ []) : Runs (.pageInstall pg) d ((d.relBlocked x).foldl Dev.setFullDefer d) :=
  .of_act (fun s => (rfl : execPageInstall pg s = _)) (decide_eq_true hpg) (by
    simp only [hidx, himg, hwhy, List.isEmpty_eq_false_iff.mpr hrel, Bool.not_false, if_true, if_false])

section
variable (hrel : d.relBlocked x = [])
include hrel

/-- One whose map-cache set has no clean way waits as well. -/
theorem runs_pageInstall_waits (hwait : d.installWaits x = true) : Runs (.pageInstall pg) d d :=
  .of_act (fun s => (rfl : execPageInstall pg s = _)) (decide_eq_true hpg) (by simp [hidx, himg, hwhy, hrel, hwait])

/-- Any other is installed in the map. -/
theorem runs_pageInstall_installs (hgo : d.installWaits x = false) : Runs (.pageInstall pg) d (d.installPage i) :=
  .of_act (fun s => (rfl : execPageInstall pg s = _)) (decide_eq_true hpg) (by simp [hidx, himg, hwhy, hrel, hgo])

end

end

end

end

/-- Settles O40: each command runs as its own lemma says; a sector program does what `Dev.programDue` does in its case. -/
theorem writePath : Obligations.WritePath := by
  refine ⟨fun l pg d hl hpg => ⟨fun cause => runs_sectorReady, runs_pageRoute_routes hpg, fun i => runs_pageRoute_places hpg, ?merge, ?program⟩,
    fun d => ⟨fun n ok hn => runs_placementLogClose hn ok, ?overlay, ?install⟩⟩
  case merge =>
    intro ev i x hwf hidx himg
    have hruns := runs_mergeReadDone hwf hidx himg
    exact ⟨fun hblk => hruns.congr (Dev.reading_done hblk), fun hblk => hruns.congr (Dev.reading_waits hblk)⟩
  case program =>
    intro psa ok i x hpsa hidx himg
    refine ⟨fun hgone => ?_, fun hdie hskip => ?_, fun hdie hskip => ⟨fun hcell => ?_, fun j t hcell hj ht => ?_⟩⟩
    · exact runs_sectorProgramDone hpsa hidx (Dev.programDue_gone hgone ok)
    · exact runs_sectorProgramDone hpsa hidx (Dev.programDue_skipped hdie hskip ok)
    · exact runs_sectorProgramDone hpsa hidx (Dev.programDue_waits hdie hskip hcell ok)
    · exact runs_sectorProgramDone hpsa hidx (Dev.programDue_programs hdie hskip himg hcell hj ht ok)
  case overlay =>
    exact fun l i x j hl hidx himg hj => ⟨runs_overlayInstall_defers hl hidx, runs_overlayInstall_installs hl hidx himg hj⟩
  case install =>
    exact fun pg i x hpg hidx himg => ⟨runs_pageInstall_sealed hpg hidx himg, runs_pageInstall_defers hpg hidx himg,
      runs_pageInstall_waits hpg hidx himg, runs_pageInstall_installs hpg hidx himg⟩

end Sys2Proof.Machine

/-! Line logs, watermarks, map flush, folds and placement queues (chapters 05 and 07). -/

namespace Sys2Proof.Machine

section
variable {d : Dev} {h : Nat} (hh : h < 16)
include hh

/-! ### Line logs (R158) -/

/-- The line log of a home closes with three lines. -/
theorem runs_lineLogClose_full (hfull : 3 ≤ (d.hm h).llog.length) : Runs (.lineLogClose h 0) d (d.closeLlog h) :=
  .of_act (fun s => (rfl : execLineLogClose h 0 s = _)) (by simp [okLineLogClose, hh]) (if_pos (by simp [hfull]))

/-- It closes once its first line has waited its time. -/
theorem runs_lineLogClose_aged {x : LogLine} {t : List LogLine} (hlog : (d.hm h).llog = x :: t) (hold : x.time + d.llWait ≤ d.time) :
    Runs (.lineLogClose h 1) d (d.closeLlog h) :=
  .of_act (fun s => (rfl : execLineLogClose h 1 s = _)) (by simp [okLineLogClose, hh]) (if_pos (by simp [hlog, hold]))

/-- It closes for a line that a merge read completed. -/
theorem runs_lineLogClose_merged (hmerged : ((d.hm h).llog.take 3).any (·.merged) = true) : Runs (.lineLogClose h 2) d (d.closeLlog h) :=
  .of_act (fun s => (rfl : execLineLogClose h 2 s = _)) (by simp [okLineLogClose, hh]) (if_pos (by simp [hmerged]))

end

/-- The sector of a line log job, with its address, programmed where it has not been yet. -/
def Dev.llogProgrammed (d : Dev) (j : LineLogJob) (okA : Bool) : Option Nat × Dev :=
  match j.psa with
  | some p => (some p, d)
  | none => d.programLlog j okA

/-- A line log job takes its sector's address. -/
def Dev.llogPlaced (d : Dev) (j : LineLogJob) (p : Option Nat) : Dev :=
  { d with lljobs := d.lljobs.map (fun (y : LineLogJob) => if y = j then { j with psa := p } else y) }

/-- The partial-parity sector of a line log's sector, where a group stands that takes it. -/
def Dev.llogPartial (d : Dev) (okB : Bool) (psa : Nat) : Option Dev :=
  (d.groupOf (psaSeg psa)).bind (fun g => d.programPartial g (psaSec psa / 16) (psaSec psa % 16) okB)

/-- What the commit of a line log job does: its sector takes its address, and its partial parity, where it can be programmed, covers it. Once
both have passed, the job's lines are at media commit. -/
def Dev.llogStep (d : Dev) (j : LineLogJob) (okA okB : Bool) : Dev :=
  let w := d.llogProgrammed j okA
  let e := w.2.llogPlaced j w.1
  match w.1.bind (e.llogPartial okB) with
  | none => e
  | some t => if okB then t.commitLlog { j with psa := w.1 } else t

/-- The commit of a line log is that of the oldest job of its home. -/
theorem runs_lineLogCommit {d : Dev} {h : Nat} {j : LineLogJob} (hh : h < 16) (hjob : d.lljobs.find? (fun j => j.home = h) = some j)
    (okA okB : Bool) : Runs (.lineLogCommit h okA okB) d (d.llogStep j okA okB) :=
  .of_act (fun s => (rfl : execLineLogCommit h okA okB s = _)) (decide_eq_true hh) (by simp only [hjob]; rfl)

section
variable {d : Dev} {j : LineLogJob} {okA okB : Bool}

/-- A job whose sector could not be programmed, or failed verify, has no address yet. -/
theorem Dev.llogStep_unplaced (hnone : (d.llogProgrammed j okA).1 = none) :
    d.llogStep j okA okB = (d.llogProgrammed j okA).2.llogPlaced j (d.llogProgrammed j okA).1 := by
  simp [Dev.llogStep, hnone]

/-- One whose sector stands is covered by partial parity in the sector's group, and committed if that passes verify. -/
theorem Dev.llogStep_covered {psa : Nat} {g : Group} {t : Dev} (hpsa : (d.llogProgrammed j okA).1 = some psa)
    (hgroup : ((d.llogProgrammed j okA).2.llogPlaced j (d.llogProgrammed j okA).1).groupOf (psaSeg psa) = some g)
    (hpart : ((d.llogProgrammed j okA).2.llogPlaced j (d.llogProgrammed j okA).1).programPartial g (psaSec psa / 16) (psaSec psa % 16) okB =
      some t) : d.llogStep j okA okB = if okB then t.commitLlog { j with psa := (d.llogProgrammed j okA).1 } else t := by
  rw [hpsa] at hgroup hpart
  simp [Dev.llogStep, Dev.llogPartial, hpsa, hgroup, hpart]

end

section
variable {d : Dev} {h : Nat} (hh : h < 16)
include hh

/-! ### Watermarks, map flush, folds and placement queues (R173, R187, R223, R231) -/

/-- Without HOLDUP, a watermark that is due is recorded, and the CSNs up to it are forgotten. -/
theorem runs_watermark (hholdup : d.mHoldup = false) (hdue : (d.hm h).wmDue = true) :
    Runs (.watermark h) d ((d.record (d.serving h) (.watermark h (d.watermarkOf h))).modHm h
      (fun x => { x with wm := d.watermarkOf h, wmDue := false, above := x.above.filter (fun c => d.watermarkOf h < c),
                         accepted := x.accepted.filter (fun c => d.watermarkOf h < c) })) :=
  .of_act (fun s => (rfl : execWatermark h s = _)) (decide_eq_true hh) (if_neg (by simp [hholdup, hdue]))

/-- An open segment's queue with fewer than 256 addresses is filled. -/
theorem runs_placementQueueRefill {kind sg : Nat} {g : Group} (hkind : kind < 3) (hgroup : d.openGroup kind = some g)
    (hseg : d.openSeg kind h = some sg) (hlow : (d.queue kind h).count < 256) :
    Runs (.placementQueueRefill h kind) d (d.modQueue kind h (d.queueFill g h sg 1024)) :=
  .of_act (fun s => (rfl : execPlacementQueueRefill h kind s = _)) (by simp [okPlacementQueueRefill, hh]; omega) (by
    simp [hgroup, hseg, hlow, hkind])

end

section
variable {d : Dev}

/-- Outside media critical and cold stop a map page is flushed. -/
theorem runs_mapFlush {h mp : Nat} (hwf : (Instr.mapFlush h mp).wf = true) (hclear : d.noClear = false) :
    Runs (.mapFlush h mp) d (d.flushMap h mp) :=
  .of_act (fun s => (rfl : execMapFlush h mp s = _)) hwf (by simp [hclear])

/-- The Point that serves a page's home takes a task to fold it, for a cause that stands. -/
theorem runs_foldQueue {pg cause : Nat} (hwf : (Instr.foldQueue pg cause).wf = true) (hcause : d.foldCause pg cause = true) :
    Runs (.foldQueue pg cause) d (d.queueTask (d.serving (homeOfPage pg)) { kind := 0, arg := pg }) :=
  .of_act (fun s => (rfl : execFoldQueue pg cause s = _)) hwf (if_pos hcause)

end

/-- Settles O41: each command runs as its own lemma says; the commit of a line log does what `Dev.llogStep` does in its case. -/
theorem lineLogAndQueues : Obligations.LineLogAndQueues := by
  intro h d hh
  refine ⟨runs_lineLogClose_full hh, fun x t => runs_lineLogClose_aged hh, runs_lineLogClose_merged hh, ?commit, runs_watermark hh,
    fun mp => runs_mapFlush, fun pg cause => runs_foldQueue, fun kind g sg => runs_placementQueueRefill hh⟩
  case commit =>
    intro j okA okB hjob
    exact ⟨fun hnone => (runs_lineLogCommit hh hjob okA okB).congr (Dev.llogStep_unplaced hnone),
      fun psa g t hpsa hgroup hpart => (runs_lineLogCommit hh hjob okA okB).congr (Dev.llogStep_covered hpsa hgroup hpart)⟩

end Sys2Proof.Machine

/-! Stripe groups (chapter 05): their rows and parity, and the verify of their sectors from closure to release. -/

namespace Sys2Proof.Machine

section
variable {d : Dev}

/-! ### Parity groups and their rows (R161, R164 to R166) -/

/-- A group of its kind opens where its members can be had. -/
theorem runs_groupOpen {kind : Nat} (hwf : (Instr.groupOpen kind).wf = true) : Runs (.groupOpen kind) d (d.openGroupOf kind) :=
  .of_act (fun s => (rfl : execGroupOpen kind s = _)) hwf rfl

section
variable {g : Nat} {x : Group} (hgroup : d.group g = some x)
include hgroup

/-- A group closes for a cause, its age among them (R116). -/
theorem runs_groupClose {cause : Nat} (hwf : (Instr.groupClose g cause).wf = true) :
    Runs (.groupClose g cause) d (d.groupClose g cause (d.groupAged x)) :=
  .of_act (fun s => (rfl : execGroupClose g cause s = _)) hwf (by simp only [hgroup])

section
variable {r fails : Nat} {y : Row} (hrow : x.row r = some y) (hopen : x.st = 0) (hcold : d.coldStop = false) (hpar : y.parity = none)
  (hclosed : y.closed = false)
include hrow hopen hcold hpar hclosed

/-- A complete row without parity takes its parity page. -/
theorem runs_rowComplete (hwf : (Instr.rowComplete g r fails).wf = true) (hfull : d.rowFull x r = true) :
    Runs (.rowComplete g r fails) d (d.programParity g r fails).freeSweep :=
  .of_act (fun s => (rfl : execRowComplete g r fails s = _)) hwf (by simp [hgroup, hrow, hopen, hcold, hpar, hclosed, hfull])

/-- An incomplete one is closed 1 ms after its first program. -/
theorem runs_rowTimeout (hwf : (Instr.rowTimeout g r fails).wf = true) (hpart : d.rowFull x r = false)
    (hold : y.first + msUnits 1 ≤ d.time) : Runs (.rowTimeout g r fails) d (d.closeRow g r fails).freeSweep :=
  .of_act (fun s => (rfl : execRowTimeout g r fails s = _)) hwf (by simp [hgroup, hrow, hopen, hcold, hpar, hclosed, hpart, hold])

end

/-! ### Settle, verify and release (R168 to R170) -/

section
variable (hg : g < 2 ^ 32) (hst : x.st = 1)
include hg hst

/-- The settling members of a group are verified 100 ms after its closure. -/
theorem runs_settleEnd (hold : x.closedAt + msUnits 100 ≤ d.time)
    (hsettle : x.members.any (fun m => (d.seg (8192 * m.1 + m.2)).state = 4) = true) : Runs (.settleEnd g) d (d.settleGroup g x) :=
  .of_act (fun s => (rfl : execSettleEnd g s = _)) (decide_eq_true hg) (by
    simp only [hgroup, hst, hold, hsettle, decide_true, Bool.and_self, if_true])

/-- The parity of a closed group dies once nothing is left to verify and its members are verifying or on Points that do not live. -/
theorem runs_parityRelease (hver : x.toVerify = [])
    (hmem : x.members.all (fun m => (d.seg (8192 * m.1 + m.2)).state = 5 || !d.live m.1) = true) :
    Runs (.parityRelease g) d (d.releaseParity g x) :=
  .of_act (fun s => (rfl : execParityRelease g s = _)) (decide_eq_true hg) (by
    simp only [hgroup, hst, hver, hmem, List.isEmpty_nil, decide_true, Bool.and_self, if_true])

end

end

section
variable {psa : Nat} {ev : RdEnv}

/-- The verify read of a sector comes in that a closed group has still to verify, in a segment that is VERIFYING or LOST (R172). -/
theorem runs_verifyReadDone (hwf : (Instr.verifyReadDone psa ev).wf = true)
    (hdue : d.groups.any (fun g => g.st = 1 && g.toVerify.contains psa) = true)
    (hst : (d.seg (psaSeg psa)).state = 5 ∨ (d.seg (psaSeg psa)).state = 9) :
    Runs (.verifyReadDone psa ev) d (d.reading (fun d => d.verifyRead psa ev)) :=
  .of_act (fun s => (rfl : execVerifyReadDone psa ev s = _)) hwf (by
    have hcond : (d.groups.any (fun g => g.st = 1 && g.toVerify.contains psa) &&
        ((d.seg (psaSeg psa)).state = 5 || (d.seg (psaSeg psa)).state = 9)) = true := by
      rw [hdue]
      simpa using hst
    simp only [Dev.reading, if_pos hcond])

section
variable {t : Sector} {e : Dev} {ev' : RdEnv} (hdec : d.decode psa true ev = (.got t, e, ev'))
include hdec

/-- A sector that decodes with no more than MARGIN_BITS corrected bits passes. -/
theorem Dev.verifyRead_passes (hbits : (e.pt (psaPoint psa)).lastBch ≤ Nat.min 16 (d.f OVL_VERIFY.MARGIN_BITS)) :
    d.verifyRead psa ev = e.verifyDone [psa] := by
  simp only [Dev.verifyRead, hdec, if_pos hbits]

/-- One with more is relocated. -/
theorem Dev.verifyRead_moves (hbits : Nat.min 16 (d.f OVL_VERIFY.MARGIN_BITS) < (e.pt (psaPoint psa)).lastBch) :
    d.verifyRead psa ev = e.verifyMove psa ev' := by
  simp only [Dev.verifyRead, hdec, if_neg hbits.not_ge]

end

end

end

/-- Settles O42: each command runs as its own lemma says; a verify read that decodes passes or moves its sector (`Dev.verifyRead_passes`,
`Dev.verifyRead_moves`). -/
theorem parityGroups : Obligations.ParityGroups := by
  intro g x d hg hgroup
  refine ⟨fun kind => runs_groupOpen, fun cause => runs_groupClose hgroup, ?rows, fun hst => runs_settleEnd hgroup hg hst,
    fun hst => runs_parityRelease hgroup hg hst, ?verify⟩
  case rows =>
    exact fun r fails y hwf hrow hopen hcold hpar hclosed => ⟨runs_rowComplete hgroup hrow hopen hcold hpar hclosed hwf,
      runs_rowTimeout hgroup hrow hopen hcold hpar hclosed hwf⟩
  case verify =>
    intro psa ev hwf hdue hst
    have hruns := runs_verifyReadDone hwf hdue hst
    have hverifies {t : Dev} (ht : d.verifyRead psa ev = t) (hblk : t.blocked = none) : Runs (.verifyReadDone psa ev) d t :=
      hruns.congr ((Dev.reading_done (f := fun d => d.verifyRead psa ev) (by rwa [ht])).trans ht)
    exact ⟨fun s e ev' hdec => ⟨fun hbits => hverifies (Dev.verifyRead_passes hdec hbits),
      fun hbits => hverifies (Dev.verifyRead_moves hdec hbits)⟩, hverifies rfl, fun hblk => hruns.congr (Dev.reading_waits hblk)⟩

end Sys2Proof.Machine

/-! Orders on ranges and seals (chapters 06, 08 and 12): what each does on an order of its program that is ready, and what an order that reads
the medium does when its reads must wait for the retrain of a die's link. -/

namespace Sys2Proof.Machine

section
variable {id : Nat} {x : Order} {ev : RdEnv} {d : Dev}

/-! ### Discards (R208 to R213) -/

/-- DISCARD runs its order. -/
theorem runs_discard (hready : d.orderReady id prgDiscard x) : Runs (.discard (.run id)) d (d.discardOrder x) :=
  .of_act (fun s => (rfl : execDiscard (.run id) s = _)) rfl (Dev.asOrder_run hready ..)

/-- The first step of SECURE_DISCARD takes its order. -/
theorem runs_secureDiscard_first (hready : d.orderReady id prgSdisc x) : Runs (.secureDiscard (.run id) 1) d (d.sdiscOrder x) :=
  .of_act (fun s => (rfl : execSecureDiscard (.run id) 1 s = _)) rfl (by simp only [if_true, Dev.asOrder_run hready])

section
variable {c v : Nat} (hbad : d.rangeBad (x.arg 0) (x.arg 1) = some (c, v))
include hbad

/-- A discard of a range that does not stand ends with the range's refusal. -/
theorem Dev.discardOrder_refused : d.discardOrder x = d.endOrder x.id c v 0 := by
  simp only [Dev.discardOrder, hbad]

/-- So does a secure discard. -/
theorem Dev.sdiscOrder_refused : d.sdiscOrder x = d.endOrder x.id c v 0 := by
  simp only [Dev.sdiscOrder, hbad]

end

section
variable (hrange : d.rangeBad (x.arg 0) (x.arg 1) = none)
include hrange

/-- A discard waits while a seal of its range is being made. -/
theorem Dev.discardOrder_waits (hwaits : d.rangeWaits (x.arg 0) (x.arg 1) = true) : d.discardOrder x = d := by
  simp only [Dev.discardOrder, hrange, hwaits, if_true]

section
variable (hfree : d.rangeWaits (x.arg 0) (x.arg 1) = false)
include hfree

/-- It ends once its record is placed. -/
theorem Dev.discardOrder_ends {e : Dev} (hplaced : d.discardRange (x.arg 0) (x.arg 1) x.csn 0 = some e) :
    d.discardOrder x = e.endOrder x.id 0 0 0 := by
  simp only [Dev.discardOrder, hrange, hfree, hplaced, Bool.false_eq_true, if_false]

/-- It waits while its record has no place. -/
theorem Dev.discardOrder_unplaced (hnone : d.discardRange (x.arg 0) (x.arg 1) x.csn 0 = none) : d.discardOrder x = d := by
  simp only [Dev.discardOrder, hrange, hfree, hnone, Bool.false_eq_true, if_false]

/-- A secure discard of a range that no seal holds up joins those that run, and begins as the first of them. -/
theorem Dev.sdiscOrder_joins (hnew : d.sdisc.any (·.order = x.id) = false) :
    d.sdiscOrder x = ({ d with sdisc := d.sdisc ++ [⟨x.id, x.arg 0, x.arg 1, x.csn, 0, []⟩] } : Dev).sdiscBegin := by
  simp only [Dev.sdiscOrder, hrange, hfree, hnew, Bool.or_self, Bool.false_eq_true, if_false]

end

end

/-- A secure discard that lost its order and is under way goes on from its first step, its registers telling so. -/
theorem runs_secureDiscardResume {y : SDisc} {rest : List SDisc} (hfront : d.sdisc = y :: rest) (hactive : d.phase = .active)
    (horder : y.order = 0) (hstep : 0 < y.step) (hbusy : d.f WLV_SDISC.BUSY = 0) :
    Runs .secureDiscardResume d
      (((d.modSdisc (fun z => { z with step := 1, cands := [] })).setF WLV_SDISC.BUSY 1).setF WLV_SDISC.RESUMED 1) :=
  .of_act (fun s => (rfl : execSecureDiscardResume s = _)) rfl (by simp [hfront, hactive, horder, hstep, Dev.on, hbusy])

/-! ### Seals made and ended (R286, R288) -/

/-- SEAL_RANGE runs its order, with reads. -/
theorem runs_sealRange (hready : d.orderReady id prgSeal x) : Runs (.sealRange (.run id) ev) d (d.reading (·.sealRange x ev)) :=
  .of_act (fun s => (rfl : execSealRange (.run id) ev s = _)) rfl (by simp only [Dev.reading, Dev.asOrder_run hready])

/-- UNSEAL runs its order. -/
theorem runs_unseal (hready : d.orderReady id prgUnseal x) : Runs (.unseal (.run id)) d (d.unsealOrder x) :=
  .of_act (fun s => (rfl : execUnseal (.run id) s = _)) rfl (Dev.asOrder_run hready ..)

/-! ### Seals read (R470) -/

@[simp] theorem Dev.endOrder_blocked (d : Dev) (n code d0 d1 : Nat) : (d.endOrder n code d0 d1).blocked = d.blocked := rfl

/-- Hashing an extent leaves what a read waits for as it was. -/
@[simp] theorem Dev.hashedBytes_blocked (d : Dev) (n : Nat) : (d.hashedBytes n).blocked = d.blocked := by
  unfold Dev.hashedBytes
  rw [Dev.tally_blocked]
  exact List.foldlRecOn (motive := fun e : Dev => e.blocked = d.blocked) _ _ rfl (fun e he q _ => by simp [Dev.hashedAt, he])

/-- SEAL_VERIFY ends with what the reads of its seal gave: the comparison of the digests, or the place that cannot be read. -/
def Dev.verifyEnd (d : Dev) (x : Order) (sl : Seal) : Except Nat (List (BitVec 8)) → Dev
  | .error a => d.endOrder x.id 7 a 0
  | .ok bs => (d.hashedBytes bs.length).endOrder x.id 0 (b2n (ofLe (extentDigest bs) != sl.digest)) (ofLe (extentDigest bs) % 2 ^ 64)

/-- The end of a verify leaves what its reads wait for as it was. -/
@[simp] theorem Dev.verifyEnd_blocked (d : Dev) (x : Order) (sl : Seal) (r : Except Nat (List (BitVec 8))) :
    (d.verifyEnd x sl r).blocked = d.blocked := by
  cases r with
  | error a => simp only [Dev.verifyEnd, Dev.endOrder_blocked]
  | ok bs => simp only [Dev.verifyEnd, Dev.endOrder_blocked, Dev.hashedBytes_blocked]

/-- The bytes of a seal enter the Binnacle as the order's one write at its destination. -/
def Dev.exportBytes (d : Dev) (x : Order) (sl : Seal) (ev : RdEnv) (bs : List (BitVec 8)) : Dev :=
  (List.range ((sl.len + 63) / 64)).foldl (fun d i =>
    d.orderWrite x.csn (x.arg 1 / 64 + i) (lineOfBytes (padTo 64 ((bs.drop (64 * i)).take 64)))
      (BitVec.ofNat 64 (2 ^ ((bs.drop (64 * i)).take 64).length - 1)) ev) d

/-- SEAL_EXPORT ends with what the reads of its seal gave: the bytes written, or the place that cannot be read. -/
def Dev.exportEnd (d : Dev) (x : Order) (sl : Seal) (ev : RdEnv) : Except Nat (List (BitVec 8)) → Dev
  | .error a => d.endOrder x.id 7 a 0
  | .ok bs => (d.exportBytes x sl ev bs).endOrder x.id 0 sl.len 0

/-- A destination of whole pages that lies in the window is not refused. -/
theorem Dev.exportDest_ok {sl : Seal} (halign : x.arg 1 % 4096 = 0) (hfits : x.arg 1 + sl.len ≤ d.winBytes) :
    (x.arg 1 % 4096 != 0 || decide (x.arg 1 + sl.len > d.winBytes)) = false := by
  simp [halign, hfits]

section
variable {sl : Seal} (hseal : d.sealOf x = some sl)
include hseal

/-- A standing seal ends with its record, once a chain record can be programmed. -/
theorem Dev.unsealOrder_ends (hchain : d.chainReady = true) :
    d.unsealOrder x = ((d.endSeal sl).chainAppend 2 sl.target x.csn sl.stream sl.start sl.len
      (match assocGet sl.num d.chain with | some b => sha256 b | none => [])).sealGoneEvent.endOrder x.id 0 0 0 := by
  simp only [Dev.unsealOrder, hseal, hchain, Bool.not_true, Bool.false_eq_true, if_false] <;> rfl

/-- SEAL_VERIFY of a standing seal reads its content. -/
theorem runs_sealVerify {r : Except Nat (List (BitVec 8))} {d' : Dev} (hready : d.orderReady id prgVerify x)
    (hbytes : d.sealBytes sl ev = (r, d')) : Runs (.sealVerify (.run id) ev) d (d.reading fun _ => d'.verifyEnd x sl r) :=
  .of_act (fun s => (rfl : execSealVerify (.run id) ev s = _)) rfl (by
    simp only [Dev.reading, Dev.asOrder_run hready, hseal, hbytes]
    cases r <;> rfl)

section
variable (hready : d.orderReady id prgExport x) (halign : x.arg 1 % 4096 = 0) (hfits : x.arg 1 + sl.len ≤ d.winBytes)
include hready halign hfits

/-- SEAL_EXPORT onto a standing seal ends with code 5. -/
theorem runs_sealExport_sealed {y : Seal} (hmeets : d.seals.find? (fun y => y.meets (x.arg 1) sl.len) = some y) (hstands : y.num < 2 ^ 64) :
    Runs (.sealExport (.run id) ev) d (d.reading fun _ => d.endOrder x.id 5 y.num 0) :=
  .of_act (fun s => (rfl : execSealExport (.run id) ev s = _)) rfl (by
    simp only [Dev.reading, Dev.asOrder_run hready, hseal, Dev.exportDest_ok halign hfits, Bool.false_eq_true, if_false, hmeets,
      if_pos hstands])

/-- SEAL_EXPORT onto a range that no seal meets reads the content of its seal. -/
theorem runs_sealExport {r : Except Nat (List (BitVec 8))} {d' : Dev} (hfree : d.seals.find? (fun y => y.meets (x.arg 1) sl.len) = none)
    (hbytes : d.sealBytes sl ev = (r, d')) : Runs (.sealExport (.run id) ev) d (d.reading fun _ => d'.exportEnd x sl ev r) :=
  .of_act (fun s => (rfl : execSealExport (.run id) ev s = _)) rfl (by
    simp only [Dev.reading, Dev.asOrder_run hready, hseal, Dev.exportDest_ok halign hfits, Bool.false_eq_true, if_false, hfree,
      hbytes]
    cases r <;> rfl)

end

end

end

/-- Settles O21: each command runs its order as its own lemma says; one that reads waits or ends as the reads of its seal say
(`Dev.verifyEnd`, `Dev.exportEnd`). -/
theorem rangeOrders : Obligations.RangeOrders := by
  intro id x ev d
  refine ⟨?discard, fun c v hbad => ⟨?refused, ?secureRefused⟩, ?secure, fun y rest => runs_secureDiscardResume, ?sealing, ?unsealing, ?verifying,
    ?exporting⟩
  case discard =>
    intro hready hrange
    have hruns := runs_discard hready
    exact ⟨fun hwaits => hruns.congr (Dev.discardOrder_waits hrange hwaits), fun hfree =>
      ⟨fun e hplaced => hruns.congr (Dev.discardOrder_ends hrange hfree hplaced),
        fun hnone => hruns.congr (Dev.discardOrder_unplaced hrange hfree hnone)⟩⟩
  case refused => exact fun hready => (runs_discard hready).congr (Dev.discardOrder_refused hbad)
  case secureRefused => exact fun hready => (runs_secureDiscard_first hready).congr (Dev.sdiscOrder_refused hbad)
  case secure =>
    exact fun hready hrange hfree hnew => (runs_secureDiscard_first hready).congr (Dev.sdiscOrder_joins hrange hfree hnew)
  case sealing =>
    exact fun hready => ⟨fun hblk => (runs_sealRange hready).congr (Dev.reading_done hblk),
      fun hblk => (runs_sealRange hready).congr (Dev.reading_waits hblk)⟩
  case unsealing => exact fun hready sl hseal hchain => (runs_unseal hready).congr (Dev.unsealOrder_ends hseal hchain)
  case verifying =>
    intro hready sl r d' hseal hbytes
    have hruns := runs_sealVerify hseal hready hbytes
    have hblocked := Dev.verifyEnd_blocked d' x sl r
    refine ⟨fun hblk => hruns.congr (Dev.reading_waits (by rwa [hblocked])), fun hblk => ?_⟩
    have hends := hruns.congr (Dev.reading_done (hblocked.trans hblk))
    exact ⟨by rintro bs rfl; exact hends, by rintro a rfl; exact hends⟩
  case exporting =>
    intro hready sl hseal halign hfits
    refine ⟨fun y hmeets hstands => ?sealed, fun hfree r d' hbytes => ?free⟩
    case sealed =>
      have hruns := runs_sealExport_sealed (ev := ev) hseal hready halign hfits hmeets hstands
      split
      next hblk => exact hruns.congr (Dev.reading_done hblk)
      next hblk => exact hruns.congr (Dev.reading_waits hblk)
    case free =>
      have hruns := runs_sealExport hseal hready halign hfits hfree hbytes
      constructor
      · rintro a rfl hblk
        exact hruns.congr (Dev.reading_done hblk)
      · rintro bs rfl
        exact ⟨fun hblk => hruns.congr (Dev.reading_done hblk), fun hblk => hruns.congr (Dev.reading_waits hblk)⟩

end Sys2Proof.Machine

/-! The orders that act at once, and the mailbox forms of the orders (chapters 09 and 12): what each does on an order of its program that is
ready, how the mailbox turns one away, and how it takes one. -/

namespace Sys2Proof.Machine

/-! ### Orders that are ready (R232, R385, R389, R477, R496, R602, R613) -/

section
variable {id : Nat} {x : Order} {d : Dev}

/-- CHECKPOINT requests a checkpoint. -/
theorem runs_checkpoint (hready : d.orderReady id prgCheckpoint x) : Runs (.checkpoint (.run id)) d d.startCkpt :=
  .of_act (fun s => (rfl : execCheckpoint (.run id) s = _)) rfl (Dev.asOrder_run hready ..)

/-- MODE_CHANGE runs its order. -/
theorem runs_modeChange (hready : d.orderReady id prgMode x) : Runs (.modeChange (.run id)) d (d.modeChange x) :=
  .of_act (fun s => (rfl : execModeChange (.run id) s = _)) rfl (Dev.asOrder_run hready ..)

/-- FIX raises a Fix of source bit 2 and ends with its number. -/
theorem runs_fix (hready : d.orderReady id prgFix x) :
    Runs (.fix (.run id)) d ((d.fix 2).endOrder x.id 0 ((d.fix 2).f FIX_NUM.NUMBER) 0) :=
  .of_act (fun s => (rfl : execFix (.run id) s = _)) rfl (Dev.asOrder_run hready ..)

/-- DECK_CLEAR runs its order. -/
theorem runs_deckClear (hready : d.orderReady id prgDeckClear x) : Runs (.deckClear (.run id)) d (d.deckClearOrder x) :=
  .of_act (fun s => (rfl : execDeckClear (.run id) s = _)) rfl (Dev.asOrder_run hready ..)

/-- UNSEAL of a seal that does not stand ends with code 2. -/
theorem Dev.unsealOrder_none (hseal : d.sealOf x = none) : d.unsealOrder x = d.endOrder x.id 2 0 0 := by
  simp only [Dev.unsealOrder, hseal]

section
variable (hready : d.orderReady id prgTrigger x)
include hready

/-- TRIGGER of a stream that is enabled ends with what the trigger gives. -/
theorem runs_trigger_enabled (hstream : x.arg 0 < 4096) (hen : d.f (STR_CTL.EN (x.arg 0)) ≠ 0) :
    Runs (.trigger (.run id)) d
      ((d.trigger (x.arg 0) (x.arg 1) false).2.endOrder x.id 0 (d.trigger (x.arg 0) (x.arg 1) false).1 0) :=
  .of_act (fun s => (rfl : execTrigger (.run id) s = _)) rfl (by
    simp [Dev.asOrder_run hready, hstream.not_ge, Dev.on, hen])

/-- TRIGGER of no stream, or of one that is not enabled, ends with code 2. -/
theorem runs_trigger_refused (hbad : 4096 ≤ x.arg 0 ∨ d.f (STR_CTL.EN (x.arg 0)) = 0) :
    Runs (.trigger (.run id)) d (d.endOrder x.id 2 0 0) :=
  .of_act (fun s => (rfl : execTrigger (.run id) s = _)) rfl (by
    rw [Dev.asOrder_run hready]
    rcases hbad with hstream | hen
    · exact if_pos hstream
    · simp [Dev.on, hen])

end

section
variable (hready : d.orderReady id prgStreamReset x)
include hready

/-- STREAM_RESET of a stream that is valid resets its queue and ends with its count of resets. -/
theorem runs_streamReset_valid (hstream : x.arg 0 < 4096) (hvalid : (d.stm (x.arg 0)).valid = true) :
    Runs (.streamReset (.run id)) d
      ((d.queueReset (x.arg 0)).endOrder x.id 0 ((d.queueReset (x.arg 0)).stm (x.arg 0)).resets 0) :=
  .of_act (fun s => (rfl : execStreamReset (.run id) s = _)) rfl (by
    simp [Dev.asOrder_run hready, hstream.not_ge, hvalid])

/-- STREAM_RESET of no stream, or of one that is not valid, ends with code 2. -/
theorem runs_streamReset_refused (hbad : 4096 ≤ x.arg 0 ∨ (d.stm (x.arg 0)).valid = false) :
    Runs (.streamReset (.run id)) d (d.endOrder x.id 2 0 0) :=
  .of_act (fun s => (rfl : execStreamReset (.run id) s = _)) rfl (by
    have hcond : (decide (x.arg 0 ≥ 4096) || !(d.stm (x.arg 0)).valid) = true := by simpa using hbad
    simp only [Dev.asOrder_run hready, hcond, if_true])

end

section
variable (hready : d.orderReady id prgChartCheck x)
include hready

/-- CHART_CHECK of no slot ends with code 2. -/
theorem runs_chartCheck_refused (hslot : 2 ≤ x.arg 0) : Runs (.chartCheck (.run id)) d (d.endOrder x.id 2 0 0) :=
  .of_act (fun s => (rfl : execChartCheck (.run id) s = _)) rfl ((Dev.asOrder_run hready ..).trans (if_pos hslot))

section
variable (hslot : x.arg 0 < 2)
include hslot

/-- CHART_CHECK ends with the state of its slot where that does not start the device. -/
theorem runs_chartCheck_reports (hstays : d.phase ≠ .becalmed ∨ d.slotState (x.arg 0) ≠ 1) :
    Runs (.chartCheck (.run id)) d (d.endOrder x.id 0 (d.slotState (x.arg 0)) 0) :=
  .of_act (fun s => (rfl : execChartCheck (.run id) s = _)) rfl (by
    simp only [Dev.asOrder_run hready, hslot.not_ge, if_false]
    refine if_neg fun hstarts => ?_
    simp only [Dev.endOrder, Bool.and_eq_true, decide_eq_true_eq, beq_iff_eq] at hstarts
    exact hstays.elim (· hstarts.2) (· hstarts.1))

/-- CHART_CHECK of a valid slot starts a Becalmed device. -/
theorem runs_chartCheck_starts (hphase : d.phase = .becalmed) (hvalid : d.slotState (x.arg 0) = 1) :
    Runs (.chartCheck (.run id)) d ((d.endOrder x.id 0 1 0).endBecalmed (x.arg 0) 1) :=
  .of_act (fun s => (rfl : execChartCheck (.run id) s = _)) rfl (by
    simp [Dev.asOrder_run hready, hslot.not_ge, hvalid, Dev.endOrder, hphase])

end

end

end

/-! ### Inputs of the mailbox (Table 9.5) -/

section
variable {inp : List (BitVec 8)}

/-- A command without input takes none. -/
theorem parseNone_wrong (hlen : inp.length ≠ 0) : parseNone inp = (rcLength, []) :=
  if_neg (List.isEmpty_iff_length_eq_zero.not.mpr hlen)

/-- A command without input gives its order no arguments. -/
theorem parseNone_right (hlen : inp.length = 0) : parseNone inp = (rcSuccess, []) := if_pos (List.isEmpty_iff_length_eq_zero.mpr hlen)

/-- A command of `n` fields takes no other length. -/
theorem parse8_wrong {n : Nat} (hlen : inp.length ≠ 8 * n) : parse8 n inp = (rcLength, []) := if_neg hlen

/-- A command of `n` fields gives them to its order. -/
theorem parse8_right {n : Nat} (hlen : inp.length = 8 * n) :
    parse8 n inp = (rcSuccess, (List.range n).map (fun i => fieldLe inp (8 * i) 8)) := if_pos hlen

/-- Set Mode takes 4 bytes. -/
theorem parseMode_wrong (hlen : inp.length ≠ 4) : parseMode inp = (rcLength, []) := if_pos hlen

/-- Rekey Slot takes one byte. -/
theorem parseSlot_wrong (hlen : inp.length ≠ 1) : parseSlot inp = (rcLength, []) := if_pos (bne_iff_ne.mpr hlen)

/-- Check Chart Slot takes one byte. -/
theorem parseChart_wrong (hlen : inp.length ≠ 1) : parseChart inp = (rcLength, []) := if_pos (bne_iff_ne.mpr hlen)

end

/-! ### Orders that the mailbox is asked for (R325 to R327) -/

/-- A head's mailbox serves an opcode where it is reached and its gate lets the opcode in. -/
theorem Dev.serves_iff {d : Dev} {h op : Nat} : d.serves h op = true ↔ d.mboxOn h = true ∧ d.mboxGate op = none := by
  simp only [Dev.serves, Bool.and_eq_true, Option.isNone_iff_eq_none]

section
variable {d : Dev} {h prog op : Nat} {inp : List (BitVec 8)} {bg : Bool} {parse : List (BitVec 8) → Nat × List Nat}
  {answer : Order → Nat × List (BitVec 8)} {eff : Dev → Order → Dev}

/-- A mailbox that is not reached takes no order. -/
theorem Dev.asOrder_off (hoff : d.mboxOn h = false) : d.asOrder (.mbox h inp) prog op bg parse answer eff = d := by
  simp only [Dev.asOrder, hoff, Bool.not_false, if_true]

/-- A mailbox that turns the opcode away answers with its code alone. -/
theorem Dev.asOrder_gate {rc : Nat} (hon : d.mboxOn h = true) (hgate : d.mboxGate op = some rc) :
    d.asOrder (.mbox h inp) prog op bg parse answer eff = d.reply h op rc [] := by
  simp only [Dev.asOrder, hon, hgate, Bool.not_true, Bool.false_eq_true, if_false]

/-- An input of a wrong length is answered with Invalid Payload Length. -/
theorem Dev.asOrder_wrongLength (hserves : d.serves h op = true) (hparse : parse inp = (rcLength, [])) :
    d.asOrder (.mbox h inp) prog op bg parse answer eff = d.reply h op rcLength [] := by
  obtain ⟨hon, hgate⟩ := Dev.serves_iff.mp hserves
  simp [Dev.asOrder, hon, hgate, hparse]

section
variable {args : List Nat} (hserves : d.serves h op = true) (hparse : parse inp = (rcSuccess, args))
include hserves hparse

/-- A background command is answered Busy while another one of the head runs. -/
theorem Dev.asOrder_busy (hbusy : (d.head h).bg ≠ none) :
    d.asOrder (.mbox h inp) prog op true parse answer eff = d.reply h op rcBusy [] := by
  obtain ⟨hon, hgate⟩ := Dev.serves_iff.mp hserves
  simp [Dev.asOrder, hon, hgate, hparse, Option.isSome_iff_ne_none.mpr hbusy]

/-- Else it is taken as an order. -/
theorem Dev.asOrder_asked (hfree : (d.head h).bg = none) :
    d.asOrder (.mbox h inp) prog op true parse answer eff = d.asked h op prog args eff := by
  obtain ⟨hon, hgate⟩ := Dev.serves_iff.mp hserves
  simp only [Dev.asOrder, hon, hgate, hparse, hfree, bne_self_eq_false, Option.isSome_none, Bool.and_false, Bool.not_true,
    Bool.false_eq_true, if_false, if_true]
  rfl

end

/-! The same of a command that a mailbox carries out as an order. -/

section
variable (c : Instr) {ok : Bool}
  (hc : ∀ s, exec c s = act ok s (fun d => d.asOrder (.mbox h inp) prog op bg parse answer eff)) (hok : ok = true)
include hc hok

/-- Such a command is turned away by a mailbox that is not reached, by its gate, and by a wrong length. -/
theorem runs_turnedAway {n : Nat} (hparse : inp.length ≠ n → parse inp = (rcLength, [])) :
    (d.mboxOn h = false → Runs c d d) ∧ (∀ rc, d.mboxOn h = true → d.mboxGate op = some rc → Runs c d (d.reply h op rc [])) ∧
      (d.serves h op = true → inp.length ≠ n → Runs c d (d.reply h op rcLength [])) :=
  ⟨fun hoff => .of_act hc hok (Dev.asOrder_off hoff), fun _ hon hgate => .of_act hc hok (Dev.asOrder_gate hon hgate),
    fun hserves hlen => .of_act hc hok (Dev.asOrder_wrongLength hserves (hparse hlen))⟩

/-- Such a background command with an input of the right length is turned away by another one that runs, and else taken as an order. -/
theorem runs_asked {args : List Nat} (hbg : bg = true) (hserves : d.serves h op = true) (hparse : parse inp = (rcSuccess, args)) :
    ((d.head h).bg ≠ none → Runs c d (d.reply h op rcBusy [])) ∧ ((d.head h).bg = none → Runs c d (d.asked h op prog args eff)) := by
  subst hbg
  exact ⟨fun hbusy => .of_act hc hok (Dev.asOrder_busy hserves hparse hbusy),
    fun hfree => .of_act hc hok (Dev.asOrder_asked hserves hparse hfree)⟩

end

end

/-- Settles O20: an order that is ready has its program's effect; at a mailbox every form is turned away alike (`runs_turnedAway`) and taken
alike (`runs_asked`). -/
theorem ordersAtOnce : Obligations.OrdersAtOnce := by
  refine ⟨fun id x d => ⟨runs_checkpoint, runs_modeChange,
    fun hready => ⟨runs_trigger_enabled hready, runs_trigger_refused hready⟩,
    fun hready => ⟨runs_streamReset_valid hready, runs_streamReset_refused hready⟩, runs_fix, runs_deckClear,
    fun hready hseal => (runs_unseal hready).congr (Dev.unsealOrder_none hseal),
    fun hready => ⟨runs_chartCheck_reports hready, runs_chartCheck_starts hready, runs_chartCheck_refused hready⟩⟩, ?mailbox⟩
  intro h inp rngOk d hh hlen o
  have hwf : o.wf = true := by simp [o, OrdReq.wf, hh, hlen]
  have hstep : okSecureDiscard o 1 = true := by simp [okSecureDiscard, hwf]
  have hkey : okRekey o 1 rngOk = true := by simp [okRekey, hwf]
  refine ⟨fun c op n hmem => ?away, fun c op prog n eff hmem => ?taken⟩
  case away =>
    simp only [List.mem_cons, Prod.mk.injEq, List.not_mem_nil, or_false] at hmem
    obtain ⟨rfl, rfl, rfl⟩ | ⟨rfl, rfl, rfl⟩ | ⟨rfl, rfl, rfl⟩ | ⟨rfl, rfl, rfl⟩ | ⟨rfl, rfl, rfl⟩ | ⟨rfl, rfl, rfl⟩ | ⟨rfl, rfl, rfl⟩ |
      ⟨rfl, rfl, rfl⟩ | ⟨rfl, rfl, rfl⟩ := hmem
    · exact runs_turnedAway (.checkpoint o) (fun s => (rfl : execCheckpoint o s = _)) hwf parseNone_wrong
    · exact runs_turnedAway (.modeChange o) (fun s => (rfl : execModeChange o s = _)) hwf parseMode_wrong
    · exact runs_turnedAway (.discard o) (fun s => (rfl : execDiscard o s = _)) hwf (parse8_wrong (n := 2))
    · exact runs_turnedAway (.secureDiscard o 1) (fun s => (rfl : execSecureDiscard o 1 s = _)) hstep (parse8_wrong (n := 2))
    · exact runs_turnedAway (.unseal o) (fun s => (rfl : execUnseal o s = _)) hwf (parse8_wrong (n := 1))
    · exact runs_turnedAway (.rekey o 1 rngOk) (fun s => (rfl : execRekey o 1 rngOk s = _)) hkey parseSlot_wrong
    · exact runs_turnedAway (.deckClear o) (fun s => (rfl : execDeckClear o s = _)) hwf parseNone_wrong
    · exact runs_turnedAway (.fix o) (fun s => (rfl : execFix o s = _)) hwf parseNone_wrong
    · exact runs_turnedAway (.chartCheck o) (fun s => (rfl : execChartCheck o s = _)) hwf parseChart_wrong
  case taken =>
    intro hserves hlen
    simp only [List.mem_cons, Prod.mk.injEq, List.not_mem_nil, or_false] at hmem
    obtain ⟨rfl, rfl, rfl, rfl, rfl⟩ | ⟨rfl, rfl, rfl, rfl, rfl⟩ | ⟨rfl, rfl, rfl, rfl, rfl⟩ | ⟨rfl, rfl, rfl, rfl, rfl⟩ |
      ⟨rfl, rfl, rfl, rfl, rfl⟩ := hmem
    · exact runs_asked (.checkpoint o) (fun s => (rfl : execCheckpoint o s = _)) hwf rfl hserves (parseNone_right hlen)
    · exact runs_asked (.discard o) (fun s => (rfl : execDiscard o s = _)) hwf rfl hserves (parse8_right hlen)
    · exact runs_asked (.secureDiscard o 1) (fun s => (rfl : execSecureDiscard o 1 s = _)) hstep rfl hserves (parse8_right hlen)
    · exact runs_asked (.unseal o) (fun s => (rfl : execUnseal o s = _)) hwf rfl hserves (parse8_right hlen)
    · exact runs_asked (.deckClear o) (fun s => (rfl : execDeckClear o s = _)) hwf rfl hserves (parseNone_right hlen)

end Sys2Proof.Machine

/-! REKEY's start and resumption, the key sweep and the scrub (chapter 08), DECK_RUN and DECK_STOP (chapters 11 and 12): each command's effect
where it acts, and what a field reads after a write to its register. -/

namespace Sys2Proof.Machine

/-! ### Fields of a register that is written -/

theorem testBit_bits (x lo w i : Nat) : (bits x lo w).testBit i = (decide (i < w) && x.testBit (lo + i)) := by
  simp [bits, Nat.testBit_mod_two_pow]

/-- The bits of a number with a field replaced: those of the field's new value inside the field, and the old ones outside. -/
theorem testBit_setBits (x lo w v i : Nat) :
    (setBits x lo w v).testBit i = if lo ≤ i ∧ i < lo + w then v.testBit (i - lo) else x.testBit i := by
  have hx : x = 2 ^ lo * (2 ^ w * (x >>> lo / 2 ^ w) + bits x lo w) + x % 2 ^ lo := by
    rw [bits, Nat.div_add_mod, Nat.shiftRight_eq_div_pow, Nat.div_add_mod]
  have hset : setBits x lo w v = 2 ^ lo * (2 ^ w * (x >>> lo / 2 ^ w) + v % 2 ^ w) + x % 2 ^ lo := by
    rw [setBits]
    conv_lhs => enter [1, 1]; rw [hx]
    rw [Nat.mul_add, Nat.mul_add, Nat.mul_comm (bits x lo w), Nat.mul_comm (v % 2 ^ w)]
    omega
  have hsplit (b : Nat) (hb : b < 2 ^ w) : (2 ^ lo * (2 ^ w * (x >>> lo / 2 ^ w) + b) + x % 2 ^ lo).testBit i =
      if i < lo then x.testBit i else if i - lo < w then b.testBit (i - lo) else x.testBit i := by
    rw [Nat.testBit_two_pow_mul_add _ (Nat.mod_lt _ (Nat.two_pow_pos lo)), Nat.testBit_two_pow_mul_add _ hb]
    split
    next hlow => simp [Nat.testBit_mod_two_pow, hlow]
    next hge =>
      split
      next hin => rfl
      next hout =>
        rw [← Nat.shiftRight_eq_div_pow, Nat.testBit_shiftRight, Nat.testBit_shiftRight]
        congr 1
        omega
  rw [hset, hsplit _ (Nat.mod_lt _ (Nat.two_pow_pos w))]
  grind

section
variable {d : Dev} (hwf : regsWf d.regs = true) (F : Fld) (hreset : resetVal F.off < 2 ^ 64) (v : Nat)
include hwf hreset

/-- The bits of a register after one of its fields is written. -/
theorem Dev.testBit_reg_setF (i : Nat) : ((d.setF F v).reg F.off).testBit i =
    (decide (i < 64) && if F.lo ≤ i ∧ i < F.lo + F.w then v.testBit (i - F.lo) else (d.reg F.off).testBit i) := by
  rw [Dev.setF, Dev.reg_setReg_mod hwf hreset, Nat.testBit_mod_two_pow, testBit_setBits]

/-- A field that lies in its register's 64 bits reads as what was last written to it. -/
theorem Dev.f_setF_same (hfits : F.lo + F.w ≤ 64) : (d.setF F v).f F = v % 2 ^ F.w := by
  refine Nat.eq_of_testBit_eq fun i => ?_
  rw [Dev.f, testBit_bits, Dev.testBit_reg_setF hwf F hreset, Nat.testBit_mod_two_pow]
  by_cases hi : i < F.w
  · simp [hi, show F.lo + i < 64 by omega]
  · simp [hi]

/-- Another field of the same register stands as it was. -/
theorem Dev.f_setF_apart (G : Fld) (hoff : G.off = F.off) (hfits : G.lo + G.w ≤ 64)
    (hapart : G.lo + G.w ≤ F.lo ∨ F.lo + F.w ≤ G.lo) : (d.setF F v).f G = d.f G := by
  refine Nat.eq_of_testBit_eq fun i => ?_
  rw [Dev.f, Dev.f, testBit_bits, testBit_bits, hoff, Dev.testBit_reg_setF hwf F hreset]
  by_cases hi : i < G.w
  · simp [hi, show G.lo + i < 64 by omega, show ¬ (F.lo ≤ G.lo + i ∧ G.lo + i < F.lo + F.w) by omega]
  · simp [hi]

end

/-- Writing a field keeps the register file canonical. -/
theorem Dev.setF_wf {d : Dev} (hwf : regsWf d.regs = true) (F : Fld) (v : Nat) : regsWf (d.setF F v).regs = true := Dev.setReg_wf hwf ..

theorem resetVal_SCR_KEYSTAT : resetVal 0x4400 = 0 :=
  resetVal_of_row (r := ⟨0x4400, 0, 1, 32, 0, 0, 0, 0, 0, 0, 0⟩) (by decide) (by decide) (by decide +kernel)

theorem resetVal_SCR_KEYSTAT_lt : resetVal 0x4400 < 2 ^ 64 := by
  rw [resetVal_SCR_KEYSTAT]
  decide

/-! ### What SCR_KEYSTAT's summary of the keys leaves as it was -/

section
variable (d : Dev)

@[simp] theorem Dev.keyRegs_sectors : d.keyRegs.sectors = d.sectors := by simp only [Dev.keyRegs, Dev.setF_sectors]
@[simp] theorem Dev.keyRegs_rekey : d.keyRegs.rekey = d.rekey := by simp only [Dev.keyRegs, Dev.setF_rekey]
@[simp] theorem Dev.keyRegs_keyCur : d.keyRegs.keyCur = d.keyCur := by simp only [Dev.keyRegs, Dev.setF_keyCur]

end

theorem Dev.keyRegs_wf {d : Dev} (hwf : regsWf d.regs = true) : regsWf d.keyRegs.regs = true :=
  Dev.setF_wf (Dev.setF_wf hwf ..) ..

/-! ### The start of a REKEY (R281) -/

/-- The key of a slot's other generation is drawn and is the current one, and the REKEY of order `x` stands at step 1. -/
def Dev.rekeyDrawn (d : Dev) (x : Order) : Dev :=
  let g := 1 - b2n (d.keyCur.testBit (x.arg 0))
  { d.drawKey (x.arg 0) g with keyCur := setBits d.keyCur (x.arg 0) 1 g, rekey := some ⟨x.id, x.arg 0, 1, []⟩ }

/-- SCR_KEYSTAT tells so. -/
def Dev.rekeyTaken (d : Dev) (x : Order) : Dev :=
  (((d.rekeyDrawn x).keyRegs.setF SCR_KEYSTAT.REKEY_BUSY 1).setF SCR_KEYSTAT.REKEY_SLOT (x.arg 0)).setF SCR_KEYSTAT.REKEY_RESUMED 0

section
variable {d : Dev} {x : Order}

/-- A healthy start for a slot whose range is enabled takes the order, where no REKEY is under way. -/
theorem Dev.rekeyStart_takes (hslot : x.arg 0 < 8) (hen : d.f (SCR_RANGE.EN (x.arg 0)) ≠ 0) (hidle : d.rekey = none) :
    d.rekeyStart x true = d.rekeyTaken x := by
  have hon : (decide (x.arg 0 ≥ 8) || !d.on (SCR_RANGE.EN (x.arg 0))) = false := by simp [Dev.on, hslot, hen]
  simp only [Dev.rekeyStart, hon, hidle, Option.any_none, Option.isSome_none, Bool.not_true, Bool.false_eq_true, if_false]
  rfl

theorem Dev.rekeyTaken_rekey : (d.rekeyTaken x).rekey = some ⟨x.id, x.arg 0, 1, []⟩ := by
  simp only [Dev.rekeyTaken, Dev.setF_rekey, Dev.keyRegs_rekey]
  rfl

theorem Dev.rekeyTaken_keyCur :
    (d.rekeyTaken x).keyCur = setBits d.keyCur (x.arg 0) 1 (1 - b2n (d.keyCur.testBit (x.arg 0))) := by
  simp only [Dev.rekeyTaken, Dev.setF_keyCur, Dev.keyRegs_keyCur]
  rfl

theorem Dev.rekeyTaken_sectors : (d.rekeyTaken x).sectors = d.sectors := by
  simp only [Dev.rekeyTaken, Dev.setF_sectors, Dev.keyRegs_sectors]
  rfl

section
variable (hwf : regsWf d.regs = true)
include hwf

/-- REKEY_BUSY is written, and the writes after it are to other fields of SCR_KEYSTAT. -/
theorem Dev.rekeyTaken_busy : (d.rekeyTaken x).f SCR_KEYSTAT.REKEY_BUSY = 1 := by
  have hdrawn : regsWf (d.rekeyDrawn x).keyRegs.regs = true := Dev.keyRegs_wf hwf
  have hbusy := Dev.setF_wf hdrawn SCR_KEYSTAT.REKEY_BUSY 1
  have hnamed := Dev.setF_wf hbusy SCR_KEYSTAT.REKEY_SLOT (x.arg 0)
  rw [Dev.rekeyTaken, Dev.f_setF_apart hnamed SCR_KEYSTAT.REKEY_RESUMED resetVal_SCR_KEYSTAT_lt _ SCR_KEYSTAT.REKEY_BUSY rfl (by decide) (by decide),
    Dev.f_setF_apart hbusy SCR_KEYSTAT.REKEY_SLOT resetVal_SCR_KEYSTAT_lt _ SCR_KEYSTAT.REKEY_BUSY rfl (by decide) (by decide),
    Dev.f_setF_same hdrawn SCR_KEYSTAT.REKEY_BUSY resetVal_SCR_KEYSTAT_lt _ (by decide)]
  rfl

/-- REKEY_SLOT names the slot, which its three bits hold. -/
theorem Dev.rekeyTaken_slot (hslot : x.arg 0 < 8) : (d.rekeyTaken x).f SCR_KEYSTAT.REKEY_SLOT = x.arg 0 := by
  have hbusy := Dev.setF_wf (Dev.keyRegs_wf (d := d.rekeyDrawn x) hwf) SCR_KEYSTAT.REKEY_BUSY 1
  have hnamed := Dev.setF_wf hbusy SCR_KEYSTAT.REKEY_SLOT (x.arg 0)
  rw [Dev.rekeyTaken, Dev.f_setF_apart hnamed SCR_KEYSTAT.REKEY_RESUMED resetVal_SCR_KEYSTAT_lt _ SCR_KEYSTAT.REKEY_SLOT rfl (by decide) (by decide),
    Dev.f_setF_same hbusy SCR_KEYSTAT.REKEY_SLOT resetVal_SCR_KEYSTAT_lt _ (by decide)]
  exact Nat.mod_eq_of_lt hslot

end

/-! ### REKEY and its resumption (R281, R282) -/

/-- A healthy first step of REKEY runs its order's start. -/
theorem runs_rekey_first {id : Nat} (hready : d.orderReady id prgRekey x) : Runs (.rekey (.run id) 1 true) d (d.rekeyStart x true) :=
  .of_act (fun s => (rfl : execRekey (.run id) 1 true s = _)) rfl (by simp only [if_true, Dev.asOrder_run hready])

/-- A REKEY that lost its order goes on from its first step in Active, its registers telling so. -/
theorem runs_rekeyResume {r : Rekey} (hrekey : d.rekey = some r) (hactive : d.phase = .active) (horder : r.order = 0)
    (hbusy : d.f SCR_KEYSTAT.REKEY_BUSY = 0) :
    Runs .rekeyResume d
      (((({ d with rekey := some { r with step := 1, cands := [] } } : Dev).setF SCR_KEYSTAT.REKEY_BUSY 1).setF SCR_KEYSTAT.REKEY_RESUMED 1).setF
        SCR_KEYSTAT.REKEY_SLOT r.slot) :=
  .of_act (fun s => (rfl : execRekeyResume s = _)) rfl (by simp [hrekey, hactive, horder, Dev.on, hbusy])

/-! ### The key sweep and the scrub (R271 to R273, R279) -/

section
variable (hpowered : d.powered = true)
include hpowered

/-- A sweep over keys of which one is known to be bad reports it again. -/
theorem runs_keySweep_known (hbad : d.badKeys ≠ []) : Runs (.keySweep false) d d.keyFail :=
  .of_act (fun s => (rfl : execKeySweep false s = _)) rfl (by simp [hpowered, hbad])

/-- A sweep over sound keys changes nothing. -/
theorem runs_keySweep_sound (hsound : d.badKeys = []) : Runs (.keySweep false) d d :=
  .of_act (fun s => (rfl : execKeySweep false s = _)) rfl (by simp [hpowered, hsound])

/-- A sweep that finds a bad key marks it and reports it. -/
theorem runs_keySweep_finds :
    Runs (.keySweep true) d ({ d.draw.2 with badKeys := setAdd (d.draw.1.toNat % 16) d.draw.2.badKeys } : Dev).keyRegs.keyFail :=
  .of_act (fun s => (rfl : execKeySweep true s = _)) rfl (by simp only [hpowered, Bool.not_true, Bool.false_eq_true, if_false, if_true])

/-- The scrub counts the words it corrects, and each uncorrectable one has its outcome. -/
theorem runs_scrubPass {ce : Nat} {ues : List TableUe} (hwf : (Instr.scrubPass ce ues).wf = true) :
    Runs (.scrubPass ce ues) d (ues.foldl Dev.tableUe (d.cnt SCR_ECC.TABLE_CE ce)) :=
  .of_act (fun s => (rfl : execScrubPass ce ues s = _)) hwf (if_pos hpowered)

end

/-! ### DECK_RUN and DECK_STOP (R471, R472) -/

section
variable {id : Nat}

/-- DECK_RUN of an order whose program has not been started starts it. -/
theorem runs_deckRun (hready : d.orderReady id prgDeckRun x) (hnew : d.deckOf x.id = false) : Runs (.deckRun (.run id)) d (d.deckRun x) :=
  .of_act (fun s => (rfl : execDeckRun (.run id) s = _)) rfl (by simp [Dev.asOrder_run hready, hnew])

/-- DECK_STOP runs its order. -/
theorem runs_deckStop (hready : d.orderReady id prgDeckStop x) : Runs (.deckStop (.run id)) d (d.deckStop x) :=
  .of_act (fun s => (rfl : execDeckStop (.run id) s = _)) rfl (Dev.asOrder_run hready ..)

end

/-- DECK_STOP of no engine ends with code 2. -/
theorem Dev.deckStop_refused (hnone : 16 ≤ x.arg 0) : d.deckStop x = d.endOrder x.id 2 0 0 := by
  simp [Dev.deckStop, hnone]

/-- DECK_STOP ends the program of an engine at helm privilege with code 9, and then its own order. -/
theorem Dev.deckStop_helm (heng : x.arg 0 < 16) (hdeck : (d.eng (x.arg 0)).deck ≠ none) (hpriv : (d.eng (x.arg 0)).priv = 0) :
    d.deckStop x = (d.endDeck (x.arg 0) 9 (d.eng (x.arg 0)).deckPc 0).endOrder x.id 0 0 0 := by
  simp [Dev.deckStop, heng.not_ge, hdeck, hpriv]

end

/-- Settles O22: a healthy start of REKEY leaves what `Dev.rekeyTaken` says (its fields of SCR_KEYSTAT by what a field reads after writes to
its register, `Dev.f_setF_same` and `Dev.f_setF_apart`); each other command runs as its own lemma says. -/
theorem keysAndDeckOrders : Obligations.KeysAndDeckOrders := by
  intro id x d
  refine ⟨?start, fun r => runs_rekeyResume, runs_keySweep_known, runs_keySweep_sound, runs_keySweep_finds,
    fun ce ues hwf hpowered => runs_scrubPass hpowered hwf, runs_deckRun,
    fun hready hnone => (runs_deckStop hready).congr (Dev.deckStop_refused hnone),
    fun hready heng hdeck hpriv => (runs_deckStop hready).congr (Dev.deckStop_helm heng hdeck hpriv)⟩
  intro hwf hready hslot hen hidle
  exact ⟨d.rekeyTaken x, (runs_rekey_first hready).congr (Dev.rekeyStart_takes hslot hen hidle), Dev.rekeyTaken_rekey,
    Dev.rekeyTaken_keyCur, Dev.rekeyTaken_busy hwf, Dev.rekeyTaken_slot hwf hslot, Dev.rekeyTaken_sectors⟩

end Sys2Proof.Machine

/-! Interrupts (chapter 09): what a cause that arises leaves as it was, the pending bit that it sets, and what it sends; the answers of the
mailbox, each of which raises vector 0 of its head; and the event logs of a head. -/

namespace Sys2Proof.Machine

/-! ### A change of one head -/

section
variable {d : Dev} {p k : Nat} {f : Head → Head}

theorem Dev.modHead_head_same (hp : p < d.heads.length) : (d.modHead p f).head p = f (d.head p) := by
  simp [Dev.head, Dev.modHead, listMod, List.getD, hp]

theorem Dev.modHead_head_ne (hk : k ≠ p) : (d.modHead p f).head k = d.head k := by
  simp [Dev.head, Dev.modHead, listMod, List.getD, hk.symm]

/-- What the change leaves of every head, it leaves of the heads of the device. -/
theorem Dev.modHead_head_keep {α : Type} (q : Head → α) (hf : ∀ x, q (f x) = q x) : q ((d.modHead p f).head k) = q (d.head k) := by
  simp only [Dev.head, Dev.modHead, listMod, List.getD, List.getElem?_modify]
  split
  · cases d.heads[k]? <;> simp [hf]
  · simp

end

/-! ### What a cause leaves as it was (R343 to R345) -/

/-- Registers are read from the register file. -/
theorem Dev.reg_congr {d e : Dev} (h : d.regs = e.regs) (off : Nat) : d.reg off = e.reg off := by simp only [Dev.reg, h]

/-- Beyond its pending bit a cause changes messages, the I3C target, and what waits for the link or the mask of its head. -/
theorem Dev.raise_frame {α : Type} (q : Dev → α) (p v : Nat) (hsend : ∀ e m, q (Dev.send e m) = q e)
    (hhead : ∀ e f, (∀ x, (f x).logs = x.logs) → q (Dev.modHead e p f) = q e) (hi3c : ∀ e k, q { e with i3c := k } = q e) (d : Dev) :
    q (d.raise p v) = q (d.orF (DEV_INTSTAT.PEND p) (2 ^ v)) := by
  simp only [Dev.raise, Dev.sendVec, apply_ite q, hsend, hi3c, hhead, implies_true, ite_self]

section
variable (d : Dev) (p v : Nat)

@[simp] theorem Dev.raise_regs : (d.raise p v).regs = (d.orF (DEV_INTSTAT.PEND p) (2 ^ v)).regs :=
  Dev.raise_frame (·.regs) p v (fun _ _ => rfl) (fun _ _ _ => rfl) (fun _ _ => rfl) d
@[simp] theorem Dev.raise_sectors : (d.raise p v).sectors = d.sectors :=
  (Dev.raise_frame (·.sectors) p v (fun _ _ => rfl) (fun _ _ _ => rfl) (fun _ _ => rfl) d).trans (Dev.orF_sectors ..)
@[simp] theorem Dev.raise_lbk : (d.raise p v).lbk = d.lbk :=
  (Dev.raise_frame (·.lbk) p v (fun _ _ => rfl) (fun _ _ _ => rfl) (fun _ _ => rfl) d).trans (Dev.orF_lbk ..)
@[simp] theorem Dev.raise_nextCsn : (d.raise p v).nextCsn = d.nextCsn :=
  (Dev.raise_frame (·.nextCsn) p v (fun _ _ => rfl) (fun _ _ _ => rfl) (fun _ _ => rfl) d).trans (Dev.orF_nextCsn ..)
@[simp] theorem Dev.raise_deck : (d.raise p v).deck = d.deck :=
  (Dev.raise_frame (·.deck) p v (fun _ _ => rfl) (fun _ _ _ => rfl) (fun _ _ => rfl) d).trans (Dev.orF_deck ..)

theorem Dev.raise_head_ne {k : Nat} (hk : k ≠ p) : (d.raise p v).head k = d.head k :=
  (Dev.raise_frame (·.head k) p v (fun _ _ => rfl) (fun _ _ _ => Dev.modHead_head_ne hk) (fun _ _ => rfl) d).trans (Dev.orF_head ..)

/-- The event logs of no head change. -/
@[simp] theorem Dev.raise_logs (k : Nat) : ((d.raise p v).head k).logs = (d.head k).logs :=
  (Dev.raise_frame (fun e => (e.head k).logs) p v (fun _ _ => rfl) (fun _ _ hf => Dev.modHead_head_keep (·.logs) hf) (fun _ _ => rfl) d).trans
    (congrArg (·.logs) (Dev.orF_head ..))

/-- No register but the one of the pending bits changes. -/
theorem Dev.raise_reg_ne {off : Nat} (hoff : off ≠ (DEV_INTSTAT.PEND p).off) : (d.raise p v).reg off = d.reg off :=
  (Dev.reg_congr (d.raise_regs p v) off).trans (Dev.reg_setReg_ne hoff _)

end

/-! ### The pending bit -/

theorem resetVal_DEV_INTSTAT : ∀ p, p < 3 → resetVal (0x28 + 4 * p) = 0 := by decide +kernel

/-- A register written with another value than its reset value reads as its low 64 bits, whatever the register file lists. -/
theorem Dev.reg_setReg_listed {d : Dev} {off v : Nat} (hv : BitVec.ofNat 64 v ≠ BitVec.ofNat 64 (resetVal off)) :
    (d.setReg off v).reg off = v % 2 ^ 64 := by
  simp [Dev.setReg, hv, Dev.reg, assocGet_set_same]

/-- A cause sets its bit of the pending bits (R343), whether it stood or not. -/
theorem Dev.raise_pending {p v : Nat} (hp : p < 3) (hv : v < 8) (d : Dev) : ((d.raise p v).f (DEV_INTSTAT.PEND p)).testBit v = true := by
  let new := setBits (d.reg (0x28 + 4 * p)) 0 8 (d.f (DEV_INTSTAT.PEND p) ||| 2 ^ v)
  have hbit : new.testBit v = true := by simp [new, testBit_setBits, hv]
  have hlow : (new % 2 ^ 64).testBit v = true := by
    rw [Nat.testBit_mod_two_pow, hbit, decide_eq_true (show v < 64 by omega), Bool.and_self]
  have hlisted : BitVec.ofNat 64 new ≠ BitVec.ofNat 64 (resetVal (0x28 + 4 * p)) := by
    rw [resetVal_DEV_INTSTAT p hp]
    intro h
    have hzero : new % 2 ^ 64 = 0 := by simpa using congrArg BitVec.toNat h
    rw [hzero, Nat.zero_testBit] at hlow
    cases hlow
  have hreg : (d.raise p v).reg (0x28 + 4 * p) = new % 2 ^ 64 :=
    (Dev.reg_congr (d.raise_regs p v) _).trans (Dev.reg_setReg_listed hlisted)
  show (bits ((d.raise p v).reg (0x28 + 4 * p)) 0 8).testBit v = true
  rw [testBit_bits, hreg, Nat.zero_add, hlow, decide_eq_true hv, Bool.and_self]

/-! ### What a cause sends -/

/-- The pending bits stand in another register than the state of a port. -/
theorem Dev.orF_PEND_inL0 {p : Nat} (hp : p < 2) (d : Dev) (k v : Nat) : (d.orF (DEV_INTSTAT.PEND k) v).inL0 p = d.inL0 p := by
  have hreg : (d.orF (DEV_INTSTAT.PEND k) v).reg (0x10 + 4 * p) = d.reg (0x10 + 4 * p) :=
    Dev.reg_setReg_ne (by simp only [DEV_INTSTAT.PEND]; omega) _
  simp only [Dev.inL0, Dev.on, Dev.f, DEV_PORTSTAT.RATE, DEV_PORTSTAT.L1, DEV_PORTSTAT.PERST, hreg]

section
variable {d : Dev} {p v : Nat}

/-- A cause that is pending already sends nothing. -/
theorem Dev.raise_again (hold : (d.f (DEV_INTSTAT.PEND p)).testBit v = true) : d.raise p v = d.orF (DEV_INTSTAT.PEND p) (2 ^ v) :=
  if_pos hold

/-- A first cause sends the message of its vector at a head with MSI-X, where the vector is not masked and the link is in L0. -/
theorem Dev.raise_msix (hnew : (d.f (DEV_INTSTAT.PEND p)).testBit v = false) (hp : p < 2) (hmsix : (d.head p).msix = true)
    (hmask : (d.head p).mask.testBit v = false) (hlink : d.inL0 p = true) :
    d.raise p v = (d.orF (DEV_INTSTAT.PEND p) (2 ^ v)).send (.msix p v) := by
  simp [Dev.raise, Dev.sendVec, hnew, hp.ne, hmsix, hmask, Dev.orF_PEND_inL0 hp, hlink]

/-- A first cause sends an IBI at an I3C target that has an address and whose IBIs are enabled. -/
theorem Dev.raise_ibi (hnew : (d.f (DEV_INTSTAT.PEND 2)).testBit v = false) (hibi : d.i3c.ibiOn = true) (haddr : d.i3c.addr ≠ none) :
    ∃ w, (d.raise 2 v).out = .ibi w :: d.out := by
  refine ⟨(d.orF (DEV_INTSTAT.PEND 2) (2 ^ v)).reg 0x30, ?_⟩
  simp [Dev.raise, hnew, hibi, Option.isSome_iff_ne_none.mpr haddr, Dev.send]

end

/-- Settles O59: the bit stands by `Dev.raise_pending`; what is sent, `Dev.raise_again`, `Dev.raise_msix` and `Dev.raise_ibi` say. -/
theorem interruptOnce : Obligations.InterruptOnce := by
  intro p v d hp hv _
  refine ⟨Dev.raise_pending hp hv d, fun hold => ?_, fun hnew => ⟨fun hhead hmsix hmask hlink => ?_, ?_⟩⟩
  · rw [Dev.raise_again hold, Dev.orF_out]
  · rw [Dev.raise_msix hnew hhead hmsix hmask hlink]
    simp [Dev.send]
  · rintro rfl
    exact Dev.raise_ibi hnew

/-! ### Answers of the mailbox (R319, R321, R322, R587) -/

/-- A cause takes back no message: what it sends comes before those sent. -/
theorem Dev.raise_out_suffix (d : Dev) (p v : Nat) : d.out <:+ (d.raise p v).out := by
  simp only [Dev.raise, Dev.sendVec]
  split_ifs <;> simp [Dev.send]

section
variable (d : Dev) (h op rc : Nat) (payload : List (BitVec 8))

@[simp] theorem Dev.reply_sectors : (d.reply h op rc payload).sectors = d.sectors := by simp only [Dev.reply, Dev.raise_sectors, Dev.send_sectors]
@[simp] theorem Dev.reply_lbk : (d.reply h op rc payload).lbk = d.lbk := by simp only [Dev.reply, Dev.raise_lbk, Dev.send_lbk]
@[simp] theorem Dev.reply_nextCsn : (d.reply h op rc payload).nextCsn = d.nextCsn := by
  simp only [Dev.reply, Dev.raise_nextCsn, Dev.send_nextCsn]
@[simp] theorem Dev.reply_deck : (d.reply h op rc payload).deck = d.deck := by simp only [Dev.reply, Dev.raise_deck, Dev.send_deck]
@[simp] theorem Dev.reply_logs (k : Nat) : ((d.reply h op rc payload).head k).logs = (d.head k).logs := by
  simp only [Dev.reply, Dev.raise_logs, Dev.send_head]

end

section
variable {d : Dev} {op : Nat}

/-- An early command passes every gate. -/
theorem Dev.mboxGate_early (hearly : earlyOps.contains op = true) : d.mboxGate op = none := if_pos hearly

section
variable (hlate : earlyOps.contains op = false)
include hlate

/-- A later one finds the medium disabled until start-up has ended, and while the device is Becalmed. -/
theorem Dev.mboxGate_starting (hphase : d.phase = .becalmed ∨ d.starting = true) : d.mboxGate op = some rcMediaDisabled := by
  have hcond : (d.phase == .becalmed || d.starting) = true := by simpa using hphase
  simp only [Dev.mboxGate, hlate, hcond, Bool.false_eq_true, if_false, if_true]

section
variable (hactive : d.phase = .active)
include hactive

/-- So it does in Hove-to. -/
theorem Dev.mboxGate_hove (hhove : d.f SAF_STAT.HOVE ≠ 0) (hop : hoveOps.contains op = false) : d.mboxGate op = some rcMediaDisabled := by
  have hcond : (d.on SAF_STAT.HOVE && !hoveOps.contains op) = true := by simp only [Dev.on, hop, bne_iff_ne.mpr hhove, Bool.not_false, Bool.and_self]
  simp only [Dev.mboxGate, hlate, hcond, Dev.starting, hactive, Bool.false_eq_true, if_false, if_true, Bool.or_false, beq_iff_eq, reduceCtorEq]

/-- While a Sanitize runs, the device is busy. -/
theorem Dev.mboxGate_sanitize (hhove : d.f SAF_STAT.HOVE = 0) (hsan : d.sanitize ≠ none) : d.mboxGate op = some rcBusy := by
  simp only [Dev.mboxGate, hlate, Dev.starting, Dev.on, hactive, hhove, Option.isSome_iff_ne_none.mpr hsan, Bool.false_eq_true, if_false,
    if_true, Bool.or_false, beq_iff_eq, reduceCtorEq, bne_self_eq_false, Bool.false_and]

end

end

end

/-- Settles O14: an answer is a message and a cause of vector 0, which leaves what `Dev.raise_frame` and `Dev.raise_reg_ne` say; the gate of an
opcode by its four cases. -/
theorem mailboxAnswer : Obligations.MailboxAnswer := by
  refine ⟨fun h op rc payload d hh => ⟨?sent, ?pending, ?others, ?head, ?_, ?_, ?_⟩,
    fun op d => ⟨Dev.mboxGate_early, Dev.mboxGate_starting, Dev.mboxGate_hove, Dev.mboxGate_sanitize⟩⟩
  case sent => exact (Dev.raise_out_suffix (d.send (.mbox h op rc payload)) h 0).mem (List.mem_cons_self ..)
  case pending =>
    have hbit := Dev.raise_pending (p := h) (v := 0) (by omega) (by decide) (d.send (.mbox h op rc payload))
    exact of_decide_eq_true ((Nat.testBit_zero _).symm.trans hbit)
  case others => exact fun off hoff => (Dev.raise_reg_ne _ h 0 hoff).trans (Dev.send_reg ..)
  case head => exact (Dev.raise_head_ne _ h 0 (by omega)).trans (Dev.send_head ..)
  · exact Dev.reply_sectors ..
  · exact Dev.reply_lbk ..
  · exact Dev.reply_nextCsn ..

end Sys2Proof.Machine

/-! The event logs of the heads, and the standard commands of the mailbox (chapter 09): its reports, the commands that change what a head or the
device holds, and those that run in the background. -/

namespace Sys2Proof.Machine

/-! ### Commands that the mailbox serves -/

section
variable {c : Instr} {ok : Bool} {h op rc : Nat} {b : List (BitVec 8)} {f : Dev → Nat × List (BitVec 8) × Dev} {d d' : Dev}
  (hc : ∀ s, exec c s = act ok s (fun d => d.mailbox h op f)) (hok : ok = true) (hserves : d.serves h op = true)
include hc hok hserves

/-- A command that succeeds is answered with its payload. -/
theorem runs_mailbox_gives (hf : f d.touch = (rcSuccess, b, d')) : Runs c d (d'.reply h op rcSuccess b) :=
  .of_act hc hok (by rw [Dev.mailbox_serves hserves, hf]; rfl)

/-- A command without a payload is answered with its return code. -/
theorem runs_mailbox_ends (hf : f d.touch = (rc, [], d')) : Runs c d (d'.reply h op rc []) :=
  .of_act hc hok (by rw [Dev.mailbox_serves hserves, hf, ite_self])

end

/-! ### Event logs (R314, R316) -/

/-- What a log becomes when record `r` is placed in it at host time `now`: a full one counts it. -/
def CxlLog.placed (l : CxlLog) (now : Nat) (r : CxlRec) : CxlLog :=
  if l.recs.length ≥ 256 then { l with overflow := satAdd 16 l.overflow 1, firstOv := if l.overflow = 0 then now else l.firstOv, lastOv := now }
  else { l with recs := l.recs ++ [(l.nextHandle, r)], nextHandle := l.nextHandle % 65535 + 1 }

/-- A log of 256 records counts the record in 16 bits. -/
theorem CxlLog.placed_full {l : CxlLog} (hfull : 256 ≤ l.recs.length) (now : Nat) (r : CxlRec) :
    l.placed now r = { l with overflow := min (l.overflow + 1) 65535, firstOv := if l.overflow = 0 then now else l.firstOv, lastOv := now } :=
  if_pos hfull

/-- A log with room takes the record as its newest. -/
theorem CxlLog.placed_room {l : CxlLog} (hroom : l.recs.length < 256) (now : Nat) (r : CxlRec) :
    l.placed now r = { l with recs := l.recs ++ [(l.nextHandle, r)], nextHandle := l.nextHandle % 65535 + 1 } :=
  if_neg hroom.not_ge

section
variable {d : Dev} {p log : Nat}

/-- A head's logs after a change of them. -/
theorem Dev.modHead_logs_same (hp : p < d.heads.length) (g : List CxlLog → List CxlLog) :
    ((d.modHead p (fun x => { x with logs := g x.logs })).head p).logs = g (d.head p).logs :=
  congrArg (·.logs) (Dev.modHead_head_same hp)

/-- Placing a record in a log changes that log alone; the interrupt of its policy changes none. -/
theorem Dev.logTo_logs (hp : p < d.heads.length) (r : CxlRec) :
    ((d.logTo p log r).head p).logs = listSet (d.head p).logs log (((d.head p).logs.getD log {}).placed d.hostTime r) := by
  rw [← Dev.modHead_logs_same hp (fun logs => listSet logs log (((d.head p).logs.getD log {}).placed d.hostTime r))]
  simp only [Dev.logTo]
  split
  · exact Dev.raise_logs ..
  · rfl

theorem Dev.logTo_logs_ne {k : Nat} (hk : k ≠ p) (r : CxlRec) : ((d.logTo p log r).head k).logs = (d.head k).logs := by
  simp only [Dev.logTo]
  split
  · rw [Dev.raise_logs, Dev.modHead_head_ne hk]
  · rw [Dev.modHead_head_ne hk]

end

section
variable {α : Type} {l : List α} {i j : Nat}

theorem getD_listSet_same (hi : i < l.length) (v e : α) : (listSet l i v).getD i e = v := by simp [listSet, List.getD, hi]

theorem getD_listSet_ne (hj : j ≠ i) (v e : α) : (listSet l i v).getD j e = l.getD j e := by
  simp [listSet, List.getD, List.getElem?_set_ne hj.symm]

end

/-- A log that keeps the records `recs` and begins to count anew. -/
def CxlLog.keeping (l : CxlLog) (recs : List (Nat × CxlRec)) : CxlLog := { l with recs := recs, overflow := 0, firstOv := 0, lastOv := 0 }

/-- Of log `log` of head `h` the records `recs` are left (R316). -/
def Dev.keepRecs (d : Dev) (h log : Nat) (recs : List (Nat × CxlRec)) : Dev :=
  d.modHead h (fun x => { x with logs := listSet x.logs log (((d.head h).logs.getD log {}).keeping recs) })

section
variable {d : Dev} {h log : Nat} {handles : List Nat} (hserves : d.serves h 0x0101 = true)
include hserves

/-- Clear Event Records of all records empties the log. -/
theorem runs_clearEventRecords_all (hwf : (Instr.clearEventRecords h log true handles).wf = true) :
    Runs (.clearEventRecords h log true handles) d ((d.touch.keepRecs h log []).reply h 0x0101 rcSuccess []) :=
  runs_mailbox_ends (fun s => (rfl : execClearEventRecords h log true handles s = _)) hwf hserves rfl

end

/-- Settles O58: a record placed is `CxlLog.placed` (`Dev.logTo_logs`); a clear changes one log of one head, and its answer none. -/
theorem eventLogs : Obligations.EventLogs := by
  refine ⟨fun p log r d hp hlog hheads hlogs => ?place, fun h log handles d hwf hlog hserved hheads hlogs => ?clear⟩
  case place =>
    have hset := Dev.logTo_logs (log := log) (hheads.symm ▸ hp) r
    have hsame : ((d.logTo p log r).head p).logs.getD log {} = ((d.head p).logs.getD log {}).placed d.hostTime r := by
      rw [hset, getD_listSet_same (hlogs.symm ▸ hlog)]
    refine ⟨fun hfull => ?_, fun hroom => ?_, fun k hk => ?_, Dev.logTo_logs_ne (by omega) r⟩
    · rw [hsame, CxlLog.placed_full hfull]
      exact ⟨rfl, rfl, rfl, rfl⟩
    · rw [hsame, CxlLog.placed_room hroom]
      exact ⟨rfl, rfl, rfl, rfl⟩
    · rw [hset, getD_listSet_ne hk]
  case clear =>
    have hh : h < 2 := by
      simp only [Instr.wf, okClearEventRecords, Bool.and_eq_true, decide_eq_true_eq] at hwf
      exact hwf.1.1
    have hset : ((d.touch.keepRecs h log []).head h).logs = _ :=
      Dev.modHead_logs_same (d := d.touch) (hheads.symm ▸ hh) (fun logs => listSet logs log _)
    refine ⟨_, runs_clearEventRecords_all (Dev.serves_iff.mpr (Dev.served_gate hserved _)) hwf, ?_, fun k hk => ?_, ?_, ?_, ?_, ?_⟩
    · rw [Dev.reply_logs, hset, getD_listSet_same (hlogs.symm ▸ hlog)]
      rfl
    · rw [Dev.reply_logs, hset, getD_listSet_ne hk, Dev.touch_head]
    · rw [Dev.reply_logs, Dev.keepRecs, Dev.modHead_head_ne (by omega), Dev.touch_head]
    · exact Dev.reply_deck ..
    · exact Dev.reply_lbk ..
    · exact Dev.reply_sectors ..

/-! ### Reports and reads (Table 9.4) -/

section
variable {d : Dev} {h off len : Nat}

section
variable (hwf : (Instr.getLog h off len).wf = true) (hserves : d.serves h 0x0401 = true)
include hwf hserves

/-- Get Log gives a part of the Command Effects Log that fits the payload. -/
theorem runs_getLog_gives (hend : off + len ≤ 4 * supportedOps.length) (hlen : len ≤ 4096) :
    Runs (.getLog h off len) d (d.touch.reply h 0x0401 rcSuccess ((effectsLog.drop off).take len)) :=
  runs_mailbox_gives (fun s => (rfl : execGetLog h off len s = _)) hwf hserves (if_neg (by simp [hend.not_gt, hlen.not_gt]))

/-- It refuses any other. -/
theorem runs_getLog_refused (hbad : 4 * supportedOps.length < off + len ∨ 4096 < len) :
    Runs (.getLog h off len) d (d.touch.reply h 0x0401 rcInvalidInput []) :=
  runs_mailbox_ends (fun s => (rfl : execGetLog h off len s = _)) hwf hserves (if_pos (by simpa using hbad))

end

section
variable (hwf : (Instr.getLsa h off len).wf = true) (hserves : d.serves h 0x4102 = true)
include hwf hserves

/-- Get LSA gives a part of the label storage that fits the payload. -/
theorem runs_getLsa_gives (hend : off + len ≤ 131072) (hlen : len ≤ 4096) :
    Runs (.getLsa h off len) d (d.touch.reply h 0x4102 rcSuccess (memRead d.lbk (1024 * 256 + off) len)) :=
  runs_mailbox_gives (fun s => (rfl : execGetLsa h off len s = _)) hwf hserves (if_neg (by simp [hend.not_gt, hlen.not_gt]))

/-- It refuses any other. -/
theorem runs_getLsa_refused (hbad : 131072 < off + len ∨ 4096 < len) :
    Runs (.getLsa h off len) d (d.touch.reply h 0x4102 rcInvalidInput []) :=
  runs_mailbox_ends (fun s => (rfl : execGetLsa h off len s = _)) hwf hserves (if_pos (by simpa using hbad))

end

end

/-- Settles O15: each report is answered with the payload that its command builds (`runs_mailbox_gives`); a read that has bounds, by its two
lemmas. -/
theorem mailboxReports : Obligations.MailboxReports := by
  refine ⟨fun h d hh => ?reports, fun h d hh => ?reads⟩
  case reports =>
    have hok : decide (h < 2) = true := decide_eq_true hh
    exact ⟨fun hserves => runs_mailbox_gives (fun s => (rfl : execIdentify h s = _)) hok hserves rfl,
      fun hserves => runs_mailbox_gives (fun s => (rfl : execGetEventInterruptPolicy h s = _)) hok hserves rfl,
      fun hserves => runs_mailbox_gives (fun s => (rfl : execGetFwInfo h s = _)) hok hserves rfl,
      fun hserves => runs_mailbox_gives (fun s => (rfl : execGetTimestamp h s = _)) hok hserves rfl,
      fun hserves => runs_mailbox_gives (fun s => (rfl : execGetSupportedLogs h s = _)) hok hserves rfl,
      fun hserves => runs_mailbox_gives (fun s => (rfl : execIdentifyMemoryDevice h s = _)) hok hserves rfl,
      fun hserves => runs_mailbox_gives (fun s => (rfl : execGetPartitionInfo h s = _)) hok hserves rfl,
      fun hserves => runs_mailbox_gives (fun s => (rfl : execGetHealthInfo h s = _)) hok hserves rfl,
      fun hserves => runs_mailbox_gives (fun s => (rfl : execGetAlertConfiguration h s = _)) hok hserves rfl,
      fun hserves => runs_mailbox_gives (fun s => (rfl : execGetShutdownState h s = _)) hok hserves rfl⟩
  case reads =>
    refine ⟨fun log hlog hserves => ?_, fun off len hwf hserves => ⟨runs_getLog_gives hwf hserves, runs_getLog_refused hwf hserves⟩,
      fun off len hwf hserves => ⟨runs_getLsa_gives hwf hserves, runs_getLsa_refused hwf hserves⟩, fun start len hwf hserves => ?_⟩
    · have hok : okGetEventRecords h log = true := by simp [okGetEventRecords, hh, hlog]
      exact runs_mailbox_gives (fun s => (rfl : execGetEventRecords h log s = _)) hok hserves rfl
    · exact runs_mailbox_gives (fun s => (rfl : execGetPoisonList h start len s = _)) hwf hserves rfl

/-! ### Commands that change what a head or the device holds (Table 9.4) -/

section
variable {d : Dev} {h : Nat}

section
variable {log : Nat} {handles : List Nat} (hwf : (Instr.clearEventRecords h log false handles).wf = true)
  (hserves : d.serves h 0x0101 = true)
include hwf hserves

/-- Clear Event Records of records that the log holds clears them. -/
theorem runs_clearEventRecords_named
    (hheld : handles.all (fun k => ((d.head h).logs.getD log {}).recs.any (fun r => r.1 = k)) = true) :
    Runs (.clearEventRecords h log false handles) d ((d.touch.keepRecs h log
      (((d.head h).logs.getD log {}).recs.filter (fun r => !handles.contains r.1))).reply h 0x0101 rcSuccess []) :=
  runs_mailbox_ends (fun s => (rfl : execClearEventRecords h log false handles s = _)) hwf hserves
    ((if_neg Bool.false_ne_true).trans (if_pos hheld))

/-- One that names a record that the log does not hold is refused. -/
theorem runs_clearEventRecords_refused
    (hbad : handles.all (fun k => ((d.head h).logs.getD log {}).recs.any (fun r => r.1 = k)) = false) :
    Runs (.clearEventRecords h log false handles) d (d.touch.reply h 0x0101 rcInvalidHandle []) :=
  runs_mailbox_ends (fun s => (rfl : execClearEventRecords h log false handles s = _)) hwf hserves
    ((if_neg Bool.false_ne_true).trans (if_neg (ne_true_of_eq_false hbad)))

end

section
variable {policy : List Nat} (hwf : (Instr.setEventInterruptPolicy h policy).wf = true) (hserves : d.serves h 0x0103 = true)
include hwf hserves

/-- An interrupt policy without firmware interrupts is kept. -/
theorem runs_setEventInterruptPolicy_sets (hgood : policy.any (fun m => decide (2 ≤ m)) = false) :
    Runs (.setEventInterruptPolicy h policy) d ((d.touch.modHead h (fun x => { x with policy := policy })).reply h 0x0103 rcSuccess []) :=
  runs_mailbox_ends (fun s => (rfl : execSetEventInterruptPolicy h policy s = _)) hwf hserves (if_neg (ne_true_of_eq_false hgood))

/-- Any other is refused. -/
theorem runs_setEventInterruptPolicy_refused (hbad : policy.any (fun m => decide (2 ≤ m)) = true) :
    Runs (.setEventInterruptPolicy h policy) d (d.touch.reply h 0x0103 rcInvalidInput []) :=
  runs_mailbox_ends (fun s => (rfl : execSetEventInterruptPolicy h policy s = _)) hwf hserves (if_pos hbad)

end

/-! The helm patch area and its activation. -/

section
variable {slot off : Nat} {data : List (BitVec 8)} (hwf : (Instr.transferFw h slot off data).wf = true) (hserves : d.serves h 0x0201 = true)
include hwf hserves

/-- No slot but slot 2 can be written. -/
theorem runs_transferFw_slot (hslot : slot ≠ 2) : Runs (.transferFw h slot off data) d (d.touch.reply h 0x0201 rcInvalidSlot []) :=
  runs_mailbox_ends (fun s => (rfl : execTransferFw h slot off data s = _)) hwf hserves (if_pos (bne_iff_ne.mpr hslot))

/-- Slot 2 takes no byte beyond its area. -/
theorem runs_transferFw_beyond (hslot : slot = 2) (hend : 262144 < off + data.length) :
    Runs (.transferFw h slot off data) d (d.touch.reply h 0x0201 rcInvalidInput []) :=
  runs_mailbox_ends (fun s => (rfl : execTransferFw h slot off data s = _)) hwf hserves
    (by simp only [hslot, bne_self_eq_false, Bool.false_eq_true, if_false, if_pos hend])

/-- What lies within its area is written to the Logbook. -/
theorem runs_transferFw_stores {w : Bool × Dev} (hw : w = d.touch.lbkWrite (2720 * 256 + off) data) (hslot : slot = 2)
    (hend : off + data.length ≤ 262144) :
    Runs (.transferFw h slot off data) d (w.2.reply h 0x0201 (if w.1 then rcSuccess else rcInternal) []) :=
  runs_mailbox_ends (fun s => (rfl : execTransferFw h slot off data s = _)) hwf hserves
    (by simp only [hslot, hw, bne_self_eq_false, Bool.false_eq_true, if_false, if_neg hend.not_gt])

end

section
variable {action slot : Nat} (hwf : (Instr.activateFw h action slot).wf = true) (hserves : d.serves h 0x0202 = true)
include hwf hserves

/-- Slot 2 is activated at the next start. -/
theorem runs_activateFw_next (hslot : slot = 2) (haction : action = 1) :
    Runs (.activateFw h action slot) d (({ d.touch with patchNext := true } : Dev).reply h 0x0202 rcSuccess []) :=
  runs_mailbox_ends (fun s => (rfl : execActivateFw h action slot s = _)) hwf hserves
    (by simp only [hslot, haction, bne_self_eq_false, Bool.false_eq_true, if_false])

/-- No other slot is. -/
theorem runs_activateFw_slot (hslot : slot ≠ 2) : Runs (.activateFw h action slot) d (d.touch.reply h 0x0202 rcInvalidSlot []) :=
  runs_mailbox_ends (fun s => (rfl : execActivateFw h action slot s = _)) hwf hserves (if_pos (bne_iff_ne.mpr hslot))

/-- Nor is it activated otherwise. -/
theorem runs_activateFw_action (hslot : slot = 2) (haction : action ≠ 1) :
    Runs (.activateFw h action slot) d (d.touch.reply h 0x0202 rcInvalidInput []) :=
  runs_mailbox_ends (fun s => (rfl : execActivateFw h action slot s = _)) hwf hserves
    (by simp only [hslot, bne_self_eq_false, Bool.false_eq_true, if_false, bne_iff_ne.mpr haction, if_true])

end

section
variable {off : Nat} {data : List (BitVec 8)} (hwf : (Instr.setLsa h off data).wf = true) (hserves : d.serves h 0x4103 = true)
include hwf hserves

/-- Set LSA writes what lies within the label storage. -/
theorem runs_setLsa_stores {w : Bool × Dev} (hw : w = d.touch.lbkWrite (1024 * 256 + off) data) (hend : off + data.length ≤ 131072) :
    Runs (.setLsa h off data) d (w.2.reply h 0x4103 (if w.1 then rcSuccess else rcInternal) []) :=
  runs_mailbox_ends (fun s => (rfl : execSetLsa h off data s = _)) hwf hserves (by simp only [hw, if_neg hend.not_gt])

/-- It refuses what does not. -/
theorem runs_setLsa_refused (hend : 131072 < off + data.length) : Runs (.setLsa h off data) d (d.touch.reply h 0x4103 rcInvalidInput []) :=
  runs_mailbox_ends (fun s => (rfl : execSetLsa h off data s = _)) hwf hserves (if_pos hend)

end

section
variable {valid enable life temp : Nat} (hwf : (Instr.setAlertConfiguration h valid enable life temp).wf = true)
  (hserves : d.serves h 0x4202 = true)
include hwf hserves

/-- The thresholds that `valid` names are set. -/
theorem runs_setAlertConfiguration_sets (hvalid : valid < 4) (hen : enable < 4) :
    Runs (.setAlertConfiguration h valid enable life temp) d
      (({ d.touch with alertCfg :=
        ((d.alertCfg.1 - (d.alertCfg.1 &&& valid)) ||| (enable &&& valid), if valid.testBit 0 then life else d.alertCfg.2.1,
          if valid.testBit 1 then temp else d.alertCfg.2.2) } : Dev).reply h 0x4202 rcSuccess []) :=
  runs_mailbox_ends (fun s => (rfl : execSetAlertConfiguration h valid enable life temp s = _)) hwf hserves
    (if_neg (by simp [hvalid.not_ge, hen.not_ge]))

/-- Bits beyond the two thresholds are refused. -/
theorem runs_setAlertConfiguration_refused (hbad : 4 ≤ valid ∨ 4 ≤ enable) :
    Runs (.setAlertConfiguration h valid enable life temp) d (d.touch.reply h 0x4202 rcInvalidInput []) :=
  runs_mailbox_ends (fun s => (rfl : execSetAlertConfiguration h valid enable life temp s = _)) hwf hserves (if_pos (by simpa using hbad))

end

/-- Set Shutdown State is kept in the Logbook. -/
theorem runs_setShutdownState {v : Nat} {w : Bool × Dev} (hwf : (Instr.setShutdownState h v).wf = true) (hserves : d.serves h 0x4204 = true)
    (hw : w = d.touch.lbkWrite shutdownAddr (leBytes 1 v)) :
    Runs (.setShutdownState h v) d (w.2.reply h 0x4204 (if w.1 then rcSuccess else rcInternal) []) :=
  runs_mailbox_ends (fun s => (rfl : execSetShutdownState h v s = _)) hwf hserves (by rw [hw])

/-! Injected poison and its clearing (R311, R312). -/

theorem Dev.region_bne_window {a : Nat} (hregion : d.region a = .window) : ¬ (d.region a != .window) = true :=
  fun hne => bne_iff_ne.mp hne hregion

section
variable {dpa : Nat} (hwf : (Instr.injectPoison h dpa).wf = true) (hserves : d.serves h 0x4301 = true)
include hwf hserves

/-- An address outside the window is none that can be poisoned. -/
theorem runs_injectPoison_outside (hregion : d.region dpa ≠ .window) :
    Runs (.injectPoison h dpa) d (d.touch.reply h 0x4301 rcInvalidAddr []) :=
  runs_mailbox_ends (fun s => (rfl : execInjectPoison h dpa s = _)) hwf hserves (if_pos (bne_iff_ne.mpr hregion))

section
variable (hregion : d.region dpa = .window)
include hregion

/-- Without SURVEY, and in a seal, no poison is injected. -/
theorem runs_injectPoison_refused (hbad : d.mSurvey = false ∨ d.seals.any (fun x => x.meets (dpa / 64 * 64) 64) = true) :
    Runs (.injectPoison h dpa) d (d.touch.reply h 0x4301 rcInvalidInput []) := by
  have hcond : (!d.mSurvey || d.seals.any (fun x => x.meets (dpa / 64 * 64) 64)) = true := by
    rwa [Bool.or_eq_true, Bool.not_eq_true']
  exact runs_mailbox_ends (fun s => (rfl : execInjectPoison h dpa s = _)) hwf hserves
    ((if_neg (Dev.region_bne_window hregion)).trans (if_pos hcond))

section
variable (hsurvey : d.mSurvey = true) (hfree : d.seals.any (fun x => x.meets (dpa / 64 * 64) 64) = false)
include hsurvey hfree

/-- Else the limit of 64 lines decides: below it the line is poisoned, and what stood of it is superseded. -/
theorem runs_injectPoison_open :
    (d.injected < 64 → Runs (.injectPoison h dpa) d
      (((d.touch.markPoison (dpa / 64) 1).supersede (dpa / 64)).reply h 0x4301 rcSuccess [])) ∧
    (64 ≤ d.injected → Runs (.injectPoison h dpa) d (d.touch.reply h 0x4301 rcInjectLimit [])) := by
  have hgo : ¬ (!d.mSurvey || d.seals.any (fun x => x.meets (dpa / 64 * 64) 64)) = true := by
    rw [hsurvey, hfree]
    decide
  have hopen {rc : Nat} {e : Dev} (hlimit : (if d.touch.injected ≥ 64 then (rcInjectLimit, ([] : List (BitVec 8)), d.touch)
      else (rcSuccess, [], (d.touch.markPoison (dpa / 64) 1).supersede (dpa / 64))) = (rc, [], e)) :
      Runs (.injectPoison h dpa) d (e.reply h 0x4301 rc []) :=
    runs_mailbox_ends (fun s => (rfl : execInjectPoison h dpa s = _)) hwf hserves
      ((if_neg (Dev.region_bne_window hregion)).trans ((if_neg hgo).trans hlimit))
  exact ⟨fun hroom => hopen (if_neg hroom.not_ge), fun hfull => hopen (if_pos hfull)⟩

end

end

end

/-! Clear Poison is no command of `Dev.mailbox`: the write that it makes answers it. -/

section
variable {dpa : Nat} {data : Line} (hwf : (Instr.clearPoison h dpa data).wf = true) (hserves : d.serves h 0x4302 = true)
include hwf hserves

/-- Clear Poison of a line of the window is a full-line write to it (R312). -/
theorem runs_clearPoison_writes (hregion : d.region dpa = .window) :
    Runs (.clearPoison h dpa data) d
      (d.touch.memWrite (4 + h) 0x4302 (dpa / 64 * 64) data fullMask false false ⟨[], false, false, false⟩
        (entryCheck (dpa / 64) data fullMask)) := by
  obtain ⟨hon, hgate⟩ := Dev.serves_iff.mp hserves
  exact .of_act (fun s => (rfl : execClearPoison h dpa data s = _)) hwf (by
    simp only [hon, hgate, hregion, bne_self_eq_false, Bool.not_true, Bool.false_eq_true, if_false, cleanRead])

/-- Elsewhere there is no poison to clear. -/
theorem runs_clearPoison_outside (hregion : d.region dpa ≠ .window) :
    Runs (.clearPoison h dpa data) d (d.reply h 0x4302 rcInvalidAddr []) := by
  obtain ⟨hon, hgate⟩ := Dev.serves_iff.mp hserves
  exact .of_act (fun s => (rfl : execClearPoison h dpa data s = _)) hwf (by
    simp only [hon, hgate, bne_iff_ne.mpr hregion, Bool.not_true, Bool.false_eq_true, if_false, if_true])

end

end

/-- Settles O16: each command runs as its own lemmas say, where it acts and where it refuses; an unsupported one is answered so. -/
theorem mailboxSets : Obligations.MailboxSets := by
  refine ⟨fun h d hh => ⟨fun log handles hlog hserves => ?clear, fun policy hwf hserves => ?policy, fun slot off data hwf hserves => ?transfer,
    fun action slot hwf hserves => ?activate, fun ns hwf hserves => ?time, fun off data hwf hserves => ?label,
    fun valid enable life temp hwf hserves => ?alert, fun v hwf hserves => ?shutdown, fun dpa hwf hserves => ?inject,
    fun dpa data hwf hserves => ?poison⟩, fun h d hh => ?unsupported⟩
  case clear =>
    exact ⟨runs_clearEventRecords_all hserves, fun hwf =>
      ⟨runs_clearEventRecords_named hwf hserves, runs_clearEventRecords_refused hwf hserves⟩⟩
  case policy => exact ⟨runs_setEventInterruptPolicy_sets hwf hserves, runs_setEventInterruptPolicy_refused hwf hserves⟩
  case transfer => exact ⟨runs_transferFw_slot hwf hserves, runs_transferFw_beyond hwf hserves, runs_transferFw_stores hwf hserves rfl⟩
  case activate => exact ⟨runs_activateFw_next hwf hserves, runs_activateFw_slot hwf hserves, runs_activateFw_action hwf hserves⟩
  case time => exact runs_mailbox_ends (fun s => (rfl : execSetTimestamp h ns s = _)) hwf hserves rfl
  case label => exact ⟨runs_setLsa_stores hwf hserves rfl, runs_setLsa_refused hwf hserves⟩
  case alert => exact ⟨runs_setAlertConfiguration_sets hwf hserves, runs_setAlertConfiguration_refused hwf hserves⟩
  case shutdown => exact runs_setShutdownState hwf hserves rfl
  case inject =>
    exact ⟨runs_injectPoison_open hwf hserves, runs_injectPoison_refused hwf hserves, runs_injectPoison_outside hwf hserves⟩
  case poison => exact ⟨runs_clearPoison_writes hwf hserves, runs_clearPoison_outside hwf hserves⟩
  case unsupported =>
    exact ⟨fun inp hwf hserves => runs_mailbox_ends (fun s => (rfl : execSetPartitionInfo h inp s = _)) hwf hserves rfl,
      fun op hwf hserves => runs_mailbox_ends (fun s => (rfl : execScanMedia h op s = _)) hwf hserves rfl,
      fun op hwf hserves => runs_mailbox_ends (fun s => (rfl : execPersistentMemorySecurity h op s = _)) hwf hserves rfl⟩

/-! ### Background commands (R323, R324, R327) -/

section
variable {d : Dev} {h : Nat}

section
variable {inp : List (BitVec 8)} (hwf : (Instr.runOrder h inp).wf = true) (hserves : d.serves h 0xC020 = true)
include hwf hserves

/-- Run Order takes an entry of 64 bytes as an order of the head. -/
theorem runs_runOrder_takes {n : Order × Dev} (hn : n = d.touch.newOrder (4 + h) 0 inp) (hlen : inp.length = 64) (hfree : (d.head h).bg = none) :
    Runs (.runOrder h inp) d
      (((n.2.modHead h (fun y => { y with bg := some (0xC020, n.1.id) })).reply h 0xC020 rcBackground []).letIn n.1) := by
  obtain ⟨hon, hgate⟩ := Dev.serves_iff.mp hserves
  exact .of_act (fun s => (rfl : execRunOrder h inp s = _)) hwf (by
    simp only [hon, hgate, hlen, hfree, hn, bne_self_eq_false, Option.isSome_none, Bool.not_true, Bool.false_eq_true, if_false])

/-- Any other length is answered with Invalid Payload Length. -/
theorem runs_runOrder_length (hlen : inp.length ≠ 64) : Runs (.runOrder h inp) d (d.reply h 0xC020 rcLength []) := by
  obtain ⟨hon, hgate⟩ := Dev.serves_iff.mp hserves
  exact .of_act (fun s => (rfl : execRunOrder h inp s = _)) hwf (by
    simp only [hon, hgate, bne_iff_ne.mpr hlen, Bool.not_true, Bool.false_eq_true, if_false, if_true])

/-- While another background command of the head runs, Run Order is answered Busy. -/
theorem runs_runOrder_busy (hlen : inp.length = 64) (hbusy : (d.head h).bg ≠ none) :
    Runs (.runOrder h inp) d (d.reply h 0xC020 rcBusy []) := by
  obtain ⟨hon, hgate⟩ := Dev.serves_iff.mp hserves
  exact .of_act (fun s => (rfl : execRunOrder h inp s = _)) hwf (by
    simp only [hon, hgate, hlen, Option.isSome_iff_ne_none.mpr hbusy, bne_self_eq_false, Bool.not_true, Bool.false_eq_true, if_false, if_true])

end

/-- The command of step `k` of Sanitize, or with `sec` of Secure Erase. -/
def sanitizeInstr (h : Nat) (rngOk sec : Bool) (fails : List (Nat × Nat)) (k : Nat) : Instr :=
  if sec then .secureErase h k rngOk fails else .sanitize h k rngOk fails

/-- Its opcode. -/
def sanitizeOp (sec : Bool) : Nat := if sec then 0x4401 else 0x4400

section
variable {rngOk sec : Bool} {fails : List (Nat × Nat)} {k : Nat}

theorem sanitizeInstr_wf (hwf : (sanitizeInstr h rngOk sec fails 0).wf = true) (hk : k ≤ 5) : (sanitizeInstr h rngOk sec fails k).wf = true := by
  cases sec <;> simpa [sanitizeInstr, Instr.wf, okSanitize, okSecureErase, hk] using hwf

/-- Each step of either runs `Dev.sanitizeStep`. -/
theorem runs_sanitizeInstr {t : Dev} (hwf : (sanitizeInstr h rngOk sec fails 0).wf = true) (hk : k ≤ 5)
    (ht : d.sanitizeStep h k sec rngOk fails = t) : Runs (sanitizeInstr h rngOk sec fails k) d t := by
  have hok := sanitizeInstr_wf hwf hk
  cases sec with
  | false => exact .of_act (fun s => (rfl : execSanitize h k rngOk fails s = _)) hok ht
  | true => exact .of_act (fun s => (rfl : execSecureErase h k rngOk fails s = _)) hok ht

/-! The command itself, step 0. -/

section
variable (hserves : d.serves h (sanitizeOp sec) = true)
include hserves

/-- A mailbox that serves it answers Busy, refuses it or begins it. -/
theorem Dev.sanitizeStep_zero : d.sanitizeStep h 0 sec rngOk fails =
    if (d.head h).bg.isSome then d.reply h (sanitizeOp sec) rcBusy []
    else if sec && d.seals.any (fun x => decide (x.num < 2 ^ 64)) then d.reply h (sanitizeOp sec) rcSecurity []
    else (({ d.touch with sanitize := some (h, 0, sec) } : Dev).modHead h (fun y => { y with bg := some (sanitizeOp sec, 0) })).reply h
      (sanitizeOp sec) rcBackground [] := by
  obtain ⟨hon, hgate⟩ := Dev.serves_iff.mp hserves
  rw [sanitizeOp] at hgate
  simp only [Dev.sanitizeStep, hon, hgate, Bool.not_true, Bool.false_eq_true, if_false, if_true]
  rfl

/-- While another background command of the head runs, it is answered Busy. -/
theorem Dev.sanitizeStep_busy (hbusy : (d.head h).bg ≠ none) :
    d.sanitizeStep h 0 sec rngOk fails = d.reply h (sanitizeOp sec) rcBusy [] :=
  (Dev.sanitizeStep_zero hserves).trans (if_pos (Option.isSome_iff_ne_none.mpr hbusy))

section
variable (hfree : (d.head h).bg = none)
include hfree

/-- Secure Erase is refused while a seal stands. -/
theorem Dev.sanitizeStep_sealed (hsec : sec = true) (hseal : d.seals.any (fun x => decide (x.num < 2 ^ 64)) = true) :
    d.sanitizeStep h 0 sec rngOk fails = d.reply h (sanitizeOp sec) rcSecurity [] :=
  (Dev.sanitizeStep_zero hserves).trans ((if_neg (by simp [hfree])).trans (if_pos (by rw [hsec, hseal, Bool.and_self])))

/-- Else it begins. -/
theorem Dev.sanitizeStep_begins (hseal : sec = true → d.seals.any (fun x => decide (x.num < 2 ^ 64)) = false) :
    d.sanitizeStep h 0 sec rngOk fails =
      (({ d.touch with sanitize := some (h, 0, sec) } : Dev).modHead h (fun y => { y with bg := some (sanitizeOp sec, 0) })).reply h (sanitizeOp sec)
        rcBackground [] := by
  refine (Dev.sanitizeStep_zero hserves).trans ((if_neg (by simp [hfree])).trans (if_neg fun hstands => ?_))
  rw [Bool.and_eq_true] at hstands
  exact Bool.false_ne_true ((hseal hstands.1).symm.trans hstands.2)

end

end

/-! The steps that follow, each in Active and after the step before it. -/

section
variable (hactive : d.phase = .active)
include hactive

/-- Step 1 draws all 16 range keys. -/
theorem Dev.sanitizeStep_keys (hsan : d.sanitize = some (h, 0, sec)) :
    d.sanitizeStep h 1 sec true fails = { (List.range 16).foldl (fun e i => e.drawKey (i / 2) (i % 2)) d with sanitize := some (h, 1, sec) } := by
  simp [Dev.sanitizeStep, hsan, hactive]

/-- Without a sound random source it ends the operation. -/
theorem Dev.sanitizeStep_noKeys (hsan : d.sanitize = some (h, 0, sec)) :
    d.sanitizeStep h 1 sec false fails = (({ d.post0 0x089 with sanitize := none } : Dev).bgEnd h (sanitizeOp sec) rcInternal).releaseHold := by
  simp [Dev.sanitizeStep, sanitizeOp, hsan, hactive]

/-- Step 2 empties the queues. -/
theorem Dev.sanitizeStep_queues (hsan : d.sanitize = some (h, 1, sec)) :
    d.sanitizeStep h 2 sec rngOk fails = { d.sanitizeQueues with sanitize := some (h, 2, sec) } := by
  simp [Dev.sanitizeStep, hsan, hactive]

section
variable (hclear : d.noClear = false)
include hclear

/-- Step 3 clears the media. -/
theorem Dev.sanitizeStep_media (hsan : d.sanitize = some (h, 2, sec)) :
    d.sanitizeStep h 3 sec rngOk fails = { d.sanitizeMedia fails with sanitize := some (h, 3, sec) } := by
  simp [Dev.sanitizeStep, hsan, hactive, hclear]

/-- Step 4 takes down the seals, once the seal chain can take a record. -/
theorem Dev.sanitizeStep_seals (hsan : d.sanitize = some (h, 3, sec)) (hchain : d.chainReady = true) :
    d.sanitizeStep h 4 sec rngOk fails = { d.sanitizeSeals with sanitize := some (h, 4, sec) } := by
  simp [Dev.sanitizeStep, hsan, hactive, hclear, hchain]

/-- Step 5 ends the operation. -/
theorem Dev.sanitizeStep_ends (hsan : d.sanitize = some (h, 4, sec)) :
    d.sanitizeStep h 5 sec rngOk fails = (d.sanitizeEnd.bgEnd h (sanitizeOp sec) rcSuccess).releaseHold := by
  simp [Dev.sanitizeStep, sanitizeOp, hsan, hactive, hclear]

end

end

end

/-- An operation that was interrupted starts again at step 1. -/
theorem runs_sanitizeRestart {sec : Bool} (hsan : d.sanitize = some (h, 6, sec)) (hactive : d.phase = .active) :
    Runs .sanitizeRestart d { d with sanitize := some (h, 0, sec) } :=
  .of_act (fun s => (rfl : execSanitizeRestart s = _)) rfl (by simp [hsan, hactive])

end

/-- Settles O18: Run Order by its three lemmas; each step of Sanitize and Secure Erase is `Dev.sanitizeStep` (`runs_sanitizeInstr`), which has
a lemma for each of its cases. -/
theorem mailboxBackground : Obligations.MailboxBackground := by
  refine fun h d hh => ⟨fun inp hlen hserves => ?order, ?steps, fun sec => runs_sanitizeRestart⟩
  case order =>
    have hwf : okRunOrder h inp = true := by simp [okRunOrder, hh, hlen]
    exact ⟨runs_runOrder_takes hwf hserves rfl, runs_runOrder_length hwf hserves, runs_runOrder_busy hwf hserves⟩
  case steps =>
    intro rngOk sec fails op c hwf
    have hruns (k : Nat) (hk : k ≤ 5) {t : Dev} (ht : d.sanitizeStep h k sec rngOk fails = t) : Runs (c k) d t := runs_sanitizeInstr hwf hk ht
    refine ⟨fun hserves hfree hseal => hruns 0 (by decide) (Dev.sanitizeStep_begins hserves hfree hseal),
      fun hserves hbusy => hruns 0 (by decide) (Dev.sanitizeStep_busy hserves hbusy),
      fun hsec hserves hfree hseal => hruns 0 (by decide) (Dev.sanitizeStep_sealed hserves hfree hsec hseal),
      fun hactive => ⟨?keys, ?noKeys, ?_, fun hclear => ⟨?_, ?_, ?_⟩⟩⟩
    case keys =>
      rintro hsan rfl
      exact hruns 1 (by decide) (Dev.sanitizeStep_keys hactive hsan)
    case noKeys =>
      rintro hsan rfl
      exact hruns 1 (by decide) (Dev.sanitizeStep_noKeys hactive hsan)
    · exact fun hsan => hruns 2 (by decide) (Dev.sanitizeStep_queues hactive hsan)
    · exact fun hsan => hruns 3 (by decide) (Dev.sanitizeStep_media hactive hclear hsan)
    · exact fun hsan hchain => hruns 4 (by decide) (Dev.sanitizeStep_seals hactive hclear hsan hchain)
    · exact fun hsan => hruns 5 (by decide) (Dev.sanitizeStep_ends hactive hclear hsan)

end Sys2Proof.Machine

/-! The host ports (chapter 09): resets, link training, link and device power states, decoders, and the unmasking of a vector. -/

namespace Sys2Proof.Machine

/-- A head's reference clock stands in no register. -/
@[simp] theorem Dev.takeRef_f (d : Dev) (p : Nat) (ref : Bool) (F : Fld) : (d.takeRef p ref).f F = d.f F := rfl

/-- What a training writes of a port's state, whether the link came up or not. -/
def Dev.trained (d : Dev) (p rate width flit : Nat) : Dev :=
  (((d.setF (DEV_PORTSTAT.RATE p) rate).setF (DEV_PORTSTAT.WIDTH p) width).setF (DEV_PORTSTAT.FLIT256 p) flit).setF (DEV_PORTSTAT.L1 p) 0

/-- A link that was up counts the training as a retrain. -/
def Dev.retrainCounted (d : Dev) (p : Nat) : Dev := if d.f (DEV_PORTSTAT.RATE p) != 0 then d.cnt (DEV_PORTSTAT.RETRAINS p) else d

theorem Dev.retrainCounted_eq (d : Dev) (p : Nat) :
    d.retrainCounted p = if d.f (DEV_PORTSTAT.RATE p) = 0 then d else d.cnt (DEV_PORTSTAT.RETRAINS p) := by
  simp only [Dev.retrainCounted, bne_iff_ne, ne_eq, ite_not]

/-- The result of a training at a usable reference. -/
def Dev.linkTrained (d : Dev) (p rate width : Nat) (flit256 : Bool) : Dev :=
  let up := rate != 0 && width != 0
  let e := (d.retrainCounted p).trained p (if up then rate else 0) (if up then width else 0) (b2n (up && (flit256 || rate == 5)))
  let e := if up then e.setF (DEV_PORTSTAT.PERST p) 0 else e
  (if up && (rate != 5 || width != 4) then e.post0 0x091 else e).touch.linkReady p

/-- A training that fails leaves the link down. -/
theorem Dev.linkTrained_fails {rate width : Nat} (hfails : rate = 0 ∨ width = 0) (d : Dev) (p : Nat) (flit256 : Bool) :
    d.linkTrained p rate width flit256 = ((d.retrainCounted p).trained p 0 0 0).touch.linkReady p := by
  have hup : (rate != 0 && width != 0) = false := by rcases hfails with rfl | rfl <;> simp
  simp only [Dev.linkTrained, hup, Bool.false_and, Bool.false_eq_true, if_false]
  rfl

/-- One that succeeds brings it up and ends PERST; below x8 at 64 GT/s it posts event 0x091. -/
theorem Dev.linkTrained_up {rate width : Nat} (hrate : rate ≠ 0) (hwidth : width ≠ 0) {d t : Dev} {p : Nat} {flit256 : Bool}
    (ht : t = ((d.retrainCounted p).trained p rate width (if rate = 5 then 1 else b2n flit256)).setF (DEV_PORTSTAT.PERST p) 0) :
    d.linkTrained p rate width flit256 = (if rate = 5 ∧ width = 4 then t else t.post0 0x091).touch.linkReady p := by
  have hup : (rate != 0 && width != 0) = true := by simp [hrate, hwidth]
  have hflit : b2n (flit256 || rate == 5) = if rate = 5 then 1 else b2n flit256 := by
    by_cases h5 : rate = 5 <;> simp [h5, b2n]
  have hevent : (rate != 5 || width != 4) = true ↔ ¬ (rate = 5 ∧ width = 4) := by
    simp only [Bool.or_eq_true, bne_iff_ne, ne_eq, not_and_or]
  simp only [Dev.linkTrained, hup, hflit, hevent, ht, Bool.true_and, if_true, ite_not]

/-- The link of a port leaves L1, and its head D3hot. -/
def Dev.l1Left (d : Dev) (p : Nat) : Dev :=
  ((({ d with wch := { d.wch with idleFrom := d.time, eligFrom := d.time, maint := false } } : Dev).wdogRun.setF (DEV_PORTSTAT.L1 p) 0).modHead p
    (fun x => { x with d3hot := false })).linkReady p

section
variable {d : Dev} {p : Nat} (hp : p < 2)

/-! ### Port resets and link training (R293, R300, R550) -/

section
include hp

/-- PERST that is asserted resets the port. -/
theorem runs_perst_asserted (hoff : d.f (DEV_PORTSTAT.PERST p) = 0) : Runs (.perst p 0) d (d.touch.portReset p 0 true) :=
  .of_act (fun s => (rfl : execPerst p 0 s = _)) (by simp [okPerst, hp]) (by simp [Dev.on, hoff])

/-- So does the loss of a link that was up. -/
theorem runs_perst_linkDown (hup : d.f (DEV_PORTSTAT.RATE p) ≠ 0) : Runs (.perst p 1) d (d.touch.portReset p 1 false) :=
  .of_act (fun s => (rfl : execPerst p 1 s = _)) (by simp [okPerst, hp]) (by simp [hup])

end

section
variable {rate width : Nat} {flit ref : Bool} (hwf : (Instr.linkTraining p rate width flit ref).wf = true) (hon : d.portsOn = true)
  (hdoze : d.phase ≠ .doze)
include hwf hon hdoze

/-- A port that is powered and not in Doze trains at a usable reference. -/
theorem runs_linkTraining_ref (href : ((d.takeRef p ref).head p).phyRef = true) :
    Runs (.linkTraining p rate width flit ref) d ((d.takeRef p ref).linkTrained p rate width flit) := by
  have hgo : ¬ (!d.portsOn || d.phase == .doze) = true := by simp [hon, hdoze]
  exact .of_act (fun s => (rfl : execLinkTraining p rate width flit ref s = _)) hwf ((if_neg hgo).trans (if_neg (by rw [href]; decide)))

/-- Without one it does not train; a link that was up is down. -/
theorem runs_linkTraining_noRef (href : ((d.takeRef p ref).head p).phyRef = false) :
    Runs (.linkTraining p rate width flit ref) d
      (if d.f (DEV_PORTSTAT.RATE p) = 0 then d.takeRef p ref else (d.takeRef p ref).touch.portReset p 1 false) := by
  have hgo : ¬ (!d.portsOn || d.phase == .doze) = true := by simp [hon, hdoze]
  exact .of_act (fun s => (rfl : execLinkTraining p rate width flit ref s = _)) hwf ((if_neg hgo).trans (if_pos (by rw [href, Bool.not_false])))

end

/-! ### L1 and D3hot (R347, R349) -/

include hp

theorem runs_l1Entry (hlink : d.inL0 p = true) :
    Runs (.l1Entry p) d (({ d with wch := { d.wch with eligFrom := d.time } } : Dev).setF (DEV_PORTSTAT.L1 p) 1) :=
  .of_act (fun s => (rfl : execL1Entry p s = _)) (decide_eq_true hp) (if_pos hlink)

/-- In Active no Doze is to be left. -/
theorem runs_l1Exit (hl1 : d.f (DEV_PORTSTAT.L1 p) ≠ 0) (hactive : d.phase = .active) : Runs (.l1Exit p) d (d.l1Left p) := by
  have hdoze : d.dozeExit false = d := by simp only [Dev.dozeExit, hactive]
  exact .of_act (fun s => (rfl : execL1Exit p s = _)) (decide_eq_true hp)
    ((if_pos (bne_iff_ne.mpr hl1)).trans (congrArg (Dev.l1Left · p) hdoze))

theorem runs_d3hotEntry (hlink : d.inL0 p = true) :
    Runs (.d3hotEntry p) d
      ((({ d with wch := { d.wch with eligFrom := d.time } } : Dev).modHead p (fun x => { x with d3hot := true })).setF (DEV_PORTSTAT.L1 p) 1) :=
  .of_act (fun s => (rfl : execD3hotEntry p s = _)) (decide_eq_true hp) (if_pos hlink)

/-! ### Decoders and MSI-X (R304, R305, R343) -/

omit hp in
/-- A decoder that may be committed is kept. -/
theorem runs_decoderCommit {idx base size dpa ways gran : Nat} (hwf : (Instr.decoderCommit p idx base size dpa ways gran).wf = true)
    (hlink : d.inL0 p = true) (hgood : d.decoderFails p idx size dpa ways = false) :
    Runs (.decoderCommit p idx base size dpa ways gran) d
      (d.modHead p (fun x => { x with decoders := assocSet idx ⟨base, size, dpa, ways, gran⟩ x.decoders })) :=
  .of_act (fun s => (rfl : execDecoderCommit p idx base size dpa ways gran s = _)) hwf
    (by simp only [hlink, hgood, Bool.not_true, Bool.false_eq_true, if_false])

/-- A message that waited for its mask is sent where its pending bit still stands. -/
theorem runs_msixUnmask {v : Nat} (hv : v < 8) (hwaits : (d.head p).pend.testBit v = true)
    (hpend : (d.f (DEV_INTSTAT.PEND p)).testBit v = true) :
    Runs (.msixUnmask p v) d
      ((d.modHead p (fun x => { x with mask := x.mask - (x.mask &&& 2 ^ v), pend := x.pend - (x.pend &&& 2 ^ v) })).sendVec p v) :=
  .of_act (fun s => (rfl : execMsixUnmask p v s = _)) (by simp [okMsixUnmask, hp, hv])
    (if_pos (by rw [hwaits, Dev.modHead_f, hpend, Bool.and_self]))

end

/-- Settles O13: each command runs as its own lemma says. -/
theorem portRows : Obligations.PortRows := by
  intro p d hp
  refine ⟨runs_perst_asserted hp, runs_perst_linkDown hp, ?train, fun rate width flit ref => runs_linkTraining_noRef, runs_l1Entry hp,
    runs_l1Exit hp, runs_d3hotEntry hp, fun idx base size dpa ways gran => runs_decoderCommit, fun v => runs_msixUnmask hp⟩
  rintro rate width flit ref e hwf hon hdoze href rfl
  have htrains := runs_linkTraining_ref hwf hon hdoze href
  rw [← Dev.takeRef_f d p ref, ← Dev.retrainCounted_eq]
  exact ⟨fun hrate hwidth t ht => htrains.congr (Dev.linkTrained_up hrate hwidth ht),
    fun hfails => htrains.congr (Dev.linkTrained_fails hfails ..)⟩

end Sys2Proof.Machine

/-! The Helm space (chapter 09): where its registers stand, writes that are let in, and reads. -/

namespace Sys2Proof.Machine

/-! ### Places of registers -/

/-- The first offset beyond a row of the register map. -/
def RegRow.top (r : RegRow) : Nat := r.base + if r.stride = 0 then r.width / 8 else r.stride * r.count

/-- A row covers no offset beyond it. -/
theorem RegRow.lt_top_of_hit {r : RegRow} {off : Nat} (hhit : r.hit off = true) : off < r.top := by
  simp only [RegRow.hit, Bool.and_eq_true, decide_eq_true_eq] at hhit
  obtain ⟨hbase, hin⟩ := hhit
  by_cases hstride : r.stride = 0
  · simpa [RegRow.top, hstride] using hin
  · simp only [hstride, if_false, Bool.and_eq_true, decide_eq_true_eq] at hin
    have hlt := (Nat.div_lt_iff_lt_mul (Nat.pos_of_ne_zero hstride)).mp hin.1
    rw [RegRow.top, if_neg hstride, Nat.mul_comm]
    omega

/-- The registers of the streams are the last row of the map, and no other row reaches up to them. -/
theorem regRow_STR_CTL {st : Nat} (hst : st < 4096) :
    regRow? (0x8000 + 8 * st) = some ⟨0x8000, 8, 4096, 64, 0, 0xffffffffff, 0, 0, 0, 0, 0⟩ := by
  have hrows : regRows = regRows.dropLast ++ [⟨0x8000, 8, 4096, 64, 0, 0xffffffffff, 0, 0, 0, 0, 0⟩] := by decide +kernel
  have htop : ∀ r ∈ regRows.dropLast, r.top ≤ 0x8000 := by decide +kernel
  have hbelow : regRows.dropLast.find? (·.hit (0x8000 + 8 * st)) = none := by
    refine List.find?_eq_none.mpr fun r hr hhit => ?_
    have hlt := RegRow.lt_top_of_hit hhit
    have hle := htop r hr
    omega
  rw [regRow?, hrows, List.find?_append, hbelow, Option.none_or, List.find?_cons_of_pos]
  simp [RegRow.hit, hst]

/-- A register of 32 bits, or a half of one, begins at `off`, outside the order rings' memory. -/
def helmWord (off : Nat) : Bool := off % 4 == 0 && (sqPlace off).isNone && (regRow? off).any (fun r => r.at off == off)

/-- A register of 64 bits stands at `off`, outside the order rings' memory. -/
def helmPair (off : Nat) : Bool := off % 8 == 0 && (sqPlace off).isNone && (regRow? off).any (fun r => r.width == 64)

theorem helmPair_PNT_ARB : ∀ n, n < 16 → helmPair (0x3180 + 8 * n) = true := by decide +kernel

theorem helmPair_LLN_CH : ∀ i, i < 8 → helmPair (0xA40 + 8 * i) = true := by decide +kernel

theorem helmWord_TAL_SEL : ∀ j, j < 44 → helmWord (0x2440 + 4 * j) = true := by decide +kernel

theorem helmPair_STR_CTL {st : Nat} (hst : st < 4096) : helmPair (0x8000 + 8 * st) = true := by
  have halign : (0x8000 + 8 * st) % 8 = 0 := by omega
  have hsq : sqPlace (0x8000 + 8 * st) = none := if_neg (by simp; omega)
  simp [helmPair, halign, hsq, regRow_STR_CTL hst]

/-! ### Writes that are let in (R330, R332, R334) -/

/-- A port's access to the Helm space counts as a request (R501). -/
def Dev.helmAsked (d : Dev) (by_ : Nat) : Dev := if by_ < 2 then d.touch else d

section
variable {d : Dev} {by_ : Nat} (hon : d.helmOn by_ = true) (hmay : d.mayWrite by_ = true) {off : Nat} (v : Nat)
include hon hmay

/-- A write to an unassigned word is ignored. -/
theorem Dev.helmIn_unassigned (halign : off % 4 = 0) (hsq : sqPlace off = none) (hrow : regRow? off = none) :
    d.helmIn by_ off 32 v = d.helmAsked by_ := by
  rw [Dev.helmIn_on hon hmay]
  simp only [Dev.helmWrite, halign, Dev.helm32, hsq, hrow, decide_true, Bool.and_self, if_true]
  rfl

/-- A write of 32 bits acts on the register that it names. -/
theorem Dev.helmIn_word (hword : helmWord off = true) : d.helmIn by_ off 32 v = (d.helmAsked by_).regWrite by_ off 0xFFFFFFFF (v % 2 ^ 32) := by
  simp only [helmWord, Bool.and_eq_true, beq_iff_eq, Option.isNone_iff_eq_none, Option.any_eq_true] at hword
  obtain ⟨⟨halign, hsq⟩, r, hrow, hat⟩ := hword
  rw [Dev.helmIn_on hon hmay, Dev.helmAsked, ← Dev.helm32_row hsq hrow hat]
  exact if_pos (by simp [halign])

/-- A write of 64 bits acts on all the bits of the register that it names. -/
theorem Dev.helmIn_pair (hpair : helmPair off = true) (v : Word) :
    d.helmIn by_ off 64 v.toNat = (d.helmAsked by_).regWrite by_ off (2 ^ 64 - 1) v.toNat := by
  simp only [helmPair, Bool.and_eq_true, beq_iff_eq, Option.isNone_iff_eq_none, Option.any_eq_true] at hpair
  obtain ⟨⟨halign, hsq⟩, r, hrow, hwidth⟩ := hpair
  rw [Dev.helmIn_on hon hmay, Dev.helmAsked, Dev.helmWrite_row halign hsq hrow hwidth, Nat.mod_eq_of_lt v.isLt]

end

/-- Settles O23: each command is a write of one register, which `Dev.helmIn_word` or `Dev.helmIn_pair` describes at its place; one that is not let
in changes nothing. -/
theorem helmWrites : Obligations.HelmWrites := by
  refine ⟨fun by_ v d hby hon hmay => ⟨fun off hoff halign hsq hrow => ?unassigned, fun off r hoff halign hsq hrow _ hat => ?word,
    fun n hn => ?_, ?_, fun st hst => ?_, fun i hi => ?_, ?_, ?_, fun j hj => ?_, ?_, ?_⟩, fun by_ off width v d hby hoff hwidth hnot => ?notIn⟩
  case unassigned =>
    exact .of_act (fun s => (rfl : execHelmSpaceWrite by_ off 32 v s = _)) (by simp [okHelmSpaceWrite, hby, hoff])
      (Dev.helmIn_unassigned hon hmay _ halign hsq hrow)
  case word =>
    exact .of_act (fun s => (rfl : execHelmSpaceWrite by_ off 32 v s = _)) (by simp [okHelmSpaceWrite, hby, hoff])
      (Dev.helmIn_word hon hmay _ (by simp [helmWord, halign, hsq, hrow, hat]))
  · exact .of_act (fun s => (rfl : execPntArbWrite by_ n 2 v s = _)) (by simp [okPntArbWrite, hby, hn])
      (Dev.helmIn_pair hon hmay (helmPair_PNT_ARB n hn) v)
  · exact .of_act (fun s => (rfl : execPntRetireWrite by_ 2 v s = _)) (by simp [okPntRetireWrite, hby])
      (Dev.helmIn_pair hon hmay (by decide +kernel) v)
  · exact .of_act (fun s => (rfl : execStrCtlWrite by_ st 2 v s = _)) (by simp [okStrCtlWrite, hby, hst])
      (Dev.helmIn_pair hon hmay (helmPair_STR_CTL hst) v)
  · exact .of_act (fun s => (rfl : execLlnChWrite by_ i 2 v s = _)) (by simp [okLlnChWrite, hby, hi])
      (Dev.helmIn_pair hon hmay (helmPair_LLN_CH i hi) v)
  · exact .of_act (fun s => (rfl : execPwrThrWrite by_ v s = _)) (decide_eq_true hby) (Dev.helmIn_word hon hmay _ (by decide +kernel))
  · exact .of_act (fun s => (rfl : execTalCfgWrite by_ v s = _)) (decide_eq_true hby) (Dev.helmIn_word hon hmay _ (by decide +kernel))
  · exact .of_act (fun s => (rfl : execTalSelWrite by_ j v s = _)) (by simp [okTalSelWrite, hby, hj])
      (Dev.helmIn_word hon hmay _ (helmWord_TAL_SEL j hj))
  · exact .of_act (fun s => (rfl : execSafInjWrite by_ v s = _)) (decide_eq_true hby) (Dev.helmIn_word hon hmay _ (by decide +kernel))
  · exact .of_act (fun s => (rfl : execRstWdogKick by_ v s = _)) (decide_eq_true hby) (Dev.helmIn_word hon hmay _ (by decide +kernel))
  case notIn =>
    exact .of_act (fun s => (rfl : execHelmSpaceWrite by_ off width v s = _)) (by simp [okHelmSpaceWrite, hby, hoff, hwidth])
      (Dev.helmIn_off hnot ..)

/-! ### Reads (R331, R400) -/

section
variable {d : Dev} {by_ off : Nat}

/-- An aligned read of 32 bits by a requester that may read is answered. -/
theorem Dev.readIn_word {w t : Dev} {x : Nat} (hmay : d.mayRead by_ = true) (halign : off % 4 = 0) (hw : w = d.helmAsked by_)
    (hread : w.helmRead32 by_ off = (x, t)) : d.readIn by_ off = t.send (.helm by_ x) := by
  have hword : w.helmRead by_ off 32 = (x, t) := (if_pos (by simp [halign])).trans hread
  rw [hw, Dev.helmAsked] at hword
  simp only [Dev.readIn, hmay, if_true, hword]

/-- An offset outside the order rings' memory, as the reads test it. -/
theorem ringOff_false (hring : ¬ (0x5800 ≤ off ∧ off < 0x7000)) : (decide (0x5800 ≤ off) && decide (off < 0x7000)) = false := by
  simpa using hring

section
variable {r : RegRow} (hring : ¬ (0x5800 ≤ off ∧ off < 0x7000)) (hrow : regRow? off = some r)
include hring hrow

/-- A read of a queue of STR_NOTE takes its oldest entry. -/
theorem Dev.helmRead32_queue {p : Nat} (hp : p < 2) (hat : r.at off = 0x4660 + 8 * p) : d.helmRead32 by_ off = d.noteRead p := by
  have hnote : (decide (0x4660 + 8 * p = 0x4660) || decide (0x4660 + 8 * p = 0x4668)) = true := by simp; omega
  have hplace : (0x4660 + 8 * p - 0x4660) / 8 = p := by omega
  simp only [Dev.helmRead32, ringOff_false hring, hrow, hat, hnote, hplace, Bool.false_eq_true, if_false, if_true]

section
variable (hwidth : r.width = 64)
include hwidth

/-- The low half of a 64-bit register latches the high half for its requester. -/
theorem Dev.helmRead32_low (hat : r.at off = off) (hnote : off ≠ 0x4660) (hnote' : off ≠ 0x4668) :
    d.helmRead32 by_ off = (d.regShow by_ off % 2 ^ 32,
      { d with halves := (by_, off, d.regShow by_ off / 2 ^ 32) :: d.halves.filter (fun h => !(h.1 = by_ && h.2.1 = off)) }) := by
  have hword : (decide (off = 0x4660) || decide (off = 0x4668)) = false := by simp [hnote, hnote']
  simp only [Dev.helmRead32, ringOff_false hring, hrow, hat, hword, hwidth, Bool.false_eq_true, if_false, if_true,
    Nat.reduceEqDiff]

/-- The high half gives what was latched for its requester, once. -/
theorem Dev.helmRead32_high {x : Nat × Nat × Nat} (hat : r.at off = off - 4) (hhigh : off % 8 = 4) (hnote : off ≠ 0x4664)
    (hnote' : off ≠ 0x466C) (hlatch : d.halves.find? (fun h => h.1 = by_ && h.2.1 = off - 4) = some x) :
    d.helmRead32 by_ off = (x.2.2, { d with halves := d.halves.filter (fun h => !(h.1 = by_ && h.2.1 = off - 4)) }) := by
  have hword : (decide (off - 4 = 0x4660) || decide (off - 4 = 0x4668)) = false := by simp; omega
  have hne : off ≠ off - 4 := by omega
  simp only [Dev.helmRead32, ringOff_false hring, hrow, hat, hword, hwidth, hne, hlatch, Bool.false_eq_true, if_false,
    Nat.reduceEqDiff]

end

end

/-- The queues of STR_NOTE are words of their own. -/
theorem regRow_STR_NOTE : ∀ p, p < 2 → (regRow? (0x4660 + 8 * p)).any (fun r => r.at (0x4660 + 8 * p) == 0x4660 + 8 * p) = true := by
  decide +kernel

theorem Dev.helmRead32_note {p : Nat} (hp : p < 2) : d.helmRead32 by_ (0x4660 + 8 * p) = d.noteRead p := by
  obtain ⟨r, hrow, hat⟩ := (Option.any_eq_true ..).mp (regRow_STR_NOTE p hp)
  exact Dev.helmRead32_queue (by omega) hrow hp (beq_iff_eq.mp hat)

end

/-- Settles O25: what a read of 32 bits gives and leaves, `Dev.helmRead32_low`, `Dev.helmRead32_high` and `Dev.helmRead32_note` say. -/
theorem helmReads : Obligations.HelmReads := by
  intro by_ d hby hmay w
  refine ⟨fun off r hoff halign hring hnote hnote' hrow hwidth hat => ?low,
    fun off r x hoff hhigh hring hnote hnote' hrow hwidth hat hlatch => ?high, fun p hp => ?note⟩
  case low =>
    exact .of_act (fun s => (rfl : execHalfReadLatch by_ off s = _)) (by simp [okHalfReadLatch, hby, hoff])
      (Dev.readIn_word hmay (by omega) rfl (Dev.helmRead32_low hring hrow hwidth hat hnote hnote'))
  case high =>
    exact .of_act (fun s => (rfl : execHalfReadLatch by_ off s = _)) (by simp [okHalfReadLatch, hby, hoff])
      (Dev.readIn_word hmay (by omega) rfl (Dev.helmRead32_high hring hrow hwidth hat hhigh hnote hnote' hlatch))
  case note =>
    exact .of_act (fun s => (rfl : execStrNoteRead by_ p s = _)) (by simp [okStrNoteRead, hby, hp])
      (Dev.readIn_word hmay (by omega) rfl (Dev.helmRead32_note hp))

end Sys2Proof.Machine

/-! The I3C target (chapter 09): the frames of transfers to it and their responses, CCCs, in-band interrupts, and its address in Doze. -/

namespace Sys2Proof.Machine

section
variable {d : Dev}

/-! ### Frames (R338 to R340) -/

section
variable {frame : List (BitVec 8)} (hlen : frame.length ≤ 264) (hpriv : d.i3cPrivate = true) (hcrc : frameOk frame = true)

/-- A transfer to the dynamic address has the effect of its frame's kind. -/
theorem Dev.i3cFrame_kind {k : Nat} {eff : Dev → Dev} (hpriv : d.i3cPrivate = true) (hkind : fieldLe frame 0 1 = k) :
    d.i3cFrame k frame eff = eff d := by
  simp only [Dev.i3cFrame, hpriv, hkind, bne_self_eq_false, Bool.not_true, Bool.or_self, Bool.false_eq_true, if_false]

include hlen hpriv hcrc

/-- A READ frame makes the words it names the next response. -/
theorem runs_i3cRead (hkind : fieldLe frame 0 1 = 1) (hsize : frame.length = 5) (hrange : i3cRange (fieldLe frame 1 2) (fieldLe frame 3 1) = true)
    (hon : d.helmOn 2 = true) {r : List (BitVec 8) × Dev} (hr : r = d.i3cWords (fieldLe frame 1 2) (fieldLe frame 3 1)) :
    Runs (.i3cRead frame) d (r.2.i3cAnswer i3cDone r.1) :=
  .of_act (fun s => (rfl : execI3cRead frame s = _)) (decide_eq_true hlen) (by
    rw [Dev.i3cFrame_kind hpriv hkind]
    simp only [hcrc, hsize, hrange, hon, hr, bne_self_eq_false, Bool.not_true, Bool.or_self, Bool.false_eq_true, if_false])

/-- A STATUS frame makes the outcome of the last WRITE frame the next response. -/
theorem runs_i3cStatus (hkind : fieldLe frame 0 1 = 3) (hsize : frame.length = 2) :
    Runs (.i3cStatus frame) d (d.i3cAnswer d.i3c.lastWrite []) :=
  .of_act (fun s => (rfl : execI3cStatus frame s = _)) (decide_eq_true hlen) (by
    rw [Dev.i3cFrame_kind hpriv hkind]
    simp only [hcrc, hsize, bne_self_eq_false, Bool.not_true, Bool.false_eq_true, if_false])

section
variable (hkind : fieldLe frame 0 1 = 2) (hsize : frame.length = 5 + 4 * fieldLe frame 3 1)
  (hrange : i3cRange (fieldLe frame 1 2) (fieldLe frame 3 1) = true)
include hkind hsize hrange

/-- A WRITE frame that is permitted writes its words. -/
theorem runs_i3cWrite_done (hmay : d.mayWrite 2 = true) (hon : d.helmOn 2 = true) :
    Runs (.i3cWrite frame) d
      ((d.i3cWrote i3cDone).i3cPut (fieldLe frame 1 2) (wordsLe ((frame.drop 4).take (4 * fieldLe frame 3 1)))) :=
  .of_act (fun s => (rfl : execI3cWrite frame s = _)) (decide_eq_true hlen) (by
    rw [Dev.i3cFrame_kind hpriv hkind]
    simp only [hcrc, hsize, hrange, hmay, hon, bne_self_eq_false, Bool.not_true, Bool.or_self, Bool.false_eq_true, if_false])

/-- One that R334 turns away writes nothing. -/
theorem runs_i3cWrite_denied (hmay : d.mayWrite 2 = false) : Runs (.i3cWrite frame) d (d.i3cWrote i3cDenied) :=
  .of_act (fun s => (rfl : execI3cWrite frame s = _)) (decide_eq_true hlen) (by
    rw [Dev.i3cFrame_kind hpriv hkind]
    simp only [hcrc, hsize, hrange, hmay, bne_self_eq_false, Bool.not_true, Bool.not_false, Bool.or_self, Bool.false_eq_true, if_false,
      if_true])

end

end

/-! ### Responses (R341) -/

section
variable (hpriv : d.i3cPrivate = true)
include hpriv

/-- A response that is ready is given once; until then a read is not acknowledged. -/
theorem runs_i3cResponse_some {b : List (BitVec 8)} (hresp : d.i3c.resp = some b) :
    Runs (.i3cResponse true) d (({ d with i3c := { d.i3c with resp := none } } : Dev).send (.i3c b)) ∧
      Runs (.i3cResponse false) d (d.send .i3cNack) :=
  ⟨.of_act (fun s => (rfl : execI3cResponse true s = _)) rfl (by
      simp only [hpriv, hresp, Bool.not_true, Bool.false_eq_true, if_false, if_true]),
    .of_act (fun s => (rfl : execI3cResponse false s = _)) rfl (by
      simp only [hpriv, hresp, Bool.not_true, Bool.false_eq_true, if_false])⟩

/-- Without a request a read is told so. -/
theorem runs_i3cResponse_none (hresp : d.i3c.resp = none) (ready : Bool) :
    Runs (.i3cResponse ready) d (d.send (.i3c (i3cReply i3cNone []))) :=
  .of_act (fun s => (rfl : execI3cResponse ready s = _)) rfl (by
    simp only [hpriv, hresp, Bool.not_true, Bool.false_eq_true, if_false])

end

/-! ### CCCs (R337) -/

section
variable (hon : d.i3cOn = true)
include hon

/-- An address is set where none is. -/
theorem runs_setAddress {a : Nat} (ha : a < 128) (hnone : d.i3c.addr = none) :
    Runs (.entdaa a) d { d with i3c := { d.i3c with addr := some a } } ∧ Runs (.setdasa a) d { d with i3c := { d.i3c with addr := some a } } := by
  have hcond : (d.i3cOn && d.i3c.addr.isNone) = true := by rw [hon, hnone]; rfl
  exact ⟨.of_act (fun s => (rfl : execEntdaa a s = _)) (decide_eq_true ha) (if_pos hcond),
    .of_act (fun s => (rfl : execSetdasa a s = _)) (decide_eq_true ha) (if_pos hcond)⟩

/-- Bit 0 of ENEC and DISEC stands for the IBIs. -/
theorem runs_ibiEnable {b : Nat} (hb : b < 256) (hodd : b % 2 = 1) :
    Runs (.enec b) d { d with i3c := { d.i3c with ibiOn := true } } ∧ Runs (.disec b) d { d with i3c := { d.i3c with ibiOn := false } } := by
  have hcond : (d.i3cOn && b.testBit 0) = true := by rw [hon, Nat.testBit_zero, hodd]; rfl
  exact ⟨.of_act (fun s => (rfl : execEnec b s = _)) (decide_eq_true hb) (if_pos hcond),
    .of_act (fun s => (rfl : execDisec b s = _)) (decide_eq_true hb) (if_pos hcond)⟩

/-- SETMRL and SETMWL set the lengths that GETMRL and GETMWL give. -/
theorem runs_setLengths {n : Nat} (hn : n < 65536) :
    Runs (.setmrl n) d { d with i3c := { d.i3c with mrl := some n } } ∧ Runs (.setmwl n) d { d with i3c := { d.i3c with mwl := some n } } :=
  ⟨.of_act (fun s => (rfl : execSetmrl n s = _)) (decide_eq_true hn) (if_pos hon),
    .of_act (fun s => (rfl : execSetmwl n s = _)) (decide_eq_true hn) (if_pos hon)⟩

section
variable (haddr : d.i3c.addr ≠ none)
include haddr

theorem Dev.i3cPrivate_of_addr : d.i3cPrivate = true := by
  rw [Dev.i3cPrivate, hon, Option.isSome_iff_ne_none.mpr haddr, Bool.and_self]

/-- A GET CCC is answered at the dynamic address. -/
theorem Dev.i3cGet_sends (b : List (BitVec 8)) : d.i3cGet b = d.send (.i3c b) := if_pos (Dev.i3cPrivate_of_addr hon haddr)

/-! ### In-band interrupts (R345) -/

/-- An IBI that was not acknowledged is sent again while its bits stand. -/
theorem runs_ibiRetry (hibi : d.i3c.ibiOn = true) (hheld : d.i3c.ibiHeld = true) (hpend : d.f (DEV_INTSTAT.PEND 2) ≠ 0) (nacked : Bool) :
    RunsTo (.ibiRetry nacked) d (fun t => t.out = .ibi (d.f (DEV_INTSTAT.PEND 2)) :: d.out ∧ t.i3c.ibiHeld = nacked ∧ t.regs = d.regs) := by
  have hcond : ¬ (!d.i3cPrivate || !d.i3c.ibiOn || !d.i3c.ibiHeld) = true := by
    rw [Dev.i3cPrivate_of_addr hon haddr, hibi, hheld]
    decide
  exact ⟨_, .of_act (fun s => (rfl : execIbiRetry nacked s = _)) rfl ((if_neg hcond).trans (if_neg hpend)), rfl, rfl, rfl⟩

end

end

/-- In Doze the dynamic address is not acknowledged, and the return to Active begins (R342). -/
theorem runs_i3cAddressInDoze (hdoze : d.phase = .doze) (haddr : d.i3c.addr ≠ none) :
    Runs .i3cAddressInDoze d ((d.send .i3cNack).dozeExit false) :=
  .of_act (fun s => (rfl : execI3cAddressInDoze s = _)) rfl
    (if_pos (by rw [hdoze, Option.isSome_iff_ne_none.mpr haddr]; rfl))

end

/-- Settles O26: each frame and CCC runs as its own lemma says; a GET CCC sends what its command builds (`Dev.i3cGet_sends`). -/
theorem i3cTarget : Obligations.I3cTarget := by
  refine ⟨fun frame d hlen hpriv hcrc => ?frames, fun d hon => ?cccs, fun d => runs_i3cAddressInDoze⟩
  case frames =>
    exact ⟨fun hkind hsize hrange hon => runs_i3cRead hlen hpriv hcrc hkind hsize hrange hon rfl, runs_i3cWrite_done hlen hpriv hcrc,
      runs_i3cWrite_denied hlen hpriv hcrc, runs_i3cStatus hlen hpriv hcrc, fun b => runs_i3cResponse_some hpriv, runs_i3cResponse_none hpriv⟩
  case cccs =>
    refine ⟨fun a => runs_setAddress hon, .of_act (fun s => (rfl : execRstdaa s = _)) rfl (if_pos hon), fun b => runs_ibiEnable hon,
      fun n => runs_setLengths hon, fun v hv => .of_act (fun s => (rfl : execRstact v s = _)) (decide_eq_true hv) (if_pos hon), fun haddr => ?gets⟩
    have hsends := Dev.i3cGet_sends hon haddr
    exact ⟨.of_act (fun s => (rfl : execGetpid s = _)) rfl (hsends _), .of_act (fun s => (rfl : execGetbcr s = _)) rfl (hsends _),
      .of_act (fun s => (rfl : execGetdcr s = _)) rfl (hsends _),
      .of_act (fun s => (rfl : execGetstatus s = _)) rfl (Dev.i3cGet_sends (d := d.draw.2) hon haddr _),
      .of_act (fun s => (rfl : execGetmrl s = _)) rfl (hsends _), .of_act (fun s => (rfl : execGetmwl s = _)) rfl (hsends _),
      fun nacked hibi hheld hpend => runs_ibiRetry hon haddr hibi hheld hpend nacked⟩

end Sys2Proof.Machine

/-! Streams (chapter 10): writes of the aperture and consumer operations as they are asked, what each operation of Table 10.5 does to the
positions, and the upkeep of a stream and its protect windows. -/

namespace Sys2Proof.Machine

section
variable {d : Dev} {st : Nat}

/-- A field that is not zero is on. -/
theorem Dev.on_of_ne {F : Fld} (h : d.f F ≠ 0) : d.on F = true := bne_iff_ne.mpr h

/-! ### Writes of the aperture (R354, R389) -/

section
variable {p tag : Nat} (hp : p < 2) (ht : tag < 65536) (hready : d.portReady p = true)
include hp ht hready

/-- A write at an offset of the producer window is a write of the port. -/
theorem runs_producerWrite {a off : Nat} (ha : a < 2 ^ 48) (hoff : d.apOff a = some off) (hlo : 0x1000 ≤ off) (hhi : off < 0x80000)
    (data : Line) (mask : Mask) (poison : Bool) :
    Runs (.producerWrite p tag a data mask poison) d
      (d.touch.memWrite p tag a data mask poison false cleanRead (entryCheck (a / 64) data mask)) :=
  .of_act (fun s => (rfl : execProducerWrite p tag a data mask poison s = _)) (portOperands_ok hp ht ha)
    (if_pos (by simp [hready, hoff, hlo, hhi]))

/-- So is a trigger time, of the whole TRIGGER line. -/
theorem runs_triggerLineWrite (hst : st < 4096) {t : Nat} (htime : t < 2 ^ 64) :
    Runs (.triggerLineWrite p tag st t) d
      (d.touch.memWrite p tag (apBase st + 64) (lineOfBytes (padTo 64 (leBytes 8 t))) fullMask false false cleanRead
        (entryCheck (apBase st / 64 + 1) (lineOfBytes (padTo 64 (leBytes 8 t))) fullMask)) :=
  .of_act (fun s => (rfl : execTriggerLineWrite p tag st t s = _))
    (by simp only [okTriggerLineWrite, hp, ht, hst, htime, decide_true, Bool.and_self]) (if_pos hready)

end

/-! ### Asking for a consumer operation (R372, R375) -/

/-- A port's write of an operation into the bytes of the OP line that `mask` enables. -/
def Dev.opLineWrite (d : Dev) (p st code arg mask : Nat) : Dev :=
  let x := lineOfBytes (padTo 64 (leBytes 8 code ++ leBytes 8 arg))
  d.touch.memWrite p 0 (apBase st + 0x80040) x (BitVec.ofNat 64 mask) false false cleanRead
    (entryCheck (apBase st / 64 + 0x2001) x (BitVec.ofNat 64 mask))

/-- A port asks by that write. -/
theorem Dev.consumerOp_port {p : Nat} (hp : p < 2) (hready : d.portReady p = true) (code arg mask : Nat) :
    d.consumerOp p st code arg mask = d.opLineWrite p st code arg mask :=
  (if_pos hp).trans (if_pos hready)

/-- An engine asks at the stream itself, which takes a CSN. -/
theorem Dev.consumerOp_engine (hmem : d.memOn = true) (hstream : d.mStream = true) (code arg mask : Nat) :
    d.consumerOp 2 st code arg mask = (d.takeCsn.strOp st 2 code arg).2 :=
  (if_neg (by decide)).trans (if_pos (by rw [hmem, hstream, Bool.and_self]))

section
variable {p : Nat} (hp : p < 3) (hst : st < 4096)

include hp hst

/-- The operand range that the operations of an agent `p` on a stream share. -/
theorem agentOperands_ok : (decide (p < 3) && decide (st < 4096)) = true := by
  simp only [hp, hst, decide_true, Bool.and_self]

theorem runs_read {n : Nat} (hn : n < 2 ^ 64) : Runs (.read p st n) d (d.consumerOp p st 1 n 0xFFFF) :=
  .of_act (fun s => (rfl : execRead p st n s = _)) (by simp only [okRead, agentOperands_ok hp hst, hn, decide_true, Bool.and_self]) rfl

theorem runs_mark : Runs (.mark p st) d (d.consumerOp p st 2 0 0xFFFF) :=
  .of_act (fun s => (rfl : execMark p st s = _)) (agentOperands_ok hp hst) rfl

theorem runs_rewind : Runs (.rewind p st) d (d.consumerOp p st 3 0 0xFFFF) :=
  .of_act (fun s => (rfl : execRewind p st s = _)) (agentOperands_ok hp hst) rfl

theorem runs_release {t : Nat} (ht : t < 2 ^ 64) : Runs (.release p st t) d (d.consumerOp p st 4 t 0xFFFF) :=
  .of_act (fun s => (rfl : execRelease p st t s = _)) (by simp only [okRelease, agentOperands_ok hp hst, ht, decide_true, Bool.and_self]) rfl

theorem runs_drop : Runs (.drop p st) d (d.consumerOp p st 5 0 0xFFFF) :=
  .of_act (fun s => (rfl : execDrop p st s = _)) (agentOperands_ok hp hst) rfl

theorem runs_opReset : Runs (.opReset p st) d (d.consumerOp p st 6 0 0xFFFF) :=
  .of_act (fun s => (rfl : execOpReset p st s = _)) (agentOperands_ok hp hst) rfl

omit hp hst in
theorem runs_opInvalid {code : Nat} {full : Bool} (hwf : (Instr.opInvalid p st code full).wf = true) :
    Runs (.opInvalid p st code full) d (d.consumerOp p st code 0 (if full then 0xFFFF else 0xFF)) :=
  .of_act (fun s => (rfl : execOpInvalid p st code full s = _)) hwf rfl

/-- OP_INVALID stands for an opcode outside Table 10.5, and for any opcode in a write that does not enable bytes 0 to 15. -/
theorem opInvalid_wf {code : Nat} {full : Bool} (hcode : code < 256) (hbad : full = true → 6 < code ∨ code = 0) :
    (Instr.opInvalid p st code full).wf = true := by
  have hnamed : ([1, 2, 3, 4, 5, 6].contains code && full) = false := by
    cases full with
    | false => exact Bool.and_false _
    | true =>
      have hout := hbad rfl
      simp
      omega
  show okOpInvalid p st code full = true
  simp only [okOpInvalid, agentOperands_ok hp hst, hcode, hnamed, decide_true, Bool.and_self, Bool.not_false]

end

end

/-- Settles O27: a port asks by its write of the OP line, an engine at the stream (`Dev.consumerOp_port`, `Dev.consumerOp_engine`); each
operation is asked with its own code and argument, whoever asks. -/
theorem streamRequests : Obligations.StreamRequests := by
  refine ⟨fun p tag st d hp ht hst hready => ?port, fun st d hst hmem hstream => ?engine⟩
  case port =>
    have hagent : p < 3 := by omega
    have hasks := Dev.consumerOp_port (st := st) hp hready
    exact ⟨fun a data mask poison off ha hoff hlo hhi => runs_producerWrite hp ht hready ha hoff hlo hhi data mask poison,
      fun t => runs_triggerLineWrite hp ht hready hst,
      fun n hn => (runs_read hagent hst hn).congr (hasks ..), (runs_mark hagent hst).congr (hasks ..), (runs_rewind hagent hst).congr (hasks ..),
      fun t ht => (runs_release hagent hst ht).congr (hasks ..), (runs_drop hagent hst).congr (hasks ..),
      (runs_opReset hagent hst).congr (hasks ..), fun code hcode =>
        ⟨fun hbad => (runs_opInvalid (full := true) (opInvalid_wf hagent hst hcode fun _ => hbad)).congr (hasks ..),
          (runs_opInvalid (full := false) (opInvalid_wf hagent hst hcode nofun)).congr (hasks ..)⟩⟩
  case engine =>
    have hagent : 2 < 3 := by decide
    have hasks := Dev.consumerOp_engine (st := st) hmem hstream
    exact ⟨fun n hn => (runs_read hagent hst hn).congr (hasks ..), (runs_mark hagent hst).congr (hasks ..),
      (runs_rewind hagent hst).congr (hasks ..), fun t ht => (runs_release hagent hst ht).congr (hasks ..),
      (runs_drop hagent hst).congr (hasks ..), (runs_opReset hagent hst).congr (hasks ..),
      fun code full hwf => (runs_opInvalid hwf).congr (hasks ..)⟩

/-! ### The operations of Table 10.5 (R373) -/

section
variable {x : Stream} {framed : Bool} {n : Nat}

/-- READ and RELEASE refuse an argument that is not a multiple of 64. -/
theorem Stream.oper_misaligned (hmis : n % 64 ≠ 0) : x.oper framed 1 n = (1, x) ∧ x.oper framed 4 n = (1, x) := by
  have hne : (n % 64 != 0) = true := bne_iff_ne.mpr hmis
  exact ⟨if_pos hne, if_pos (by rw [hne, Bool.true_or, Bool.true_or])⟩

/-- READ of some bytes advances RPOS by them, up to AVAIL. -/
theorem Stream.oper_read (halign : n % 64 = 0) (hn : n ≠ 0) :
    x.oper framed 1 n = (0, { x with pos := { x.pos with rpos := min (x.pos.rpos + n) x.pos.avail } }) := by
  have hne : ¬ (n % 64 != 0) = true := by simp [halign]
  exact (if_neg hne).trans (if_neg hn)

/-- MARK keeps RPOS. -/
theorem Stream.oper_mark : x.oper framed 2 n = (0, { x with pos := { x.pos with mark := some x.pos.rpos } }) := rfl

/-- REWIND is refused without a mark. -/
theorem Stream.oper_rewind_none (hmark : x.pos.mark = none) : x.oper framed 3 n = (2, x) := by
  simp [Stream.oper, hmark]

/-- REWIND returns RPOS to the mark. -/
theorem Stream.oper_rewind {m : Nat} (hmark : x.pos.mark = some m) :
    x.oper framed 3 n = (0, { x with pos := { x.pos with rpos := m } }) := by
  simp [Stream.oper, hmark]

/-- RELEASE beyond RPOS or END is refused. -/
theorem Stream.oper_release_beyond (h : x.pos.rpos < n ∨ x.pos.end_ < n) : x.oper framed 4 n = (1, x) := by
  have hn : n ≠ 0 := by omega
  have hbad : (n % 64 != 0 || decide (n > x.pos.rpos) || decide (n > x.pos.end_)) = true := by simp [or_assoc, h]
  simp [Stream.oper, hn, hbad]

/-- A mark that stands at `n` or above it is kept. -/
theorem keptMark_some (m n : Nat) : (some m).filter (n ≤ ·) = if m < n then none else some m := by
  obtain hlt | hge := lt_or_ge m n
  · simp [Option.filter, hlt, hlt.not_ge]
  · simp [Option.filter, hge, hge.not_gt]

section
variable (halign : n % 64 = 0) (hn : n ≠ 0) (hrpos : n ≤ x.pos.rpos) (hend : n ≤ x.pos.end_)
include halign hn hrpos hend

/-- RELEASE beyond REL moves REL, and removes a mark below it. -/
theorem Stream.oper_release (hrel : x.pos.rel < n) :
    x.oper framed 4 n =
      (0, ({ x with pos := { x.pos with rel := n, mark := x.pos.mark.filter (n ≤ ·) } } : Stream).fixAnchor) := by
  cases hmark : x.pos.mark with
  | none => simp [Stream.oper, halign, hn, hrpos.not_gt, hend.not_gt, hrel, hmark]
  | some m => simp [Stream.oper, halign, hn, hrpos.not_gt, hend.not_gt, hrel, hmark, keptMark_some]

/-- RELEASE up to REL changes nothing. -/
theorem Stream.oper_release_done (hrel : n ≤ x.pos.rel) : x.oper framed 4 n = (0, x) := by
  simp [Stream.oper, halign, hn, hrpos.not_gt, hend.not_gt, hrel.not_gt]

end

/-- An unframed stream refuses DROP. -/
theorem Stream.oper_drop_unframed : x.oper false 5 n = (5, x) := rfl

/-- DROP is refused while the header of the frame at RPOS has not arrived. -/
theorem Stream.oper_drop_none (hframe : x.frameAt true x.pos.rpos = none) : x.oper true 5 n = (4, x) := by
  simp [Stream.oper, hframe]

/-- DROP moves RPOS to the end of its frame. -/
theorem Stream.oper_drop {f : Nat × Nat} (hframe : x.frameAt true x.pos.rpos = some f) :
    x.oper true 5 n = (0, { x with pos := { x.pos with rpos := f.2 } }) := by
  simp [Stream.oper, hframe]

/-- Any other opcode is refused. -/
theorem Stream.oper_unknown {op : Nat} (hop : 6 < op) : x.oper framed op n = (1, x) := by
  have hne : ∀ k, k ≤ 6 → op ≠ k := by omega
  simp [Stream.oper, hne]

end

/-- Settles O28: each operation does what its own lemma says. -/
theorem consumerOperations : Obligations.ConsumerOperations := by
  intro x framed n
  refine ⟨Stream.oper_misaligned, fun halign hpos _ => ?read, congrArg Prod.fst Stream.oper_mark,
    congrArg (·.2.pos) Stream.oper_mark, Stream.oper_rewind_none, fun m hmark => ?rewind,
    fun hbeyond _ => Stream.oper_release_beyond hbeyond, fun halign hrel hrpos hend => ?release,
    fun halign hpos hrel hrpos hend => Stream.oper_release_done halign hpos.ne' hrpos hend hrel, Stream.oper_drop_unframed,
    Stream.oper_drop_none, fun f hframe => ?drop, fun op => Stream.oper_unknown⟩
  case read => rw [Stream.oper_read halign hpos.ne']; exact ⟨rfl, rfl⟩
  case rewind => rw [Stream.oper_rewind hmark]; exact ⟨rfl, rfl⟩
  case release =>
    rw [Stream.oper_release halign (by omega) hrpos hend hrel]
    refine ⟨rfl, rfl, rfl, rfl, fun m hmark => ?_⟩
    simp only [Stream.fixAnchor, hmark, keptMark_some]
  case drop => rw [Stream.oper_drop hframe]; exact ⟨rfl, rfl⟩

/-! ### The head and a queue reset (R376, R385) -/

section
variable {d : Dev} {st : Nat}

section
variable (hst : st < 4096) (hen : d.f (STR_CTL.EN st) ≠ 0) (hsound : (d.stm st).failed = false)
include hst hen hsound

/-- The head of an enabled stream that has not failed is filled. -/
theorem runs_headRefill : Runs (.headRefill st) d (d.setStm st (d.stm st).refill) :=
  .of_act (fun s => (rfl : execHeadRefill st s = _)) (decide_eq_true hst)
    (if_neg (by simp [Dev.on_of_ne hen, hsound]))

/-- Each cause of a queue reset acts on such a stream; cause 3 with its anchor lost. -/
theorem runs_queueReset {cause : Nat} (hcause : cause < 4) (hvalid : (d.stm st).valid = true) :
    Runs (.queueReset st cause) d
      ((if cause = 3 then d.setStm st { d.stm st with anchorOk := false } else d).queueReset st) :=
  .of_act (fun s => (rfl : execQueueReset st cause s = _)) (by simp [okQueueReset, hst, hcause])
    ((if_neg (by simp [Dev.on_of_ne hen, hvalid, hsound])).trans (apply_ite (Dev.queueReset · st) ..).symm)

end

/-! ### Spill (R377 to R379) -/

/-- What a spill takes of the allowance of its stream's home. -/
def Dev.spillPaid (d : Dev) (st n : Nat) : Dev :=
  if n = 0 then d else d.setF (WLV_ALLOW.ALLOW (homeOfStream st)) (d.f (WLV_ALLOW.ALLOW (homeOfStream st)) - n)

section
variable {slot : Nat} {ev : RdEnv} (hwf : (Instr.streamPageSpill st slot ev).wf = true)
include hwf

/-- A slot that is not due is not spilled. -/
theorem runs_streamPageSpill_notDue (hdue : d.spillDue st slot = false) : Runs (.streamPageSpill st slot ev) d d :=
  .of_act (fun s => (rfl : execStreamPageSpill st slot ev s = _)) hwf (if_pos (by rw [hdue, Bool.not_false]))

section
variable (hdue : d.spillDue st slot = true)
include hdue

/-- One that is due waits without a group to place it in. -/
theorem runs_streamPageSpill_noSpace (hspace : d.spillSpace st slot (d.stm st) = none) : Runs (.streamPageSpill st slot ev) d d :=
  .of_act (fun s => (rfl : execStreamPageSpill st slot ev s = _)) hwf (by simp only [hdue, hspace, Bool.not_true, Bool.false_eq_true, if_false])

section
variable {n : Nat} {e : Dev} (hspace : d.spillSpace st slot (d.stm st) = some (n, e))
include hspace

/-- The group stands, and the spill waits, until a Point offers a slot. -/
theorem runs_streamPageSpill_unplaced (hplace : e.placeSpill (d.stm st) slot (d.spillImg st slot) = none) :
    Runs (.streamPageSpill st slot ev) d e :=
  .of_act (fun s => (rfl : execStreamPageSpill st slot ev s = _)) hwf
    (by simp only [hdue, hspace, hplace, Bool.not_true, Bool.false_eq_true, if_false])

/-- Then its image is placed and its units are taken. -/
theorem runs_streamPageSpill_placed {im : Img} {t : Dev} (hplace : e.placeSpill (d.stm st) slot (d.spillImg st slot) = some (im, t)) :
    Runs (.streamPageSpill st slot ev) d { t.spillPaid st n with imgs := (t.spillPaid st n).imgs ++ [im] } :=
  .of_act (fun s => (rfl : execStreamPageSpill st slot ev s = _)) hwf
    (by simp only [hdue, hspace, hplace, Bool.not_true, Bool.false_eq_true, if_false, Dev.spillPaid])

end

end

end

/-! ### Boundary records and protect windows (R391, R393, R394) -/

/-- No boundary is recorded before the next is due. -/
theorem runs_boundaryRecord_idle (h : d.ticks / 4096 ≤ d.str.lastBound) : Runs .boundaryRecord d d :=
  .of_act (fun s => (rfl : execBoundaryRecord s = _)) rfl (if_pos h)

/-- One that is due is recorded for every stream that keeps boundaries. -/
theorem runs_boundaryRecord_due (h : d.str.lastBound < d.ticks / 4096) :
    Runs .boundaryRecord d
      (({ d with str := { d.str with lastBound := d.ticks / 4096 } } : Dev).boundAll (d.ticks / 4096 * 4096 * 65536)) :=
  .of_act (fun s => (rfl : execBoundaryRecord s = _)) rfl (if_neg h.not_ge)

section
variable (hst : st < 4096)
include hst

/-- Where a window's time is up, each such window of the stream closes. -/
theorem runs_windowClose (hup : (d.stm st).windows.any (fun w => w.pend.isNone && decide (w.t1 ≤ d.time)) = true) :
    Runs (.windowClose st) d
      (d.setStm st { d.stm st with windows := (d.stm st).windows.map (fun (w : Window) =>
        if w.pend.isNone && decide (w.t1 ≤ d.time) then { w with pend := some ((d.stm st).pendAt w) } else w) }) :=
  .of_act (fun s => (rfl : execWindowClose st s = _)) (decide_eq_true hst) (if_pos hup)

/-- The oldest closed window is recorded while the chain and the sequencer are ready. -/
theorem runs_windowRecord {w : Window} {e : Nat} (hdue : (d.stm st).dueWindow = some (w, e)) (hchain : d.chainReady = true)
    (hseq : d.seqOn = true) : Runs (.windowRecord st) d (d.recordWindow st w e) :=
  .of_act (fun s => (rfl : execWindowRecord st s = _)) (decide_eq_true hst)
    (by simp only [hdue, hchain, hseq, Bool.not_true, Bool.or_self, Bool.false_eq_true, if_false])

end

end

/-- Settles O29: each command runs as its own lemma says. -/
theorem streamUpkeep : Obligations.StreamUpkeep := by
  refine ⟨fun st d hst => ⟨.of_act (fun s => (rfl : execCreditRaise st s = _)) (decide_eq_true hst) rfl,
      .of_act (fun s => (rfl : execRingReclaim st s = _)) (decide_eq_true hst) rfl, runs_headRefill hst, ?reset, ?anchorLost, fun slot ev hwf =>
        ⟨runs_streamPageSpill_notDue hwf, fun hdue => ⟨runs_streamPageSpill_noSpace hwf hdue, fun n e hspace =>
          ⟨runs_streamPageSpill_unplaced hwf hdue hspace, fun im t => runs_streamPageSpill_placed hwf hdue hspace⟩⟩⟩⟩,
    fun d => ⟨runs_boundaryRecord_idle, runs_boundaryRecord_due, fun st => runs_windowClose, fun st w e hst => runs_windowRecord hst⟩⟩
  case reset =>
    intro cause hcause _ hen hvalid hsound
    have hreset := runs_queueReset hst hen hsound (cause := cause) (by omega) hvalid
    rwa [if_neg (by omega)] at hreset
  case anchorLost =>
    rintro cause rfl hen hvalid hsound
    exact runs_queueReset hst hen hsound (by decide) hvalid

end Sys2Proof.Machine

/-! Arithmetic, logic, branches and jumps of the engines (chapter 11): what a ready engine's instruction does, by the way in which its effect
ends, and the commands of Table 11.6 that compute, branch and jump. -/

namespace Sys2Proof.Machine

/-! ### How an instruction of a ready engine ends (R413) -/

section
variable {d t : Dev} {e word : Nat} {helm bar : Bool} {f : Dev → EngRes} (hready : d.engReady e helm = true)
include hready

theorem Dev.engStep_done (hf : f d = .done t) : d.engStep e word false helm bar f = d.engNext t e := by
  rw [Dev.engStep_ready hready, hf]

theorem Dev.engStep_goto {pc : Word} (hf : f d = .goto t pc) : d.engStep e word false helm bar f = t.engAt e pc := by
  rw [Dev.engStep_ready hready, hf]

theorem Dev.engStep_stay (hf : f d = .stay t) : d.engStep e word false helm bar f = t.lockCopy e := by
  rw [Dev.engStep_ready hready, hf]

theorem Dev.engStep_raise {code detail : Nat} {bad : Word} (hf : f d = .raise t code detail bad) :
    d.engStep e word false helm bar f = (t.syncExc e code detail bad).lockCopy e := by
  rw [Dev.engStep_ready hready, hf]

end

/-- An instruction that only writes a general register, at a ready engine. -/
theorem Dev.engSet_ready {d : Dev} {e word rd : Nat} {v : Dev → Word} (hready : d.engReady e false = true) :
    d.engSet e word rd false v = d.engNext (d.setGr e rd (v d)) e :=
  Dev.engStep_done hready rfl

/-- Where a branch goes at a ready engine: to its target where its condition holds, else to the next word. -/
theorem Dev.branch_ready {d : Dev} {e : Nat} (hready : d.engReady e false = true) (k b a imm : Nat) :
    d.branch e k b a imm =
      d.engAt e (if branchTaken k (d.gr e a) (d.gr e b) then (d.eng e).pc + 4 * sext 16 imm else (d.eng e).pc + 4) := by
  rw [Dev.branch]
  cases htaken : branchTaken k (d.gr e a) (d.gr e b) with
  | true => exact Dev.engStep_goto hready (if_pos htaken)
  | false => exact Dev.engStep_done hready (if_neg (by simp [htaken]))

section
variable {e : Nat} (he : e < 16)
include he

/-! ### Arithmetic and logic (R423, R402) -/

section
variable {rd a b imm : Nat} {d : Dev} (hrd : rd < 32) (ha : a < 32)
include hrd ha

/-- Three register numbers of an engine's instruction are in their ranges. -/
theorem threeRegs_ok (hb : b < 32) : (decide (e < 16) && decide (rd < 32) && decide (a < 32) && decide (b < 32)) = true := by
  simp only [he, hrd, ha, hb, decide_true, Bool.and_self]

/-- So are two register numbers and an immediate. -/
theorem twoRegsImm_ok (himm : imm < 65536) : (decide (e < 16) && decide (rd < 32) && decide (a < 32) && decide (imm < 65536)) = true := by
  simp only [he, hrd, ha, himm, decide_true, Bool.and_self]

variable (hready : d.engReady e false = true) {c : Instr}
include hready

/-- A format A instruction of OP 0x00 writes its function of g[A] and g[B]. -/
theorem runs_aluOp (hb : b < 32) {fn : Nat} {f : Word → Word → Word}
    (hc : ∀ s, exec c s = act (decide (e < 16) && decide (rd < 32) && decide (a < 32) && decide (b < 32)) s (·.aluOp e rd a b fn f)) :
    Runs c d (d.engNext (d.setGr e rd (f (d.gr e a) (d.gr e b))) e) :=
  .of_act hc (threeRegs_ok he hrd ha hb) (Dev.engSet_ready hready)

/-- A format I instruction of arithmetic or logic writes its function of g[A]. -/
theorem runs_immOp (himm : imm < 65536) {op : Nat} {f : Word → Word}
    (hc : ∀ s, exec c s = act (decide (e < 16) && decide (rd < 32) && decide (a < 32) && decide (imm < 65536)) s (·.immOp e op rd a imm f)) :
    Runs c d (d.engNext (d.setGr e rd (f (d.gr e a))) e) :=
  .of_act hc (twoRegsImm_ok he hrd ha himm) (Dev.engSet_ready hready)

end

section
variable {rd imm rs : Nat} {d : Dev} (hrd : rd < 32) (himm : imm < 65536) (hrs : rs < 2 ^ 26) (hready : d.engReady e false = true)
include hrd himm hrs hready

/-- LHI writes its immediate above 16 zero bits. -/
theorem runs_lhi (hgood : rsBad rsvA rs = false) : Runs (.lhi e rd imm rs) d (d.engNext (d.setGr e rd (sext 16 imm <<< 16)) e) :=
  .of_act (fun s => (rfl : execLhi e rd imm rs s = _)) (by simp only [okLhi, he, hrd, himm, hrs, decide_true, Bool.and_self]) (by rw [hgood, Dev.engSet_ready hready])

/-- With a reserved field that is not zero it is ILLEGAL (R422). -/
theorem runs_lhi_illegal (hbad : rsBad rsvA rs = true) :
    Runs (.lhi e rd imm rs) d ((d.syncExc e 1 (withRs (encI 0x05 rd 0 imm) rsvA rs) 0).lockCopy e) :=
  .of_act (fun s => (rfl : execLhi e rd imm rs s = _)) (by simp only [okLhi, he, hrd, himm, hrs, decide_true, Bool.and_self])
    (by rw [hbad, Dev.engSet, Dev.engStep_illegal hready])

end

/-! ### Branches and jumps (R423) -/

section
variable {a b imm : Nat} {d : Dev} (ha : a < 32) (hb : b < 32) (himm : imm < 65536) (hready : d.engReady e false = true)
include ha hb himm hready

/-- A conditional branch. -/
theorem runs_branch {c : Instr} (k : Nat)
    (hc : ∀ s, exec c s = act (decide (e < 16) && decide (b < 32) && decide (a < 32) && decide (imm < 65536)) s (·.branch e k b a imm)) :
    Runs c d (d.engAt e (if branchTaken k (d.gr e a) (d.gr e b) then (d.eng e).pc + 4 * sext 16 imm else (d.eng e).pc + 4)) :=
  .of_act hc (twoRegsImm_ok he hb ha himm) (Dev.branch_ready hready ..)

/-- JR goes to the sum of g[A] and its immediate and links the next word. -/
theorem runs_jr : Runs (.jr e b a imm) d ((d.setGr e b ((d.eng e).pc + 4)).engAt e (d.gr e a + sext 16 imm)) :=
  .of_act (fun s => (rfl : execJr e b a imm s = _)) (twoRegsImm_ok he hb ha himm) (Dev.engStep_goto hready rfl)

end

/-- JAL goes to its offset from its own address and links the next word. -/
theorem runs_jal {b off : Nat} {d : Dev} (hb : b < 32) (hoff : off < 2 ^ 21) (hready : d.engReady e false = true) :
    Runs (.jal e b off) d ((d.setGr e b ((d.eng e).pc + 4)).engAt e ((d.eng e).pc + 4 * sext 21 off)) :=
  .of_act (fun s => (rfl : execJal e b off s = _)) (by simp only [okJal, he, hb, hoff, decide_true, Bool.and_self]) (Dev.engStep_goto hready rfl)

end

/-- Settles O30: each command is `Dev.aluOp` or `Dev.immOp` of its function, or LHI; DIV and REM take zero and other divisors apart. -/
theorem engineArithmetic : Obligations.EngineArithmetic := by
  intro e rd a b imm d he hrd ha hb himm hready
  have alu {c : Instr} {fn : Nat} (f : Word → Word → Word) := runs_aluOp (c := c) (fn := fn) (f := f) he hrd ha hready hb
  have immediate {c : Instr} {op : Nat} (f : Word → Word) := runs_immOp (c := c) (op := op) (f := f) he hrd ha hready himm
  refine ⟨alu (· + ·) (fun _ => rfl), alu (· - ·) (fun _ => rfl), alu (· &&& ·) (fun _ => rfl), alu (· ||| ·) (fun _ => rfl),
    alu (· ^^^ ·) (fun _ => rfl), alu (fun x y => x <<< shiftBy y) (fun _ => rfl), alu (fun x y => x >>> shiftBy y) (fun _ => rfl),
    alu (fun x y => x.sshiftRight (shiftBy y)) (fun _ => rfl), alu (· * ·) (fun _ => rfl), alu mulHigh (fun _ => rfl),
    fun hzero => ⟨?divZero, ?remZero⟩, fun hdivisor => ⟨?div, ?rem⟩, immediate (· + sext 16 imm) (fun _ => rfl),
    immediate (· &&& BitVec.ofNat 64 imm) (fun _ => rfl), immediate (· ||| BitVec.ofNat 64 imm) (fun _ => rfl),
    immediate (· ^^^ BitVec.ofNat 64 imm) (fun _ => rfl), fun rs hrs => runs_lhi he hrd himm hrs hready,
    fun rs hrs => runs_lhi_illegal he hrd himm hrs hready⟩
  case divZero => exact (alu divSigned (fun _ => rfl)).congr (by rw [divSigned, if_pos hzero])
  case remZero => exact (alu remSigned (fun _ => rfl)).congr (by rw [remSigned, if_pos hzero])
  case div => exact (alu divSigned (fun _ => rfl)).congr (by rw [divSigned, if_neg hdivisor])
  case rem => exact (alu remSigned (fun _ => rfl)).congr (by rw [remSigned, if_neg hdivisor])

/-- Settles O31: each branch is `Dev.branch` of its own condition. -/
theorem engineBranches : Obligations.EngineBranches := by
  intro e a b imm d he ha hb himm hready
  have branch {c : Instr} := runs_branch (c := c) he ha hb himm hready
  exact ⟨branch 0 (fun _ => rfl), branch 1 (fun _ => rfl), branch 2 (fun _ => rfl), branch 3 (fun _ => rfl), branch 4 (fun _ => rfl),
    branch 5 (fun _ => rfl), fun off hoff => runs_jal he hb hoff hready, runs_jr he ha hb himm hready⟩

end Sys2Proof.Machine

/-! The state of an engine (chapter 11): its general registers, what taking an exception saves, and the return from one. -/

namespace Sys2Proof.Machine

/-! ### A change of one engine -/

section
variable {d : Dev} {e i : Nat} {f : Engine → Engine}

theorem Dev.modEng_eng_same (he : e < d.engines.length) : (d.modEng e f).eng e = f (d.eng e) := by
  simp [Dev.eng, Dev.modEng, listMod, List.getD, he]

theorem Dev.modEng_eng_ne (hi : i ≠ e) : (d.modEng e f).eng i = d.eng i := by
  simp [Dev.eng, Dev.modEng, listMod, List.getD, hi.symm]

/-- What the change leaves of every engine, it leaves of the engines of the device. -/
theorem Dev.modEng_eng_keep {α : Type} (q : Engine → α) (hf : ∀ x, q (f x) = q x) : q ((d.modEng e f).eng i) = q (d.eng i) := by
  simp only [Dev.eng, Dev.modEng, listMod, List.getD, List.getElem?_modify]
  split
  · cases d.engines[i]? <;> simp [hf]
  · simp

@[simp] theorem Dev.modEng_engines_length : (d.modEng e f).engines.length = d.engines.length := by
  simp [Dev.modEng, listMod]

/-- Only the engine as it stands matters to a change of it. -/
theorem Dev.modEng_congr {g : Engine → Engine} (h : f (d.eng e) = g (d.eng e)) : d.modEng e f = d.modEng e g := by
  unfold Dev.modEng
  congr 1
  refine List.ext_getElem? fun i => ?_
  simp only [listMod, List.getElem?_modify]
  split
  · next hi =>
    subst hi
    cases hx : d.engines[e]? with
    | none => rfl
    | some x =>
      have hxe : d.eng e = x := by simp [Dev.eng, List.getD, hx]
      simpa [hxe] using h
  · rfl

/-- The second engine of a LOCKSTEP pair follows the first; the first stays as it was (R445). -/
theorem Dev.lockCopy_frame {α : Type} (q : Dev → α) (hq : ∀ (f : Engine → Engine), q (d.modEng (e + 1) f) = q d) : q (d.lockCopy e) = q d := by
  unfold Dev.lockCopy
  split
  · exact hq _
  · rfl

@[simp] theorem Dev.lockCopy_eng : (d.lockCopy e).eng e = d.eng e := Dev.lockCopy_frame (·.eng e) fun _ => Dev.modEng_eng_ne (by omega)
@[simp] theorem Dev.lockCopy_regs : (d.lockCopy e).regs = d.regs := Dev.lockCopy_frame Dev.regs fun _ => rfl
@[simp] theorem Dev.lockCopy_sectors : (d.lockCopy e).sectors = d.sectors := Dev.lockCopy_frame Dev.sectors fun _ => rfl
@[simp] theorem Dev.lockCopy_lbk : (d.lockCopy e).lbk = d.lbk := Dev.lockCopy_frame Dev.lbk fun _ => rfl
@[simp] theorem Dev.lockCopy_quads : (d.lockCopy e).quads = d.quads := Dev.lockCopy_frame Dev.quads fun _ => rfl
@[simp] theorem Dev.lockCopy_heads : (d.lockCopy e).heads = d.heads := Dev.lockCopy_frame Dev.heads fun _ => rfl

end

/-! ### General registers (R402) -/

@[simp] theorem Engine.rd_zero (x : Engine) : x.rd 0 = 0 := rfl

@[simp] theorem Engine.wr_zero (x : Engine) (v : Word) : x.wr 0 v = x := rfl

theorem Engine.rd_wr_same {x : Engine} {i : Nat} (hi : i ≠ 0) (hlen : i < x.g.length) (v : Word) : (x.wr i v).rd i = v := by
  simp [Engine.rd, Engine.wr, hi, hlen]

theorem Engine.rd_wr_ne {i j : Nat} (hj : j ≠ i) (x : Engine) (v : Word) : (x.wr i v).rd j = x.rd j := by
  by_cases hi : i = 0
  · simp [Engine.wr, hi]
  · simp [Engine.rd, Engine.wr, hi, List.getD, List.getElem?_set_ne hj.symm]

@[simp] theorem Engine.wr_g_length (x : Engine) (i : Nat) (v : Word) : (x.wr i v).g.length = x.g.length := by
  simp only [Engine.wr, apply_ite Engine.g, apply_ite List.length, List.length_set, ite_self]

@[simp] theorem Engine.wr_pc (x : Engine) (i : Nat) (v : Word) : (x.wr i v).pc = x.pc := by
  simp only [Engine.wr, apply_ite Engine.pc, ite_self]

@[simp] theorem Engine.wr_loc (x : Engine) (i : Nat) (v : Word) : (x.wr i v).loc = x.loc := by
  simp only [Engine.wr, apply_ite Engine.loc, ite_self]

@[simp] theorem Engine.wr_rsv (x : Engine) (i : Nat) (v : Word) : (x.wr i v).rsv = x.rsv := by
  simp only [Engine.wr, apply_ite Engine.rsv, ite_self]

/-- A write to g0 of an engine changes nothing. -/
theorem Dev.setGr_zero (d : Dev) (e : Nat) (v : Word) : d.setGr e 0 v = d := by
  have h : d.setGr e 0 v = d.modEng e id := rfl
  rw [h, Dev.modEng, listMod, List.modify_id]

/-- Settles O54: reads and writes of a general register of one engine's list (`Engine.rd_wr_same`, `Engine.rd_wr_ne`). -/
theorem engineRegisters : Obligations.EngineRegisters := by
  refine ⟨by decide +kernel, by decide +kernel, fun e v d he hengines hg => ⟨Engine.rd_zero _, d.setGr_zero e v, fun i hi hi32 => ?_⟩⟩
  have hsame : (d.setGr e i v).eng e = (d.eng e).wr i v := Dev.modEng_eng_same (hengines ▸ he)
  refine ⟨?_, fun j hj => ?_, fun k hk => Dev.modEng_eng_ne hk, ?_, ?_, ?_⟩
  · rw [Dev.gr, hsame, Engine.rd_wr_same hi.ne' (hg ▸ hi32)]
  · rw [Dev.gr, hsame, Engine.rd_wr_ne hj, Dev.gr]
  · rw [hsame, Engine.wr_pc]
  · rw [hsame, Engine.wr_loc]
  · rw [hsame, Engine.wr_g_length, hg]

/-! ### Exceptions and their return (R412, R418) -/

/-- Settles O37: taking an exception is one change of the engine. -/
theorem engineException : Obligations.EngineException := by
  intro e code detail bad epc d he hengines x y
  have hy : y = _ := Dev.modEng_eng_same (hengines ▸ he)
  rw [hy]
  exact ⟨rfl, rfl, rfl, rfl, rfl, rfl, rfl, rfl, rfl, rfl, rfl, rfl, fun i hi => Dev.modEng_eng_ne hi, rfl⟩

/-- An instruction for helm alone, at deck privilege (R413). -/
theorem Dev.engStep_privilege {d : Dev} {e word : Nat} {bar : Bool} {f : Dev → EngRes} (hready : d.engReady e false = true)
    (hdeck : (d.eng e).priv = 1) : d.engStep e word false true bar f = (d.syncExc e 2 word 0).lockCopy e := by
  simp only [Dev.engReady, Bool.and_eq_true, Bool.not_eq_true', beq_iff_eq] at hready
  obtain ⟨⟨⟨⟨⟨hup, hwait⟩, halign⟩, hfetch⟩, -⟩, -⟩ := hready
  simp [Dev.engStep, Dev.engCheck, hup, hwait, halign, hfetch, hdeck]

section
variable {e : Nat} {d : Dev} (he : e < 16)
include he

theorem runs_eret (hready : d.engReady e true = true) : Runs (.eret e 0) d ((d.eret e).lockCopy e) :=
  .of_act (fun s => (rfl : execEret e 0 s = _)) (by simp [okEret, he]) (Dev.engStep_stay hready rfl)

theorem runs_eret_privilege (hready : d.engReady e false = true) (hdeck : (d.eng e).priv = 1) :
    Runs (.eret e 0) d ((d.syncExc e 2 (encA 0x34 0 0 0 0) 0).lockCopy e) :=
  .of_act (fun s => (rfl : execEret e 0 s = _)) (by simp [okEret, he]) (Dev.engStep_privilege hready hdeck)

end

/-- Settles O55: at helm ERET is one change of its engine, at deck privilege PRIVILEGE. -/
theorem engineReturn : Obligations.EngineReturn := by
  refine fun e d he hengines => ⟨fun hready => ⟨_, runs_eret he hready, ?_⟩, runs_eret_privilege he⟩
  have heng : ((d.eret e).lockCopy e).eng e = _ := Dev.lockCopy_eng.trans (Dev.modEng_eng_same (hengines ▸ he))
  beta_reduce
  rw [heng]
  exact ⟨rfl, rfl, rfl, rfl, rfl, Dev.lockCopy_regs, Dev.lockCopy_sectors, Dev.lockCopy_lbk, Dev.lockCopy_quads, Dev.lockCopy_heads⟩

end Sys2Proof.Machine

/-! Loads, stores, load-reserve and store-conditional of the engines (chapter 11). -/

namespace Sys2Proof.Machine

/-! ### Addresses and bytes of a line -/

/-- Of the regions only device memory answers a device address, and it lies from its first engine address on (Table 11.1). -/
theorem eRegion_dev {y x : Nat} (h : eRegion y = .dev x) : y = devBase + x := by
  simp only [eRegion, ite_eq_iff, reduceCtorEq, and_false, false_or, or_false, ERegion.dev.injEq, Bool.and_eq_true, decide_eq_true_eq] at h
  omega

@[simp] theorem maskBits_zero (n : Nat) : maskBits 0#64 n = 0 := by
  induction n with
  | zero => rfl
  | succ n ih => simp [maskBits, ih]

/-- A merge under an empty mask leaves the old line. -/
@[simp] theorem mergeLine_zero (old new : Line) : mergeLine old new 0#64 = old := by
  simp only [mergeLine, maskBits_zero, BitVec.not_zero, BitVec.and_allOnes, BitVec.and_zero, BitVec.or_zero]

/-- The mask of some bytes of a line is not empty. -/
theorem byteMask_ne_zero {off n : Nat} (hn : 0 < n) (hend : off + n ≤ 64) : byteMask off n ≠ 0 := by
  have hlt : (2 ^ n - 1) * 2 ^ off < 2 ^ 64 :=
    calc (2 ^ n - 1) * 2 ^ off < 2 ^ n * 2 ^ off := Nat.mul_lt_mul_of_pos_right (Nat.sub_lt (Nat.two_pow_pos n) one_pos) (Nat.two_pow_pos off)
      _ = 2 ^ (off + n) := by rw [← pow_add, Nat.add_comm]
      _ ≤ 2 ^ 64 := Nat.pow_le_pow_right two_pos hend
  have hpos : 0 < (2 ^ n - 1) * 2 ^ off := Nat.mul_pos (Nat.sub_pos_of_lt (Nat.one_lt_two_pow hn.ne')) (Nat.two_pow_pos off)
  intro h
  have hval := congrArg BitVec.toNat h
  rw [byteMask, BitVec.toNat_ofNat, Nat.mod_eq_of_lt hlt] at hval
  exact hpos.ne' hval

/-- A width of a load or store, and a value that it divides, leave room for it in a line. -/
theorem aligned_in_line {x n : Nat} (hn : n = 1 ∨ n = 2 ∨ n = 4 ∨ n = 8) (halign : x % n = 0) : x % 64 + n ≤ 64 := by
  rcases hn with rfl | rfl | rfl | rfl <;> omega

/-! ### Loads (R406, R409) -/

section
variable {d : Dev} {e n : Nat} {addr : Word} {ev : RdEnv} {k : Nat → Dev → EngRes}

theorem Dev.engLoad_misaligned (halign : addr.toNat % n ≠ 0) : d.engLoad e addr n ev k = .raise d 6 n addr :=
  if_pos (bne_iff_ne.mpr halign)

variable (halign : addr.toNat % n = 0)
include halign

theorem Dev.engLoad_fault (hmay : d.mayAccess e (eRegion addr.toNat) false = false) : d.engLoad e addr n ev k = .raise d 4 0 addr := by
  simp [Dev.engLoad, halign, hmay]

variable (hmay : d.mayAccess e (eRegion addr.toNat) false = true)
include hmay

theorem Dev.engLoad_loc {off : Nat} (hue : ev.ue = false) (hregion : eRegion addr.toNat = .loc off) :
    d.engLoad e addr n ev k = k (ofLe (memRead (d.eng e).loc off n)) d := by
  rw [hregion] at hmay
  simp [Dev.engLoad, halign, hmay, hregion, hue]

theorem Dev.engLoad_shared {q off : Nat} {own : Line × Mask} (hue : ev.ue = false) (hregion : eRegion addr.toNat = .shared q off)
    (hown : d.onWay e (addr.toNat / 64) = own) :
    d.engLoad e addr n ev k = k (lineVal (mergeLine (lineOfVal (addr.toNat % 64) n (ofLe (memRead (d.quad q).shared off n))) own.1 own.2)
      (addr.toNat % 64) n) d := by
  rw [hregion] at hmay
  simp [Dev.engLoad, halign, hmay, hregion, hue, hown]

theorem Dev.engLoad_rom {off : Nat} (hregion : eRegion addr.toNat = .rom off) :
    d.engLoad e addr n ev k = k (ofLe ((List.range n).map (fun i => Config.romByte (off + i)))) d := by
  rw [hregion] at hmay
  simp [Dev.engLoad, halign, hmay, hregion]

theorem Dev.engLoad_helm {off : Nat} (hregion : eRegion addr.toNat = .helm off) :
    d.engLoad e addr n ev k = k (d.helmRead (3 + e) off (8 * n)).1 (d.helmRead (3 + e) off (8 * n)).2 := by
  rw [hregion] at hmay
  simp [Dev.engLoad, halign, hmay, hregion]

/-- Device memory of which nothing is on its way (R409). -/
theorem Dev.engLoad_dev {x : Nat} {v : Line} {t : Dev} (hn : n = 1 ∨ n = 2 ∨ n = 4 ∨ n = 8) (hregion : eRegion addr.toNat = .dev x)
    (hnone : (d.onWay e (addr.toNat / 64)).2 = 0) (hgo : d.mustHold 2 e x false = false) (hread : d.memReadNow 2 x ev = (some v, t)) :
    d.engLoad e addr n ev k = k (lineVal v (x % 64) n) t := by
  have haddr := eRegion_dev hregion
  have hx : x % n = 0 := by
    rw [haddr] at halign
    rcases hn with rfl | rfl | rfl | rfl <;> simp only [devBase] at halign <;> omega
  have hneed : byteMask (x % 64) n ≠ 0#64 := byteMask_ne_zero (by omega) (aligned_in_line hn hx)
  rw [haddr] at hnone
  rw [hregion] at hmay
  simp [Dev.engLoad, halign, hmay, hregion, Dev.devLoad, hnone, hneed.symm, hgo, hread]

end

section
variable {e rd a imm n op : Nat} {sg : Bool} {ev : RdEnv} {d : Dev} {c : Instr} (he : e < 16) (hrd : rd < 32) (ha : a < 32) (himm : imm < 65536)
  (hready : d.engReady e false = true)
  (hc : ∀ s, exec c s = act (decide (e < 16) && decide (rd < 32) && decide (a < 32) && decide (imm < 65536)) s (·.loadOp e op rd a imm n sg ev))
include he hrd ha himm hready hc

/-- A load that is answered goes on with the value in g[D]. -/
theorem runs_load {v : Nat} {t : Dev} (hload : ∀ k, d.engLoad e (effAddr (d.gr e a) imm) n ev k = k v t) :
    Runs c d (d.engNext (t.setGr e rd (if sg then sext (8 * n) v else BitVec.ofNat 64 v)) e) :=
  .of_act hc (twoRegsImm_ok he hrd ha himm) (Dev.engStep_done hready (hload _))

/-- One that is not raises its cause. -/
theorem runs_load_raises {code detail : Nat} {bad : Word}
    (hload : ∀ k, d.engLoad e (effAddr (d.gr e a) imm) n ev k = .raise d code detail bad) : Runs c d ((d.syncExc e code detail bad).lockCopy e) :=
  .of_act hc (twoRegsImm_ok he hrd ha himm) (Dev.engStep_raise hready (hload _))

end

/-- The loads of Table 11.6 are one operation, with their own widths and extensions. -/
theorem load_instr {e rd a imm : Nat} {ev : RdEnv} {c : Instr} {n : Nat} {sg : Bool}
    (hc : (c, n, sg) ∈ [(Instr.ld8 e rd a imm ev, 1, true), (.ld16 e rd a imm ev, 2, true), (.ld32 e rd a imm ev, 4, true),
      (.ld64 e rd a imm ev, 8, true), (.ld8u e rd a imm ev, 1, false), (.ld16u e rd a imm ev, 2, false), (.ld32u e rd a imm ev, 4, false)]) :
    (n = 1 ∨ n = 2 ∨ n = 4 ∨ n = 8) ∧ ∃ op, ∀ s,
      exec c s = act (decide (e < 16) && decide (rd < 32) && decide (a < 32) && decide (imm < 65536)) s (·.loadOp e op rd a imm n sg ev) := by
  simp only [List.mem_cons, Prod.mk.injEq, List.not_mem_nil, or_false] at hc
  rcases hc with ⟨rfl, rfl, rfl⟩ | ⟨rfl, rfl, rfl⟩ | ⟨rfl, rfl, rfl⟩ | ⟨rfl, rfl, rfl⟩ | ⟨rfl, rfl, rfl⟩ | ⟨rfl, rfl, rfl⟩ | ⟨rfl, rfl, rfl⟩
  exacts [⟨by simp, 0x10, fun _ => rfl⟩, ⟨by simp, 0x11, fun _ => rfl⟩, ⟨by simp, 0x12, fun _ => rfl⟩, ⟨by simp, 0x13, fun _ => rfl⟩,
    ⟨by simp, 0x14, fun _ => rfl⟩, ⟨by simp, 0x15, fun _ => rfl⟩, ⟨by simp, 0x16, fun _ => rfl⟩]

/-- Settles O32: one load operation (`load_instr`), by the region of its address. -/
theorem engineLoads : Obligations.EngineLoads := by
  intro e rd a imm ev d he hrd ha himm hready hue addr c n sg hmem
  obtain ⟨hn, op, hc⟩ := load_instr hmem
  have loads {v : Nat} {t : Dev} := runs_load (v := v) (t := t) he hrd ha himm hready hc
  have raises {code detail : Nat} {bad : Word} := runs_load_raises (code := code) (detail := detail) (bad := bad) he hrd ha himm hready hc
  refine ⟨fun halign hmay => ⟨fun off hregion => ?loc, fun q off own hregion hown => ?shared, fun off hregion => ?rom, fun off hregion => ?helm,
    fun x v t hregion hnone hgo hread => ?dev⟩, fun halign hmay => ?fault, fun halign => ?misaligned⟩
  case loc => exact loads fun k => Dev.engLoad_loc halign hmay hue hregion
  case shared => exact loads fun k => Dev.engLoad_shared halign hmay hue hregion hown
  case rom => exact loads fun k => Dev.engLoad_rom halign hmay hregion
  case helm => exact loads fun k => Dev.engLoad_helm halign hmay hregion
  case dev => exact loads fun k => Dev.engLoad_dev halign hmay hn hregion hnone hgo hread
  case fault => exact raises fun k => Dev.engLoad_fault halign hmay
  case misaligned => exact raises fun k => Dev.engLoad_misaligned halign

/-! ### Stores (R406, R411, R424) -/

section
variable {d : Dev} {e n v : Nat} {addr : Word}

theorem Dev.engStore_misaligned (halign : addr.toNat % n ≠ 0) : d.engStore e addr n v = .raise d 6 n addr :=
  if_pos (bne_iff_ne.mpr halign)

variable (halign : addr.toNat % n = 0)
include halign

theorem Dev.engStore_fault (hmay : d.mayAccess e (eRegion addr.toNat) true = false) : d.engStore e addr n v = .raise d 5 0 addr := by
  simp [Dev.engStore, halign, hmay]

variable (hmay : d.mayAccess e (eRegion addr.toNat) true = true)
include hmay

theorem Dev.engStore_loc {off : Nat} (hregion : eRegion addr.toNat = .loc off) :
    d.engStore e addr n v =
      .done ((d.modEng e (fun y => { y with loc := Machine.memWrite y.loc off (leBytes n v) })).unreserveOwn e (addr.toNat / 256)) := by
  rw [hregion] at hmay
  simp [Dev.engStore, halign, hmay, hregion]

theorem Dev.engStore_ownShared {off : Nat} (hregion : eRegion addr.toNat = .shared (e / 4) off) :
    d.engStore e addr n v =
      .done ((d.modQuad (e / 4) (fun y => { y with shared := Machine.memWrite y.shared off (leBytes n v) })).unreserve (addr.toNat / 256)) := by
  rw [hregion] at hmay
  simp [Dev.engStore, halign, hmay, hregion]

theorem Dev.engStore_otherShared {q off : Nat} (hregion : eRegion addr.toNat = .shared q off) (hq : q ≠ e / 4) (hroom : d.fwdFull (e / 4) = false) :
    d.engStore e addr n v =
      .done ((d.forward (e / 4) ⟨addr.toNat / 64, lineOfVal (addr.toNat % 64) n v, byteMask (addr.toNat % 64) n, d.time, e, 0⟩).unreserveOwn e
        (addr.toNat / 256)) := by
  rw [hregion] at hmay
  simp [Dev.engStore, halign, hmay, hregion, hq, hroom]

theorem Dev.engStore_helm {off : Nat} (hregion : eRegion addr.toNat = .helm off) :
    d.engStore e addr n v = .done (d.helmWrite (3 + e) off (8 * n) v) := by
  rw [hregion] at hmay
  simp [Dev.engStore, halign, hmay, hregion]

theorem Dev.engStore_dev {x : Nat} (hregion : eRegion addr.toNat = .dev x) :
    d.engStore e addr n v =
      (d.unreserveOwn e (addr.toNat / 256)).mergeStore e (addr.toNat / 64) (lineOfVal (addr.toNat % 64) n v) (byteMask (addr.toNat % 64) n) := by
  rw [hregion] at hmay
  simp [Dev.engStore, halign, hmay, hregion]

end

/-- The end of an engine's own reservation leaves its write merge. -/
@[simp] theorem Dev.unreserveOwn_merge (d : Dev) (e g i : Nat) : ((d.unreserveOwn e g).eng i).merge = (d.eng i).merge :=
  Dev.modEng_eng_keep Engine.merge fun x => by split <;> rfl

/-- A store into an empty write merge takes its first place (R411). -/
theorem Dev.mergeStore_empty {d : Dev} {e : Nat} (hempty : (d.eng e).merge = []) (line : Nat) (data : Line) (mask : Mask) :
    d.mergeStore e line data mask =
      .done (d.modEng e (fun y => { y with merge := y.merge ++ [⟨line, mergeLine 0 data mask, mask, d.time, e, 0⟩] })) := by
  simp only [Dev.mergeStore, hempty, List.any_nil, List.length_nil, Nat.zero_lt_succ, decide_true, Bool.or_true, if_true, EngRes.done.injEq]
  exact Dev.modEng_congr (by simp [hempty])

section
variable {e b a imm n op : Nat} {d : Dev} {c : Instr} (he : e < 16) (hb : b < 32) (ha : a < 32) (himm : imm < 65536)
  (hready : d.engReady e false = true)
  (hc : ∀ s, exec c s = act (decide (e < 16) && decide (b < 32) && decide (a < 32) && decide (imm < 65536)) s (·.storeOp e op b a imm n))
include he hb ha himm hready hc

theorem runs_store {t : Dev} (hstore : d.engStore e (effAddr (d.gr e a) imm) n ((d.gr e b).toNat % 256 ^ n) = .done t) :
    Runs c d (d.engNext t e) :=
  .of_act hc (twoRegsImm_ok he hb ha himm) (Dev.engStep_done hready hstore)

theorem runs_store_raises {code detail : Nat} {bad : Word}
    (hstore : d.engStore e (effAddr (d.gr e a) imm) n ((d.gr e b).toNat % 256 ^ n) = .raise d code detail bad) :
    Runs c d ((d.syncExc e code detail bad).lockCopy e) :=
  .of_act hc (twoRegsImm_ok he hb ha himm) (Dev.engStep_raise hready hstore)

end

/-- The stores of Table 11.6 are one operation, with their own widths. -/
theorem store_instr {e b a imm : Nat} {c : Instr} {n : Nat}
    (hc : (c, n) ∈ [(Instr.st8 e b a imm, 1), (.st16 e b a imm, 2), (.st32 e b a imm, 4), (.st64 e b a imm, 8)]) :
    ∃ op, ∀ s, exec c s = act (decide (e < 16) && decide (b < 32) && decide (a < 32) && decide (imm < 65536)) s (·.storeOp e op b a imm n) := by
  simp only [List.mem_cons, Prod.mk.injEq, List.not_mem_nil, or_false] at hc
  rcases hc with ⟨rfl, rfl⟩ | ⟨rfl, rfl⟩ | ⟨rfl, rfl⟩ | ⟨rfl, rfl⟩
  exacts [⟨0x18, fun _ => rfl⟩, ⟨0x19, fun _ => rfl⟩, ⟨0x1A, fun _ => rfl⟩, ⟨0x1B, fun _ => rfl⟩]

/-! ### Reservations in the engine's own local memory (R424, R453) -/

section
variable {e rd a : Nat} {d : Dev} (he : e < 16) (hrd : rd < 32) (ha : a < 32) (hready : d.engReady e false = true)
include he hrd ha hready

/-- LD_RSV loads and reserves. -/
theorem runs_ldRsv_loc {imm off : Nat} {ev : RdEnv} (himm : imm < 65536) (hue : ev.ue = false) (halign : (effAddr (d.gr e a) imm).toNat % 8 = 0)
    (hregion : eRegion (effAddr (d.gr e a) imm).toNat = .loc off) (hmay : d.mayAccess e (.loc off) false = true) :
    Runs (.ldRsv e rd a imm ev) d
      (d.engNext ((d.modEng e (fun x => { x with rsv := some ((effAddr (d.gr e a) imm).toNat / 256) })).setGr e rd
        (BitVec.ofNat 64 (ofLe (memRead (d.eng e).loc off 8)))) e) :=
  .of_act (fun s => (rfl : execLdRsv e rd a imm ev s = _)) (twoRegsImm_ok he hrd ha himm) (Dev.engStep_done hready (by
    rw [← hregion] at hmay
    simp only [hregion, Dev.rsvOk, Bool.not_true, Bool.and_false, Bool.false_eq_true, if_false]
    exact Dev.engLoad_loc halign hmay hue hregion))

variable {b off : Nat} (hb : b < 32) (halign : (d.gr e a).toNat % 8 = 0) (hregion : eRegion (d.gr e a).toNat = .loc off)
  (hmay : d.mayAccess e (.loc off) true = true)
include hb halign hregion hmay

/-- The device of a conditional store that is made (R424). -/
def Dev.stored (d : Dev) (e off g : Nat) (v : Nat) : Dev :=
  ((d.modEng e (fun y => { y with loc := Machine.memWrite y.loc off (leBytes 8 v) })).unreserveOwn e g).modEng e (fun x => { x with rsv := none })

/-- ST_CND stores while the reservation stands. -/
theorem runs_stCnd_stores (hrsv : (d.eng e).rsv = some ((d.gr e a).toNat / 256)) :
    Runs (.stCnd e rd a b) d (d.engNext ((d.stored e off ((d.gr e a).toNat / 256) (d.gr e b).toNat).setGr e rd 0) e) :=
  .of_act (fun s => (rfl : execStCnd e rd a b s = _)) (threeRegs_ok he hrd ha hb) (Dev.engStep_done hready (by
    have hstore := Dev.engStore_loc (v := (d.gr e b).toNat) halign (by rwa [hregion]) hregion
    simp only [halign, hregion, hmay, Dev.rsvOk, hrsv, hstore]
    rfl))

/-- Without one it answers 1 and ends what reservation there is. -/
theorem runs_stCnd_refused (hrsv : (d.eng e).rsv ≠ some ((d.gr e a).toNat / 256)) :
    Runs (.stCnd e rd a b) d (d.engNext ((d.modEng e (fun x => { x with rsv := none })).setGr e rd 1) e) :=
  .of_act (fun s => (rfl : execStCnd e rd a b s = _)) (threeRegs_ok he hrd ha hb) (Dev.engStep_done hready (by
    simp only [halign, hregion, hmay, Dev.rsvOk, hrsv]
    rfl))

end

/-- What a conditional store that is made leaves of its engine. -/
theorem Dev.stored_eng {d : Dev} {e : Nat} (he : e < d.engines.length) (off g v : Nat) :
    (d.stored e off g v).eng e = { d.eng e with loc := Machine.memWrite (d.eng e).loc off (leBytes 8 v), rsv := none } := by
  simp only [Dev.stored, Dev.unreserveOwn]
  rw [Dev.modEng_eng_same (by simpa using he), Dev.modEng_eng_same (by simpa using he), Dev.modEng_eng_same he]
  split <;> rfl

/-- The engine that goes on keeps all but its pc. -/
theorem Dev.engNext_eng {d0 d : Dev} {e : Nat} (he : e < d.engines.length) :
    (d0.engNext d e).eng e = { d.eng e with pc := (d0.eng e).pc + 4 } := by
  rw [Dev.engNext, Dev.lockCopy_eng, Dev.modEng_eng_same he]

/-- What such a store leaves of its engine when it goes on with result 0. -/
theorem Dev.stored_next_eng {d : Dev} {e : Nat} (he : e < d.engines.length) (off g v rd : Nat) :
    (d.engNext ((d.stored e off g v).setGr e rd 0) e).eng e =
      { ({ d.eng e with loc := Machine.memWrite (d.eng e).loc off (leBytes 8 v), rsv := none } : Engine).wr rd 0 with pc := (d.eng e).pc + 4 } := by
  have hlen : e < (d.stored e off g v).engines.length := by simpa [Dev.stored, Dev.unreserveOwn] using he
  rw [Dev.engNext_eng (by simpa [Dev.setGr] using hlen), Dev.setGr, Dev.modEng_eng_same hlen, Dev.stored_eng he]

@[simp] theorem Dev.engNext_sectors (d0 d : Dev) (e : Nat) : (d0.engNext d e).sectors = d.sectors := by simp [Dev.engNext]
@[simp] theorem Dev.engNext_regs (d0 d : Dev) (e : Nat) : (d0.engNext d e).regs = d.regs := by simp [Dev.engNext]
@[simp] theorem Dev.engNext_quads (d0 d : Dev) (e : Nat) : (d0.engNext d e).quads = d.quads := by simp [Dev.engNext]

/-- Settles O33: one store operation (`store_instr`), by the region of its address; LD_RSV and ST_CND in local memory. -/
theorem engineStores : Obligations.EngineStores := by
  refine ⟨?stores, fun e rd a b imm ev d he hrd ha hb himm hready hue => ⟨fun off =>
    runs_ldRsv_loc he hrd ha hready himm hue, fun off halign hregion hmay => ⟨fun hrsv => ⟨_, runs_stCnd_stores he hrd ha hready hb halign hregion hmay hrsv, ?stored⟩,
      runs_stCnd_refused he hrd ha hready hb halign hregion hmay⟩⟩⟩
  case stores =>
    intro e b a imm d he hb ha himm hready addr c n hmem v
    obtain ⟨op, hc⟩ := store_instr hmem
    have stores {t : Dev} := runs_store (t := t) he hb ha himm hready hc
    have raises {code detail : Nat} {bad : Word} := runs_store_raises (code := code) (detail := detail) (bad := bad) he hb ha himm hready hc
    refine ⟨fun halign hmay => ⟨fun off hregion => ?loc, fun off hregion => ?own, fun q off hregion hq hroom => ?other, fun off hregion => ?helm,
      fun x hregion hempty => ?dev⟩, fun halign => ?misaligned, fun halign hmay => ?fault⟩
    case loc => exact stores (Dev.engStore_loc halign hmay hregion)
    case own => exact stores (Dev.engStore_ownShared halign hmay hregion)
    case other => exact stores (Dev.engStore_otherShared halign hmay hregion hq hroom)
    case helm => exact stores (Dev.engStore_helm halign hmay hregion)
    case dev => exact stores ((Dev.engStore_dev halign hmay hregion).trans (Dev.mergeStore_empty (by rwa [Dev.unreserveOwn_merge]) _ _ _))
    case misaligned => exact raises (Dev.engStore_misaligned halign)
    case fault => exact raises (Dev.engStore_fault halign hmay)
  case stored =>
    refine ⟨fun hlen => ?_, ?_, ?_, ?_⟩
    rotate_left
    · simp [Dev.setGr, Dev.stored, Dev.unreserveOwn]
    · simp [Dev.setGr, Dev.stored, Dev.unreserveOwn]
    · simp [Dev.setGr, Dev.stored, Dev.unreserveOwn]
    have heng := Dev.stored_next_eng hlen off ((d.gr e a).toNat / 256) (d.gr e b).toNat rd
    refine ⟨?_, ?_, fun hrd0 hg => ?_⟩
    · rw [heng]; exact Engine.wr_loc ..
    · rw [heng]; exact Engine.wr_rsv ..
    · rw [Dev.gr, heng]
      exact Engine.rd_wr_same (x := { d.eng e with loc := Machine.memWrite (d.eng e).loc off (leBytes 8 (d.gr e b).toNat), rsv := none }) hrd0 hg 0

end Sys2Proof.Machine

/-! Barriers, write merge and forwarding buffer of the engines (chapters 11 and 12). -/

namespace Sys2Proof.Machine

section
variable {d : Dev} {e : Nat}

/-! ### Barriers (R451, R456) -/

/-- A write merge without a line passes none. -/
theorem Dev.leaveAll_empty (hempty : (d.eng e).merge = []) : d.leaveAll e = d := by
  simp [Dev.leaveAll, hempty]

/-- bar.core and bar.quad are done once no line is left. -/
theorem Dev.barLocal_done (hempty : ((d.leaveAll e).eng e).merge = []) : d.barLocal e = .done (d.leaveAll e) := by
  simp [Dev.barLocal, hempty]

/-- bar.chip is done with nothing of its engine on its way. -/
theorem Dev.barChip_done (hempty : (d.eng e).merge = []) (hfwd : (d.quad (e / 4)).fwd.any (·.eng == e) = false) (hheld : d.heldOf e = []) :
    d.barChip e = .done (d.modEng e (fun x => { x with waiting := false, draining := 0 })) := by
  have hidle : d.drainOf e 65 = d := by simp [Dev.drainOf, Dev.forwarded, hfwd]
  simp [Dev.barChip, Dev.leaveAll_empty hempty, hempty, hidle, hheld, Dev.forwarded, hfwd]

section
variable {rs : Nat} (he : e < 16) (hrs : rs < 2 ^ 26) (hready : d.engReady e false = true)
include he hrs

/-- The operands of a barrier are in their ranges. -/
theorem barrier_ok : (decide (e < 16) && decide (rs < 2 ^ 26)) = true := by
  simp only [he, hrs, decide_true, Bool.and_self]

include hready

theorem runs_barCore (hgood : rsBad (rsvD + rsvA + rsvB) rs = false) (hempty : ((d.leaveAll e).eng e).merge = []) :
    Runs (.barCore e rs) d (d.engNext (d.leaveAll e) e) :=
  .of_act (fun s => (rfl : execBarCore e rs s = _)) (barrier_ok he hrs) (by rw [hgood, Dev.engStep_done hready (Dev.barLocal_done hempty)])

theorem runs_barQuad (hgood : rsBad (rsvD + rsvA + rsvB) rs = false) (hempty : ((d.leaveAll e).eng e).merge = []) :
    Runs (.barQuad e rs) d (d.engNext (d.leaveAll e) e) :=
  .of_act (fun s => (rfl : execBarQuad e rs s = _)) (barrier_ok he hrs) (by rw [hgood, Dev.engStep_done hready (Dev.barLocal_done hempty)])

theorem runs_barChip (hgood : rsBad (rsvD + rsvA + rsvB) rs = false) (hempty : (d.eng e).merge = [])
    (hfwd : (d.quad (e / 4)).fwd.any (·.eng == e) = false) (hheld : d.heldOf e = []) :
    Runs (.barChip e rs) d (d.engNext (d.modEng e (fun x => { x with waiting := false, draining := 0 })) e) :=
  .of_act (fun s => (rfl : execBarChip e rs s = _)) (barrier_ok he hrs)
    (by rw [hgood, Dev.engStep_done hready (Dev.barChip_done hempty hfwd hheld)])

/-- A barrier whose reserved fields are not zero is ILLEGAL (R422). -/
theorem runs_barrier_illegal {c : Instr} {fn : Nat} {bar : Bool} {f : Dev → EngRes} (hbad : rsBad (rsvD + rsvA + rsvB) rs = true)
    (hc : ∀ s, exec c s = act (decide (e < 16) && decide (rs < 2 ^ 26)) s
      (·.engStep e (barWord fn rs) (rsBad (rsvD + rsvA + rsvB) rs) false bar f)) :
    Runs c d ((d.syncExc e 1 (barWord fn rs) 0).lockCopy e) :=
  .of_act hc (barrier_ok he hrs) (by rw [hbad, Dev.engStep_illegal hready])

end

/-! ### The write merge and the forwarding buffer (R411, R450) -/

/-- A line leaves the write merge 1 µs after its first store. -/
theorem runs_writeMergeDrain {line : Nat} {m : MLine} (he : e < 16) (hline : line < 2 ^ 42)
    (hfind : (d.eng e).merge.find? (fun m => m.line == line) = some m) (hclk : d.engClk = true) (hold : m.since + usUnits 1 ≤ d.time)
    (hmay : d.mayLeave e m = true) : Runs (.writeMergeDrain e line) d (d.leave e m) :=
  .of_act (fun s => (rfl : execWriteMergeDrain e line s = _)) (by simp only [okWriteMergeDrain, he, hline, decide_true, Bool.and_self])
    (by simp [hfind, hclk, hold, hmay])

section
variable {q a : Nat} {m : MLine} {rest : List MLine} (hfwd : (d.quad q).fwd = m :: rest)
include hfwd

/-- A line of shared memory goes to its quadrant's memory. -/
theorem Dev.drainOne_shared {q' off : Nat} (hregion : eRegion (64 * m.line) = .shared q' off) :
    d.drainOne q = ((d.modQuad q (fun x => { x with fwd := rest })).sharedMerge q' off m.data m.mask).unreserve (64 * m.line / 256) := by
  simp [Dev.drainOne, hfwd, hregion]

variable (hregion : eRegion (64 * m.line) = .dev a)
include hregion

/-- A line of device memory that R138 refuses stays. -/
theorem Dev.drainOne_waits (hfull : d.sliceAdmits a = false) : d.drainOne q = d := by
  simp [Dev.drainOne, hfwd, hregion, hfull]

/-- One that R138 admits goes to the commit sequencer. -/
theorem Dev.drainOne_dev {t : Dev} (hroom : d.sliceAdmits a = true)
    (ht : t = (d.modQuad q (fun x => { x with fwd := rest })).memWrite 2 m.eng a m.data m.mask false false ⟨[], false, false, false⟩ m.check) :
    d.drainOne q = if d.nextCsn < t.nextCsn then t.modEng m.eng (fun x => { x with lastcsn := d.nextCsn }) else t := by
  subst ht
  simp only [Dev.drainOne, hfwd, hregion, hroom, cleanRead, Bool.not_true, Bool.false_eq_true, if_false]
  rfl

end

/-- FORWARDING_BUFFER_DRAIN of an engine clock that runs is one drain. -/
theorem runs_forwardingBufferDrain {q : Nat} {t : Dev} (hq : q < 4) (hclk : d.engClk = true) (hdrain : d.drainOne q = t) :
    Runs (.forwardingBufferDrain q) d t :=
  .of_act (fun s => (rfl : execForwardingBufferDrain q s = _)) (decide_eq_true hq) ((if_pos hclk).trans hdrain)

/-- A store held for a dying Point is discarded 50 µs after the bar.chip began to wait (R456). -/
theorem runs_barrierDrainTimeout {r : Req} {t : Dev} (he : e < 16) (hwait : (d.eng e).waiting = true) (hdrain : (d.eng e).draining ≠ 0)
    (hlate : (d.eng e).barAt + usUnits 50 ≤ d.time) (hheld : d.heldOf e = [r]) (hdying : d.dyingReq r = true)
    (ht : t = (d.discardStore e r).modEng e (fun y => { y with draining := 0 })) (hnone : t.heldOf e = []) :
    Runs (.barrierDrainTimeout e) d ((t.modEng e (fun y => { y with waiting := false, pc := y.pc + 4 })).lockCopy e) := by
  subst ht
  exact .of_act (fun s => (rfl : execBarrierDrainTimeout e s = _)) (decide_eq_true he)
    (by simp [hwait, hdrain, hlate.not_gt, hheld, hdying, hnone])

end

/-- Settles O34: each command runs as its own lemma says; the barriers with reserved fields set are one lemma. -/
theorem engineOrdering : Obligations.EngineOrdering := by
  intro e rs d he hrs
  refine ⟨fun hready hgood => ⟨fun hempty => ⟨runs_barCore he hrs hready hgood hempty, runs_barQuad he hrs hready hgood hempty⟩,
      runs_barChip he hrs hready hgood⟩, ?illegal, fun line m => runs_writeMergeDrain he,
    fun q m rest q' off hq hclk hfwd hregion => runs_forwardingBufferDrain hq hclk (Dev.drainOne_shared hfwd hregion),
    fun q m rest a hq hclk hfwd hregion => ⟨fun hfull => runs_forwardingBufferDrain hq hclk (Dev.drainOne_waits hfwd hregion hfull),
      fun hroom => runs_forwardingBufferDrain hq hclk (Dev.drainOne_dev hfwd hregion hroom rfl)⟩,
    fun r hwait hdrain hlate hheld hdying => runs_barrierDrainTimeout he hwait hdrain hlate hheld hdying rfl⟩
  case illegal =>
    intro hready hbad c fn hmem
    simp only [List.mem_cons, Prod.mk.injEq, List.not_mem_nil, or_false] at hmem
    rcases hmem with ⟨rfl, rfl⟩ | ⟨rfl, rfl⟩ | ⟨rfl, rfl⟩
    · exact runs_barrier_illegal he hrs hready hbad (fun _ => rfl)
    · exact runs_barrier_illegal he hrs hready hbad (fun _ => rfl)
    · exact runs_barrier_illegal he hrs hready hbad (fun _ => rfl)

end Sys2Proof.Machine

/-! Media instructions of the engines and their tickets (chapter 11). -/

namespace Sys2Proof.Machine

/-! ### The issue of a media operation (R427, R429) -/

section
variable {d : Dev} {e rd : Nat}

/-- A ticket is taken: it stands at the engine, and its number goes to g[D]. -/
def Dev.issued (d : Dev) (e rd t : Nat) (r : Ticket × Dev) : Dev :=
  d.engNext ((r.2.modEng e (fun x => { x with tickets := x.tickets ++ [r.1] })).setGr e rd (BitVec.ofNat 64 t)) e

/-- Command `c` issues operation `f` at engine `e`: with a free ticket it takes it, without one it issues nothing (R427). -/
structure Issues (c : Instr) (d : Dev) (e rd : Nat) (f : Nat → Dev → Ticket × Dev) : Prop where
  /-- Every ticket is taken. -/
  none : (d.eng e).freeTicket = none → Runs c d (d.engNext (d.setGr e rd (BitVec.allOnes 64)) e)
  /-- A ticket is free. -/
  takes {t : Nat} {r : Ticket × Dev} : (d.eng e).freeTicket = some t → f t d = r → Runs c d (d.issued e rd t r)

/-- The operation of a media instruction on the sector of physical address `p`: refused under R429, or carried out by `g`. -/
def atSector (p : Nat) (clear : Bool) (g : Nat → Nat → Dev → Ticket × Dev) (t : Nat) (d : Dev) : Ticket × Dev :=
  match d.psaRefused p clear with | some r => (ticketOf t r, d) | none => g p t d

section
variable {p t : Nat} {clear : Bool} {g : Nat → Nat → Dev → Ticket × Dev}

theorem atSector_refused {r : Nat} (hbad : d.psaRefused p clear = some r) : atSector p clear g t d = (ticketOf t r, d) := by
  simp only [atSector, hbad]

theorem atSector_done (hgood : d.psaRefused p clear = none) : atSector p clear g t d = g p t d := by
  simp only [atSector, hgood]

end

/-- A legal instruction that issues an operation, at an engine that may execute helm-only instructions. -/
theorem issues_of {c : Instr} {ok bad : Bool} {word : Nat} {helm : Dev → Bool} {f : Dev → EngRes} {g : Nat → Dev → Ticket × Dev}
    (hready : d.engReady e true = true) (hok : ok = true) (hlegal : bad = false)
    (hc : ∀ s, exec c s = act ok s (fun m => m.engStep e word bad (helm m) false f)) (hf : f d = d.issue e rd g) : Issues c d e rd g where
  none hfree := .of_act hc hok (by
    rw [hlegal, Dev.engStep_done (Dev.engReady_any _ hready) (hf.trans (by rw [Dev.issue, hfree]))])
  takes hfree hg := .of_act hc hok (by
    rw [hlegal, Dev.engStep_done (Dev.engReady_any _ hready) (hf.trans (by rw [Dev.issue, hfree])), hg, Dev.issued])

/-- An aligned buffer inside its ranges passes the checks of Table 11.2. -/
theorem Dev.bufCheck_ok {buf : Word} {n : Nat} {k : EngRes} (halign : buf.toNat % 16 = 0) (hok : d.bufOk e buf.toNat n = true) :
    d.bufCheck e buf n k = k := by
  simp [Dev.bufCheck, halign, hok]

end

/-! ### The media instructions (R430 to R435) -/

theorem msense_issues {d : Dev} {e rd a b : Nat} {els : List Nat} (hready : d.engReady e true = true)
    (hwf : (Instr.msense e rd a b 0 els).wf = true) :
    Issues (.msense e rd a b 0 els) d e rd (atSector (d.gr e a).toNat false (fun p t m =>
      ({ num := t, pend := mediaStatus t 0 0 false
          ((List.range 4).foldl (fun acc k => acc + levelCount (senseVec els ((d.gr e b).toNat % 256)) k * 2 ^ (8 * k)) 0) },
        (m.linkSend (psaPoint p) 5 (psaCell p) (psaSeg p % 8192 * 513 + 512) ((d.gr e b).toNat % 256) 0 0).grant (psaPoint p) 6 1))) :=
  issues_of hready hwf rfl (fun s => (rfl : execMsense e rd a b 0 els s = _)) rfl

section
variable {d : Dev} {e rd a b : Nat} (he : e < 16) (hrd : rd < 32) (ha : a < 32) (hready : d.engReady e true = true)
include he hrd ha hready

theorem mverify_issues (ev : RdEnv) :
    Issues (.mverify e rd a 0 ev) d e rd (atSector (d.gr e a).toNat false (fun p t m => m.mverifyOp t p ev)) :=
  issues_of hready (by simp [okMverify, he, hrd, ha]) rfl (fun s => (rfl : execMverify e rd a 0 ev s = _)) rfl

theorem mref_issues {fn : Nat} (hfn : fn < 2) :
    Issues (.mref e rd a fn 0) d e rd (atSector (d.gr e a).toNat false (fun p t m =>
      ({ num := t, pend := mediaStatus t 0 0 false
          (let r := m.refs (driftX (if fn = 0 then m.dataAge (psaSeg p) else m.loadAge (psaSeg p))); r.1 + r.2.1 * 2 ^ 8 + r.2.2 * 2 ^ 16) }, m))) :=
  issues_of hready (by simp only [okMref, he, hrd, ha, decide_true, Bool.true_and, Bool.and_eq_true, decide_eq_true_eq]; omega)
    (by simpa [rsBad] using hfn) (fun s => (rfl : execMref e rd a fn 0 s = _)) rfl

/-- The fold instructions read their descriptor of 32 B in local memory. -/
theorem mfold_issues {c : Instr} {mode : Nat} {ev : RdEnv} (halign : (d.gr e a).toNat % 16 = 0) (hbuf : d.bufOk e (d.gr e a).toNat 32 = true)
    (hc : ∀ s, exec c s = act (decide (e < 16) && decide (rd < 32) && decide (a < 32) && decide (0 < 2 ^ 26)) s (·.mfold e rd a mode 0 ev)) :
    Issues c d e rd (fun t m => m.mfoldOp t mode (memRead (d.eng e).loc (d.gr e a).toNat 32) ev) :=
  issues_of hready (by simp [he, hrd, ha]) rfl hc (Dev.bufCheck_ok halign hbuf)

variable (hb : b < 32)
include hb

theorem mclear_issues {retired : Nat} (hretired : retired < 2 ^ 32) (hclear : d.noClear = false) :
    Issues (.mclear e rd a b 0 retired) d e rd
      (atSector (d.gr e a).toNat true (fun p t m => m.mclearOp t p (d.gr e b).toNat retired)) :=
  issues_of hready (by simp only [okMclear, he, hrd, ha, hb, hretired, decide_true, Bool.and_true]; decide) rfl
    (fun s => (rfl : execMclear e rd a b 0 retired s = _)) (if_neg (by simp [hclear]))

section
variable {fn : Nat} (halign : (d.gr e b).toNat % 16 = 0)
include halign

theorem mread_issues {c : Nat} {ev : RdEnv} (hcr : c < 32) (hfn : fn < 16)
    (hbuf : d.bufOk e (d.gr e b).toNat (if fn % 4 = 0 then 272 else 304) = true) :
    Issues (.mread e rd a b c fn ev) d e rd
      (atSector (d.gr e a).toNat false (fun p t m => m.mreadOp e t p (d.gr e b).toNat (d.gr e c).toNat fn ev)) :=
  issues_of hready (by simp only [okMread, he, hrd, ha, hb, hcr, decide_true, Bool.true_and, decide_eq_true_eq]; omega)
    (decide_eq_false (by omega)) (fun s => (rfl : execMread e rd a b c fn ev s = _)) (Dev.bufCheck_ok halign hbuf)

theorem mwrite_issues {ok : Bool} (hfn : fn < 2) (hclear : d.noClear = false) (hbuf : d.bufOk e (d.gr e b).toNat 272 = true) :
    Issues (.mwrite e rd a b fn 0 ok) d e rd
      (atSector (d.gr e a).toNat false (fun p t m => m.mwriteOp t p (memRead (d.eng e).loc (d.gr e b).toNat 272) (fn.testBit 0) ok)) :=
  issues_of hready (by simp only [okMwrite, he, hrd, ha, hb, decide_true, Bool.true_and, Bool.and_eq_true, decide_eq_true_eq]; omega)
    (by simpa [rsBad] using hfn) (fun s => (rfl : execMwrite e rd a b fn 0 ok s = _))
    ((if_neg (by simp [hclear])).trans (Dev.bufCheck_ok halign hbuf))

end

end

/-! ### Completion and wait (R427, R436) -/

section
variable {d : Dev} {e rd a b : Nat} (he : e < 16)
include he

/-- A ticket that waits for nothing more completes. -/
theorem runs_mediaTicketComplete {t : Nat} {y : Ticket} (ht : t < 32)
    (hfind : (d.eng e).tickets.find? (fun y => y.num == t && y.status.isNone) = some y) (hclk : d.engClk = true) (hnow : y.waits = .now) :
    Runs (.mediaTicketComplete e t) d ((d.ticketDone e t y.pend).lockCopy e) := by
  have hnum : y.num = t := by
    have hy := List.find?_some hfind
    simp only [Bool.and_eq_true, beq_iff_eq] at hy
    exact hy.1
  exact .of_act (fun s => (rfl : execMediaTicketComplete e t s = _)) (by simp [okMediaTicketComplete, he, ht])
    (by simp [hfind, hclk, Dev.ticketStep, hnow, hnum])

variable (hrd : rd < 32) (ha : a < 32) (hb : b < 32) (hready : d.engReady e false = true)
include hrd ha hb hready

/-- WAIT collects a completed ticket and frees it. -/
theorem runs_wait_collects {t : Ticket} {v : Nat} (late : Bool) (hpick : (d.eng e).waitPick (d.gr e a).toNat = some t) (hdone : t.status = some v) :
    Runs (.wait e rd a b late) d
      (d.engNext ((d.modEng e (fun x => { x with tickets := x.tickets.filter (fun y => y.num != t.num) })).setGr e rd (BitVec.ofNat 64 v)) e) :=
  .of_act (fun s => (rfl : execWait e rd a b late s = _)) (threeRegs_ok he hrd ha hb)
    (Dev.engStep_done hready (by simp only [hpick, hdone]))

/-- It answers 0x0F for a ticket that is not held. -/
theorem runs_wait_notHeld (late : Bool) (hnum : (d.gr e a).toNat < 32) (hpick : (d.eng e).waitPick (d.gr e a).toNat = none) :
    Runs (.wait e rd a b late) d
      (d.engNext (d.setGr e rd (BitVec.ofNat 64 (mediaStatus (d.gr e a).toNat 0x0F 0 false 0))) e) :=
  .of_act (fun s => (rfl : execWait e rd a b late s = _)) (threeRegs_ok he hrd ha hb)
    (Dev.engStep_done hready (by simp only [hpick, hnum, if_true]))

end

/-- Settles O35: each media instruction issues its own operation (`Issues`), on a sector that R429 refuses or not (`atSector`). -/
theorem engineMedia : Obligations.EngineMedia := by
  refine ⟨?issue, fun e rd a b d he hrd ha hb => ⟨fun t y => runs_mediaTicketComplete he, fun late t v hready =>
    runs_wait_collects he hrd ha hb hready late, fun late hready => runs_wait_notHeld he hrd ha hb hready late⟩⟩
  rintro e rd a b c fn rs ev d he hrd ha hb hcr rfl hready hclear p buf goes
  have verify := mverify_issues he hrd ha hready ev
  have ref {fn : Nat} (hfn : fn < 2) := mref_issues he hrd ha hready hfn
  have sense {els : List Nat} (hwf : (Instr.msense e rd a b 0 els).wf = true) := msense_issues hready hwf
  have clear {retired : Nat} (hretired : retired < 2 ^ 32) := mclear_issues he hrd ha hready hb hretired hclear
  have read (hfn : fn < 16) (halign : buf.toNat % 16 = 0) (hbuf) := mread_issues (ev := ev) he hrd ha hready hb halign hcr hfn hbuf
  have write (ok : Bool) (hfn : fn < 2) (halign : buf.toNat % 16 = 0) (hbuf) :=
    mwrite_issues (ok := ok) he hrd ha hready hb halign hfn hclear hbuf
  refine ⟨fun hfree => ⟨verify.none hfree, (clear (by decide)).none hfree⟩, fun t hfree => ⟨fun r hbad => ?refused, fun retired r hretired hbad =>
    (clear hretired).takes hfree (atSector_refused hbad), fun hgood => ?done, fun retired hretired hgood =>
    (clear hretired).takes hfree (atSector_done hgood), fun halign hbuf => ?folds⟩⟩
  case refused =>
    exact ⟨verify.takes hfree (atSector_refused hbad), fun hfn => (ref hfn).takes hfree (atSector_refused hbad),
      fun els hwf => (sense hwf).takes hfree (atSector_refused hbad),
      fun hfn halign hbuf => (read hfn halign hbuf).takes hfree (atSector_refused hbad),
      fun ok hfn halign hbuf => (write ok hfn halign hbuf).takes hfree (atSector_refused hbad)⟩
  case done =>
    exact ⟨verify.takes hfree (atSector_done hgood), fun hfn halign hbuf => (read hfn halign hbuf).takes hfree (atSector_done hgood),
      fun ok hfn halign hbuf => (write ok hfn halign hbuf).takes hfree (atSector_done hgood),
      fun hfn => (ref hfn).takes hfree (atSector_done hgood), fun els hwf => (sense hwf).takes hfree (atSector_done hgood)⟩
  case folds =>
    exact ⟨(mfold_issues he hrd ha hready halign hbuf fun _ => rfl).takes hfree rfl,
      (mfold_issues he hrd ha hready halign hbuf fun _ => rfl).takes hfree rfl,
      (mfold_issues he hrd ha hready halign hbuf fun _ => rfl).takes hfree rfl⟩

end Sys2Proof.Machine

/-! Queue instructions of the engines (chapter 11). -/

namespace Sys2Proof.Machine

section
variable {d : Dev} {e rd a : Nat}

/-! ### What a queue instruction does (R437 to R442) -/

/-- A queue instruction's result and device: the position that it shows, or the refusal of Table 10.5. -/
def Dev.queueDone (e rd : Nat) (r : Nat × Stream × Dev) (at_ : Stream → Nat) : Dev :=
  r.2.2.setGr e rd (if r.1 = 0 then queueResult (at_ r.2.1) else queueRefused r.1)

section
variable (hgo : d.mustHold 2 e (apBase ((d.gr e a).toNat % 4096)) true = false)
include hgo

theorem Dev.qPlain_done (hgood : d.qRefused ((d.gr e a).toNat % 4096) = none) (op arg : Nat) (at_ : Stream → Nat) :
    d.qPlain e op rd a arg at_ = .done (Dev.queueDone e rd (d.qOp e ((d.gr e a).toNat % 4096) op arg) at_) := by
  simp only [Dev.qPlain, Dev.qStream, hgo, hgood, Bool.false_eq_true, if_false]
  rfl

theorem Dev.qPlain_refused {x : Nat} (hbad : d.qRefused ((d.gr e a).toNat % 4096) = some x) (op arg : Nat) (at_ : Stream → Nat) :
    d.qPlain e op rd a arg at_ = .done (d.setGr e rd (queueRefused x)) := by
  simp only [Dev.qPlain, Dev.qStream, hgo, hbad, Bool.false_eq_true, if_false]

variable {b c : Nat} {ev : RdEnv} {k : Nat → Dev → EngRes} (halign : (d.gr e b).toNat % 64 = 0)
include halign

/-- A bad length is refused (R442). -/
theorem Dev.qCopy_badLength (hlen : (d.gr e c).toNat % 64 ≠ 0 ∨ 4096 < (d.gr e c).toNat) (hbuf : d.bufOk e (d.gr e b).toNat 0 = true)
    (hgood : d.qRefused ((d.gr e a).toNat % 4096) = none) : d.qCopy e rd a b c ev k = .done (d.setGr e rd (queueRefused 1)) := by
  have hshort : ¬ ((d.gr e c).toNat % 64 = 0 ∧ (d.gr e c).toNat ≤ 4096) := by omega
  simp [Dev.qCopy, Dev.qStream, hgo, hgood, halign, hbuf, hshort, hlen]

variable {n : Nat} (hn : n = Nat.min (d.gr e c).toNat ((d.stm ((d.gr e a).toNat % 4096)).pos.avail - (d.stm ((d.gr e a).toNat % 4096)).pos.rpos))
  (hlen : (d.gr e c).toNat % 64 = 0) (hlen' : (d.gr e c).toNat ≤ 4096) (hbuf : d.bufOk e (d.gr e b).toNat n = true)
include hn hlen hlen' hbuf

theorem Dev.qCopy_refused {x : Nat} (hbad : d.qRefused ((d.gr e a).toNat % 4096) = some x) :
    d.qCopy e rd a b c ev k = .done (d.setGr e rd (queueRefused x)) := by
  subst hn
  simp [Dev.qCopy, Dev.qStream, hgo, hbad, halign, hbuf, hlen, hlen']

/-- The lines from RPOS, up to AVAIL, come to local memory. -/
theorem Dev.qCopy_done {l : List Line} {t : Dev} (hgood : d.qRefused ((d.gr e a).toNat % 4096) = none)
    (hlines : d.qLines ((d.gr e a).toNat % 4096) (n / 64) (d.stm ((d.gr e a).toNat % 4096)).pos.rpos ev = (some l, t)) :
    d.qCopy e rd a b c ev k = k n (t.modEng e (fun x => x.putLoc (d.gr e b).toNat (l.flatMap lineBytes))) := by
  subst hn
  simp [Dev.qCopy, Dev.qStream, hgo, hgood, halign, hbuf, hlen, hlen', hlines]

end

/-! ### The queue instructions (R439 to R441) -/

section
variable (he : e < 16) (hrd : rd < 32) (ha : a < 32)
include he hrd ha

/-- A queue instruction without reserved fields has operands in their ranges. -/
theorem queueOperands_ok {b : Nat} (hb : b < 32) :
    (decide (e < 16) && decide (rd < 32) && decide (a < 32) && decide (b < 32) && decide (0 < 2 ^ 26)) = true := by
  simp [he, hrd, ha, hb]

variable (hready : d.engReady e false = true)
include hready

theorem runs_qmark {t : Dev} (hq : d.qPlain e 2 rd a 0 (fun x => x.pos.mark.getD 0) = .done t) : Runs (.qmark e rd a 0 0) d (d.engNext t e) :=
  .of_act (fun s => (rfl : execQmark e rd a 0 0 s = _)) (queueOperands_ok he hrd ha (by decide)) (Dev.engStep_done hready hq)

theorem runs_qrewind {t : Dev} (hq : d.qPlain e 3 rd a 0 (fun x => x.pos.rpos) = .done t) : Runs (.qrewind e rd a 0 0) d (d.engNext t e) :=
  .of_act (fun s => (rfl : execQrewind e rd a 0 0 s = _)) (queueOperands_ok he hrd ha (by decide)) (Dev.engStep_done hready hq)

theorem runs_qdrop {t : Dev} (hq : d.qPlain e 5 rd a 0 (fun x => x.pos.rpos) = .done t) : Runs (.qdrop e rd a 0 0) d (d.engNext t e) :=
  .of_act (fun s => (rfl : execQdrop e rd a 0 0 s = _)) (queueOperands_ok he hrd ha (by decide)) (Dev.engStep_done hready hq)

theorem runs_qrelease {b : Nat} {t : Dev} (hb : b < 32) (hq : d.qPlain e 4 rd a (d.gr e b).toNat (fun x => x.pos.rel) = .done t) :
    Runs (.qrelease e rd a b 0) d (d.engNext t e) :=
  .of_act (fun s => (rfl : execQrelease e rd a b 0 s = _)) (queueOperands_ok he hrd ha hb) (Dev.engStep_done hready hq)

section
variable {b c : Nat} {ev : RdEnv} {t : Dev} (hb : b < 32) (hc : c < 32)
include hb hc

theorem runs_qpeek (hq : d.qCopy e rd a b c ev (fun n m => .done (m.setGr e rd (queueResult n))) = .done t) :
    Runs (.qpeek e rd a b c 0 ev) d (d.engNext t e) :=
  .of_act (fun s => (rfl : execQpeek e rd a b c 0 ev s = _)) (by simp [okQpeek, he, hrd, ha, hb, hc]) (Dev.engStep_done hready hq)

theorem runs_qtake (hq : d.qCopy e rd a b c ev (fun n m => .done (Dev.queueDone e rd (m.qOp e ((d.gr e a).toNat % 4096) 1 n) (fun x => x.pos.rpos)))
    = .done t) : Runs (.qtake e rd a b c 0 ev) d (d.engNext t e) :=
  .of_act (fun s => (rfl : execQtake e rd a b c 0 ev s = _)) (by simp [okQtake, he, hrd, ha, hb, hc]) (Dev.engStep_done hready hq)

end

/-- The position of a stream that QCREDIT gives for its function (Table 11.6). -/
def Pos.credit (p : Pos) : Nat → Nat
  | 0 => p.limit - p.end_ / 4096
  | 1 => p.end_
  | 2 => p.limit
  | 3 => p.avail
  | 4 => p.rpos
  | _ => p.rel

section
variable {fn : Nat} (hgo : d.mustHold 2 e (apBase ((d.gr e a).toNat % 4096)) false = false) (hfn : fn ≤ 5)
include hgo hfn

/-- QCREDIT gives a position whatever CONS holds. -/
theorem runs_qcredit (hopen : d.qRefused ((d.gr e a).toNat % 4096) = none ∨ d.qRefused ((d.gr e a).toNat % 4096) = some 3) :
    Runs (.qcredit e rd a fn 0) d (d.engNext (d.setGr e rd (queueResult ((d.stm ((d.gr e a).toNat % 4096)).pos.credit fn))) e) :=
  .of_act (fun s => (rfl : execQcredit e rd a fn 0 s = _)) (by simp [okQcredit, he, hrd, ha]; omega) (by
    rw [show (decide (fn > 5) || rsBad (rsvB + rsvC) 0) = false by simpa [rsBad] using hfn]
    refine Dev.engStep_done hready ((if_neg (by simp [Dev.qStream, hgo])).trans ?_)
    rw [Dev.qStream]
    rcases hopen with h | h <;> rw [h] <;> rfl)

theorem runs_qcredit_refused (hbad : d.qRefused ((d.gr e a).toNat % 4096) = some 6) :
    Runs (.qcredit e rd a fn 0) d (d.engNext (d.setGr e rd (queueRefused 6)) e) :=
  .of_act (fun s => (rfl : execQcredit e rd a fn 0 s = _)) (by simp [okQcredit, he, hrd, ha]; omega) (by
    rw [show (decide (fn > 5) || rsBad (rsvB + rsvC) 0) = false by simpa [rsBad] using hfn]
    refine Dev.engStep_done hready ((if_neg (by simp [Dev.qStream, hgo])).trans ?_)
    rw [Dev.qStream, hbad]
    rfl)

end

end

end

/-- Settles O36: the plain operations are `Dev.qPlain`, QPEEK and QTAKE are `Dev.qCopy`, each done or refused. -/
theorem engineQueues : Obligations.EngineQueues := by
  intro e rd a b c ev d he hrd ha hb hc hready st hgo hgo' goes does buf len n
  refine ⟨fun hgood => ⟨?mark, ?rewind, ?release, ?drop, ?copy, ?badLength⟩, ?credit,
    fun hbad fn hfn => runs_qcredit_refused he hrd ha hready hgo' hfn hbad, fun x hbad => ⟨?markRefused, ?rewindRefused, ?releaseRefused, ?dropRefused, ?copyRefused⟩⟩
  case mark => exact runs_qmark he hrd ha hready (Dev.qPlain_done hgo hgood ..)
  case rewind => exact runs_qrewind he hrd ha hready (Dev.qPlain_done hgo hgood ..)
  case release => exact runs_qrelease he hrd ha hready hb (Dev.qPlain_done hgo hgood ..)
  case drop => exact runs_qdrop he hrd ha hready (Dev.qPlain_done hgo hgood ..)
  case copy =>
    intro hlen hlen' halign hbuf l t hlines
    exact ⟨runs_qpeek he hrd ha hready hb hc (Dev.qCopy_done hgo halign rfl hlen hlen' hbuf hgood hlines),
      runs_qtake he hrd ha hready hb hc (Dev.qCopy_done hgo halign rfl hlen hlen' hbuf hgood hlines)⟩
  case badLength =>
    intro hlen halign hbuf
    exact ⟨runs_qpeek he hrd ha hready hb hc (Dev.qCopy_badLength hgo halign hlen hbuf hgood),
      runs_qtake he hrd ha hready hb hc (Dev.qCopy_badLength hgo halign hlen hbuf hgood)⟩
  case credit =>
    intro hopen p fn v hmem
    simp only [List.mem_cons, Prod.mk.injEq, List.not_mem_nil, or_false] at hmem
    rcases hmem with ⟨rfl, rfl⟩ | ⟨rfl, rfl⟩ | ⟨rfl, rfl⟩ | ⟨rfl, rfl⟩ | ⟨rfl, rfl⟩ | ⟨rfl, rfl⟩ <;>
      exact runs_qcredit he hrd ha hready hgo' (by decide) hopen
  case markRefused => exact runs_qmark he hrd ha hready (Dev.qPlain_refused hgo hbad ..)
  case rewindRefused => exact runs_qrewind he hrd ha hready (Dev.qPlain_refused hgo hbad ..)
  case releaseRefused => exact runs_qrelease he hrd ha hready hb (Dev.qPlain_refused hgo hbad ..)
  case dropRefused => exact runs_qdrop he hrd ha hready (Dev.qPlain_refused hgo hbad ..)
  case copyRefused =>
    intro hlen hlen' halign hbuf
    exact ⟨runs_qpeek he hrd ha hready hb hc (Dev.qCopy_refused hgo halign rfl hlen hlen' hbuf hbad),
      runs_qtake he hrd ha hready hb hc (Dev.qCopy_refused hgo halign rfl hlen hlen' hbuf hbad)⟩

end Sys2Proof.Machine

/-! Traps, budget, faults and self-test of the engines; system registers, tasks, watchdog, Fix and sleep (chapter 11). -/

namespace Sys2Proof.Machine

/-- A word whose reserved fields are zero. -/
@[simp] theorem withRs_zero (word mask : Nat) : withRs word mask 0 = word := by
  simp [withRs]

section
variable {d : Dev} {e : Nat}

/-! ### What a trap does (R414, R416) -/

theorem Dev.trapOp_fault {code : Nat} (hhelm : (d.eng e).priv = 0) (hcode : code < 0x8000) (word : Nat) :
    d.trapOp e code word = .stay (d.engFault e) := by
  simp only [Dev.trapOp, hhelm, hcode, if_true]

theorem Dev.trapOp_call {code : Nat} (hhelm : (d.eng e).priv = 0) (hcode : 0x8000 ≤ code) (word : Nat) :
    d.trapOp e code word = .stay (d.takeExc e 8 code 0 ((d.eng e).pc + 4)) := by
  simp only [Dev.trapOp, hhelm, hcode.not_gt, if_true, if_false]

section
variable (hdeck : (d.eng e).priv = 1) (word : Nat)
include hdeck

theorem Dev.trapOp_illegal {code : Nat} (hcode : 3 ≤ code) : d.trapOp e code word = .raise d 1 word 0 := by
  obtain ⟨k, rfl⟩ := Nat.exists_eq_add_of_le' hcode
  simp only [Dev.trapOp, hdeck, one_ne_zero, if_false]

theorem Dev.trapOp_exit : d.trapOp e 0 word =
    .stay ((d.takeExc e 8 0 0 ((d.eng e).pc + 4)).endDeck e (65536 + ((d.eng e).rd 1).toNat % 65536) ((d.eng e).rd 2).toNat ((d.eng e).rd 3).toNat) := by
  simp only [Dev.trapOp, hdeck, one_ne_zero, if_false]

theorem Dev.trapOp_event : d.trapOp e 1 word =
    .stay ((d.takeExc e 8 1 0 ((d.eng e).pc + 4)).post
      { code := 0x0B0, point := e, detail := leBytes 4 0 ++ leBytes 8 ((d.eng e).rd 1).toNat ++ leBytes 8 ((d.eng e).rd 2).toNat ++
          leBytes 8 ((d.eng e).rd 3).toNat }) := by
  simp only [Dev.trapOp, hdeck, one_ne_zero, if_false]

theorem Dev.trapOp_yield : d.trapOp e 2 word = .stay (d.takeExc e 8 2 0 ((d.eng e).pc + 4)) := by
  simp only [Dev.trapOp, hdeck, one_ne_zero, if_false]

end

/-- A trap without reserved fields is its operation. -/
theorem Dev.trap_legal (d : Dev) (e code : Nat) :
    d.trap e code 0 = d.engStep e (encI 0x33 0 0 code) false false false (fun d => d.trapOp e code (encI 0x33 0 0 code)) := by
  rw [Dev.trap, withRs_zero]
  rfl

theorem Dev.trap_stays {code : Nat} {t : Dev} (hready : d.engReady e false = true) (hop : d.trapOp e code (encI 0x33 0 0 code) = .stay t) :
    d.trap e code 0 = t.lockCopy e := by
  rw [Dev.trap_legal, Dev.engStep_stay hready hop]

/-! ### Traps, budget and return (R414 to R418) -/

section
variable (he : e < 16)
include he

section
variable {code : Nat} (hcode : code < 65536)
include hcode

theorem runs_trap {t : Dev} (ht : d.trap e code 0 = t) : Runs (.trap e code 0) d t :=
  .of_act (fun s => (rfl : execTrap e code 0 s = _)) (by simp [okTrap, he, hcode]) ht

end

theorem runs_exit {t : Dev} (ht : d.trap e 0 0 = t) : Runs (.exit e) d t := .of_act (fun s => (rfl : execExit e s = _)) (decide_eq_true he) ht

theorem runs_event {t : Dev} (ht : d.trap e 1 0 = t) : Runs (.event e) d t := .of_act (fun s => (rfl : execEvent e s = _)) (decide_eq_true he) ht

theorem runs_yield {t : Dev} (ht : d.trap e 2 0 = t) : Runs (.yield e) d t := .of_act (fun s => (rfl : execYield e s = _)) (decide_eq_true he) ht

/-- A budget that has counted to zero is taken before the next instruction. -/
theorem runs_budget (hup : d.engUp e = true) (hdue : d.budgetDue e = true) : Runs (.budget e) d ((d.takeExc e 9 0 0 (d.eng e).pc).lockCopy e) :=
  .of_act (fun s => (rfl : execBudget e s = _)) (decide_eq_true he) (if_pos (by simp [hup, hdue]))

/-! ### Faults and self-test (R68, R421, R445) -/

section
variable (hclk : d.engClk = true)
include hclk

theorem runs_engineWatchdog (hworks : d.working e = true) (hhelm : (d.eng e).priv = 0) (hlate : (d.eng e).kickAt + msUnits 50 ≤ d.time) :
    Runs (.engineWatchdog e) d (d.engFault e) :=
  .of_act (fun s => (rfl : execEngineWatchdog e s = _)) (decide_eq_true he) (if_pos (by simp [hclk, hworks, hhelm, hlate]))

theorem runs_lockstepMismatch (hmode : d.mLockstep = true) (hpair : (d.pairOf e).all (fun i => d.working i) = true) :
    Runs (.lockstepMismatch e) d (d.engFault e) :=
  .of_act (fun s => (rfl : execLockstepMismatch e s = _)) (decide_eq_true he) (if_pos (by rw [hclk, hmode, hpair]; rfl))

theorem runs_engineFault (hworks : d.working e = true) : Runs (.engineFault e) d (d.engFault e) :=
  .of_act (fun s => (rfl : execEngineFault e s = _)) (decide_eq_true he) (if_pos (by rw [hclk, hworks]; rfl))

variable (hreset : (d.eng e).resetting = true)
include hreset

theorem runs_engineSelfTestDone_fails :
    Runs (.engineSelfTestDone e false) d (d.modEng e (fun _ => { d.freshEngine e .halted with resetting := false })) :=
  .of_act (fun s => (rfl : execEngineSelfTestDone e false s = _)) (decide_eq_true he) (if_neg (by simp [hclk, hreset]))

theorem runs_engineSelfTestDone_passes (hhove : d.f SAF_STAT.HOVE = 0) :
    Runs (.engineSelfTestDone e true) d (d.modEng e (fun _ => { d.freshEngine e .running with resetting := false })) :=
  .of_act (fun s => (rfl : execEngineSelfTestDone e true s = _)) (decide_eq_true he) (by simp [hclk, hreset, Dev.on, hhove])

end

end

end

/-- Settles O38: a trap is its operation (`Dev.trap_legal`) at each privilege and code; each of the other commands has its own lemma. -/
theorem engineTrapsAndFaults : Obligations.EngineTrapsAndFaults := by
  refine ⟨fun e code d he hcode => ⟨?fault, ?call, ?illegal, ?deck, runs_budget he, runs_eret he, ?eret⟩, fun e d he hclk =>
    ⟨runs_engineWatchdog he hclk, runs_lockstepMismatch he hclk, runs_engineFault he hclk, fun hreset =>
      ⟨runs_engineSelfTestDone_fails he hclk hreset, runs_engineSelfTestDone_passes he hclk hreset⟩⟩⟩
  case fault => exact fun hready hhelm hlow => runs_trap he hcode (Dev.trap_stays hready (Dev.trapOp_fault hhelm hlow _))
  case call => exact fun hready hhelm hhigh => runs_trap he hcode (Dev.trap_stays hready (Dev.trapOp_call hhelm hhigh _))
  case illegal =>
    intro hready hdeck hhigh
    exact runs_trap he hcode ((d.trap_legal e code).trans (Dev.engStep_raise hready (Dev.trapOp_illegal hdeck _ hhigh)))
  case deck =>
    intro hready hdeck
    exact ⟨runs_exit he (Dev.trap_stays hready (Dev.trapOp_exit hdeck _)), runs_event he (Dev.trap_stays hready (Dev.trapOp_event hdeck _)),
      runs_yield he (Dev.trap_stays hready (Dev.trapOp_yield hdeck _))⟩
  case eret =>
    intro hlen
    have heng : (d.eret e).eng e = _ := Dev.modEng_eng_same hlen
    rw [heng]
    exact ⟨rfl, rfl, rfl⟩

/-! ### System registers and tasks (R64, R419 to R421) -/

section
variable {d : Dev} {e rd a n : Nat} (he : e < 16)
include he

/-- GETSYS of a register that the engine may read. -/
theorem runs_getsys {ev : RdEnv} (hrd : rd < 32) (hn : n < 65536) (hready : d.engReady e (!sysDeckGet n) = true) :
    Runs (.getsys e rd n 0 ev) d (d.engNext ((d.getsys e n ev).2.setGr e rd (d.getsys e n ev).1) e) :=
  .of_act (fun s => (rfl : execGetsys e rd n 0 ev s = _)) (by simp [okGetsys, he, hrd, hn]) (by
    rw [Dev.getsysOp, withRs_zero, show rsBad rsvA 0 = false from rfl]
    exact Dev.engStep_done hready rfl)

/-- PUTSYS of a register that the engine may write. -/
theorem runs_putsys (ha : a < 32) (hn : n < 65536) (hready : d.engReady e (!sysDeckPut n) = true) :
    Runs (.putsys e a n 0) d (d.engNext (d.putsys e n (d.gr e a).toNat) e) :=
  .of_act (fun s => (rfl : execPutsys e a n 0 s = _)) (by simp [okPutsys, he, ha, hn]) (by
    rw [Dev.putsysOp, withRs_zero, show rsBad rsvD 0 = false from rfl]
    exact Dev.engStep_done hready rfl)

/-- TASK_TAKE reads task, which only helm may. -/
theorem runs_taskTake {ev : RdEnv} (hrd : rd < 32) (hready : d.engReady e true = true) :
    Runs (.taskTake e rd ev) d (d.engNext ((d.takeTask e ev).2.setGr e rd (d.takeTask e ev).1) e) :=
  .of_act (fun s => (rfl : execTaskTake e rd ev s = _)) (by simp [okTaskTake, he, hrd]) (by
    rw [Dev.getsysOp, withRs_zero, show rsBad rsvA 0 = false from rfl]
    exact Dev.engStep_done hready rfl)

/-- WDOG_KICK writes wdog, which only helm may. -/
theorem runs_wdogKick (ha : a < 32) (hready : d.engReady e true = true) :
    Runs (.wdogKick e a) d (d.engNext (d.modEng e (fun x => { x with kickAt := d.time })) e) :=
  .of_act (fun s => (rfl : execWdogKick e a s = _)) (by simp [okWdogKick, he, ha]) (by
    rw [Dev.putsysOp, withRs_zero, show rsBad rsvD 0 = false from rfl]
    exact Dev.engStep_done hready rfl)

/-! ### Sleep and Fix (R443, R444) -/

section
variable (hrd : rd < 32) (hready : d.engReady e false = true)
include hrd hready

theorem runs_fixInstruction :
    Runs (.fixInstruction e rd 0) d (d.engNext ((d.fix 1).setGr e rd (BitVec.ofNat 64 ((d.fix 1).f FIX_NUM.NUMBER))) e) :=
  .of_act (fun s => (rfl : execFixInstruction e rd 0 s = _)) (by simp [okFixInstruction, he, hrd]) (Dev.engStep_done hready rfl)

variable (ha : a < 32)
include ha

/-- At deck privilege SLEEP is the exception DECK_SLEEP. -/
theorem runs_sleep_deck (hdeck : (d.eng e).priv = 1) :
    Runs (.sleep e rd a 0) d ((d.takeExc e 0x0A ((d.eng e).rd a).toNat 0 (d.eng e).pc).lockCopy e) :=
  .of_act (fun s => (rfl : execSleep e rd a 0 s = _)) (by simp [okSleep, he, hrd, ha]) (Dev.engStep_stay hready (if_pos hdeck))

variable (hhelm : (d.eng e).priv = 0)
include hhelm

/-- A pending event that is enabled is consumed at once. -/
theorem runs_sleep_awake (hpend : (d.eng e).awake ≠ 0) : Runs (.sleep e rd a 0) d (d.engNext (d.consume e rd (d.eng e).awake) e) :=
  .of_act (fun s => (rfl : execSleep e rd a 0 s = _)) (by simp [okSleep, he, hrd, ha]) (Dev.engStep_done hready (by simp [hhelm, hpend]))

variable (hnone : (d.eng e).awake = 0)
include hnone

/-- With neither a time nor an enabled event there is nothing to wait for. -/
theorem runs_sleep_nothing (htime : ((d.eng e).rd a).toNat = 0) (hwake : (d.eng e).wakeEn = 0) :
    Runs (.sleep e rd a 0) d (d.engNext (d.setGr e rd 0) e) :=
  .of_act (fun s => (rfl : execSleep e rd a 0 s = _)) (by simp [okSleep, he, hrd, ha])
    (Dev.engStep_done hready (by simp only [hhelm, hnone, htime, hwake]; rfl))

/-- Else the engine sleeps, for its time or until an event. -/
theorem runs_sleep_sleeps (hwait : ((d.eng e).rd a).toNat ≠ 0 ∨ (d.eng e).wakeEn ≠ 0) :
    Runs (.sleep e rd a 0) d ((d.modEng e (fun y => { y with
      state := .asleep, sleepD := rd,
      sleepUntil := if ((d.eng e).rd a).toNat = 0 then none else some (d.time + usUnits ((d.eng e).rd a).toNat) })).lockCopy e) :=
  .of_act (fun s => (rfl : execSleep e rd a 0 s = _)) (by simp [okSleep, he, hrd, ha]) (Dev.engStep_stay hready (by
    have hwait' : ¬ (((d.eng e).rd a).toNat = 0 ∧ (d.eng e).wakeEn = 0) := by omega
    refine (if_neg (by simp [hhelm])).trans ((if_neg (by simp [hnone])).trans (if_neg ?_))
    simpa only [Bool.and_eq_true, decide_eq_true_eq] using hwait'))

end

/-- Sleep ends with an enabled event, or with its time. -/
theorem runs_sleepEnd (hasleep : (d.eng e).state = .asleep) (hclk : d.engClk = true)
    (hend : (d.eng e).awake ≠ 0 ∨ ∃ t, (d.eng e).sleepUntil = some t ∧ t ≤ d.time) :
    Runs (.sleepEnd e) d (((d.modEng e (fun y => { y with state := .running, sleepUntil := none, pc := y.pc + 4 })).consume e (d.eng e).sleepD
      (d.eng e).awake).lockCopy e) :=
  .of_act (fun s => (rfl : execSleepEnd e s = _)) (decide_eq_true he) (if_neg (by
    obtain hpend | ⟨t, htime, hlate⟩ := hend
    · simp [hasleep, hclk, hpend]
    · simp [hasleep, hclk, htime, hlate]))

end

/-- Settles O39: each command runs as its own lemma says; task is the one system register whose read acts. -/
theorem engineSystem : Obligations.EngineSystem := by
  intro e rd a n ev d he hrd ha hn x
  refine ⟨fun hready => ⟨fun hother => ?get, fun htask => ?task⟩, runs_putsys he ha hn, runs_taskTake he hrd, runs_wdogKick he ha,
    runs_fixInstruction he hrd, fun hready => runs_sleep_deck he hrd hready ha, fun hready hhelm => runs_sleep_awake he hrd hready ha hhelm,
    fun hready hhelm hnone htime => ?timed, fun hready hhelm hnone htime => ⟨fun hwake => runs_sleep_nothing he hrd hready ha hhelm hnone htime hwake,
      fun hwake => ?untimed⟩, runs_sleepEnd he⟩
  case get => exact (runs_getsys he hrd hn hready).congr (by rw [Dev.getsys, if_neg hother])
  case task => exact (runs_getsys he hrd hn hready).congr (by rw [Dev.getsys, if_pos htask])
  case timed => exact (runs_sleep_sleeps he hrd hready ha hhelm hnone (.inl htime)).congr (by rw [if_neg htime])
  case untimed => exact (runs_sleep_sleeps he hrd hready ha hhelm hnone (.inr hwake)).congr (by rw [if_pos htime])

end Sys2Proof.Machine

/-!
## Settled: order rings (chapter 12)

A TAIL write that takes entries back, and what posting an event leaves of the order registers. O19 fails: its clause for ORDER_COMPLETION
speaks of an order of any identity, and an identity of 2^64 is outside the command's range.
-/

namespace Sys2Proof.Machine

/-! ### A record for the deck log -/

/-- The LOST record that is owed, if one is (R609). -/
def Dev.owedLost (d : Dev) : List DeckRec :=
  if d.deck.owed = 0 then [] else [.lost d.deck.owed d.opSec d.cycle d.time (d.f FIX_NUM.NUMBER)]

section
variable {d : Dev} {r : DeckRec}

/-- With the deck log full the record is counted as dropped. -/
theorem Dev.deckPush_full (hfull : d.on DECK_STAT.FULL = true) : d.deckPush r = d.cnt DECK_STAT.DROPPED := if_pos hfull

section
variable (hroom : d.on DECK_STAT.FULL = false)
include hroom

/-- A record that finds room enters the buffer behind the LOST record that is owed. -/
theorem Dev.deckPush_fits (hfits : bufBytes (d.deck.buf ++ d.owedLost ++ [r]) ≤ 65536) :
    d.deckPush r = { d with deck := { d.deck with buf := d.deck.buf ++ d.owedLost ++ [r], owed := 0 } } := by
  unfold Dev.owedLost at hfits ⊢
  unfold Dev.deckPush
  rw [if_neg (by simp [hroom])]
  exact if_pos hfits

/-- One that finds none is counted, and owed. -/
theorem Dev.deckPush_drops (hfits : ¬ bufBytes (d.deck.buf ++ d.owedLost ++ [r]) ≤ 65536) :
    d.deckPush r = { d.cnt DECK_STAT.DROPPED with deck := { d.deck with owed := d.deck.owed + 1 } } := by
  unfold Dev.owedLost at hfits
  unfold Dev.deckPush
  rw [if_neg (by simp [hroom])]
  exact if_neg hfits

end

/-- The three things that can happen to a record. -/
theorem Dev.deckPush_cases (d : Dev) (r : DeckRec) :
    d.deckPush r = d.cnt DECK_STAT.DROPPED ∨
    (bufBytes (d.deck.buf ++ d.owedLost ++ [r]) ≤ 65536 ∧
      d.deckPush r = { d with deck := { d.deck with buf := d.deck.buf ++ d.owedLost ++ [r], owed := 0 } }) ∨
    d.deckPush r = { d.cnt DECK_STAT.DROPPED with deck := { d.deck with owed := d.deck.owed + 1 } } := by
  cases hfull : d.on DECK_STAT.FULL
  · by_cases hfits : bufBytes (d.deck.buf ++ d.owedLost ++ [r]) ≤ 65536
    · exact .inr (.inl ⟨hfits, Dev.deckPush_fits hfull hfits⟩)
    · exact .inr (.inr (Dev.deckPush_drops hfull hfits))
  · exact .inl (Dev.deckPush_full hfull)

end

/-- The deck-log state holds no register. -/
theorem Dev.withDeck_regs (e : Dev) (k : Deck) : ({ e with deck := k } : Dev).regs = e.regs := rfl

/-- Of the registers, only DECK_STAT.DROPPED may count. -/
theorem Dev.deckPush_regs (d : Dev) (r : DeckRec) : (d.deckPush r).regs = d.regs ∨ (d.deckPush r).regs = (d.cnt DECK_STAT.DROPPED).regs := by
  obtain h | ⟨-, h⟩ | h := d.deckPush_cases r
  · exact .inr (congrArg (·.regs) h)
  · exact .inl ((congrArg (·.regs) h).trans (Dev.withDeck_regs _ _))
  · exact .inr ((congrArg (·.regs) h).trans (Dev.withDeck_regs _ _))

/-! ### Posting an event leaves the order registers as they were -/

section
variable {off : Nat} (d : Dev)

/-- A record that enters the deck-log buffer, or finds no room there, changes no register but DECK_STAT. -/
theorem Dev.deckPush_reg (hoff : off ≠ 0x2008) (r : DeckRec) : (d.deckPush r).reg off = d.reg off := by
  obtain h | h := d.deckPush_regs r
  · exact Dev.reg_congr h off
  · exact (Dev.reg_congr h off).trans (Dev.reg_setReg_ne hoff _)

/-- A record in a head's event log changes no register but the pending bits of that head. -/
theorem Dev.logTo_reg {p : Nat} (hoff : off ≠ (DEV_INTSTAT.PEND p).off) (log : Nat) (r : CxlRec) : (d.logTo p log r).reg off = d.reg off := by
  unfold Dev.logTo
  dsimp only
  split
  · exact Dev.raise_reg_ne _ _ _ hoff
  · rfl

/-- Posting an event that is no detection and raises no Fix leaves every register of an order ring as it was. -/
theorem Dev.post_reg {e : Ev} (hplain : dangerCodes.contains e.code = false ∧ escCodes.contains e.code = false ∧ e.code < 0x100)
    (hoff : 0x5000 ≤ off) : (d.post e).reg off = d.reg off := by
  obtain ⟨hdanger, hesc, hsafety⟩ := hplain
  unfold Dev.post
  split
  · rfl
  · simp only [hdanger, hesc, Nat.not_le.mpr hsafety, decide_false, Bool.false_and, Bool.false_eq_true, if_false]
    unfold Dev.postRaw Dev.postAs
    dsimp only
    have hlogged : ∀ (x : DeckRec) (log : Nat) (r : CxlRec), (((d.deckPush x).logBoth log r).tally 0x89 0 1).reg off = d.reg off := by
      intro x log r
      rw [Dev.tally_reg (by decide) (by omega), Dev.logBoth, Dev.logTo_reg _ (by simp only [DEV_INTSTAT.PEND]; omega),
        Dev.logTo_reg _ (by simp only [DEV_INTSTAT.PEND]; omega), Dev.deckPush_reg _ (by omega)]
    split <;> exact hlogged ..

end

/-! ### A TAIL write -/

/-- 0x0C7 reports no detection, no escalation and no safety event. -/
theorem backCode_plain : dangerCodes.contains 0x0C7 = false ∧ escCodes.contains 0x0C7 = false ∧ 0x0C7 < 0x100 := by decide

theorem resetVal_ORD_STAT : ∀ r, r < 3 → resetVal (0x5008 + 16 * r) < 2 ^ 64 := by decide +kernel

/-- A TAIL write that takes entries back sets BAD_TAIL and posts 0x0C7. -/
theorem Dev.sqTail_back {d : Dev} {r v : Nat}
    (hback : (v % 16 + 16 - d.f (ORD_SQ.HEAD r)) % 16 < (d.f (ORD_SQ.TAIL r) + 16 - d.f (ORD_SQ.HEAD r)) % 16) :
    ∃ detail, d.sqTail r v = (d.setF (ORD_STAT.BAD_TAIL r) 1).post { code := 0x0C7, detail := detail } :=
  ⟨_, if_pos hback⟩

/-- Settles O57. -/
theorem sqTailIgnored : Obligations.SqTailIgnored := by
  intro by_ r v d hok hon hwrite hwf hback
  have hr : r < 3 := by
    simp only [Instr.wf, okSqTailWrite, Bool.and_eq_true, decide_eq_true_eq] at hok
    exact hok.1.2
  let w := if by_ < 2 then d.touch else d
  have hregs : w.regs = d.regs := by dsimp only [w]; split <;> rfl
  have hw : ∀ F, w.f F = d.f F := fun F => congrArg (bits · F.lo F.w) (Dev.reg_congr hregs F.off)
  obtain ⟨detail, htail⟩ := Dev.sqTail_back (d := w) (by simpa only [hw] using hback)
  have hpost : ∀ F : Fld, 0x5000 ≤ F.off →
      ((w.setF (ORD_STAT.BAD_TAIL r) 1).post { code := 0x0C7, detail := detail }).f F = (w.setF (ORD_STAT.BAD_TAIL r) 1).f F :=
    fun F hF => congrArg (bits · F.lo F.w) (Dev.post_reg _ backCode_plain hF)
  have hsq : ∀ F : Fld, F.off = 0x5000 + 16 * r → (w.setF (ORD_STAT.BAD_TAIL r) 1).f F = d.f F := fun F hF =>
    (congrArg (bits · F.lo F.w) (Dev.reg_setReg_ne (by simp only [ORD_STAT.BAD_TAIL]; omega) _)).trans (hw F)
  have hlet : d.letWrite by_ (·.sqTail r v) = w.sqTail r v := if_pos (by rw [hon, hwrite]; rfl)
  refine ⟨_, Runs.of_act (f := fun d => d.letWrite by_ (·.sqTail r v)) (fun _ => rfl) hok (hlet.trans htail), ?tail, ?head, ?bad, detail, rfl⟩
  case tail => exact (hpost _ (by simp only [ORD_SQ.TAIL]; omega)).trans (hsq _ rfl)
  case head => exact (hpost _ (by simp only [ORD_SQ.HEAD]; omega)).trans (hsq _ rfl)
  case bad =>
    exact (hpost _ (by simp only [ORD_STAT.BAD_TAIL]; omega)).trans
      (Dev.f_setF_same (hregs ▸ hwf) (ORD_STAT.BAD_TAIL r) (resetVal_ORD_STAT r hr) 1 (show 0 + 1 ≤ 64 by decide))

/-! ### An order whose identity is outside the range of ORDER_COMPLETION -/

/-- An order of source 0 that has ended, with an identity of 65 bits. -/
def endedOrder : Order := ⟨2 ^ 64, 0, 0, prgFix, [], 0, 0, false, some (0, 0, 0)⟩

/-- A device in Active on which that order runs. -/
def devEnded : Dev := { phase := .active, ord := { run := [endedOrder] } }

/-- Refutes O19: an ended order with the identity 2^64 stands, and ORDER_COMPLETION of it is ill formed. -/
theorem not_orderRings : ¬ Obligations.OrderRings := by
  rintro ⟨hrings, -⟩
  obtain ⟨-, -, -, -, hdone⟩ := hrings 3 0 0 devEnded (by decide) (by decide +kernel) (by decide +kernel) (by decide +kernel)
  obtain ⟨e, hruns, -⟩ := hdone (2 ^ 64) endedOrder (0, 0, 0) (by decide +kernel) (by decide +kernel) rfl rfl rfl
  have hstop : exec (.orderCompletion (2 ^ 64)) ⟨[], devEnded⟩ = .fault .illFormed :=
    act_bad ⟨[], devEnded⟩ (·.completeOrder (2 ^ 64))
  exact nomatch hstop.symm.trans (hruns [])

end Sys2Proof.Machine

/-!
## Settled: the step itself, and the invariant after reset
-/

namespace Sys2Proof.Machine

/-- Settles O1. -/
theorem stepRunsFront : Obligations.StepRunsFront := fun _ _ _ => rfl

/-- Every command acts on the device alone, and only within its operand ranges. -/
theorem exec_acts (c : Instr) : ∃ f : Dev → Dev, ∀ s, exec c s = act c.wf s f := by
  cases c <;> simp only [exec] <;> exact ⟨_, fun _ => rfl⟩

/-- Settles O3, since every command acts. -/
theorem everyCommandCompletes : Obligations.EveryCommandCompletes := by
  intro c d
  obtain ⟨f, hf⟩ := exec_acts c
  exact ⟨fun hwf => ⟨f d, fun q => by rw [hf, hwf, act_ok]⟩, fun hwf q => by rw [hf, hwf, act_bad]⟩

/-! ### The passing of time -/

/-- While an activity keeps a running device out of Doze, R552's count begins again. -/
theorem Dev.watchQuiet_eq (d : Dev) : d.watchQuiet =
    if d.phase = .active ∧ d.quiet = false then { d with wch := { d.wch with eligFrom := d.time } } else d := by
  simp [Dev.watchQuiet]

section
variable {d : Dev}

theorem Dev.idle_watchOff (hoff : d.phase = .watchOff) : d.idle = d := if_pos (by simp [hoff])

section
variable (hon : d.phase ≠ .watchOff)
include hon

theorem Dev.idle_unit (hfabric : d.fabricOn = true) (hunit : (d.time + 1) % 65536 ≠ 0) : d.idle = { d with time := d.time + 1 } := by
  rw [Dev.idle, if_neg (by simp [hon]), if_pos (by simp [hfabric, hunit])]

theorem Dev.idle_tick (htick : d.fabricOn = false ∨ (d.time + 1) % 65536 = 0) : d.idle = d.watchTick := by
  rw [Dev.idle, if_neg (by simp [hon]), if_neg]
  obtain hfabric | hunit := htick
  · simp [hfabric]
  · simp [hunit]

end
end

/-- Settles O2. -/
theorem idleStep : Obligations.IdleStep := by
  intro d
  have hpass : step ⟨[], d⟩ = .next ⟨[], d.idle.watchQuiet⟩ := rfl
  rw [hpass]
  refine ⟨fun hoff => ?_, fun hon hfabric hunit => ?_, fun hon htick => ?_⟩
  · rw [Dev.idle_watchOff hoff, Dev.watchQuiet_eq, if_neg (by simp [hoff])]
  · rw [Dev.idle_unit hon hfabric hunit, Dev.watchQuiet_eq]
  · rw [Dev.idle_tick hon htick, Dev.watchQuiet_eq]
    simp only [Dev.watchTick, beq_iff_eq]

/-! ### The deck-log buffer -/

theorem bufBytes_append (l m : List DeckRec) : bufBytes (l ++ m) = bufBytes l + bufBytes m := by
  induction l with
  | nil => simp [bufBytes]
  | cons x l ih =>
    simp only [bufBytes, List.cons_append, List.map_cons, List.foldr_cons] at ih ⊢
    omega

/-- A record alone takes no more than behind the LOST record that is owed. -/
theorem Dev.bufBytes_owedLost (d : Dev) (r : DeckRec) : bufBytes (d.deck.buf ++ [r]) ≤ bufBytes (d.deck.buf ++ d.owedLost ++ [r]) := by
  simp only [bufBytes_append]
  omega

section
variable {d : Dev} {r : DeckRec}

/-- A record that finds no room is counted, in the buffer's flag or not, and the buffer stays. -/
theorem Dev.deckPush_noRoom (hfits : ¬ bufBytes (d.deck.buf ++ [r]) ≤ 65536) :
    (d.deckPush r).deck.buf = d.deck.buf ∧ (d.deckPush r).regs = (d.cnt DECK_STAT.DROPPED).regs := by
  obtain h | ⟨hroom, -⟩ | h := d.deckPush_cases r
  · rw [h]
    exact ⟨congrArg (·.buf) (Dev.cnt_deck ..), rfl⟩
  · exact absurd (Nat.le_trans (d.bufBytes_owedLost r) hroom) hfits
  · exact ⟨congrArg (·.deck.buf) h, (congrArg (·.regs) h).trans (Dev.withDeck_regs _ _)⟩

/-- DECK_STAT.DROPPED counts by one below its end. -/
theorem Dev.cnt_dropped (hwf : regsWf d.regs = true) (hlow : d.f DECK_STAT.DROPPED < 2 ^ 16 - 1) :
    (d.cnt DECK_STAT.DROPPED).f DECK_STAT.DROPPED = d.f DECK_STAT.DROPPED + 1 := by
  rw [Dev.cnt, Dev.f_setF_same hwf _ (by decide +kernel) _ (by decide)]
  have hsat : satAdd DECK_STAT.DROPPED.w (d.f DECK_STAT.DROPPED) 1 = d.f DECK_STAT.DROPPED + 1 := Nat.min_eq_left hlow
  rw [hsat]
  exact Nat.mod_eq_of_lt (Nat.add_lt_of_lt_sub hlow)

end

/-- Settles O60. -/
theorem deckBuffer : Obligations.DeckBuffer := by
  intro r d hwf
  have hopen : d.f DECK_STAT.FULL = 0 → d.on DECK_STAT.FULL = false := fun h => by simp [Dev.on, h]
  refine ⟨fun hbuf => ?_, fun hfull howed hfits => ?_, fun hfull howed => ?_, fun hfits => ?_⟩
  · obtain h | ⟨hroom, h⟩ | h := d.deckPush_cases r
    · rw [h, Dev.cnt_deck]
      exact hbuf
    · rw [h]
      exact hroom
    · rw [h]
      exact hbuf
  · have hlost : d.owedLost = [] := if_pos howed
    have hpush := Dev.deckPush_fits (r := r) (hopen hfull) (by rwa [hlost, List.append_nil])
    rw [hlost, List.append_nil] at hpush
    rw [hpush]
    exact ⟨rfl, Dev.withDeck_regs _ _⟩
  · intro lost hfits
    have hlost : d.owedLost = [lost] := if_neg howed
    have hpush := Dev.deckPush_fits (r := r) (hopen hfull) (by rwa [hlost, List.append_assoc])
    rw [hlost, List.append_assoc] at hpush
    rw [hpush]
    exact ⟨rfl, rfl⟩
  · obtain ⟨hbuf, hregs⟩ := Dev.deckPush_noRoom (d := d) (r := r) (by omega)
    refine ⟨hbuf, fun hlow => ?_⟩
    rw [Dev.f, Dev.reg_congr hregs]
    exact Dev.cnt_dropped hwf hlow

/-! ### The state after reset -/

/-- Settles O5. -/
theorem resetKeepsInv : Obligations.ResetKeepsInv := ⟨rfl, rfl, rfl⟩

end Sys2Proof.Machine

/-!
## Settled: automatic mode changes and the safety mechanisms (chapters 13 and 16)
-/

namespace Sys2Proof.Machine

section
variable {d : Dev}

/-- The hourly test runs where its turn has come, in the phases that run it. -/
theorem runs_latentFaultTest_due {fails : Nat} (hok : (Instr.latentFaultTest fails).wf = true)
    (hphase : d.phase = .active ∨ d.phase = .becalmed ∨ d.phase = .dozeEntry ∨ d.phase = .shutdown) (hdue : d.saf.lftDue = true) :
    Runs (.latentFaultTest fails) d
      ((({ d with saf := { d.saf with lftDue := false } } : Dev).setF SAF_LFTOPS.LAST_OPSEC d.opSec).latentFails (Nat.land fails hourlyMask)) := by
  refine Runs.of_act (fun _ => by rw [exec]; rfl) hok ?_
  obtain h | h | h | h := hphase <;> rw [h] <;> exact if_pos hdue

theorem runs_latentFaultTest_idle {fails : Nat} (hok : (Instr.latentFaultTest fails).wf = true) (hdue : d.saf.lftDue = false) :
    Runs (.latentFaultTest fails) d d := by
  refine Runs.of_act (fun _ => by rw [exec]; rfl) hok ?_
  simp only [hdue, Bool.false_eq_true, if_false]
  split <;> rfl

theorem runs_pllUnlock {k : Nat} (hok : (Instr.pllUnlock k).wf = true) : Runs (.pllUnlock k) d
    (if d.phase = .active ∧ d.f (pllLockBit k) ≠ 0 then ((d.setF (pllLockBit k) 0).cnt CLK_STAT.UNLOCKS).clockFail else d) := by
  refine Runs.of_act (fun _ => by rw [exec]; rfl) hok ?_
  exact if_congr (by simp [Dev.on]) rfl rfl

end

/-- Settles O51. -/
theorem modesAndSafety : Obligations.ModesAndSafety := by
  intro d
  refine ⟨fun _ => rfl, fun k hok => runs_pllUnlock hok, ?clock, fun _ => rfl, fun hon => ?safeN, fun fails hok => ⟨?due, ?idle⟩⟩
  case clock =>
    refine Runs.of_act (fun _ => by rw [exec]; rfl) rfl ?_
    exact if_congr (by simp) rfl rfl
  case safeN =>
    refine Runs.of_act (fun _ => by rw [exec]; rfl) rfl ?_
    exact if_neg (by simp [hon])
  case due => exact runs_latentFaultTest_due hok
  case idle => exact runs_latentFaultTest_idle hok

end Sys2Proof.Machine

/-!
## Settled: the command registers (chapter 09)
-/

namespace Sys2Proof.Machine

/-! ### Writes of the command registers -/

theorem regRow_WLV_PLACE : ∀ h, h < 16 → helmPair (0x4080 + 8 * h) = true := by decide +kernel

section
variable (d : Dev) (by_ : Nat)

/-- PWR_CTL stands outside the ordinary registers: what is written to it is its command. -/
theorem Dev.regWrite_PWR_CTL (mask v : Nat) : d.regWrite by_ 0x200 mask v = d.pwrCtl v := by
  have hrow : (regRow? 0x200).isSome = true := by decide +kernel
  obtain ⟨r, hr⟩ := Option.isSome_iff_exists.mp hrow
  rw [Dev.regWrite, hr]
  exact if_pos rfl

/-- WLV_PLACE takes what engines write, and ignores every other requester. -/
theorem Dev.regWrite_WLV_PLACE {h : Nat} (hh : h < 16) (mask v : Nat) : d.regWrite by_ (0x4080 + 8 * h) mask v =
    if 3 ≤ by_ then
      d.setReg (0x4080 + 8 * h) (d.reg (0x4080 + 8 * h) - Nat.land (d.reg (0x4080 + 8 * h)) mask + Nat.land v mask)
    else d := by
  have hpair := regRow_WLV_PLACE h hh
  simp only [helmPair, Bool.and_eq_true, Option.any_eq_true] at hpair
  obtain ⟨-, r, hr, -⟩ := hpair
  rw [Dev.regWrite, hr]
  simp only [show ¬ 0x4080 + 8 * h = 0x200 by omega, show ¬ 0x5000 ≤ 0x4080 + 8 * h by omega, show 0x4080 ≤ 0x4080 + 8 * h by omega,
    show 0x4080 + 8 * h < 0x4100 by omega, decide_true, decide_false, Bool.false_and, Bool.and_self, Bool.false_eq_true, if_true, if_false]

end

/-- A command register that takes a value of 32 bits. -/
theorem Dev.helmIn_command {d : Dev} {by_ off v : Nat} (hon : d.helmOn by_ = true) (hmay : d.mayWrite by_ = true)
    (hword : helmWord off = true) (hv : v < 2 ^ 32) : d.helmIn by_ off 32 v = (d.helmAsked by_).regWrite by_ off 0xFFFFFFFF v := by
  rw [Dev.helmIn_word hon hmay _ hword, Nat.mod_eq_of_lt hv]

section
variable {d : Dev} {by_ : Nat} (hby : by_ < 4) (hon : d.helmOn by_ = true) (hmay : d.mayWrite by_ = true)
include hby hon hmay

theorem runs_pwrCtlOff : Runs (.pwrCtlOff by_) d ((d.helmAsked by_).offRequest false) :=
  .of_act (fun s => (rfl : execPwrCtlOff by_ s = _)) (decide_eq_true hby)
    ((Dev.helmIn_word hon hmay _ (by decide +kernel)).trans (Dev.regWrite_PWR_CTL ..))

theorem runs_pwrCtlBanktest : Runs (.pwrCtlBanktest by_) d
    (({ d.helmAsked by_ with pwr := { (d.helmAsked by_).pwr with bankDue := true } } : Dev).setF PWR_CTL.BANKTEST 1) :=
  .of_act (fun s => (rfl : execPwrCtlBanktest by_ s = _)) (decide_eq_true hby)
    ((Dev.helmIn_word hon hmay _ (by decide +kernel)).trans (Dev.regWrite_PWR_CTL ..))

theorem runs_rstCtlDevice {key : Nat} (hkey : key < 65536) : Runs (.rstCtlDevice by_ key) d
    ((d.helmAsked by_).regWrite by_ 0x700 0xFFFFFFFF (key * 65536 + 1)) :=
  .of_act (fun s => (rfl : execRstCtlDevice by_ key s = _)) (by simp [okRstCtlDevice, hby]; omega)
    (Dev.helmIn_command hon hmay (by decide +kernel) (by omega))

theorem runs_strActTrigger {st : Nat} (hst : st < 4096) : Runs (.strActTrigger by_ st) d
    ((d.helmAsked by_).regWrite by_ 0x4658 0xFFFFFFFF (0x1000000 + st)) :=
  .of_act (fun s => (rfl : execStrActTrigger by_ st s = _)) (by simp [okStrActTrigger, hby, hst])
    (Dev.helmIn_command hon hmay (by decide +kernel) (by omega))

theorem runs_strActQueueReset {st : Nat} (hst : st < 4096) : Runs (.strActQueueReset by_ st) d
    ((d.helmAsked by_).regWrite by_ 0x4658 0xFFFFFFFF (0x2000000 + st)) :=
  .of_act (fun s => (rfl : execStrActQueueReset by_ st s = _)) (by simp [okStrActQueueReset, hby, hst])
    (Dev.helmIn_command hon hmay (by decide +kernel) (by omega))

theorem runs_wlvPlaceWrite {h : Nat} (hh : h < 16) (v : Word) {t : Dev}
    (ht : (d.helmAsked by_).regWrite by_ (0x4080 + 8 * h) (2 ^ 64 - 1) v.toNat = t) : Runs (.wlvPlaceWrite by_ h 2 v) d t :=
  .of_act (fun s => (rfl : execWlvPlaceWrite by_ h 2 v s = _)) (by simp [okWlvPlaceWrite, hby, hh])
    ((Dev.helmIn_pair hon hmay (regRow_WLV_PLACE h hh) v).trans ht)

end

/-! ### What a write to a command register does -/

section
variable (d : Dev) (by_ old new v : Nat)

theorem Dev.regAct_FIX_CTL : d.regAct by_ 0x1000 old new v = if v.testBit 0 then d.fix 3 else d := rfl

theorem Dev.regAct_PADHOLD : d.regAct by_ 0x538 old new v = if v.testBit 1 then d.padRelease else d := rfl

theorem Dev.regAct_RST_CTL : d.regAct by_ 0x700 old new v =
    if 2 ≤ by_ && bits v 16 16 = 0xB0A7 && v.testBit 0 then d.resetAccept 7 else d := rfl

theorem Dev.regAct_WDOG : d.regAct by_ 0x708 old new v = if 3 ≤ by_ then d.wdogKick else d := rfl

theorem Dev.regAct_SAF_INJ : d.regAct by_ 0xC20 old new v = d.safInj by_ (bits v 16 8) (bits v 0 16) := rfl

theorem Dev.regAct_STR_ACT : d.regAct by_ 0x4658 old new v = d.strAct (bits v 24 8) (bits v 0 12) := rfl

theorem Dev.regAct_TAL_CFG : d.regAct by_ 0x2400 old new v = { d with deck := { d.deck with tallyFrom := d.time, tallyLast := 0 } } := rfl

end

/-- A field of a number, by division. -/
theorem bits_eq_div (x lo w : Nat) : bits x lo w = x / 2 ^ lo % 2 ^ w := by
  rw [bits, Nat.shiftRight_eq_div_pow]

/-- The key and the command bit of RST_CTL. -/
theorem rstCtl_fields {key : Nat} (hkey : key < 65536) : bits (key * 65536 + 1) 16 16 = key ∧ (key * 65536 + 1).testBit 0 = true := by
  constructor
  · rw [bits_eq_div]
    omega
  · rw [Nat.testBit_zero, decide_eq_true_eq]
    omega

/-- The action and the stream of STR_ACT. -/
theorem strAct_fields {act s : Nat} (hact : act < 256) (hs : s < 4096) :
    bits (act * 0x1000000 + s) 24 8 = act ∧ bits (act * 0x1000000 + s) 0 12 = s := by
  simp only [bits_eq_div]
  omega

section
variable {d : Dev} {by_ mech inst : Nat} (hsurvey : d.mSurvey = true)
include hsurvey

/-- An injected fault that cannot be detected where it stands is held. -/
theorem Dev.safInj_held (hnone : d.injectAct mech inst = none) : (d.safInj by_ mech inst).saf.inj = d.saf.inj ++ [(mech, inst)] := by
  simp [Dev.safInj, hsurvey, hnone]

/-- Any other acts at once, unless an engine injects it into its own pair. -/
theorem Dev.safInj_acts {e : Dev} (hby : by_ < 3) (hsome : d.injectAct mech inst = some e) : d.safInj by_ mech inst = e := by
  simp [Dev.safInj, hsurvey, hsome, Nat.not_le.mpr hby]

end

theorem Dev.safInj_off {d : Dev} (hsurvey : d.mSurvey = false) (by_ mech inst : Nat) : d.safInj by_ mech inst = d := by
  simp [Dev.safInj, hsurvey]

/-- Settles O24. -/
theorem helmCommands : Obligations.HelmCommands := by
  refine ⟨fun by_ d hby hon hmay => ?writes, fun by_ old new v d => ?effects⟩
  case writes =>
    refine ⟨runs_pwrCtlOff hby hon hmay, runs_pwrCtlBanktest hby hon hmay, fun v => ?fix, fun v => ?pad, fun _ => runs_rstCtlDevice hby hon hmay,
      fun _ => runs_strActTrigger hby hon hmay, fun _ => runs_strActQueueReset hby hon hmay, fun h v hh hengine => ?place,
      fun h v hh hother => ?ignored⟩
    case fix =>
      exact .of_act (fun s => (rfl : execFixCtlTrigger by_ v s = _)) (decide_eq_true hby) (Dev.helmIn_word hon hmay _ (by decide +kernel))
    case pad =>
      exact .of_act (fun s => (rfl : execPadholdRelease by_ v s = _)) (decide_eq_true hby) (Dev.helmIn_word hon hmay _ (by decide +kernel))
    case place => exact runs_wlvPlaceWrite hby hon hmay hh v ((Dev.regWrite_WLV_PLACE _ _ hh _ _).trans (if_pos hengine))
    case ignored => exact runs_wlvPlaceWrite hby hon hmay hh v ((Dev.regWrite_WLV_PLACE _ _ hh _ _).trans (if_neg (by omega)))
  case effects =>
    refine ⟨fun hv => ?fix, fun hv => ?pad, fun hby => ?reset, fun key hkey hne => ?wrongKey, fun s hs hen => ?trigger, fun s hs hen => ?queue,
      fun hby => ?kick, fun hby => ?noKick, fun hsurvey hnone => ?held, fun e hsurvey hby hsome => ?acts, fun hsurvey => ?unarmed, ?tally⟩
    case fix => rw [Dev.regAct_FIX_CTL, if_pos (by simpa using hv)]
    case pad => rw [Dev.regAct_PADHOLD, if_pos hv]
    case reset =>
      obtain ⟨hkey, hbit⟩ := rstCtl_fields (key := 0xB0A7) (by decide)
      rw [Dev.regAct_RST_CTL, hkey, hbit, if_pos (by simp [hby])]
    case wrongKey => rw [Dev.regAct_RST_CTL, (rstCtl_fields hkey).1, if_neg (by simp [hne])]
    case trigger =>
      obtain ⟨hact, hstream⟩ := strAct_fields (act := 1) (by decide) hs
      rw [Dev.regAct_STR_ACT, hact, hstream, Dev.strAct, if_pos rfl, if_pos (by simp [Dev.on, hen])]
    case queue =>
      obtain ⟨hact, hstream⟩ := strAct_fields (act := 2) (by decide) hs
      rw [Dev.regAct_STR_ACT, hact, hstream, Dev.strAct, if_neg (by decide), if_pos rfl, if_pos (by simp [Dev.on, hen])]
    case kick => rw [Dev.regAct_WDOG, if_pos hby, Dev.wdogKick]
    case noKick => rw [Dev.regAct_WDOG, if_neg (by omega)]
    case held => rw [Dev.regAct_SAF_INJ, Dev.safInj_held hsurvey hnone]
    case acts => rw [Dev.regAct_SAF_INJ, Dev.safInj_acts hsurvey hby hsome]
    case unarmed => rw [Dev.regAct_SAF_INJ, Dev.safInj_off hsurvey]
    case tally => rw [Dev.regAct_TAL_CFG]

end Sys2Proof.Machine

/-!
## Settled: supply, flush and Commit (chapter 14)
-/

namespace Sys2Proof.Machine

/-! ### What a counter of the Logbook leaves as it was (R622 to R624) -/

section
variable (P : Dev → Prop) (hwrite : ∀ e a bs, P e → P (Dev.lbkWrite e a bs).2) (hdone : ∀ e, P e → P ((Dev.cnt e LBK_STAT.INTENTS).post0 0x113))
  {d : Dev} (h : P d)
include hwrite hdone h

/-- An intent that stands is completed by two writes, counted and reported. -/
theorem Dev.lbkIntent_keeps (off n : Nat) : P (d.lbkIntent off n) := by
  unfold Dev.lbkIntent
  dsimp only
  split
  · split
    · exact hwrite _ _ _ h
    · split
      · exact hdone _ (hwrite _ _ _ (hwrite _ _ _ h))
      · exact hwrite _ _ _ (hwrite _ _ _ h)
  · exact h

/-- A counter is written by Logbook writes. -/
theorem Dev.lbkSetCounter_keeps (off n v : Nat) : P (d.lbkSetCounter off n v) := by
  have hintent := Dev.lbkIntent_keeps P hwrite hdone h off n
  unfold Dev.lbkSetCounter
  dsimp only
  split
  · exact hwrite _ _ _ hintent
  · split
    · exact hwrite _ _ _ hintent
    · split
      · exact hwrite _ _ _ (hwrite _ _ _ hintent)
      · split
        · exact hwrite _ _ _ (hwrite _ _ _ (hwrite _ _ _ hintent))
        · exact hwrite _ _ _ (hwrite _ _ _ (hwrite _ _ _ (hwrite _ _ _ hintent)))

end

/-- A Logbook write that is refused is counted and reported; any other changes the Logbook and counters. -/
theorem Dev.lbkWrite_keeps (P : Dev → Prop) {d : Dev} (h : P d) (hrefused : P ((d.cnt LBK_STAT.REFUSED).post0 0x112))
    (hbytes : ∀ m, P { d with lbk := m }) (hcnt : ∀ e n, P e → P (Dev.cnt e LBK_WRITES.PAGES n))
    (htally : ∀ e n, P e → P (Dev.tally e 0x8B 0 n)) (addr : Nat) (bs : List (BitVec 8)) : P (d.lbkWrite addr bs).2 := by
  unfold Dev.lbkWrite
  split
  · exact h
  · split
    · exact hrefused
    · exact htally _ _ (hcnt _ _ (hbytes _))

@[simp] theorem Dev.tally_phase (d : Dev) (code unit_ n : Nat) : (d.tally code unit_ n).phase = d.phase :=
  Dev.tally_frame (·.phase) Dev.setF_phase (fun _ _ => rfl) ..

/-! ### Commit stays Commit while its records are written -/

/-- Commit, with an outcome of the flush. -/
def Dev.Committing (d : Dev) (outcome : Nat) : Prop := d.phase = .commit ∧ d.pwr.outcome = outcome

section
variable {d : Dev} {o : Nat} (h : d.Committing o)
include h

/-- What changes no phase and no supply leaves Commit as it is. -/
theorem Dev.Committing.congr {e : Dev} (hphase : e.phase = d.phase) (hpwr : e.pwr = d.pwr) : e.Committing o := by
  obtain ⟨hcommit, hout⟩ := h
  exact ⟨hphase.trans hcommit, hpwr ▸ hout⟩

theorem Dev.Committing.cnt (F : Fld) (n : Nat) : (d.cnt F n).Committing o := h.congr (Dev.cnt_phase ..) (Dev.cnt_pwr ..)

/-- In Commit an event is kept for the next start. -/
theorem Dev.Committing.post0 (code : Nat) : (d.post0 code).Committing o := by
  obtain ⟨hcommit, hout⟩ := h
  have hpost : d.canPost = false := by simp [Dev.canPost, hcommit]
  unfold Dev.post0 Dev.post
  rw [if_pos (by simp [hpost])]
  exact ⟨hcommit, hout⟩

theorem Dev.Committing.lbkWrite (addr : Nat) (bs : List (BitVec 8)) : (d.lbkWrite addr bs).2.Committing o :=
  Dev.lbkWrite_keeps (Dev.Committing · o) h ((h.cnt ..).post0 _) (fun _ => h.congr rfl rfl) (fun _ _ he => he.cnt ..)
    (fun _ _ he => he.congr (Dev.tally_phase ..) (Dev.tally_pwr ..)) addr bs

theorem Dev.Committing.countIncomplete : d.countIncomplete.Committing o :=
  Dev.lbkSetCounter_keeps (Dev.Committing · o) (fun _ _ _ he => he.lbkWrite ..) (fun _ he => (he.cnt ..).post0 _) (h.cnt ..) ..

end

/-- The end of the flush begins Commit, with what it found. -/
theorem Dev.endFlush_committing (d : Dev) (cut : Bool) (pos : List Nat) : (d.endFlush cut pos).Committing (b2n cut) := by
  unfold Dev.endFlush
  dsimp only
  generalize d.flushImage _ = e
  cases cut <;> simp only [Bool.false_eq_true, if_true, if_false]
  · exact Dev.Committing.post0 ⟨rfl, rfl⟩ _
  · exact Dev.Committing.post0 (Dev.Committing.countIncomplete ⟨rfl, rfl⟩) _

/-! ### The commands -/

section
variable {d : Dev}

theorem runs_brownoutWatch {vin : Nat} (hok : (Instr.brownoutWatch vin).wf = true) : Runs (.brownoutWatch vin) d
    (let e := ({ d with pwr := { d.pwr with vin := vin } } : Dev).settleVsys
     let g := if vin ≤ 42000 then e.setF PWR_STAT.OV 0 else e
     if vin < 100 * g.f PWR_THR.VBO then { g with pwr := { g.pwr with watch := true } } else g) :=
  .of_act (fun s => (rfl : execBrownoutWatch vin s = _)) hok rfl

theorem runs_vinOvervoltage_new (hover : 42000 < d.pwr.vin) (hnew : d.f PWR_STAT.OV = 0) :
    Runs .vinOvervoltage d ((d.setF PWR_STAT.OV 1).post0 0x0E9) :=
  .of_act (fun s => (rfl : execVinOvervoltage s = _)) rfl (if_pos (by simp [hover, Dev.on, hnew]))

theorem runs_vinOvervoltage_idle (hidle : d.pwr.vin ≤ 42000 ∨ d.f PWR_STAT.OV ≠ 0) : Runs .vinOvervoltage d d := by
  refine .of_act (fun s => (rfl : execVinOvervoltage s = _)) rfl (if_neg ?_)
  obtain hlow | hold := hidle
  · simp [Nat.not_lt.mpr hlow]
  · simp [Dev.on, hold]

theorem runs_supplyReturn_low (hvin : d.vinGood = false) : Runs .supplyReturn d d :=
  .of_act (fun s => (rfl : execSupplyReturn s = _)) rfl (if_pos (by simp [hvin]))

section
variable (hvin : d.vinGood = true)
include hvin

theorem runs_supplyReturn_flush (hphase : d.phase = .flush ∨ d.phase = .commit) : Runs .supplyReturn d
    (if d.pwr.returned then d else ({ d with pwr := { d.pwr with returned := true } } : Dev).cnt PWR_CNT.RETURNS) := by
  refine .of_act (fun s => (rfl : execSupplyReturn s = _)) rfl ((if_neg (by simp [hvin])).trans ?_)
  obtain hflush | hcommit := hphase
  · rw [hflush]
  · rw [hcommit]

theorem runs_supplyReturn_railsDown (hphase : d.phase = .railsDown) : Runs .supplyReturn d
    (if d.pwr.down = 1 ∨ d.pwr.watch = true then (d.cnt PWR_CNT.RETURNS).latchOn else d) := by
  refine .of_act (fun s => (rfl : execSupplyReturn s = _)) rfl ((if_neg (by simp [hvin])).trans ?_)
  rw [hphase]
  exact if_congr (by simp) rfl rfl

theorem runs_supplyReturn_dormant (hphase : d.phase = .dormant) : Runs .supplyReturn d
    (if d.pwr.down = 1 ∧ d.f PWR_STAT.OFF_LATCH = 0 then d.onRequest else d) := by
  refine .of_act (fun s => (rfl : execSupplyReturn s = _)) rfl ((if_neg (by simp [hvin])).trans ?_)
  rw [hphase]
  exact if_congr (by simp [Dev.on]) rfl rfl

theorem runs_supplyReturn_active (hphase : d.phase = .active) : Runs .supplyReturn d
    (if d.pwr.watch then ({ d with pwr := { d.pwr with watch := false } } : Dev).cnt PWR_CNT.RETURNS else d) := by
  refine .of_act (fun s => (rfl : execSupplyReturn s = _)) rfl ((if_neg (by simp [hvin])).trans ?_)
  rw [hphase]

end

theorem runs_flushEnd {cut : Bool} {pos : List Nat} (hok : (Instr.flushEnd cut pos).wf = true) :
    Runs (.flushEnd cut pos) d (if d.phase = .flush then d.endFlush cut pos else d) := by
  refine .of_act (fun s => (rfl : execFlushEnd cut pos s = _)) hok ?_
  by_cases hflush : d.phase = .flush <;> simp [hflush]

/-! ### The bank -/

/-- A bank test falls due by one of its causes; where the bank reaches VHOLD, it stands there. -/
def Dev.testDue (d : Dev) (cause : Nat) : Dev :=
  if cause = 0 ∨ cause = 4 then ({ d with pwr := { d.pwr with bankDue := true, bank := d.vhold } } : Dev).settleVsys
  else { d with pwr := { d.pwr with bankDue := true } }

/-- The condition of each cause (R515). -/
def Dev.testCause (d : Dev) (cause : Nat) : Bool :=
  match cause with
  | 0 => d.pwr.hbGate && d.railsOn = 6 && !d.pwr.bankDone
  | 1 => d.pwr.bankDone && decide (d.pwr.bankTestAt + secUnits 86400 ≤ d.time)
  | 2 => d.pwr.bankDone && !d.on PWR_BANK.PASS && decide (d.pwr.bankTestAt + secUnits 60 ≤ d.time)
  | 3 => d.on PWR_CTL.BANKTEST
  | 4 => d.pwr.hbGate && d.pwr.bank != d.vhold
  | _ => false

theorem runs_bankTestDue {cause : Nat} (hlt : cause < 5) (hcause : d.testCause cause = true) : Runs (.bankTestDue cause) d (d.testDue cause) := by
  refine .of_act (fun s => (rfl : execBankTestDue cause s = _)) (decide_eq_true (by omega)) 
    ((if_neg (show ¬ (!d.testCause cause) = true by simp [hcause])).trans ?_)
  exact if_congr (by simp) rfl rfl

/-- A guard that leaves early, as a condition that goes on. -/
theorem ite_not_or {α : Type} (a b : Bool) (x y : α) : (if (!a || !b) = true then y else x) = if a = true ∧ b = true then x else y := by
  cases a <;> cases b <;> simp

theorem runs_bankTest {v1 t : Nat} (hok : (Instr.bankTest v1 t).wf = true) :
    Runs (.bankTest v1 t) d (if d.pwr.bankDue = true ∧ d.mayTest = true then d.bankTested v1 t else d) := by
  refine .of_act (fun s => (rfl : execBankTest v1 t s = _)) hok ?_
  exact ite_not_or ..

theorem runs_bankVoltageLow (hgate : d.pwr.hbGate = true) (hwatch : d.pwr.watch = false) (hdone : d.pwr.bankDone = true) :
    Runs .bankVoltageLow d ((({ d with pwr := { d.pwr with bankTestAt := d.time } } : Dev).setF PWR_BANK.PASS 0).holdupLost 0x106) :=
  .of_act (fun s => (rfl : execBankVoltageLow s = _)) rfl (if_pos (by simp [hgate, hwatch, hdone]))

theorem runs_bankVoltageLow_idle (hidle : d.pwr.hbGate = false ∨ d.pwr.watch = true ∨ d.pwr.bankDone = false) : Runs .bankVoltageLow d d := by
  refine .of_act (fun s => (rfl : execBankVoltageLow s = _)) rfl (if_neg ?_)
  obtain h | h | h := hidle <;> simp [h]

/-! ### The end of Commit -/

/-- The records of Commit, after the deck log where no flush wrote it. -/
def Dev.commitDone (d : Dev) : Dev := (if d.pwr.outcome = 3 then d.deckDirect else d).commitRecs

/-- What follows the records: the abbreviated restart, or Rails down. -/
def Dev.leaveCommit (d : Dev) : Dev :=
  if d.pwr.outcome != 3 && d.pwr.returned && (d.pwr.detected.getD (0, 0, 0)).2.1 != 3 && d.pwr.down != 3 then d.resumeActive
  else
    let d := if d.pwr.outcome = 1 && d.pwr.effAtFlush.testBit 7 then d.dirtyShutdown else d
    let d := if d.pwr.returned && !d.on PWR_STAT.OFF_LATCH then d.latchOn else d
    d.beginDown d.pwr.down

theorem Dev.leaveCommit_resumes (hout : d.pwr.outcome ≠ 3) (hret : d.pwr.returned = true) (horigin : (d.pwr.detected.getD (0, 0, 0)).2.1 ≠ 3)
    (hdown : d.pwr.down ≠ 3) : d.leaveCommit = d.resumeActive :=
  if_pos (by simp [hout, hret, horigin, hdown])

theorem Dev.leaveCommit_down
    (hdown : d.pwr.outcome = 3 ∨ d.pwr.returned = false ∨ (d.pwr.detected.getD (0, 0, 0)).2.1 = 3 ∨ d.pwr.down = 3) : d.leaveCommit =
      (let f := if d.pwr.outcome = 1 ∧ d.pwr.effAtFlush.testBit 7 = true then d.dirtyShutdown else d
       let g := if f.pwr.returned = true ∧ f.f PWR_STAT.OFF_LATCH = 0 then f.latchOn else f
       g.beginDown g.pwr.down) := by
  rw [Dev.leaveCommit, if_neg]
  · simp only [Dev.on, Bool.and_eq_true, decide_eq_true_eq, Bool.not_eq_true', bne_eq_false_iff_eq]
  · obtain h | h | h | h := hdown <;> simp [h]

theorem runs_commitEnd_idle (hphase : d.phase ≠ .commit) : Runs .commitEnd d d :=
  .of_act (fun s => (rfl : execCommitEnd s = _)) rfl (if_pos (by simp [hphase]))

theorem runs_commitEnd (hphase : d.phase = .commit) : Runs .commitEnd d d.commitDone.leaveCommit :=
  .of_act (fun s => (rfl : execCommitEnd s = _)) rfl (if_neg (by simp [hphase]))

end

/-- Settles O46. -/
theorem supplyAndFlush : Obligations.SupplyAndFlush := by
  refine ⟨fun d => ⟨fun _ => runs_brownoutWatch, fun _ => rfl, runs_vinOvervoltage_new, runs_vinOvervoltage_idle, runs_supplyReturn_low,
    fun hvin => ⟨runs_supplyReturn_flush hvin, runs_supplyReturn_railsDown hvin, runs_supplyReturn_dormant hvin, runs_supplyReturn_active hvin⟩,
    fun _ _ => runs_flushEnd, fun hgate hrails hdone => ?first, fun hdone => ⟨fun hday => ?daily, fun hfail hminute => ?again⟩, fun hasked => ?asked,
    fun hgate hbank => ?reached, fun _ _ => runs_bankTest, runs_bankVoltageLow, runs_bankVoltageLow_idle⟩,
    fun d => ⟨d.endFlush_committing, runs_commitEnd_idle, fun hphase => ⟨fun hout hret horigin hdown => ?resumes,
      fun hdown => ?down⟩⟩⟩
  case first => exact (runs_bankTestDue (by decide) (by simp [Dev.testCause, hgate, hrails, hdone])).congr (if_pos (.inl rfl))
  case daily => exact (runs_bankTestDue (by decide) (by simp [Dev.testCause, hdone, hday])).congr (if_neg (by decide))
  case again => exact (runs_bankTestDue (by decide) (by simp [Dev.testCause, hdone, Dev.on, hfail, hminute])).congr (if_neg (by decide))
  case asked => exact (runs_bankTestDue (by decide) (by simp [Dev.testCause, Dev.on, hasked])).congr (if_neg (by decide))
  case resumes => exact (runs_commitEnd hphase).congr (Dev.leaveCommit_resumes hout hret horigin hdown)
  case down => exact (runs_commitEnd hphase).congr (Dev.leaveCommit_down hdown)
  case reached => exact (runs_bankTestDue (by decide) (by simp [Dev.testCause, hgate, hbank])).congr (if_pos (.inr rfl))

end Sys2Proof.Machine

/-!
## Settled: rails, power-up and power-down (chapter 14)
-/

namespace Sys2Proof.Machine

/-! ### Rail steps -/

/-- Power-good has asserted on a step, and VS is measured. -/
def Dev.railMeasured (d : Dev) (k vs : Nat) : Dev := (d.setF PWR_STAT.PG (d.f PWR_STAT.PG ||| 2 ^ k)).setF (PWR_RAIL.VS k) vs

/-- The step is done. -/
def Dev.railDone (d : Dev) (k vs : Nat) : Dev := { d.railMeasured k vs with pwr := { (d.railMeasured k vs).pwr with ramp := none } }

theorem Dev.railMeasured_pwr (d : Dev) (k vs : Nat) : (d.railMeasured k vs).pwr = d.pwr := by simp [Dev.railMeasured]

theorem Dev.railDone_pwr (d : Dev) (k vs : Nat) : (d.railDone k vs).pwr = { d.pwr with ramp := none } :=
  congrArg (fun p : Power => { p with ramp := none }) (d.railMeasured_pwr k vs)

section
variable {k vs : Nat} {d : Dev} (hok : (Instr.railStepDone k vs).wf = true) (hphase : d.phase = .powerUp)
  (hramp : d.pwr.ramp.map (·.1) = some k)
include hok hphase hramp

theorem runs_railStepDone_fails (hvs : vs < (vsWindow k).1 ∨ (vsWindow k).2 < vs) :
    Runs (.railStepDone k vs) d ((d.railMeasured k vs).stepFail k 3) :=
  .of_act (fun s => (rfl : execRailStepDone k vs s = _)) hok
    ((if_neg (by simp [hphase, hramp])).trans (if_pos (by simpa using hvs)))

section
variable (hlow : (vsWindow k).1 ≤ vs) (hhigh : vs ≤ (vsWindow k).2)
include hlow hhigh

/-- With VS in its window the step is done, and what waited for it goes on. -/
theorem runs_railStepDone_inWindow {t : Dev}
    (ht : (if (d.railDone k vs).pwr.downAfterStep then (d.railDone k vs).beginDown (d.railDone k vs).pwr.down
      else if k = 5 || (k = 3 && (d.railDone k vs).noChart && (d.railDone k vs).wch.startKind != 2) then (d.railDone k vs).railsUp
      else d.railDone k vs) = t) : Runs (.railStepDone k vs) d t :=
  .of_act (fun s => (rfl : execRailStepDone k vs s = _)) hok
    (((if_neg (by simp [hphase, hramp])).trans (if_neg (by simp [Nat.not_lt.mpr hlow, Nat.not_lt.mpr hhigh]))).trans ht)

/-- A power-down that waited begins. -/
theorem runs_railStepDone_down (hdown : d.pwr.downAfterStep = true) : Runs (.railStepDone k vs) d ((d.railDone k vs).beginDown d.pwr.down) := by
  refine runs_railStepDone_inWindow hok hphase hramp hlow hhigh ((if_pos ?_).trans ?_) <;> rw [Dev.railDone_pwr]
  exact hdown

/-- After the last step the rails are up. -/
theorem runs_railStepDone_up (hstay : d.pwr.downAfterStep = false) : Runs (.railStepDone k vs) d
    (if k = 5 ∨ (k = 3 ∧ (d.railDone k vs).noChart = true ∧ (d.railDone k vs).wch.startKind ≠ 2) then (d.railDone k vs).railsUp
     else d.railDone k vs) := by
  refine runs_railStepDone_inWindow hok hphase hramp hlow hhigh ((if_neg ?_).trans (if_congr ?_ rfl rfl))
  · rw [Dev.railDone_pwr]
    exact Bool.eq_false_iff.mp hstay
  · simp only [Bool.or_eq_true, Bool.and_eq_true, decide_eq_true_eq, bne_iff_ne, and_assoc]

end
end

section
variable {k : Nat} (hk : k < 6) {d : Dev}
include hk

theorem runs_railStep (hphase : d.phase = .powerUp) (hramp : d.pwr.ramp = none) (hstep : d.railsOn = k) (hbound : k < d.stepBound) :
    Runs (.railStep k) d (d.railEnable k) :=
  .of_act (fun s => (rfl : execRailStep k s = _)) (decide_eq_true hk) (if_pos (by simp [hphase, hramp, hstep, hbound]))

theorem runs_railStep_idle (hidle : d.phase ≠ .powerUp ∨ d.railsOn ≠ k ∨ d.stepBound ≤ k) : Runs (.railStep k) d d := by
  refine .of_act (fun s => (rfl : execRailStep k s = _)) (decide_eq_true hk) (if_neg ?_)
  obtain h | h | h := hidle
  · simp [h]
  · simp [h]
  · simp [Nat.not_lt.mpr h]

theorem runs_railStepFail {cause : Nat} (hcause : cause = 1 ∨ cause = 2 ∨ cause = 3) : Runs (.railStepFail k cause) d
    (if d.phase = .powerUp ∧ d.pwr.ramp.map (·.1) = some k then d.stepFail k cause else d) := by
  refine .of_act (fun s => (rfl : execRailStepFail k cause s = _)) (by simp [okRailStepFail, hk]; omega) ?_
  by_cases hstep : d.phase = .powerUp ∧ d.pwr.ramp.map (·.1) = some k
  · obtain ⟨hphase, hramp⟩ := id hstep
    rw [if_pos hstep]
    exact if_neg (by simp [hphase, hramp]; omega)
  · rw [if_neg hstep]
    refine if_pos ?_
    simp only [Bool.or_eq_true, bne_iff_ne, decide_eq_true_eq]
    exact .inl (.inl (Classical.not_and_iff_not_or_not.mp hstep))

/-! ### Rail faults and the discharge -/

omit hk in
theorem runs_railFault {cause vs : Nat} (hok : (Instr.railFault k cause vs).wf = true) (hcause : cause = 1 ∨ cause = 2 ∨ cause = 3)
    (hon : d.pwr.enables.testBit k = true) (hup : d.phase ≠ .powerUp) (hdown : d.phase ≠ .railsDown) :
    Runs (.railFault k cause vs) d (d.railFaulted k cause vs) :=
  .of_act (fun s => (rfl : execRailFault k cause vs s = _)) hok (if_neg (by simp [hon, hup, hdown]; omega))

section
variable (hphase : d.phase = .railsDown) (hstep : d.railsOn = k)
include hphase hstep

theorem runs_railDischarged : Runs (.railDischarged k false) d (if k = 0 then d else d.railDisable (k - 1)) :=
  .of_act (fun s => (rfl : execRailDischarged k false s = _)) (decide_eq_true hk) (if_neg (by simp [hphase, hstep]))

/-- The discharge took too long: it is recorded where the Logbook has its supply, and counted elsewhere. -/
def Dev.dischargeLate (d : Dev) (k : Nat) : Dev :=
  let e := (d.setF (PWR_RAIL.DIS_TO k) 1).draw
  (if 8000 ≤ e.2.pwr.vsys ∧ 3200 ≤ e.2.pwr.wcap then e.2.railRec k 5 e.1.toNat else e.2.railCount k 2).post0 0x0E6

theorem runs_railDischarged_late : Runs (.railDischarged k true) d
    (if k = 0 then d.dischargeLate k else (d.dischargeLate k).railDisable (k - 1)) := by
  refine .of_act (fun s => (rfl : execRailDischarged k true s = _)) (decide_eq_true hk) ((if_neg (by simp [hphase, hstep])).trans ?_)
  simp only [Dev.dischargeLate, Bool.and_eq_true, decide_eq_true_eq, ge_iff_le, Bool.not_true, Bool.false_eq_true, if_false]

end
end

/-! ### Dormant -/

section
variable {d : Dev}

theorem runs_railsDownComplete : Runs .railsDownComplete d (if d.phase = .railsDown ∧ d.pwr.enables = 0 then d.reachDormant else d) := by
  refine .of_act (fun s => (rfl : execRailsDownComplete s = _)) rfl ?_
  by_cases hdone : d.phase = .railsDown ∧ d.pwr.enables = 0
  · rw [if_pos hdone]
    exact if_neg (by simp [hdone])
  · rw [if_neg hdone]
    refine if_pos ?_
    simp only [Bool.or_eq_true, bne_iff_ne]
    exact Classical.not_and_iff_not_or_not.mp hdone

theorem runs_minimumOffTimeEnd (hphase : d.phase = .dormant) (hoff : d.pwr.minOffEnd ≤ d.wch.ticks) (hlatch : d.f PWR_STAT.ON_LATCH ≠ 0)
    (hlocked : d.pwr.locked = false) : Runs .minimumOffTimeEnd d d.startOption :=
  .of_act (fun s => (rfl : execMinimumOffTimeEnd s = _)) rfl (if_pos (by simp [hphase, hoff, Dev.on, hlatch, hlocked]))

theorem runs_minimumOffTimeEnd_idle
    (hidle : d.phase ≠ .dormant ∨ d.wch.ticks < d.pwr.minOffEnd ∨ d.f PWR_STAT.ON_LATCH = 0 ∨ d.pwr.locked = true) :
    Runs .minimumOffTimeEnd d d := by
  refine .of_act (fun s => (rfl : execMinimumOffTimeEnd s = _)) rfl (if_neg ?_)
  obtain h | h | h | h := hidle <;> simp [Dev.on, h]

theorem runs_orderlyShutdown {step : Nat} (hok : (Instr.orderlyShutdown step).wf = true) :
    Runs (.orderlyShutdown step) d (if d.phase = .shutdown ∧ step = d.pwr.offStep + 1 then d.orderlyStep step else d) :=
  .of_act (fun s => (rfl : execOrderlyShutdown step s = _)) hok (if_congr (by simp) rfl rfl)

end

section
variable {d : Dev}

/-- In Dormant, with its minimum off time until `t`. -/
def Dev.DormantUntil (d : Dev) (t : Nat) : Prop := d.phase = .dormant ∧ d.pwr.minOffEnd = t

section
variable {t : Nat} (h : d.DormantUntil t)
include h

theorem Dev.DormantUntil.setF (F : Fld) (v : Nat) : (d.setF F v).DormantUntil t := by
  obtain ⟨hphase, hoff⟩ := h
  exact ⟨(Dev.setF_phase ..).trans hphase, (congrArg (·.minOffEnd) (Dev.setF_pwr ..)).trans hoff⟩

theorem Dev.DormantUntil.latchOff : d.latchOff.DormantUntil t := ((h.setF ..).setF ..).setF ..

theorem Dev.DormantUntil.latchOn : d.latchOn.DormantUntil t := ((h.setF ..).setF ..).setF ..

theorem Dev.DormantUntil.withSaf (x : Safety) : ({ d with saf := x } : Dev).DormantUntil t := h

end

/-- The minimum off time stands in the supply's state. -/
theorem Dev.DormantUntil.withPwr (hphase : d.phase = .dormant) (w : Watch) (p : Power) :
    ({ d with wch := w, pwr := p } : Dev).DormantUntil p.minOffEnd := ⟨hphase, rfl⟩

theorem Dev.voltReg_phase : d.voltReg.phase = d.phase := by simp [Dev.voltReg]

theorem Dev.voltReg_wch : d.voltReg.wch = d.wch := by simp [Dev.voltReg]

/-- Without a cooling time the minimum off time is 656 ticks. -/
theorem minOff_eq (cool : Nat) : Nat.max 656 (if (0 : Nat) = 1 then 32768 * cool else 0) = 656 := by simp

/-- Without a thermal shut-down before it, Dormant holds 656 ticks. -/
theorem Dev.reachDormant_until (hthermal : d.f THM_STAT.THERMAL = 0) : d.reachDormant.DormantUntil (d.wch.ticks + 656) := by
  have hticks : d.powerOff.voltReg.wch.ticks = d.wch.ticks := congrArg (·.ticks) Dev.voltReg_wch
  have hphase : d.powerOff.voltReg.phase = .dormant := Dev.voltReg_phase
  unfold Dev.reachDormant
  dsimp only
  refine (((((Dev.DormantUntil.withSaf ?_ _).setF ..).setF ..).setF ..).setF ..)
  rw [hthermal, minOff_eq, ← hticks]
  generalize d.powerOff.voltReg = e at hphase
  split
  · exact Dev.DormantUntil.latchOff (.withPwr hphase _ _)
  · split
    · exact Dev.DormantUntil.latchOn (.withPwr hphase _ _)
    · exact .withPwr hphase _ _

end

/-- Settles O47. -/
theorem rails : Obligations.Rails := by
  refine fun k d hk => ⟨runs_railStep hk, runs_railStep_idle hk, fun vs hok hphase hramp => ?done, fun _ => runs_railStepFail hk,
    fun _ _ => runs_railFault, fun hphase hstep => ⟨runs_railDischarged hk hphase hstep, runs_railDischarged_late hk hphase hstep⟩,
    runs_railsDownComplete, Dev.reachDormant_until, runs_minimumOffTimeEnd, runs_minimumOffTimeEnd_idle, fun _ => runs_orderlyShutdown⟩
  exact ⟨runs_railStepDone_fails hok hphase hramp, fun hlow hhigh =>
    ⟨runs_railStepDone_down hok hphase hramp hlow hhigh, runs_railStepDone_up hok hphase hramp hlow hhigh⟩⟩

end Sys2Proof.Machine

/-!
## Settled: the SEQ bus (chapter 14)
-/

namespace Sys2Proof.Machine

/-! ### The slave -/

section
variable {k : Nat} (hok : (Instr.step k).wf = true) {d : Dev}
include hok

theorem runs_step_dormant (hphase : d.phase = .dormant) : Runs (.step k) d (d.seqFrame (k == 1) (fun d =>
    let e : Dev := { d with seqb := { d.seqb with step := Nat.max k d.seqb.step } }
    if e.phase == .dormant then (e.wakePend 6).onRequest else e)) := by
  refine .of_act (fun s => (rfl : execStep k s = _)) hok ?_
  dsimp only
  rw [hphase]

theorem runs_step_admitted (hphase : d.phase = .powerUp) (hslave : d.seqSlave = true) (hfree : d.seqDaLow = false)
    (hone : 1 ≤ k) (hsix : k ≤ 6) (hnext : k ≤ d.railsOn + 1) :
    Runs (.step k) d ({ d.seqAck with seqb := { d.seqAck.seqb with step := Nat.max k d.seqAck.seqb.step } } : Dev) := by
  refine .of_act (fun s => (rfl : execStep k s = _)) hok ?_
  have hack : d.seqAck.phase = .powerUp := hphase
  dsimp only
  rw [hphase, Dev.seqFrame, if_pos (by simp [hslave, hfree, hone, hsix, hnext]), if_neg (by simp [hack])]

theorem runs_step_idle (hdormant : d.phase ≠ .dormant) (hup : d.phase ≠ .powerUp) : Runs (.step k) d d := by
  refine .of_act (fun s => (rfl : execStep k s = _)) hok (if_neg ?_)
  split
  · exact absurd ‹_› hdormant
  · exact absurd ‹_› hup
  · simp

end

section
variable {blk : Nat} {data : List Byte} {crc : Nat} (hok : (Instr.chart blk data crc).wf = true) {d : Dev} (hslave : d.seqSlave = true)
  (hphase : d.phase = .becalmed) (hcause : d.f ORD_CHART.CAUSE = 5)
include hok hslave hphase hcause

section
variable (hblk : blk ≤ 511)
include hblk

theorem runs_chart_badCrc (hcrc : crc16Link data ≠ crc) :
    Runs (.chart blk data crc) d (({ d with seqb := { d.seqb with chartErr := true } } : Dev).cnt SEQ_ERR.CRC_ERR) :=
  .of_act (fun s => (rfl : execChart blk data crc s = _)) hok
    ((if_neg (by simp [hslave, hphase, hcause]; omega)).trans ((if_neg (by omega)).trans (if_pos (by simpa using hcrc))))

/-- A block with its CRC is written to the slot. -/
theorem runs_chart_block (hcrc : crc16Link data = crc) {w : Dev}
    (hwritten : d.lbkWrite (slotSize * d.seqSlot + 256 * blk) data = (true, w)) : Runs (.chart blk data crc) d
      ({ w with chart := { w.chart with written := listSet w.chart.written d.seqSlot true }, seqb := { w.seqb with chartErr := false } } : Dev).seqAck := by
  refine .of_act (fun s => (rfl : execChart blk data crc s = _)) hok
    ((if_neg (by simp [hslave, hphase, hcause]; omega)).trans ((if_neg (by omega)).trans ((if_neg (by simp [hcrc])).trans ?_)))
  dsimp only
  rw [hwritten]
  rfl

end

theorem runs_chart_check (hblk : blk = 0xFFFF) : Runs (.chart blk data crc) d
    (match d.seqAck.chooseChart.1 with
     | some sl => ((({ d.seqAck with seqb := { d.seqAck.seqb with chartErr := false } } : Dev).setF SEQ_STAT.CHART_DONE 1).endBecalmed sl 2)
     | none => { d.seqAck with seqb := { d.seqAck.seqb with chartErr := true } }) :=
  .of_act (fun s => (rfl : execChart blk data crc s = _)) hok ((if_neg (by simp [hslave, hphase, hcause, hblk])).trans (if_pos hblk))

end

section
variable {d : Dev}

theorem runs_lineFlush : Runs .lineFlush d
    (if d.seqDaLow = true ∨ d.phase = .watchOff then d else (d.setF SEQ_STAT.LINE_FLUSH 1).detect 1) :=
  .of_act (fun s => (rfl : execLineFlush s = _)) rfl (if_congr (by simp) rfl rfl)

theorem runs_seqOrphan (hslave : d.seqSlave = true) (hphase : d.phase = .powerUp) (hheard : d.seqb.heard = false)
    (halone : d.seqb.orphaned = false) (hlate : d.seqb.optEnd + 32768 ≤ d.wch.ticks) :
    Runs .seqOrphan d ((({ d with seqb := { d.seqb with orphaned := true } } : Dev).setF SEQ_STAT.ORPHAN 1).post0 0x0EB) :=
  .of_act (fun s => (rfl : execSeqOrphan s = _)) rfl (if_pos (by simp [hslave, hphase, hheard, halone, hlate]))

theorem runs_seqOrphan_idle (hidle : d.seqSlave = false ∨ d.seqb.heard = true ∨ d.wch.ticks < d.seqb.optEnd + 32768) : Runs .seqOrphan d d := by
  refine .of_act (fun s => (rfl : execSeqOrphan s = _)) rfl (if_neg ?_)
  obtain h | h | h := hidle
  · simp [h]
  · simp [h]
  · simp [Nat.not_le.mpr h]

end

/-! ### The master -/

section
variable {addr cmd : Nat} (hok : (Instr.seqNoack addr cmd).wf = true) {d : Dev} (hmaster : d.f SEQ_CFG.MASTER ≠ 0) (haddr : addr ≠ 0)
  (hlives : (d.f SEQ_STAT.FAILED).testBit addr = false)
include hok hmaster haddr hlives

/-- How often the frame has now failed. -/
def Dev.noackCount (d : Dev) (addr cmd : Nat) : Nat :=
  match d.seqb.pending with
  | some (a, c, _) => if a = addr && c = cmd then d.seqb.tries + 1 else 1
  | none => 1

omit hok hmaster haddr hlives in
theorem Dev.noackCount_none (hnone : d.seqb.pending = none) : d.noackCount addr cmd = 1 := by
  rw [Dev.noackCount, hnone]

omit hok hmaster haddr hlives in
theorem Dev.noackCount_some {a c x : Nat} (hsome : d.seqb.pending = some (a, c, x)) :
    d.noackCount addr cmd = if a = addr ∧ c = cmd then d.seqb.tries + 1 else 1 := by
  rw [Dev.noackCount, hsome]
  exact if_congr (by simp) rfl rfl

theorem runs_seqNoack_again {n : Nat} (hcount : d.noackCount addr cmd = n) (hn : n < 4) : Runs (.seqNoack addr cmd) d
    (({ d with seqb := { d.seqb with pending := some (addr, cmd, 0), tries := n } } : Dev).cnt SEQ_ERR.RETRIES) := by
  subst hcount
  exact .of_act (fun s => (rfl : execSeqNoack addr cmd s = _)) hok
    ((if_neg (by simp [Dev.on, hmaster, haddr, hlives])).trans (if_neg (Nat.not_le.mpr hn)))

theorem runs_seqNoack_fails (hn : 4 ≤ d.noackCount addr cmd) : Runs (.seqNoack addr cmd) d (d.seqFail addr) :=
  .of_act (fun s => (rfl : execSeqNoack addr cmd s = _)) hok
    ((if_neg (by simp [Dev.on, hmaster, haddr, hlives])).trans (if_pos hn))

end

section
variable {d : Dev}

theorem runs_seqDiscovery {resp : List (Option Nat)} (hok : (Instr.seqDiscovery resp).wf = true) (hmaster : d.f SEQ_CFG.MASTER ≠ 0)
    (hphase : d.phase = .powerUp) (hrails : d.railsOn = 0) (hstep : d.seqb.step = 0) : Runs (.seqDiscovery resp) d (d.discover resp) :=
  .of_act (fun s => (rfl : execSeqDiscovery resp s = _)) hok (if_neg (by simp [Dev.on, hmaster, hphase, hrails, hstep]))

theorem runs_seqGroupPoll {resp : List (Option Nat)} (hok : (Instr.seqGroupPoll resp).wf = true) (hmaster : d.f SEQ_CFG.MASTER ≠ 0)
    (hphase : d.phase = .powerUp) (hstep : d.seqb.step ≠ 0) : Runs (.seqGroupPoll resp) d (d.pollGroup resp) :=
  .of_act (fun s => (rfl : execSeqGroupPoll resp s = _)) hok (if_neg (by simp [Dev.on, hmaster, hphase, hstep]))

section
variable {by_ addr : Nat} (hmay : d.mayWrite by_ = true)
include hmay

theorem runs_seqCmdFix {arg : Nat} (hok : (Instr.seqCmdFix by_ addr arg).wf = true) :
    Runs (.seqCmdFix by_ addr arg) d (if d.seqMaySend addr then d.seqSend addr 4 arg else d) :=
  .of_act (fun s => (rfl : execSeqCmdFix by_ addr arg s = _)) hok (if_congr (by simp [hmay]) rfl rfl)

theorem runs_seqCmdStatus {resp : Option Nat} (hok : (Instr.seqCmdStatus by_ addr resp).wf = true) :
    Runs (.seqCmdStatus by_ addr resp) d
      (if !d.seqMaySend addr then d
       else if addr = 0xAF then d.seqSend addr 5 0
       else match (generalizing := false) resp with
         | some w => ((d.seqSend addr 5 0).seqResp (addr - 0xA0) w).seqChart (addr - 0xA0) w
         | none => (d.seqSend addr 5 0).seqFail (addr - 0xA0)) := by
  refine .of_act (fun s => (rfl : execSeqCmdStatus by_ addr resp s = _)) hok ?_
  cases hsend : d.seqMaySend addr
  · exact if_neg (by simp)
  · exact (if_pos (by rw [hmay]; rfl)).trans (if_neg (by decide)).symm

end
end

/-- Settles O48. -/
theorem seqBus : Obligations.SeqBus := by
  refine fun d => ⟨fun _ => rfl, fun _ => rfl, fun arg hok => ?fix, fun _ => rfl,
    fun k hok => ⟨runs_step_dormant hok, runs_step_admitted hok, runs_step_idle hok⟩,
    fun blk data crc hok hslave hphase hcause => ⟨runs_chart_badCrc hok hslave hphase hcause, fun hblk hcrc hwritten => ?block,
      runs_chart_check hok hslave hphase hcause⟩,
    runs_lineFlush, runs_seqOrphan, runs_seqOrphan_idle, fun addr cmd hok hmaster haddr hlives => ⟨fun hnone => ?first, fun a c x hsome => ?again⟩,
    fun _ => runs_seqDiscovery, fun _ => runs_seqGroupPoll, fun _ _ _ hok hmay => runs_seqCmdFix hmay hok,
    fun _ _ _ hok hmay => runs_seqCmdStatus hmay hok⟩
  case fix => exact .of_act (fun s => (rfl : execSeqFix arg s = _)) hok rfl
  case block => exact runs_chart_block hok hslave hphase hcause hblk hcrc (Prod.ext hwritten rfl)
  case first => exact runs_seqNoack_again hok hmaster haddr hlives (Dev.noackCount_none hnone) (by decide)
  case again =>
    have hcount := Dev.noackCount_some (addr := addr) (cmd := cmd) hsome
    refine ⟨fun hother => ?other, fun ha hc htries => ?more, fun ha hc htries => ?fails⟩
    case other => exact runs_seqNoack_again hok hmaster haddr hlives (hcount.trans (if_neg (by omega))) (by decide)
    case more => exact runs_seqNoack_again hok hmaster haddr hlives (hcount.trans (if_pos ⟨ha, hc⟩)) (by omega)
    case fails =>
      rw [if_pos ⟨ha, hc⟩] at hcount
      exact runs_seqNoack_fails hok hmaster haddr hlives (by omega)

end Sys2Proof.Machine

/-!
## Settled: the phases of a start (chapter 15)
-/

namespace Sys2Proof.Machine

section
variable {d : Dev}

/-! ### Option load, the reference, the PLLs -/

theorem runs_optionLoad {straps : List Nat} (hok : (Instr.optionLoad straps).wf = true) (hphase : d.phase = .optLoad)
    (hpin : d.wch.resetPin = false) (hboot : straps.getD 0 0 ≠ 3) : Runs (.optionLoad straps) d (d.optionLoad straps) :=
  .of_act (fun s => (rfl : execOptionLoad straps s = _)) hok (if_neg (by
    simp only [hphase, hpin, hboot, bne_self_eq_false, Bool.or_false, decide_false, Bool.false_eq_true, not_false_eq_true]))

theorem runs_optionLoad_idle {straps : List Nat} (hok : (Instr.optionLoad straps).wf = true)
    (hidle : d.phase ≠ .optLoad ∨ d.wch.resetPin = true ∨ straps.getD 0 0 = 3) : Runs (.optionLoad straps) d d := by
  refine .of_act (fun s => (rfl : execOptionLoad straps s = _)) hok (if_pos ?_)
  simp only [Bool.or_eq_true, bne_iff_ne, decide_eq_true_eq]
  tauto

section
variable (hphase : d.phase = .clocks) (href : d.wch.pllRef = false) (usable present : Bool)
include hphase href

/-- What the measurement finds usable as the PLL reference. -/
def Dev.refFound (d : Dev) (usable present : Bool) : Bool := if 2 ≤ d.f CLK_CFG.CLKMODE then present else usable

/-- What is shown of the references. -/
def Dev.refsShown (d : Dev) (usable present : Bool) : Dev := (d.setF CLK_CFG.XF_PRESENT (b2n present)).measureRefs usable present

/-- The PLLs have their reference. -/
def Dev.withRef (d : Dev) : Dev := ({ d with wch := { d.wch with pllRef := true } } : Dev).setF WCH_STAT.NOREF 0

theorem runs_referenceCheck : Runs (.referenceCheck usable present) d
    (if d.refFound usable present then (d.refsShown usable present).withRef
     else if present then (((d.refsShown usable present).setF CLK_STAT.REF_FALLBACK 1).withRef).post0 0x0F2
     else (d.refsShown usable present).setF WCH_STAT.NOREF 1) :=
  .of_act (fun s => (rfl : execReferenceCheck usable present s = _)) rfl (if_neg (by simp [hphase, href]))

theorem runs_referenceCheck_found (hfound : d.refFound usable present = true) :
    Runs (.referenceCheck usable present) d (d.refsShown usable present).withRef :=
  (runs_referenceCheck hphase href usable present).congr (if_pos hfound)

section
variable (hfound : d.refFound usable present = false)
include hfound

theorem runs_referenceCheck_fallback (hpresent : present = true) : Runs (.referenceCheck usable present) d
    ((((d.refsShown usable present).setF CLK_STAT.REF_FALLBACK 1).withRef).post0 0x0F2) :=
  (runs_referenceCheck hphase href usable present).congr ((if_neg (Bool.eq_false_iff.mp hfound)).trans (if_pos hpresent))

theorem runs_referenceCheck_none (hpresent : present = false) :
    Runs (.referenceCheck usable present) d ((d.refsShown usable present).setF WCH_STAT.NOREF 1) :=
  (runs_referenceCheck hphase href usable present).congr
    ((if_neg (Bool.eq_false_iff.mp hfound)).trans (if_neg (Bool.eq_false_iff.mp hpresent)))

end
end

theorem runs_pllLock : Runs .pllLock d
    (if d.phase = .clocks ∧ d.wch.pllRef = true then
      (({ d with phase := .selfTest, wch := { d.wch with pllRef := false } } : Dev).pllLocks 1)
     else d) := by
  refine .of_act (fun s => (rfl : execPllLock s = _)) rfl ?_
  exact (if_congr (by simp [imp_iff_not_or]) rfl rfl).trans (ite_not ..)

theorem runs_builtInSelfTest {fails : Nat} (hok : (Instr.builtInSelfTest fails).wf = true) (hphase : d.phase = .selfTest) :
    Runs (.builtInSelfTest fails) d
      (let found := Nat.land fails startMask
       let e := if found % 2 ^ 26 = 0 then d.setF SAF_LFT.FAIL 0 else d.latentFails found
       if e.noChart then e.becalm else { e with phase := .mediaInit }) :=
  .of_act (fun s => (rfl : execBuiltInSelfTest fails s = _)) hok (if_neg (by simp [hphase]))

/-! ### Media initialisation -/

section
variable (hphase : d.phase = .mediaInit)
include hphase

theorem runs_mediaInitialisation_done (hdone : ∀ n, n < 16 → 2 ≤ d.f (PNT_LINK.STATE n)) :
    Runs .mediaInitialisation d { d with phase := .recovery } := by
  have hnone : ∀ x, x < 2 → (List.range 16).any (fun n => decide (d.f (PNT_LINK.STATE n) = x)) = false := by
    intro x hx
    simp only [List.any_eq_false, List.mem_range, decide_eq_true_eq]
    intro n hn
    have := hdone n hn
    omega
  exact .of_act (fun s => (rfl : execMediaInitialisation s = _)) rfl ((if_neg (by simp [hphase])).trans
    ((if_neg (Bool.eq_false_iff.mp (hnone 0 (by decide)))).trans (if_neg (Bool.eq_false_iff.mp (hnone 1 (by decide))))))

theorem runs_mediaInitialisation_begins (hnew : ∃ n, n < 16 ∧ d.f (PNT_LINK.STATE n) = 0) : Runs .mediaInitialisation d
    ((List.range 16).foldl (fun e n => if e.f (PNT_LINK.STATE n) = 0 then e.setF (PNT_LINK.STATE n) 1 else e) d) :=
  .of_act (fun s => (rfl : execMediaInitialisation s = _)) rfl
    ((if_neg (by simp [hphase])).trans (if_pos (by simpa only [List.any_eq_true, List.mem_range, decide_eq_true_eq] using hnew)))

theorem runs_mediaInitialisation_trains (hnone : ∀ n, n < 16 → d.f (PNT_LINK.STATE n) ≠ 0) (htrains : ∃ n, n < 16 ∧ d.f (PNT_LINK.STATE n) = 1) :
    Runs .mediaInitialisation d d :=
  .of_act (fun s => (rfl : execMediaInitialisation s = _)) rfl ((if_neg (by simp [hphase])).trans
    ((if_neg (by simpa only [List.any_eq_true, List.mem_range, decide_eq_true_eq, not_exists, not_and] using hnone)).trans
      (if_pos (by simpa only [List.any_eq_true, List.mem_range, decide_eq_true_eq] using htrains))))

end

/-! ### Recovery, the Chart, Active -/

theorem runs_recovery {ev : RecEnv} (hok : (Instr.recovery ev).wf = true) :
    Runs (.recovery ev) d (if d.phase = .recovery then d.recoverNow ev else d) := by
  refine .of_act (fun s => (rfl : execRecovery ev s = _)) hok ?_
  exact (if_congr (by simp) rfl rfl).trans (ite_not ..)

theorem runs_chartApply (hphase : d.phase = .chart) :
    Runs .chartApply d (match d.chart.slot with | some sl => d.applyChart sl | none => d) :=
  .of_act (fun s => (rfl : execChartApply s = _)) rfl (if_neg (by simp [hphase]))

theorem runs_activeReached {p : Nat} (hp : p < 2) :
    Runs (.activeReached p) d (if d.phase = .linkTrain ∧ d.inL0 p = true then d.goActive false else d) :=
  .of_act (fun s => (rfl : execActiveReached p s = _)) (decide_eq_true hp) (if_congr (by simp) rfl rfl)

theorem runs_noLinkTimeout (hphase : d.phase = .linkTrain) (hzero : d.inL0 0 = false) (hone : d.inL0 1 = false)
    (hlate : d.wch.linkWaitFrom + secUnits 1 ≤ d.time) : Runs .noLinkTimeout d (d.goActive true) :=
  .of_act (fun s => (rfl : execNoLinkTimeout s = _)) rfl (if_pos (by simp [hphase, hzero, hone, hlate]))

theorem runs_noLinkTimeout_idle
    (hidle : d.phase ≠ .linkTrain ∨ d.inL0 0 = true ∨ d.inL0 1 = true ∨ d.time < d.wch.linkWaitFrom + secUnits 1) :
    Runs .noLinkTimeout d d := by
  refine .of_act (fun s => (rfl : execNoLinkTimeout s = _)) rfl (if_neg ?_)
  obtain h | h | h | h := hidle
  · simp [h]
  · simp [h]
  · simp [h]
  · simp [Nat.not_le.mpr h]

end

/-- Settles O50. -/
theorem starts : Obligations.Starts :=
  fun _ => ⟨fun _ hok => ⟨runs_optionLoad hok, runs_optionLoad_idle hok⟩,
    fun usable present hphase href => ⟨runs_referenceCheck_found hphase href usable present,
      runs_referenceCheck_fallback hphase href usable present, runs_referenceCheck_none hphase href usable present⟩,
    runs_pllLock, fun _ => runs_builtInSelfTest,
    fun hphase => ⟨runs_mediaInitialisation_done hphase, runs_mediaInitialisation_begins hphase, runs_mediaInitialisation_trains hphase⟩,
    fun _ => runs_recovery, runs_chartApply, fun _ => runs_activeReached, runs_noLinkTimeout, runs_noLinkTimeout_idle⟩

end Sys2Proof.Machine

/-!
## Settled: temperatures and the log-line inputs (chapter 18)
-/

namespace Sys2Proof.Machine

section
variable {d : Dev}

/-! ### Temperatures -/

theorem runs_sensorRead {kind i : Nat} {v : Option Nat} (hok : (Instr.sensorRead kind i v).wf = true) : Runs (.sensorRead kind i v) d
    (if kind = 0 then d.readMedia i v else if kind = 1 then d.readCtrl i v else d.readAux i v) := by
  refine .of_act (fun s => (rfl : execSensorRead kind i v s = _)) hok ?_
  match kind with
  | 0 => rfl
  | 1 => rfl
  | _ + 2 => rfl

/-- The readings of the last 10 ms have been taken. -/
def Dev.evaluated (d : Dev) : Dev :=
  { d with thm := { d.thm with evalAt := d.time, media := d.thm.media.map (fun (x : Sensor) => { x with sum := 0, cnt := 0 }) } }

theorem runs_thermalEvaluation (hsensed : d.mediaSensed = true) (hdue : d.thm.evalAt + msUnits 10 ≤ d.time) : Runs .thermalEvaluation d
    (match d.hotMean with | some h => d.evaluated.hotFormed h.1 h.2.1 h.2.2 | none => d.evaluated) := by
  refine .of_act (fun s => (rfl : execThermalEvaluation s = _)) rfl ((if_neg (by simp [hsensed, Nat.not_lt.mpr hdue])).trans ?_)
  dsimp only
  cases d.hotMean <;> rfl

theorem runs_thermalEvaluation_idle (hidle : d.mediaSensed = false ∨ d.time < d.thm.evalAt + msUnits 10) : Runs .thermalEvaluation d d := by
  refine .of_act (fun s => (rfl : execThermalEvaluation s = _)) rfl (if_pos ?_)
  obtain h | h := hidle <;> simp [h]

theorem runs_criticalTimeout {t : Nat} (hfrom : d.thm.critFrom = some t) (hsensed : d.mediaSensed = true) (hcrit : d.f THM_STAT.CRIT ≠ 0) :
    Runs .criticalTimeout d
      (if t + secUnits (Nat.max 1 (d.f THM_CTL.CRIT_S)) ≤ d.time then (d.setF THM_STAT.THERMAL 1).offRequest false else d) := by
  refine .of_act (fun s => (rfl : execCriticalTimeout s = _)) rfl ?_
  rw [hfrom]
  exact if_congr (by simp [hsensed, Dev.on, hcrit]) rfl rfl

theorem runs_criticalTimeout_idle (hidle : d.thm.critFrom = none ∨ d.mediaSensed = false ∨ d.f THM_STAT.CRIT = 0) : Runs .criticalTimeout d d := by
  refine .of_act (fun s => (rfl : execCriticalTimeout s = _)) rfl ?_
  cases hfrom : d.thm.critFrom with
  | none => rfl
  | some t =>
    refine if_neg ?_
    obtain h | h | h := hidle
    · exact absurd (hfrom.symm.trans h) (by simp)
    · simp [h]
    · simp [Dev.on, h]

theorem runs_coolDownEnd (hphase : d.phase = .dormant) (hthermal : d.f THM_STAT.THERMAL ≠ 0) (hoff : d.pwr.minOffEnd ≤ d.wch.ticks)
    (hlatch : d.f PWR_STAT.ON_LATCH ≠ 0) (hlocked : d.pwr.locked = false) : Runs .coolDownEnd d d.startOption :=
  .of_act (fun s => (rfl : execCoolDownEnd s = _)) rfl (if_pos (by simp [hphase, Dev.on, hthermal, hoff, hlatch, hlocked]))

theorem runs_coolDownEnd_idle (hidle : d.phase ≠ .dormant ∨ d.f THM_STAT.THERMAL = 0 ∨ d.wch.ticks < d.pwr.minOffEnd) : Runs .coolDownEnd d d := by
  refine .of_act (fun s => (rfl : execCoolDownEnd s = _)) rfl (if_neg ?_)
  obtain h | h | h := hidle
  · simp [h]
  · simp [Dev.on, h]
  · simp [Nat.not_le.mpr h]

/-! ### The log-line inputs -/

section
variable {i code : Nat} {clip : Bool} (hok : (Instr.llSample i code clip).wf = true)
include hok

theorem runs_llSample (hsensed : d.llSensed = true) (hen : d.llOn i (LLN_CH.EN 0) = true)
    (htaken : d.mLogline = false ∨ d.llOn i (LLN_CH.SAMPLE 0) = true ∨ d.phase = .doze) :
    Runs (.llSample i code clip) d (d.llTake i code clip (d.llOn i (LLN_CH.SAMPLE 0))) := by
  refine .of_act (fun s => (rfl : execLlSample i code clip s = _)) hok (if_neg ?_)
  obtain h | h | h := htaken <;> simp [hsensed, hen, h]

theorem runs_llSample_idle (hidle : d.llSensed = false ∨ d.llOn i (LLN_CH.EN 0) = false) : Runs (.llSample i code clip) d d := by
  refine .of_act (fun s => (rfl : execLlSample i code clip s = _)) hok (if_pos ?_)
  obtain h | h := hidle <;> simp [h]

end

section
variable {i : Nat} (hi : i < 8)
include hi

theorem runs_llWindowExcursion (hmode : d.mLogline = false) (hen : d.f (LLN_CH.EN i) ≠ 0) (hcnt : 8 ≤ d.ll.winCnt.getD i 0)
    (hnew : d.ll.winOut.getD i false = false) : Runs (.llWindowExcursion i) d
      (let e : Dev := { d with ll := { d.ll with winOut := listSet d.ll.winOut i true } }
       (e.orF LLN_STAT.WIN (2 ^ i)).post { code := 0x12B, detail := thmDetail i (e.f (LLN_VAL.CODE i)) }) :=
  .of_act (fun s => (rfl : execLlWindowExcursion i s = _)) (decide_eq_true hi)
    (if_neg (by rw [hmode, hnew, decide_eq_false (Nat.not_lt.mpr hcnt)]; simp [Dev.on, hen]))

theorem runs_llWindowExcursion_idle (hidle : d.mLogline = true ∨ d.ll.winCnt.getD i 0 < 8 ∨ d.ll.winOut.getD i false = true) :
    Runs (.llWindowExcursion i) d d := by
  refine .of_act (fun s => (rfl : execLlWindowExcursion i s = _)) (decide_eq_true hi) (if_pos ?_)
  simp only [Bool.or_eq_true, decide_eq_true_eq]
  tauto

end

section
variable {i since : Nat} {level : Bool} (hok : (Instr.llEdge i level since).wf = true)
include hok

theorem runs_llEdge (hmode : d.mLogline = true) (hsensed : d.llSensed = true) (hen : d.llOn i (LLN_CH.EN 0) = true)
    (hedge : d.llOn i (LLN_CH.EDGE 0) = true) (hnew : d.f (LLN_VAL.LEVEL i) ≠ b2n level) (hheld : since + usUnits (d.llF i (LLN_CH.DEB 0)) ≤ d.time) :
    Runs (.llEdge i level since) d
      (let e := d.setF (LLN_VAL.LEVEL i) (b2n level)
       if edgeWanted (e.llF i (LLN_CH.EDGE 0)) level then e.llEdgeTaken i level since else e) := by
  refine .of_act (fun s => (rfl : execLlEdge i level since s = _)) hok ((if_neg ?_).trans ?_)
  · simp [hmode, hsensed, hen, hedge, hnew, Nat.not_lt.mpr hheld]
  · exact (if_congr (by simp) rfl rfl).trans (ite_not ..)

theorem runs_llEdge_idle (hidle : d.mLogline = false ∨ d.f (LLN_VAL.LEVEL i) = b2n level ∨ d.time < since + usUnits (d.llF i (LLN_CH.DEB 0))) :
    Runs (.llEdge i level since) d d := by
  refine .of_act (fun s => (rfl : execLlEdge i level since s = _)) hok (if_pos ?_)
  obtain h | h | h := hidle <;> simp [h]

end

section
variable (hphase : d.phase = .active ∨ d.phase = .dozeEntry ∨ d.phase = .shutdown)
include hphase

/-- The first record of a frame has waited CLOSE ms. -/
def Dev.frameDue (d : Dev) : Prop := d.ll.recs ≠ [] ∧ d.ll.frameFrom + msUnits (Nat.max 1 (d.f LLN_CTL.CLOSE)) ≤ d.time

theorem runs_llFrameClose {t : Dev}
    (ht : (if !d.ll.recs.isEmpty && d.ll.frameFrom + msUnits (Nat.max 1 (d.f LLN_CTL.CLOSE)) ≤ d.time then d.llTimeout else d) = t) :
    Runs .llFrameClose d (t.llSend 16).llGap := by
  subst ht
  refine .of_act (fun s => (rfl : execLlFrameClose s = _)) rfl ?_
  dsimp only
  obtain h | h | h := hphase <;> rw [h]

theorem runs_llFrameClose_due (hdue : d.frameDue) : Runs .llFrameClose d (d.llTimeout.llSend 16).llGap :=
  runs_llFrameClose hphase (if_pos (by simpa [Dev.frameDue] using hdue))

theorem runs_llFrameClose_early (hdue : ¬ d.frameDue) : Runs .llFrameClose d (d.llSend 16).llGap :=
  runs_llFrameClose hphase (if_neg (by simpa [Dev.frameDue] using hdue))

end

section
variable {i since : Nat} {active : Bool} (hok : (Instr.llLevelWake i active since).wf = true)
include hok

/-- A level that has been held acts by the phase. -/
theorem runs_llLevelWake (hheld : since + d.f WCH_LLWAKE.DEB ≤ d.wch.ticks) (hen : (d.f WCH_LLWAKE.EN).testBit i = true) {t : Dev}
    (ht : (if active then (match d.phase with | .dormant | .doze => d.wake 4 false | _ => d)
      else if (d.f WCH_LLWAKE.OFFREQ).testBit i then (match d.phase with | .active | .doze | .dozeEntry => d.offRequest false | _ => d)
      else d) = t) : Runs (.llLevelWake i active since) d t := by
  refine .of_act (fun s => (rfl : execLlLevelWake i active since s = _)) hok ((if_neg ?_).trans ht)
  simp only [Dev.held, hheld, hen, decide_true, Bool.not_true, Bool.or_self, Bool.false_eq_true, not_false_eq_true]

theorem runs_llLevelWake_idle (hidle : d.wch.ticks < since + d.f WCH_LLWAKE.DEB ∨ (d.f WCH_LLWAKE.EN).testBit i = false) :
    Runs (.llLevelWake i active since) d d := by
  refine .of_act (fun s => (rfl : execLlLevelWake i active since s = _)) hok (if_pos ?_)
  obtain h | h := hidle
  · simp [Dev.held, Nat.not_le.mpr h]
  · simp [h]

end
end

/-- Settles O53. -/
theorem sensing : Obligations.Sensing := by
  refine ⟨fun d => ⟨fun _ _ _ => runs_sensorRead, runs_thermalEvaluation, runs_thermalEvaluation_idle, fun _ => runs_criticalTimeout,
    runs_criticalTimeout_idle, runs_coolDownEnd, runs_coolDownEnd_idle⟩,
    fun i d hi => ⟨fun _ _ hok => ⟨runs_llSample hok, runs_llSample_idle hok⟩, runs_llWindowExcursion hi, runs_llWindowExcursion_idle hi,
      fun _ _ hok => ⟨runs_llEdge hok, runs_llEdge_idle hok⟩, fun hphase => ⟨runs_llFrameClose_due hphase, runs_llFrameClose_early hphase⟩,
      ?check, fun active since hok => ⟨fun hheld hen => ⟨fun hphase => ?dormant, fun hphase => ?active, fun hphase => ?doze⟩,
        runs_llLevelWake_idle hok⟩⟩⟩
  case check => exact .of_act (fun s => (rfl : execLlStreamCheck s = _)) rfl (if_congr (by simp) rfl rfl)
  case dormant =>
    refine runs_llLevelWake hok hheld hen ?_
    rw [hphase]
    exact if_congr Iff.rfl rfl (ite_self _)
  case active =>
    refine runs_llLevelWake hok hheld hen ?_
    rw [hphase]
    cases active
    · exact (if_neg (by decide)).trans (if_congr (by simp) rfl rfl)
    · rfl
  case doze =>
    refine runs_llLevelWake hok hheld hen ?_
    rw [hphase]

end Sys2Proof.Machine

/-!
## Settled: logs and counters (chapter 17)
-/

namespace Sys2Proof.Machine

/-! ### What the report of a Logbook event leaves as it was -/

/-- A view of the device that the registers, the messages sent, the hosts' logs, the I3C target, the deck log and the events kept for the next
start do not enter. -/
structure Dev.Unlogged {α : Type} (q : Dev → α) : Prop where
  setF : ∀ e F v, q (Dev.setF e F v) = q e
  send : ∀ e m, q (Dev.send e m) = q e
  head : ∀ e p f, q (Dev.modHead e p f) = q e
  i3c : ∀ (e : Dev) k, q { e with i3c := k } = q e
  deck : ∀ (e : Dev) k, q { e with deck := k } = q e
  pwr : ∀ (e : Dev) k, q { e with pwr := k } = q e

section
variable {α : Type} {q : Dev → α} (hq : Dev.Unlogged q) (d : Dev)
include hq

theorem Dev.Unlogged.raise (p v : Nat) : q (d.raise p v) = q d :=
  (Dev.raise_frame q p v hq.send (fun _ _ _ => hq.head _ _ _) hq.i3c d).trans (hq.setF ..)

theorem Dev.Unlogged.tally (code unit_ n : Nat) : q (d.tally code unit_ n) = q d := Dev.tally_frame q hq.setF hq.deck d code unit_ n

theorem Dev.Unlogged.deckPush (r : DeckRec) : q (d.deckPush r) = q d := by
  obtain h | ⟨-, h⟩ | h := d.deckPush_cases r
  · exact (congrArg q h).trans (hq.setF ..)
  · exact (congrArg q h).trans (hq.deck ..)
  · exact (congrArg q h).trans ((hq.deck ..).trans (hq.setF ..))

theorem Dev.Unlogged.logTo (p log : Nat) (r : CxlRec) : q (d.logTo p log r) = q d := by
  unfold Dev.logTo
  dsimp only
  split
  · exact (hq.raise ..).trans (hq.head ..)
  · exact hq.head ..

/-- An event that is no detection and raises no Fix. -/
theorem Dev.Unlogged.post0 {code : Nat}
    (hplain : dangerCodes.contains code = false ∧ escCodes.contains code = false ∧ (decide (0x100 ≤ code) && decide (code ≤ 0x107)) = false) :
    q (d.post0 code) = q d := by
  obtain ⟨hdanger, hesc, hsafety⟩ := hplain
  unfold Dev.post0 Dev.post
  split
  · exact hq.pwr ..
  · simp only [hdanger, hesc, hsafety, Bool.false_eq_true, if_false]
    unfold Dev.postRaw Dev.postAs Dev.logBoth
    dsimp only
    have hlogged : ∀ (x : DeckRec) (log : Nat) (r : CxlRec), q ((((d.deckPush x).logTo 0 log r).logTo 1 log r).tally 0x89 0 1) = q d := by
      intro x log r
      rw [hq.tally, hq.logTo, hq.logTo, hq.deckPush]
    split
    · exact (hq.deck ..).trans (hlogged ..)
    · exact hlogged ..

/-- A refused Logbook write. -/
theorem Dev.Unlogged.refused : q ((d.cnt LBK_STAT.REFUSED).post0 0x112) = q d := (hq.post0 _ (by decide)).trans (hq.setF ..)

/-- A completed intent. -/
theorem Dev.Unlogged.intentDone : q ((d.cnt LBK_STAT.INTENTS).post0 0x113) = q d := (hq.post0 _ (by decide)).trans (hq.setF ..)

/-- A Logbook write leaves as it was what the Logbook's bytes do not enter either. -/
theorem Dev.Unlogged.lbkWrite (hlbk : ∀ (e : Dev) m, q { e with lbk := m } = q e) (addr : Nat) (bs : List (BitVec 8)) :
    q (d.lbkWrite addr bs).2 = q d :=
  Dev.lbkWrite_keeps (fun e => q e = q d) rfl (hq.refused d) (fun _ => hlbk ..) (fun _ _ he => (hq.setF ..).trans he)
    (fun _ _ he => (hq.tally ..).trans he) addr bs

/-- And so does a counter of the Logbook. -/
theorem Dev.Unlogged.lbkSetCounter (hlbk : ∀ (e : Dev) m, q { e with lbk := m } = q e) (off n v : Nat) : q (d.lbkSetCounter off n v) = q d :=
  Dev.lbkSetCounter_keeps (fun e => q e = q d) (fun e _ _ he => (hq.lbkWrite e hlbk _ _).trans he)
    (fun e he => (hq.intentDone e).trans he) rfl off n v

end

theorem Dev.unlogged_lbk : Dev.Unlogged (·.lbk) := ⟨Dev.setF_lbk, fun _ _ => rfl, fun _ _ _ => rfl, fun _ _ => rfl, fun _ _ => rfl, fun _ _ => rfl⟩

theorem Dev.unlogged_sectors : Dev.Unlogged (·.sectors) :=
  ⟨Dev.setF_sectors, fun _ _ => rfl, fun _ _ _ => rfl, fun _ _ => rfl, fun _ _ => rfl, fun _ _ => rfl⟩

theorem Dev.unlogged_opSec : Dev.Unlogged (·.opSec) :=
  ⟨Dev.setF_opSec, fun _ _ => rfl, fun _ _ _ => rfl, fun _ _ => rfl, fun _ _ => rfl, fun _ _ => rfl⟩

theorem Dev.unlogged_wch : Dev.Unlogged (·.wch) :=
  ⟨Dev.setF_wch, fun _ _ => rfl, fun _ _ _ => rfl, fun _ _ => rfl, fun _ _ => rfl, fun _ _ => rfl⟩

/-! ### Logbook segments -/

/-- An area of the Logbook ends behind each of its pages. -/
theorem lbkAreaEnd_after : ∀ page, page < 4096 → page + 1 ≤ lbkAreaEnd page := by
  intro page hpage
  unfold lbkAreaEnd
  obtain ⟨e, he⟩ : ∃ e, [512, 1024, 1536, 2560, 2688, 2704, 2720, 3744, 4095, 4096].find? (fun e => page < e) = some e :=
    Option.isSome_iff_exists.mp (List.find?_isSome.mpr ⟨4096, by simp, by simpa using hpage⟩)
  rw [he]
  simpa using List.find?_some he

section
variable {d : Dev} {addr : Nat} {bs : List (BitVec 8)}

/-- With its supply a write within its area is made. -/
theorem Dev.lbkWrite_lbk (harea : addr + bs.length ≤ 256 * lbkAreaEnd (addr / 256)) (hvsys : 8000 ≤ d.pwr.vsys) (hwcap : 3200 ≤ d.pwr.wcap) :
    (d.lbkWrite addr bs).2.lbk = Machine.memWrite d.lbk addr bs := by
  unfold Dev.lbkWrite
  rw [if_neg (Nat.not_lt.mpr harea), if_neg (by simp [Nat.not_lt.mpr hvsys, Nat.not_lt.mpr hwcap])]
  exact (Dev.tally_lbk ..).trans (Dev.cnt_lbk ..)

/-- Without it the write is refused. -/
theorem Dev.lbkWrite_refused (hsupply : d.pwr.vsys < 8000 ∨ d.pwr.wcap < 3200) :
    (d.lbkWrite addr bs).2.lbk = d.lbk ∧ (d.lbkWrite addr bs).2.sectors = d.sectors := by
  unfold Dev.lbkWrite
  split
  · exact ⟨rfl, rfl⟩
  · rw [if_pos (by simpa using hsupply)]
    exact ⟨Dev.unlogged_lbk.refused d, Dev.unlogged_sectors.refused d⟩

end

section
variable {d : Dev} {addr : Nat} {data : List Byte} (hok : (Instr.logbookSegmentWrite addr data).wf = true) (hon : d.phase ≠ .watchOff)
  (hdata : data ≠ []) (hpage : addr % 256 + data.length ≤ 256) (hsegment : d.segmentPage (addr / 256) = true)
include hok hon hdata hpage hsegment

theorem runs_logbookSegmentWrite : Runs (.logbookSegmentWrite addr data) d (d.lbkWrite addr data).2 :=
  .of_act (fun s => (rfl : execLogbookSegmentWrite addr data s = _)) hok (if_neg (by simp [hon, hdata, hpage, hsegment]))

omit hon hdata hsegment in
/-- A segment lies in its area. -/
theorem segment_inArea : addr + data.length ≤ 256 * lbkAreaEnd (addr / 256) := by
  have haddr : addr < 2 ^ 20 := by
    simp only [Instr.wf, okLogbookSegmentWrite, Bool.and_eq_true, decide_eq_true_eq] at hok
    exact hok.1
  have hend := lbkAreaEnd_after (addr / 256) (by omega)
  omega

end

/-! ### Tally dumps -/

section
variable {d : Dev}

/-- The dumps up to now are counted as due. -/
def Dev.dumpsDue (d : Dev) : Dev :=
  { d with deck := { d.deck with tallyLast := Nat.max (d.deck.tallyLast + 1) ((d.time - d.deck.tallyFrom) / msUnits d.tallyPeriod) } }

/-- A dump is missed. -/
def Dev.dumpMissed (d : Dev) : Dev := { d.cnt TAL_STAT.MISSED with deck := { d.deck with tallyMiss := d.deck.tallyMiss + 1 } }

theorem Dev.withDeck_phase (e : Dev) (k : Deck) : ({ e with deck := k } : Dev).phase = e.phase := rfl

theorem Dev.withDeck_wch (e : Dev) (k : Deck) : ({ e with deck := k } : Dev).wch = e.wch := rfl

theorem Dev.dumpsDue_phase : d.dumpsDue.phase = d.phase := Dev.withDeck_phase ..

theorem Dev.dumpsDue_wch : d.dumpsDue.wch = d.wch := Dev.withDeck_wch ..

/-- What the phase makes of a dump that is due. -/
def Dev.dumpTurn (d : Dev) : Dev :=
  match d.phase with
  | .doze => d.dumpMissed
  | .selfTest | .mediaInit | .recovery | .chart | .linkTrain | .becalmed | .active | .dozeEntry | .shutdown =>
    if d.wch.gated then d.dumpMissed else d.tallyDump
  | _ => d

theorem Dev.dumpTurn_dumps (hphase : d.phase = .active) (hclocks : d.wch.gated = false) : d.dumpTurn = d.tallyDump := by
  unfold Dev.dumpTurn
  rw [hphase]
  exact if_neg (Bool.eq_false_iff.mp hclocks)

theorem Dev.dumpTurn_missed (hoff : d.phase = .doze ∨ (d.phase = .active ∧ d.wch.gated = true)) : d.dumpTurn = d.dumpMissed := by
  unfold Dev.dumpTurn
  obtain hphase | ⟨hphase, hclocks⟩ := hoff
  · rw [hphase]
  · rw [hphase]
    exact if_pos hclocks

theorem runs_tallyDump_idle (hidle : d.tallyPeriod = 0 ∨ d.time < d.deck.tallyFrom + msUnits ((d.deck.tallyLast + 1) * d.tallyPeriod)) :
    Runs .tallyDump d d :=
  .of_act (fun s => (rfl : execTallyDump s = _)) rfl (if_pos (by simpa only [Bool.or_eq_true, decide_eq_true_eq] using hidle))

section
variable (hperiod : d.tallyPeriod ≠ 0) (hdue : d.deck.tallyFrom + msUnits ((d.deck.tallyLast + 1) * d.tallyPeriod) ≤ d.time)
include hperiod hdue

theorem tallyDump_due : ¬ (decide (d.tallyPeriod = 0) || decide (d.time < d.deck.tallyFrom + msUnits ((d.deck.tallyLast + 1) * d.tallyPeriod))) = true := by
  simp only [Bool.or_eq_true, decide_eq_true_eq]
  omega

theorem runs_tallyDump_turn : Runs .tallyDump d d.dumpsDue.dumpTurn :=
  .of_act (fun s => (rfl : execTallyDump s = _)) rfl (if_neg (tallyDump_due hperiod hdue))

theorem runs_tallyDump (hphase : d.phase = .active) (hclocks : d.wch.gated = false) : Runs .tallyDump d d.dumpsDue.tallyDump :=
  (runs_tallyDump_turn hperiod hdue).congr (Dev.dumpTurn_dumps (Dev.dumpsDue_phase.trans hphase) ((congrArg (·.gated) Dev.dumpsDue_wch).trans hclocks))

theorem runs_tallyDump_missed (hoff : d.phase = .doze ∨ (d.phase = .active ∧ d.wch.gated = true)) : Runs .tallyDump d d.dumpsDue.dumpMissed :=
  (runs_tallyDump_turn hperiod hdue).congr (Dev.dumpTurn_missed (by rwa [Dev.dumpsDue_phase, Dev.dumpsDue_wch]))

end

/-! ### Operating seconds -/

section
variable (hon : d.phase ≠ .watchOff) (hawake : d.phase ≠ .dormant) (hsecond : secUnits (d.wch.opSecs + 1) ≤ d.time)
include hon hawake hsecond

/-- A second has ended. -/
def Dev.secondEnded (d : Dev) : Dev := { d with wch := { d.wch with opSecs := d.wch.opSecs + 1 } }

theorem operatingSecond_due : ¬ (d.phase == .watchOff || d.phase == .dormant || decide (d.time < secUnits (d.wch.opSecs + 1))) = true := by
  simp [hon, hawake, Nat.not_lt.mpr hsecond]

theorem runs_operatingSecond_unpowered (hstep : d.pwr.enables.testBit 0 = false) : Runs .operatingSecond d d.secondEnded :=
  .of_act (fun s => (rfl : execOperatingSecond s = _)) rfl
    ((if_neg (operatingSecond_due hon hawake hsecond)).trans (if_pos (by rw [hstep]; rfl)))

/-- The operating seconds count, with the test that they make due. -/
def Dev.secondCountedAs (d : Dev) (n : Nat) : Dev := { d with opSec := n, saf := { d.saf with lftDue := d.saf.lftDue || n % 3600 == 0 } }

theorem runs_operatingSecond (hstep : d.pwr.enables.testBit 0 = true) : Runs .operatingSecond d
    ((d.secondEnded.secondCountedAs ((d.opSec + 1) % 2 ^ 40)).lbkSetCounter 32 5 ((d.opSec + 1) % 2 ^ 40)) :=
  .of_act (fun s => (rfl : execOperatingSecond s = _)) rfl
    ((if_neg (operatingSecond_due hon hawake hsecond)).trans (if_neg (by rw [hstep]; decide)))

end

theorem runs_operatingSecond_idle (hidle : d.phase = .watchOff ∨ d.phase = .dormant ∨ d.time < secUnits (d.wch.opSecs + 1)) :
    Runs .operatingSecond d d := by
  refine .of_act (fun s => (rfl : execOperatingSecond s = _)) rfl (if_pos ?_)
  obtain h | h | h := hidle <;> simp [h]

end

/-- Settles O52. -/
theorem logsAndCounters : Obligations.LogsAndCounters := by
  refine fun d => ⟨fun _ => rfl, fun cause hok => ?flush, runs_tallyDump_idle,
    fun hperiod hdue => ⟨runs_tallyDump hperiod hdue, runs_tallyDump_missed hperiod hdue⟩,
    fun addr data hok hon hdata hpage hsegment hwf => ⟨fun hvsys hwcap => ?written, fun hsupply => ?refused⟩,
    fun hon hawake hsecond => ⟨fun hstep => ?counts, runs_operatingSecond_unpowered hon hawake hsecond⟩, runs_operatingSecond_idle⟩
  case flush => exact .of_act (fun s => (rfl : execDeckLogFlush cause s = _)) hok (if_congr (by simp) rfl rfl)
  case written =>
    refine ⟨_, runs_logbookSegmentWrite hok hon hdata hpage hsegment, ?_⟩
    beta_reduce
    rw [Dev.lbkWrite_lbk (segment_inArea hok hpage) hvsys hwcap]
    exact ⟨memRead_memWrite hwf addr data, memGet_memWrite_out data d.lbk addr⟩
  case refused => exact ⟨_, runs_logbookSegmentWrite hok hon hdata hpage hsegment, Dev.lbkWrite_refused hsupply⟩
  case counts =>
    exact ⟨_, runs_operatingSecond hon hawake hsecond hstep, Dev.unlogged_opSec.lbkSetCounter _ (fun _ _ => rfl) ..,
      congrArg (·.opSecs) (Dev.unlogged_wch.lbkSetCounter _ (fun _ _ => rfl) ..)⟩

end Sys2Proof.Machine

/-!
## Settled: the vendor mailbox commands (chapter 09)
-/

namespace Sys2Proof.Machine

/-! ### A vendor command, by the length of its input and by its gate -/

section
variable {c : Instr} {ok : Bool} {h op n rc : Nat} {inp b : List (BitVec 8)} {f : Dev → Nat × List (BitVec 8) × Dev} {d d' : Dev}

section
variable (hc : ∀ s, exec c s = act ok s (fun d => d.vendor h op n inp f)) (hok : ok = true) (hserves : d.serves h op = true) (hlen : inp.length = n)
include hc hok hserves hlen

theorem runs_vendor_gives (hf : f d.touch = (rcSuccess, b, d')) : Runs c d (d'.reply h op rcSuccess b) :=
  runs_mailbox_gives hc hok hserves ((if_pos hlen).trans hf)

theorem runs_vendor_ends (hf : f d.touch = (rc, [], d')) : Runs c d (d'.reply h op rc []) :=
  runs_mailbox_ends hc hok hserves ((if_pos hlen).trans hf)

end

/-- A command answers an input of another length by its code, its gate's code where one turns it away, and nothing where it is not reached. -/
def TurnedAway (c : Instr) (h op n : Nat) (inp : List (BitVec 8)) (d : Dev) : Prop :=
  (d.serves h op = true → inp.length ≠ n → Runs c d (d.touch.reply h op rcLength [])) ∧
  (∀ rc, d.mboxOn h = true → d.mboxGate op = some rc → Runs c d (d.reply h op rc [])) ∧ (d.mboxOn h = false → Runs c d d)

theorem turnedAway_of_mailbox (hc : ∀ s, exec c s = act ok s (fun d => d.mailbox h op f)) (hok : ok = true)
    (hf : inp.length ≠ n → f d.touch = (rcLength, [], d.touch)) : TurnedAway c h op n inp d :=
  ⟨fun hserves hlen => runs_mailbox_ends hc hok hserves (hf hlen), fun _ hon hgate => .of_act hc hok (Dev.mailbox_gate hon hgate f),
    fun hoff => .of_act hc hok (Dev.mailbox_off hoff op f)⟩

theorem turnedAway_of_vendor (hc : ∀ s, exec c s = act ok s (fun d => d.vendor h op n inp f)) (hok : ok = true) : TurnedAway c h op n inp d :=
  turnedAway_of_mailbox hc hok (fun hlen => if_neg hlen)

end

/-! ### Reads -/

section
variable {h : Nat} {inp : List (BitVec 8)} {d : Dev}

section
variable (hok : (Instr.readSealRecord h inp).wf = true) (hserves : d.serves h 0xC034 = true) (hlen : inp.length = 8)
include hok hserves hlen

theorem runs_readSealRecord_gives {b : List (BitVec 8)} (hrec : assocGet (fieldLe inp 0 8) d.chain = some b) :
    Runs (.readSealRecord h inp) d (d.touch.reply h 0xC034 rcSuccess b) :=
  runs_vendor_gives (fun s => (rfl : execReadSealRecord h inp s = _)) hok hserves hlen (by simp only [Dev.touch_chain, hrec])

theorem runs_readSealRecord_none (hrec : assocGet (fieldLe inp 0 8) d.chain = none) (hnum : fieldLe inp 0 8 ≠ 0) :
    Runs (.readSealRecord h inp) d (d.touch.reply h 0xC034 rcInvalidInput []) :=
  runs_vendor_ends (fun s => (rfl : execReadSealRecord h inp s = _)) hok hserves hlen (by
    simp only [Dev.touch_chain, hrec]
    exact if_neg (by simp [hnum]))

end

/-- The bounds of a read of an area of `size` bytes. -/
def readFits (inp : List (BitVec 8)) (size : Nat) : Prop :=
  fieldLe inp 0 4 % 256 = 0 ∧ fieldLe inp 4 4 % 256 = 0 ∧ fieldLe inp 4 4 ≤ 4096 ∧ fieldLe inp 0 4 + fieldLe inp 4 4 ≤ size

section
variable {base size : Nat}

theorem Dev.readArea_gives (hfits : readFits inp size) :
    d.readArea base size inp = (rcSuccess, memRead d.lbk (base + fieldLe inp 0 4) (fieldLe inp 4 4), d) := by
  obtain ⟨hoff, hpages, hmax, hend⟩ := hfits
  exact if_neg (by simp [hoff, hpages, hmax, hend])

theorem Dev.readArea_refused (hnot : ¬ readFits inp size) : d.readArea base size inp = (rcInvalidInput, [], d) := by
  refine if_pos ?_
  simp only [readFits] at hnot
  simp only [Bool.or_eq_true, bne_iff_ne, decide_eq_true_eq]
  omega

end

section
variable (hok : (Instr.readLogbookPage h inp).wf = true) (hserves : d.serves h 0xC044 = true) (hlen : inp.length = 2)
include hok hserves hlen

theorem runs_readLogbookPage_gives (hpage : fieldLe inp 0 2 < 4096) (hopen : ¬ (2688 ≤ fieldLe inp 0 2 ∧ fieldLe inp 0 2 < 2704)) :
    Runs (.readLogbookPage h inp) d (d.touch.reply h 0xC044 rcSuccess (d.logbookPage (fieldLe inp 0 2))) :=
  runs_vendor_gives (fun s => (rfl : execReadLogbookPage h inp s = _)) hok hserves hlen (if_neg (by
    simp only [Bool.or_eq_true, Bool.and_eq_true, decide_eq_true_eq]
    omega))

theorem runs_readLogbookPage_refused (hpage : 4096 ≤ fieldLe inp 0 2 ∨ (2688 ≤ fieldLe inp 0 2 ∧ fieldLe inp 0 2 < 2704)) :
    Runs (.readLogbookPage h inp) d (d.touch.reply h 0xC044 rcInvalidInput []) :=
  runs_vendor_ends (fun s => (rfl : execReadLogbookPage h inp s = _)) hok hserves hlen (if_pos (by
    simp only [Bool.or_eq_true, Bool.and_eq_true, decide_eq_true_eq]
    omega))

end

/-! ### The registry page (R621) -/

section
variable (hok : (Instr.writeRegistryPage h inp).wf = true) (hserves : d.serves h 0xC045 = true) (hlen : inp.length = 256)
include hok hserves hlen

theorem runs_writeRegistryPage (hfuse : d.fuse = false) : Runs (.writeRegistryPage h inp) d
    ((d.touch.lbkWrite (4095 * 256) inp).2.reply h 0xC045 (if (d.touch.lbkWrite (4095 * 256) inp).1 then rcSuccess else rcInternal) []) :=
  runs_vendor_ends (fun s => (rfl : execWriteRegistryPage h inp s = _)) hok hserves hlen (if_neg (by simp [hfuse]))

theorem runs_writeRegistryPage_locked (hfuse : d.fuse = true) :
    Runs (.writeRegistryPage h inp) d (d.touch.reply h 0xC045 rcInvalidInput []) :=
  runs_vendor_ends (fun s => (rfl : execWriteRegistryPage h inp s = _)) hok hserves hlen (if_pos hfuse)

end

section
variable (hok : (Instr.lockRegistryPage h inp).wf = true) (hserves : d.serves h 0xC046 = true) (hlen : inp.length = 4)
include hok hserves hlen

theorem runs_lockRegistryPage (hword : fieldLe inp 0 4 = 0x4B434F4C) : Runs (.lockRegistryPage h inp) d
    ((if d.fuse then d.touch else ({ d.touch.setF LBK_STAT.REG_LOCKED 1 with fuse := true } : Dev).post0 0x114).reply h 0xC046 rcSuccess []) :=
  runs_vendor_ends (fun s => (rfl : execLockRegistryPage h inp s = _)) hok hserves hlen (if_neg (by simp [hword]))

theorem runs_lockRegistryPage_new (hword : fieldLe inp 0 4 = 0x4B434F4C) (hfuse : d.fuse = false) : Runs (.lockRegistryPage h inp) d
    ((({ d.touch.setF LBK_STAT.REG_LOCKED 1 with fuse := true } : Dev).post0 0x114).reply h 0xC046 rcSuccess []) :=
  (runs_lockRegistryPage hok hserves hlen hword).congr (congrArg (Dev.reply · h 0xC046 rcSuccess []) (if_neg (Bool.eq_false_iff.mp hfuse)))

theorem runs_lockRegistryPage_again (hword : fieldLe inp 0 4 = 0x4B434F4C) (hfuse : d.fuse = true) :
    Runs (.lockRegistryPage h inp) d (d.touch.reply h 0xC046 rcSuccess []) :=
  (runs_lockRegistryPage hok hserves hlen hword).congr (congrArg (Dev.reply · h 0xC046 rcSuccess []) (if_pos hfuse))

theorem runs_lockRegistryPage_refused (hword : fieldLe inp 0 4 ≠ 0x4B434F4C) :
    Runs (.lockRegistryPage h inp) d (d.touch.reply h 0xC046 rcInvalidInput []) :=
  runs_vendor_ends (fun s => (rfl : execLockRegistryPage h inp s = _)) hok hserves hlen (if_pos (by simpa using hword))

end

/-! ### The resets (R565) -/

/-- The return code of a Reset. -/
def resetCode (inp : List (BitVec 8)) : Nat := if inp.length ≠ 1 then rcLength else if fieldLe inp 0 1 ≥ 2 then rcInvalidInput else rcSuccess

/-- What a Reset does once it has been answered. -/
def Dev.resetAnswered (d : Dev) (h scope : Nat) (go : Bool) : Dev :=
  if !go then d else if scope = 0 then d.portReset h 0 false else d.resetAccept (5 + h)

section
variable (hok : (Instr.reset h inp).wf = true)
include hok

theorem runs_reset : Runs (.reset h inp) d
    ((d.mailbox h 0xC060 (fun e => (resetCode inp, [], e))).resetAnswered h (fieldLe inp 0 1)
      (d.mboxOn h && (d.mboxGate 0xC060).isNone && resetCode inp == rcSuccess)) :=
  .of_act (fun s => (rfl : execReset h inp s = _)) hok rfl

section
variable (hserves : d.serves h 0xC060 = true)
include hserves

theorem runs_reset_answered : Runs (.reset h inp) d
    ((d.touch.reply h 0xC060 (resetCode inp) []).resetAnswered h (fieldLe inp 0 1) (resetCode inp == rcSuccess)) := by
  have hgo : (d.mboxOn h && (d.mboxGate 0xC060).isNone) = true := hserves
  refine (runs_reset hok).congr ?_
  rw [Dev.mailbox_serves hserves, ite_self, hgo, Bool.true_and]

theorem runs_reset_refused {rc : Nat} (hrc : resetCode inp = rc) (hfails : rc ≠ rcSuccess) :
    Runs (.reset h inp) d (d.touch.reply h 0xC060 rc []) := by
  refine (runs_reset_answered hok hserves).congr ?_
  rw [hrc, beq_false_of_ne hfails]
  exact if_pos rfl

section
variable (hlen : inp.length = 1)
include hlen

omit hok hserves in
theorem resetCode_success (hscope : fieldLe inp 0 1 < 2) : resetCode inp = rcSuccess := by
  rw [resetCode, if_neg (by simp [hlen]), if_neg (Nat.not_le.mpr hscope)]

theorem runs_reset_port (hscope : fieldLe inp 0 1 = 0) : Runs (.reset h inp) d ((d.touch.reply h 0xC060 rcSuccess []).portReset h 0 false) := by
  refine (runs_reset_answered hok hserves).congr ?_
  rw [resetCode_success hlen (by omega), hscope, beq_self_eq_true]
  exact (if_neg (by decide)).trans (if_pos rfl)

theorem runs_reset_device (hscope : fieldLe inp 0 1 = 1) : Runs (.reset h inp) d ((d.touch.reply h 0xC060 rcSuccess []).resetAccept (5 + h)) := by
  refine (runs_reset_answered hok hserves).congr ?_
  rw [resetCode_success hlen (by omega), hscope, beq_self_eq_true]
  exact (if_neg (by decide)).trans (if_neg (by decide))

theorem runs_reset_scope (hscope : 2 ≤ fieldLe inp 0 1) : Runs (.reset h inp) d (d.touch.reply h 0xC060 rcInvalidInput []) :=
  runs_reset_refused hok hserves ((if_neg (by simp [hlen])).trans (if_pos hscope)) (by decide)

end
end

theorem turnedAway_reset : TurnedAway (.reset h inp) h 0xC060 1 inp d := by
  refine ⟨fun hserves hlen => runs_reset_refused hok hserves (if_pos hlen) (by decide), fun rc hon hgate => ?gate, fun hoff => ?off⟩
  case gate =>
    refine (runs_reset hok).congr ?_
    rw [Dev.mailbox_gate hon hgate, hgate, Option.isNone_some, Bool.and_false, Bool.false_and]
    exact if_pos rfl
  case off =>
    refine (runs_reset hok).congr ?_
    rw [Dev.mailbox_off hoff, hoff, Bool.false_and, Bool.false_and]
    exact if_pos rfl

end

/-! ### Chart chunks (R479) -/

/-- A chunk names a slot that is not in force, and lies on pages within it. -/
def Dev.chunkFits (d : Dev) (inp : List (BitVec 8)) : Prop :=
  fieldLe inp 0 1 ≤ 1 ∧ fieldLe inp 1 3 = 0 ∧ fieldLe inp 4 4 % 256 = 0 ∧ fieldLe inp 4 4 + (inp.length - 8) ≤ slotSize ∧
    d.chart.slot ≠ some (fieldLe inp 0 1)

section
variable (hok : (Instr.writeChartChunk h inp).wf = true) (hserves : d.serves h 0xC011 = true)
include hok hserves

theorem runs_writeChartChunk_length (hlen : inp.length < 264 ∨ 3840 < inp.length - 8 ∨ (inp.length - 8) % 256 ≠ 0) :
    Runs (.writeChartChunk h inp) d (d.touch.reply h 0xC011 rcLength []) :=
  runs_mailbox_ends (fun s => (rfl : execWriteChartChunk h inp s = _)) hok hserves (if_pos (by
    simp only [Bool.or_eq_true, bne_iff_ne, decide_eq_true_eq]
    omega))

section
variable (hmin : 264 ≤ inp.length) (hmax : inp.length - 8 ≤ 3840) (hpages : (inp.length - 8) % 256 = 0)
include hmin hmax hpages

omit hok hserves in
theorem chunkLength_ok : ¬ (decide (inp.length < 8 + 256) || decide (inp.length - 8 > 3840) || (inp.length - 8) % 256 != 0) = true := by
  simp only [Bool.or_eq_true, bne_iff_ne, decide_eq_true_eq]
  omega

theorem runs_writeChartChunk (hfits : d.chunkFits inp) {w : Bool × Dev}
    (hw : d.touch.lbkWrite (slotSize * fieldLe inp 0 1 + fieldLe inp 4 4) (inp.drop 8) = w) : Runs (.writeChartChunk h inp) d
      (if w.1 then ({ w.2 with chart := { w.2.chart with written := listSet w.2.chart.written (fieldLe inp 0 1) true } } : Dev).reply h 0xC011 rcSuccess []
       else w.2.reply h 0xC011 rcInternal []) := by
  obtain ⟨hslot, hzero, halign, hend, hforce⟩ := hfits
  have hguard : ¬ (decide (fieldLe inp 0 1 > 1) || fieldLe inp 1 3 != 0 || fieldLe inp 4 4 % 256 != 0 ||
      decide (fieldLe inp 4 4 + (inp.length - 8) > slotSize) || d.touch.chart.slot == some (fieldLe inp 0 1)) = true := by
    simp [hzero, halign, hforce, Nat.not_lt.mpr hslot, Nat.not_lt.mpr hend]
  refine .of_act (fun s => (rfl : execWriteChartChunk h inp s = _)) hok ?_
  rw [Dev.mailbox_serves hserves]
  dsimp only
  rw [if_neg (chunkLength_ok hmin hmax hpages), if_neg hguard, hw]
  cases w.1 <;> rfl

theorem runs_writeChartChunk_refused (hnot : ¬ d.chunkFits inp) :
    Runs (.writeChartChunk h inp) d (d.touch.reply h 0xC011 rcInvalidInput []) := by
  refine runs_mailbox_ends (fun s => (rfl : execWriteChartChunk h inp s = _)) hok hserves
    ((if_neg (chunkLength_ok hmin hmax hpages)).trans (if_pos ?_))
  simp only [Dev.chunkFits] at hnot
  simp only [Dev.touch_chart, Bool.or_eq_true, bne_iff_ne, decide_eq_true_eq, beq_iff_eq]
  by_contra hguard
  exact hnot (by
    simp only [not_or] at hguard
    obtain ⟨⟨⟨⟨hslot, hzero⟩, halign⟩, hend⟩, hforce⟩ := hguard
    exact ⟨by omega, by omega, by omega, by omega, hforce⟩)

end
end
end

/-- Settles O17. -/
theorem vendorCommands : Obligations.VendorCommands := by
  refine ⟨fun h d hh => ⟨fun hserves => ?identity, fun hserves => ?mode, fun hserves => ?slots, fun hserves => ?result, fun hserves => ?capacity,
    fun inp hlen hserves => ?record, fun inp hlen => ?areas, fun inp hlen hserves => ?page, fun inp hlen c op n hc => ?turned⟩,
    fun h inp d hh => ⟨fun hlen hserves => ?registry, fun hlen hserves => ?lock, fun hlen hserves => ?reset, fun hserves hlen => ?chunk⟩⟩
  case identity =>
    exact runs_vendor_gives (fun s => (rfl : execGetDeviceIdentity h [] s = _)) (by simp [okGetDeviceIdentity, hh]) hserves rfl rfl
  case mode => exact runs_vendor_gives (fun s => (rfl : execGetMode h [] s = _)) (by simp [okGetMode, hh]) hserves rfl rfl
  case slots => exact runs_mailbox_gives (fun s => (rfl : execGetChartSlots h [] s = _)) (by simp [okGetChartSlots, hh]) hserves rfl
  case result => exact runs_mailbox_gives (fun s => (rfl : execGetOrderResult h [] s = _)) (by simp [okGetOrderResult, hh]) hserves rfl
  case capacity => exact runs_vendor_gives (fun s => (rfl : execGetCapacity h [] s = _)) (by simp [okGetCapacity, hh]) hserves rfl rfl
  case record =>
    have hok : okReadSealRecord h inp = true := by simp [okReadSealRecord, hh, hlen]
    exact ⟨fun _ => runs_readSealRecord_gives hok hserves hlen, runs_readSealRecord_none hok hserves hlen⟩
  case areas =>
    have hok : (decide (h < 2) && decide (inp.length ≤ 4096)) = true := by simp [hh, hlen]
    exact ⟨fun hserves =>
      ⟨fun hfits => runs_vendor_gives (fun s => (rfl : execReadDeckLog h inp s = _)) hok hserves hlen (Dev.readArea_gives hfits),
        fun hnot => runs_vendor_ends (fun s => (rfl : execReadDeckLog h inp s = _)) hok hserves hlen (Dev.readArea_refused hnot)⟩,
      fun hserves =>
      ⟨fun hfits => runs_vendor_gives (fun s => (rfl : execReadPowerLog h inp s = _)) hok hserves hlen (Dev.readArea_gives hfits),
        fun hnot => runs_vendor_ends (fun s => (rfl : execReadPowerLog h inp s = _)) hok hserves hlen (Dev.readArea_refused hnot)⟩⟩
  case page =>
    have hok : okReadLogbookPage h inp = true := by simp [okReadLogbookPage, hh, hlen]
    exact ⟨runs_readLogbookPage_gives hok hserves hlen, runs_readLogbookPage_refused hok hserves hlen⟩
  case turned =>
    have hok : (decide (h < 2) && decide (inp.length ≤ 4096)) = true := by simp [hh, hlen]
    have hnonempty : inp.length ≠ 0 → ¬ inp.isEmpty = true := by simp
    simp only [List.mem_cons, Prod.mk.injEq, List.not_mem_nil, or_false] at hc
    obtain ⟨rfl, rfl, rfl⟩ | ⟨rfl, rfl, rfl⟩ | ⟨rfl, rfl, rfl⟩ | ⟨rfl, rfl, rfl⟩ | ⟨rfl, rfl, rfl⟩ | ⟨rfl, rfl, rfl⟩ | ⟨rfl, rfl, rfl⟩ |
      ⟨rfl, rfl, rfl⟩ | ⟨rfl, rfl, rfl⟩ | ⟨rfl, rfl, rfl⟩ | ⟨rfl, rfl, rfl⟩ | ⟨rfl, rfl, rfl⟩ := hc
    · exact turnedAway_of_vendor (fun s => (rfl : execGetDeviceIdentity h inp s = _)) hok
    · exact turnedAway_of_vendor (fun s => (rfl : execGetMode h inp s = _)) hok
    · exact turnedAway_of_mailbox (fun s => (rfl : execGetChartSlots h inp s = _)) hok (fun hlen => if_neg (hnonempty hlen))
    · exact turnedAway_of_mailbox (fun s => (rfl : execGetOrderResult h inp s = _)) hok (fun hlen => if_neg (hnonempty hlen))
    · exact turnedAway_of_vendor (fun s => (rfl : execReadSealRecord h inp s = _)) hok
    · exact turnedAway_of_vendor (fun s => (rfl : execReadDeckLog h inp s = _)) hok
    · exact turnedAway_of_vendor (fun s => (rfl : execReadPowerLog h inp s = _)) hok
    · exact turnedAway_of_vendor (fun s => (rfl : execReadLogbookPage h inp s = _)) hok
    · exact turnedAway_of_vendor (fun s => (rfl : execWriteRegistryPage h inp s = _)) hok
    · exact turnedAway_of_vendor (fun s => (rfl : execLockRegistryPage h inp s = _)) hok
    · exact turnedAway_of_vendor (fun s => (rfl : execGetCapacity h inp s = _)) hok
    · exact turnedAway_reset hok
  case registry =>
    have hok : okWriteRegistryPage h inp = true := by simp [okWriteRegistryPage, hh, hlen]
    exact ⟨runs_writeRegistryPage hok hserves hlen, runs_writeRegistryPage_locked hok hserves hlen⟩
  case lock =>
    have hok : okLockRegistryPage h inp = true := by simp [okLockRegistryPage, hh, hlen]
    exact ⟨runs_lockRegistryPage_new hok hserves hlen, runs_lockRegistryPage_again hok hserves hlen, runs_lockRegistryPage_refused hok hserves hlen⟩
  case reset =>
    have hok : okReset h inp = true := by simp [okReset, hh, hlen]
    exact ⟨runs_reset_port hok hserves hlen, runs_reset_device hok hserves hlen, runs_reset_scope hok hserves hlen⟩
  case chunk =>
    have hok : okWriteChartChunk h inp = true := by simp [okWriteChartChunk, hh, hlen]
    exact ⟨fun hmin hmax hpages hfits => runs_writeChartChunk hok hserves hmin hmax hpages hfits rfl,
      runs_writeChartChunk_refused hok hserves, runs_writeChartChunk_length hok hserves⟩

end Sys2Proof.Machine

/-! ## What every step keeps: the predicate and its rules

Both invariants, that of the commit sequencer's counters and canonical lists (R591, R328, R618) and that of the registry lock
fuse (R621), rest on five fields of the device, which few functions of the model write. `Dev.Kept s d` says that a device `d`
made from `s` has kept both. A device function keeps them when it keeps them for every device that it is given; the rules below
say so of each way in which the model builds a device from another, and of the functions that write one of the five fields. -/

namespace Sys2Proof.Machine

theorem regsWf_filter {q : Nat × BitVec 64 → Bool} :
    ∀ {l : List (Nat × BitVec 64)}, regsWf l = true → regsWf (l.filter q) = true := by
  intro l
  induction l with
  | nil => exact id
  | cons x t ih =>
    intro h
    have ht := ih (regsWf_tail h)
    rw [List.filter_cons]
    split
    · exact regsWf_of (regsWf_cons.mp h).1 (fun y hy => regsWf_above h y (List.mem_of_mem_filter hy)) ht
    · exact ht

theorem memWfFrom_filter {q : Host.Cell → Bool} :
    ∀ {l : Option Nat} {m : List Host.Cell}, memWfFrom l m = true → memWfFrom l (m.filter q) = true := by
  intro l m
  induction m generalizing l with
  | nil => exact id
  | cons x t ih =>
    intro h
    simp only [memWfFrom, Bool.and_eq_true] at h
    obtain ⟨⟨hlo, hb⟩, ht⟩ := h
    rw [List.filter_cons]
    split
    · simp only [memWfFrom, Bool.and_eq_true]
      exact ⟨⟨hlo, hb⟩, ih ht⟩
    · apply ih
      cases l with
      | none => exact memWfFrom_none ht
      | some j => exact memWfFrom_weaken (Nat.le_of_lt (of_decide_eq_true hlo)) ht

theorem memWf_filter {q : Host.Cell → Bool} {m : List Host.Cell} (h : Memory.wf m = true) :
    Memory.wf (m.filter q) = true := memWfFrom_filter h

/-- `d`, made from `s`, meets the invariant if `s` does, and its registry lock fuse is blown if that of `s` is. -/
structure Dev.Kept (s d : Dev) : Prop where
  inv : s.Inv → d.Inv
  fuse : s.fuse = true → d.fuse = true

/-- Every device that an optional result carries is made from `s` so that both are kept. -/
def Dev.KeptIf {α : Type} (s : Dev) (p : α → Dev) (o : Option α) : Prop := ∀ a, o = some a → s.Kept (p a)

/-- An instruction ends with a device made from `s` so that both are kept. -/
def EngRes.KeptBy (s : Dev) : EngRes → Prop
  | .done d => s.Kept d
  | .goto d _ => s.Kept d
  | .stay d => s.Kept d
  | .wait => True
  | .raise d _ _ _ => s.Kept d

namespace Dev.Kept
variable {s d e : Dev}

theorem refl : d.Kept d := ⟨id, id⟩

/-! ### Building a device from another -/

/-- A change of any other field than the five. -/
theorem upd (h : s.Kept d)
    {time opSec cycle seqOn phase locked halves freeCtr out sectors segs wnodes groups waitRecs
     nextGroup phis points homes binn ready imgs lljobs overlay mapc dir poison poisonSrc
     announced pilot corrected hold fe recAcks blocked deadLost gpf allowPages occupied capDue
     sdisc rekey sanitize keys keyCur badKeys seals chain sealHead saving ckpts ckptReq cutAt
     commitEclk locs heads stamp alertCfg patchNext patchOn i3c ord str deck engines quads chart
     pwr seqb wch saf thm ll} :
    s.Kept { d with
      time := time, opSec := opSec, cycle := cycle, seqOn := seqOn, phase := phase, locked
      := locked, halves := halves, freeCtr := freeCtr, out := out, sectors := sectors, segs
      := segs, wnodes := wnodes, groups := groups, waitRecs := waitRecs, nextGroup :=
      nextGroup, phis := phis, points := points, homes := homes, binn := binn, ready :=
      ready, imgs := imgs, lljobs := lljobs, overlay := overlay, mapc := mapc, dir := dir,
      poison := poison, poisonSrc := poisonSrc, announced := announced, pilot := pilot,
      corrected := corrected, hold := hold, fe := fe, recAcks := recAcks, blocked :=
      blocked, deadLost := deadLost, gpf := gpf, allowPages := allowPages, occupied :=
      occupied, capDue := capDue, sdisc := sdisc, rekey := rekey, sanitize := sanitize, keys
      := keys, keyCur := keyCur, badKeys := badKeys, seals := seals, chain := chain,
      sealHead := sealHead, saving := saving, ckpts := ckpts, ckptReq := ckptReq, cutAt :=
      cutAt, commitEclk := commitEclk, locs := locs, heads := heads, stamp := stamp,
      alertCfg := alertCfg, patchNext := patchNext, patchOn := patchOn, i3c := i3c, ord :=
      ord, str := str, deck := deck, engines := engines, quads := quads, chart := chart, pwr
      := pwr, seqb := seqb, wch := wch, saf := saf, thm := thm, ll := ll } :=
  ⟨h.inv, h.fuse⟩

/-- Both counters of the duplicated commit sequencer are set alike (R591), with a change of other fields. -/
theorem updCsn (h : s.Kept d)
    {n time opSec cycle seqOn phase locked halves freeCtr out sectors segs wnodes groups waitRecs
     nextGroup phis points homes binn ready imgs lljobs overlay mapc dir poison poisonSrc
     announced pilot corrected hold fe recAcks blocked deadLost gpf allowPages occupied capDue
     sdisc rekey sanitize keys keyCur badKeys seals chain sealHead saving ckpts ckptReq cutAt
     commitEclk locs heads stamp alertCfg patchNext patchOn i3c ord str deck engines quads chart
     pwr seqb wch saf thm ll} :
    s.Kept { d with
      nextCsn := n, nextCsn2 := n, time := time, opSec := opSec, cycle := cycle,
      seqOn := seqOn, phase := phase, locked
      := locked, halves := halves, freeCtr := freeCtr, out := out, sectors := sectors, segs
      := segs, wnodes := wnodes, groups := groups, waitRecs := waitRecs, nextGroup :=
      nextGroup, phis := phis, points := points, homes := homes, binn := binn, ready :=
      ready, imgs := imgs, lljobs := lljobs, overlay := overlay, mapc := mapc, dir := dir,
      poison := poison, poisonSrc := poisonSrc, announced := announced, pilot := pilot,
      corrected := corrected, hold := hold, fe := fe, recAcks := recAcks, blocked :=
      blocked, deadLost := deadLost, gpf := gpf, allowPages := allowPages, occupied :=
      occupied, capDue := capDue, sdisc := sdisc, rekey := rekey, sanitize := sanitize, keys
      := keys, keyCur := keyCur, badKeys := badKeys, seals := seals, chain := chain,
      sealHead := sealHead, saving := saving, ckpts := ckpts, ckptReq := ckptReq, cutAt :=
      cutAt, commitEclk := commitEclk, locs := locs, heads := heads, stamp := stamp,
      alertCfg := alertCfg, patchNext := patchNext, patchOn := patchOn, i3c := i3c, ord :=
      ord, str := str, deck := deck, engines := engines, quads := quads, chart := chart, pwr
      := pwr, seqb := seqb, wch := wch, saf := saf, thm := thm, ll := ll } :=
  ⟨fun hs => ⟨rfl, (h.inv hs).2⟩, h.fuse⟩

theorem ite {c : Prop} {_ : Decidable c} (hd : s.Kept d) (he : s.Kept e) : s.Kept (if c then d else e) := by
  split
  · exact hd
  · exact he

/-- A change that is made under a condition only. -/
theorem when {c : Prop} {_ : Decidable c} (hd : s.Kept d) (he : s.Kept d → s.Kept e) :
    s.Kept (if c then e else d) := (he hd).ite hd

/-- A change that is made unless a condition holds. -/
theorem whenNot {c : Prop} {_ : Decidable c} (hd : s.Kept d) (he : s.Kept d → s.Kept e) :
    s.Kept (if c then d else e) := hd.ite (he hd)

theorem getD {o : Option Dev} (ho : s.KeptIf (fun d => d) o) (hd : s.Kept d) : s.Kept (o.getD d) := by
  cases o with
  | none => exact hd
  | some e => exact ho e rfl

theorem foldl {α : Type} {f : Dev → α → Dev} {l : List α} (h : s.Kept d)
    (hf : ∀ d a, s.Kept d → s.Kept (f d a)) : s.Kept (l.foldl f d) :=
  List.foldlRecOn l f h fun d hd a _ => hf d a hd

/-- A fold whose accumulator holds the device among other things. -/
theorem foldlOn {α β : Type} (p : β → Dev) {f : β → α → β} {l : List α} {b : β} (h : s.Kept (p b))
    (hf : ∀ b a, s.Kept (p b) → s.Kept (p (f b a))) : s.Kept (p (l.foldl f b)) :=
  List.foldlRecOn (motive := fun b => s.Kept (p b)) l f h fun b hb a _ => hf b a hb

/-! A fold whose accumulator holds the device among other things. -/

theorem foldl_fst {α β : Type} {f : Dev × β → α → Dev × β} {l : List α} {b : Dev × β}
    (h : s.Kept b.1) (hf : ∀ b a, s.Kept b.1 → s.Kept (f b a).1) : s.Kept (l.foldl f b).1 :=
  foldlOn (fun b : Dev × β => b.1) h hf

theorem foldl_snd {α β : Type} {f : β × Dev → α → β × Dev} {l : List α} {b : β × Dev}
    (h : s.Kept b.2) (hf : ∀ b a, s.Kept b.2 → s.Kept (f b a).2) : s.Kept (l.foldl f b).2 :=
  foldlOn (fun b : β × Dev => b.2) h hf

theorem foldl_snd_fst {α β γ : Type} {f : β × Dev × γ → α → β × Dev × γ} {l : List α} {b : β × Dev × γ}
    (h : s.Kept b.2.1) (hf : ∀ b a, s.Kept b.2.1 → s.Kept (f b a).2.1) : s.Kept (l.foldl f b).2.1 :=
  foldlOn (fun b : β × Dev × γ => b.2.1) h hf

theorem foldl_snd_snd {α β γ : Type} {f : β × γ × Dev → α → β × γ × Dev} {l : List α} {b : β × γ × Dev}
    (h : s.Kept b.2.2) (hf : ∀ b a, s.Kept b.2.2 → s.Kept (f b a).2.2) : s.Kept (l.foldl f b).2.2 :=
  foldlOn (fun b : β × γ × Dev => b.2.2) h hf

theorem foldl_snd_snd_fst {α β γ δ : Type} {f : β × γ × Dev × δ → α → β × γ × Dev × δ} {l : List α} {b : β × γ × Dev × δ}
    (h : s.Kept b.2.2.1) (hf : ∀ b a, s.Kept b.2.2.1 → s.Kept (f b a).2.2.1) : s.Kept (l.foldl f b).2.2.1 :=
  foldlOn (fun b : β × γ × Dev × δ => b.2.2.1) h hf

theorem of_some {α : Type} {p : α → Dev} {o : Option α} {a : α} (ha : o = some a) (h : s.KeptIf p o) :
    s.Kept (p a) := h a ha

theorem mk_fst {α : Type} {a : α} (h : s.Kept d) : s.Kept (d, a).1 := h

theorem mk_snd {α : Type} {a : α} (h : s.Kept d) : s.Kept (a, d).2 := h

theorem mk_snd_of_fst {α β : Type} {a : α} {p : Dev × β} (h : s.Kept p.1) : s.Kept (a, p).2.1 := h

theorem mk_snd_fst {α β : Type} {a : α} {b : β} (h : s.Kept d) : s.Kept (a, d, b).2.1 := h

theorem fst_eq {α : Type} {p : Dev × α} {a : α} (hp : p = (d, a)) (h : s.Kept p.1) : s.Kept d := by
  rw [hp] at h; exact h

theorem snd_eq {α : Type} {p : α × Dev} {a : α} (hp : p = (a, d)) (h : s.Kept p.2) : s.Kept d := by
  rw [hp] at h; exact h

theorem snd_fst_eq {α β : Type} {p : α × Dev × β} {a : α} {b : β} (hp : p = (a, d, b))
    (h : s.Kept p.2.1) : s.Kept d := by
  rw [hp] at h; exact h

theorem snd_snd_eq {α β : Type} {p : α × β × Dev} {a : α} {b : β} (hp : p = (a, b, d))
    (h : s.Kept p.2.2) : s.Kept d := by
  rw [hp] at h; exact h

theorem snd_snd_fst_eq {α β γ : Type} {p : α × β × Dev × γ} {a : α} {b : β} {c : γ}
    (hp : p = (a, b, d, c)) (h : s.Kept p.2.2.1) : s.Kept d := by
  rw [hp] at h; exact h

theorem done (h : s.Kept d) : EngRes.KeptBy s (.done d) := h

theorem goto {pc} (h : s.Kept d) : EngRes.KeptBy s (.goto d pc) := h

theorem stay (h : s.Kept d) : EngRes.KeptBy s (.stay d) := h

theorem raised {c t b} (h : s.Kept d) : EngRes.KeptBy s (.raise d c t b) := h

theorem of_done {r : EngRes} (hr : r = .done d) (h : EngRes.KeptBy s r) : s.Kept d := by
  rw [hr] at h; exact h

/-! ### The functions that write one of the five fields -/

theorem withRegs (h : s.Kept d) {regs} (hr : regsWf d.regs = true → regsWf regs = true) :
    s.Kept { d with regs := regs } :=
  ⟨fun hs => let ⟨hcsn, hregs, hlbk⟩ := h.inv hs; ⟨hcsn, hr hregs, hlbk⟩, h.fuse⟩

theorem withLbk (h : s.Kept d) {lbk} (hl : Memory.wf d.lbk = true → Memory.wf lbk = true) :
    s.Kept { d with lbk := lbk } :=
  ⟨fun hs => let ⟨hcsn, hregs, hlbk⟩ := h.inv hs; ⟨hcsn, hregs, hl hlbk⟩, h.fuse⟩

theorem withFuse (h : s.Kept d) : s.Kept { d with fuse := true } := ⟨h.inv, fun _ => rfl⟩

theorem setReg (h : s.Kept d) {off v} : s.Kept (d.setReg off v) := by
  rw [Dev.setReg]
  split
  · exact h.withRegs assocDel_regsWf
  · next hv => exact h.withRegs (assocSet_regsWf hv)

end Dev.Kept

namespace Dev.KeptIf
variable {s : Dev} {α : Type} {p : α → Dev} {o o' : Option α}

theorem none : s.KeptIf p .none := fun _ h => nomatch h

theorem some {a : α} (h : s.Kept (p a)) : s.KeptIf p (.some a) := fun _ hb => Option.some.inj hb ▸ h

/-- A device on its own. -/
theorem dev {d : Dev} (h : s.Kept d) : s.KeptIf (fun d => d) (.some d) := some h

/-- A device with a value before it. -/
theorem pair {β : Type} {b : β} {d : Dev} (h : s.Kept d) : s.KeptIf Prod.snd (.some (b, d)) := some h

theorem ite {c : Prop} {_ : Decidable c} (ho : s.KeptIf p o) (ho' : s.KeptIf p o') :
    s.KeptIf p (if c then o else o') := by
  split
  · exact ho
  · exact ho'

theorem foldl {β : Type} {f : Option α → β → Option α} {l : List β} (h : s.KeptIf p o)
    (hf : ∀ o b, s.KeptIf p o → s.KeptIf p (f o b)) : s.KeptIf p (l.foldl f o) :=
  List.foldlRecOn (motive := s.KeptIf p) l f h fun o ho b _ => hf o b ho

theorem bind {β : Type} {o : Option β} {f : β → Option α} (hf : ∀ b, s.KeptIf p (f b)) :
    s.KeptIf p (o.bind f) := by
  cases o with
  | none => exact .none
  | some b => exact hf b

theorem map {β : Type} {q : β → Dev} {f : α → β} (ho : s.KeptIf p o)
    (hf : ∀ a, s.Kept (p a) → s.Kept (q (f a))) : s.KeptIf q (o.map f) := by
  intro b hb
  obtain ⟨a, ha, rfl⟩ := Option.map_eq_some_iff.mp hb
  exact hf a (ho a ha)

end Dev.KeptIf

theorem EngRes.KeptBy.ite {s : Dev} {c : Prop} {_ : Decidable c} {r r' : EngRes} (hr : r.KeptBy s)
    (hr' : r'.KeptBy s) : EngRes.KeptBy s (if c then r else r') := by
  split
  · exact hr
  · exact hr'

/-- A command's effect keeps both from every state. -/
def Keeps (f : State → Host.Outcome State Fault Refusal) : Prop := ∀ q t, f q = .next t → q.dev.Kept t.dev

theorem Keeps.act {ok : Bool} {f : Dev → Dev} (hf : ∀ {s d}, Dev.Kept s d → s.Kept (f d)) :
    Keeps (fun q => act ok q f) := by
  intro q t ht
  cases ok with
  | false => exact nomatch ht
  | true => cases ht; exact hf .refl

end Sys2Proof.Machine

/-! ## What every step keeps: the functions of the model

For each function of the model that gives a device, the lemma of its name: the device it gives is made from the one it was given
so that both are kept. A proof follows the function's body: the lemma of each function it calls, in the order of the calls, with
`upd` where it writes fields other than the five, and a case for each branch. The functions stand in the model's order. -/

namespace Sys2Proof.Machine.Dev.Kept
variable {s d e : Dev}

/-! ### The functions of `Machine/Ops.lean` -/

theorem setF (h : s.Kept d) {F v} : s.Kept (d.setF F v) := by
  unfold Dev.setF
  exact h.setReg

theorem cnt (h : s.Kept d) {F n} : s.Kept (d.cnt F n) := by
  unfold Dev.cnt
  exact h.setF

theorem orF (h : s.Kept d) {F v} : s.Kept (d.orF F v) := by
  unfold Dev.orF
  exact h.setF

theorem draw (h : s.Kept d) : s.Kept d.draw.2 := by
  unfold Dev.draw
  exact h.upd

theorem send (h : s.Kept d) {m} : s.Kept (d.send m) := by
  unfold Dev.send
  exact h.upd

theorem modPt (h : s.Kept d) {n f} : s.Kept (d.modPt n f) := by
  unfold Dev.modPt
  exact h.upd

theorem modHm (h : s.Kept d) {x f} : s.Kept (d.modHm x f) := by
  unfold Dev.modHm
  exact h.upd

theorem modHead (h : s.Kept d) {p f} : s.Kept (d.modHead p f) := by
  unfold Dev.modHead
  exact h.upd

theorem modEng (h : s.Kept d) {x f} : s.Kept (d.modEng x f) := by
  unfold Dev.modEng
  exact h.upd

theorem modQuad (h : s.Kept d) {q f} : s.Kept (d.modQuad q f) := by
  unfold Dev.modQuad
  exact h.upd

theorem setStm (h : s.Kept d) {x x1} : s.Kept (d.setStm x x1) := by
  unfold Dev.setStm
  exact h.upd

theorem modStm (h : s.Kept d) {x f} : s.Kept (d.modStm x f) := by
  unfold Dev.modStm
  exact h.setStm

theorem setSeg (h : s.Kept d) {sg x} : s.Kept (d.setSeg sg x) := by
  unfold Dev.setSeg
  exact h.upd.ite h.upd

theorem modSeg (h : s.Kept d) {sg f} : s.Kept (d.modSeg sg f) := by
  unfold Dev.modSeg
  exact h.setSeg

theorem sendVec (h : s.Kept d) {p v} : s.Kept (d.sendVec p v) := by
  unfold Dev.sendVec
  exact h.modHead.ite (h.send.ite h.modHead)

theorem raise (h : s.Kept d) {p v} : s.Kept (d.raise p v) := by
  unfold Dev.raise
  extract_lets old d1 y y1
  have hd1 : s.Kept d1 := h.orF
  have hy : s.Kept y := hd1.send
  exact hd1.ite ((hy.upd.ite hd1).ite (hd1.sendVec.ite ((hd1.send.ite hd1.modHead).ite hd1)))

theorem raiseAll (h : s.Kept d) {v} : s.Kept (d.raiseAll v) := by
  unfold Dev.raiseAll
  exact h.raise.raise.raise

theorem alert (h : s.Kept d) {b} : s.Kept (d.alert b) := by
  unfold Dev.alert
  exact h.ite h.orF.raiseAll

theorem deckPush (h : s.Kept d) {r} : s.Kept (d.deckPush r) := by
  unfold Dev.deckPush
  exact h.cnt.ite (h.upd.ite h.cnt.upd)

theorem tally (h : s.Kept d) {code unit_ n} : s.Kept (d.tally code unit_ n) := by
  unfold Dev.tally
  exact h.foldl fun _ _ h1 => (h1.setF.setF.upd.ite h1.setF).ite h1

theorem takeCsn (h : s.Kept d) : s.Kept d.takeCsn := by
  have ht : s.Kept (d.tally 0x81 0 1) := h.tally
  refine ⟨fun hs => ?_, ht.fuse⟩
  obtain ⟨hcsn, -, -⟩ := h.inv hs
  obtain ⟨-, hregs, hlbk⟩ := ht.inv hs
  exact ⟨congrArg (· + 1) hcsn, hregs, hlbk⟩

theorem logTo (h : s.Kept d) {p log r} : s.Kept (d.logTo p log r) := by
  unfold Dev.logTo
  exact h.modHead.raise.ite h.modHead

theorem logBoth (h : s.Kept d) {log r} : s.Kept (d.logBoth log r) := by
  unfold Dev.logBoth
  exact h.logTo.logTo

theorem postAs (h : s.Kept d) {x} : s.Kept (d.postAs x) := by
  unfold Dev.postAs
  exact h.deckPush.logBoth.tally.when fun h1 => h1.upd

theorem postRaw (h : s.Kept d) {x fix alert} : s.Kept (d.postRaw x fix alert) := by
  unfold Dev.postRaw
  extract_lets d1
  have hd1 : s.Kept d1 := by
    unfold d1
    split
    · exact h.alert
    · exact h
  exact hd1.postAs

theorem watchTick (h : s.Kept d) : s.Kept d.watchTick := by
  unfold Dev.watchTick
  exact h.upd

theorem idle (h : s.Kept d) : s.Kept d.idle := by
  unfold Dev.idle
  exact h.ite (h.upd.ite h.watchTick)

/-! ### The functions of `Machine/Media.lean` -/

theorem setPhi (h : s.Kept d) {sg x} : s.Kept (d.setPhi sg x) := by
  unfold Dev.setPhi
  exact h.upd

theorem linkSend (h : s.Kept d) {n op cell row a b c} :
    s.Kept (d.linkSend n op cell row a b c) := by
  unfold Dev.linkSend
  exact h.modPt

theorem floorReg (h : s.Kept d) {n} : s.Kept (d.floorReg n) := by
  unfold Dev.floorReg
  exact h.setF

theorem poolRegs (h : s.Kept d) {n} : s.Kept (d.poolRegs n) := by
  unfold Dev.poolRegs
  exact h.setF.setF.floorReg.setF

theorem candGone (h : s.Kept d) {sg st} : s.Kept (d.candGone sg st) := by
  unfold Dev.candGone
  extract_lets d1
  have hd1 : s.Kept d1 := by
    unfold d1
    split
    · exact h.upd.ite h
    · exact h
  split
  · exact hd1.upd.setF.ite hd1
  · exact hd1

theorem rebuildNode (h : s.Kept d) {i} : s.Kept (d.rebuildNode i) := by
  unfold Dev.rebuildNode
  exact h.upd

theorem rebuildRoot (h : s.Kept d) {n} : s.Kept (d.rebuildRoot n) := by
  unfold Dev.rebuildRoot
  exact h.setF.setF.setF.setF

theorem wearSeg (h : s.Kept d) {sg} : s.Kept (d.wearSeg sg) := by
  unfold Dev.wearSeg
  exact h.rebuildNode.rebuildRoot.setF

theorem wearPoint (h : s.Kept d) {n} : s.Kept (d.wearPoint n) := by
  unfold Dev.wearPoint
  exact (h.upd.foldl fun _ _ h1 => h1.rebuildNode).rebuildRoot.setF

theorem setState (h : s.Kept d) {sg st} : s.Kept (d.setState sg st) := by
  unfold Dev.setState
  exact (h.modSeg.poolRegs.when fun h1 => h1.upd.wearSeg).candGone

theorem dropEmpty (h : s.Kept d) {sg} : s.Kept (d.dropEmpty sg) := by
  unfold Dev.dropEmpty
  exact h.setState.ite h

theorem addLive (h : s.Kept d) {psa n} : s.Kept (d.addLive psa n) := by
  unfold Dev.addLive
  exact h.modSeg

theorem subLive (h : s.Kept d) {psa n} : s.Kept (d.subLive psa n) := by
  unfold Dev.subLive
  exact h.modSeg.dropEmpty

theorem modGroup (h : s.Kept d) {num f} : s.Kept (d.modGroup num f) := by
  unfold Dev.modGroup
  exact h.upd

theorem modRow (h : s.Kept d) {num r f} : s.Kept (d.modRow num r f) := by
  unfold Dev.modRow
  exact h.modGroup

theorem grant (h : s.Kept d) {n c k} : s.Kept (d.grant n c k) := by
  unfold Dev.grant
  exact h.modPt

theorem loadRow (h : s.Kept d) {psa} : s.Kept (d.loadRow psa) := by
  unfold Dev.loadRow
  exact h.linkSend.modPt

theorem programAs (h : s.Kept d) {c psa x df} : s.Kept (d.programAs c psa x df) := by
  unfold Dev.programAs
  extract_lets sg n d1 d2 d3 d4
  have hd1 : s.Kept d1 := h.loadRow.linkSend.grant
  have hd2 : s.Kept d2 := hd1.upd
  have hd3 : s.Kept d3 := hd2.modSeg
  have hd4 : s.Kept d4 := hd3.tally
  refine h.setF.ite ?_
  · split
    · exact hd4.modRow
    · exact hd4

theorem program (h : s.Kept d) {psa x df} : s.Kept (d.program psa x df) := by
  unfold Dev.program
  exact h.programAs

theorem modQueue (h : s.Kept d) {kind n f} : s.Kept (d.modQueue kind n f) := by
  unfold Dev.modQueue
  exact h.modPt

theorem takePage (h : s.Kept d) {x kind} : s.KeptIf Prod.snd (d.takePage x kind) := by
  unfold Dev.takePage
  split
  · exact .none
  · extract_lets n
    split
    · exact .none
    · exact .pair h.modQueue.modHm

theorem takeSec (h : s.Kept d) {x kind av} : s.KeptIf Prod.snd (d.takeSec x kind av) := by
  unfold Dev.takeSec
  split
  · exact .none
  · extract_lets n
    split
    · exact .none
    · exact .pair h.modQueue.modHm

theorem takeTwin (h : s.Kept d) {p kind whole} : s.KeptIf Prod.snd (d.takeTwin p kind whole) := by
  unfold Dev.takeTwin
  split
  · exact .none
  · refine .ite ?_ ?_
    · split
      · exact .pair h.modQueue
      · exact .none
    · split
      · exact .pair h.modQueue
      · exact .none

theorem countLog (h : s.Kept d) : s.Kept d.countLog := by
  unfold Dev.countLog
  exact h.cnt.cnt

theorem programOn (h : s.Kept d) {n kind data body df} :
    s.KeptIf Prod.snd (d.programOn n kind data body df) := by
  unfold Dev.programOn
  split
  · exact .none
  · split
    · exact .none
    · extract_lets d1
      have hd1 : s.Kept d1 := h.program
      exact .pair hd1.modPt

theorem record (h : s.Kept d) {n b} : s.Kept (d.record n b) := by
  unfold Dev.record
  extract_lets d1
  have hd1 : s.Kept d1 := h.takeCsn
  split
  next e1 hp1 =>
    have h1 : s.Kept e1 := hd1.programOn _ hp1
    exact h1.countLog
  · exact h.upd

theorem putBody (h : s.Kept d) {n b} : s.Kept (d.putBody n b) := by
  unfold Dev.putBody
  split
  next e1 hp1 =>
    have h1 : s.Kept e1 := h.programOn _ hp1
    exact h1.countLog
  · exact h.upd

theorem drainRecords (h : s.Kept d) : s.Kept d.drainRecords := by
  unfold Dev.drainRecords
  extract_lets l
  refine h.upd.foldl fun _ _ h1 => ?_
  · split
    · exact h1.record
    · exact h1.putBody

/-! ### The functions of `Machine/Events.lean` -/

theorem notifyHead (h : s.Kept d) {p x cause} : s.Kept (d.notifyHead p x cause) := by
  unfold Dev.notifyHead
  exact h.upd.ite (h.upd.raise.ite h.upd)

theorem notify (h : s.Kept d) {x bitNo prod cons} : s.Kept (d.notify x bitNo prod cons) := by
  unfold Dev.notify
  exact (h.foldl fun _ _ h1 => h1.notifyHead).ite h

theorem trigger (h : s.Kept d) {x t viaLine} : s.Kept (d.trigger x t viaLine).2 := by
  unfold Dev.trigger
  extract_lets x1 t1 t0 t11 isOpen setRes older d1 y fl w d2
  have hd1 : s.Kept d1 := h.setStm.setF
  have hd2 : s.Kept d2 := h.setStm
  split
  · exact h.setStm
  · split
    · exact hd1.postRaw.notify
    · exact hd2.setF

theorem fix (h : s.Kept d) {src} : s.Kept (d.fix src) := by
  unfold Dev.fix
  extract_lets num t snaps d1 y d2 d3 d4 d5 d6
  have hd1 : s.Kept d1 := h.setF.setF.setF.setF
  have hd2 : s.Kept d2 := hd1.upd
  have hd3 : s.Kept d3 := hd2.tally
  have hd4 : s.Kept d4 := hd3.send.ite hd3
  have hd5 : s.Kept d5 := hd4.raiseAll
  have hd6 : s.Kept d6 := hd5.foldl fun _ _ h1 => h1.trigger.ite h1
  exact h.ite (h.orF.ite (hd6.deckPush.ite hd6))

theorem wdogPause (h : s.Kept d) : s.Kept d.wdogPause := by
  unfold Dev.wdogPause
  exact h.ite h.upd

theorem wdogRun (h : s.Kept d) : s.Kept d.wdogRun := by
  unfold Dev.wdogRun
  extract_lets y
  split
  · exact h.upd
  · exact h

theorem post (h : s.Kept d) {x alert} : s.Kept (d.post x alert) := by
  unfold Dev.post
  extract_lets d1 y d2 d3
  have hd1 : s.Kept d1 := by
    unfold d1
    split
    · exact h.alert
    · exact h
  have hd2 : s.Kept d2 := h.cnt.ite h
  have hd3 : s.Kept d3 := hd2.fix.ite (hd2.fix.ite hd2)
  exact hd1.upd.ite hd3.postRaw

theorem post0 (h : s.Kept d) {code} : s.Kept (d.post0 code) := by
  unfold Dev.post0
  exact h.post

theorem haltForHove (h : s.Kept d) {was} : s.Kept (d.haltForHove was) := by
  unfold Dev.haltForHove
  exact h.upd

theorem surveyEnds (h : s.Kept d) : s.Kept d.surveyEnds := by
  unfold Dev.surveyEnds
  exact h.upd

theorem hoveCore (h : s.Kept d) {code homes} : s.Kept (d.hoveCore code homes) := by
  unfold Dev.hoveCore
  extract_lets old add first was sev d1 d2 y d3 w d4 d5 d6
  have hd1 : s.Kept d1 := h.setF.setF.setF.ite h
  have hd2 : s.Kept d2 := hd1.setF.setF.setF
  have hd3 : s.Kept d3 := hd2.upd
  have hw : s.Kept w := hd3.setF.setF
  have hd4 : s.Kept d4 := hw.surveyEnds.ite hd3
  have hd5 : s.Kept d5 := hd4.haltForHove
  have hd6 : s.Kept d6 := hd5.post
  exact hd6.raiseAll

theorem setPoisonMask (h : s.Kept d) {pg m} : s.Kept (d.setPoisonMask pg m) := by
  unfold Dev.setPoisonMask
  exact h.upd.setF

theorem announce (h : s.Kept d) {line} : s.Kept (d.announce line) := by
  unfold Dev.announce
  exact h.ite h.logBoth.upd

theorem poisonSet (h : s.Kept d) {line src} : s.Kept (d.poisonSet line src).2 := by
  unfold Dev.poisonSet
  extract_lets pg y d1 m y1 d2
  have hd1 : s.Kept d1 := h.upd
  have hy1 : s.Kept y1 := h.setPoisonMask
  have hd2 : s.Kept d2 := hy1.upd
  split
  · exact (hd1.record.ite hd1).announce
  · split
    · exact h
    · exact hd2.record.announce

theorem poisonClear (h : s.Kept d) {line} : s.Kept (d.poisonClear line) := by
  unfold Dev.poisonClear
  exact h.setPoisonMask.upd.record.ite h

theorem loseHove (h : s.Kept d) {line mask} : s.Kept (d.loseHove line mask) := by
  unfold Dev.loseHove
  exact (h.announce.ite h.poisonSet).whenNot fun h1 => h1.post.upd

theorem partialPoison (h : s.Kept d) {line mask} : s.Kept (d.partialPoison line mask) := by
  unfold Dev.partialPoison
  exact h.post.ite h

theorem hovePoison (h : s.Kept d) {line} : s.Kept (d.hovePoison line) := by
  unfold Dev.hovePoison
  exact h.tally.announce.ite h.tally.poisonSet

theorem settleHove (h : s.Kept d) : s.Kept d.settleHove := by
  unfold Dev.settleHove
  extract_lets mine held logs jobs part lost acks gone y d1 d2 d3
  have hd1 : s.Kept d1 := h.upd
  have hd2 : s.Kept d2 := by
    unfold d2
    refine hd1.foldl fun _ _ h1 => ?_
    · split
      · exact (h1.send.ite h1).hovePoison
      · exact (h1.send.ite h1).partialPoison.loseHove
  have hd3 : s.Kept d3 := hd2.foldl fun _ _ h2 => h2.send.ite h2
  exact hd3.foldl fun _ _ h3 => h3.loseHove

theorem hoveTo (h : s.Kept d) {code homes} : s.Kept (d.hoveTo code homes) := by
  unfold Dev.hoveTo
  exact h.hoveCore.settleHove

theorem hovePost (h : s.Kept d) {x homes} : s.Kept (d.hovePost x homes) := by
  unfold Dev.hovePost
  exact h.post.hoveTo

theorem markPoison (h : s.Kept d) {line src} : s.Kept (d.markPoison line src) := by
  unfold Dev.markPoison
  extract_lets y
  split
  next hp1 =>
    exact (snd_eq hp1 h.poisonSet)
  next hp2 =>
    exact (snd_eq hp2 h.poisonSet).whenNot fun h1 => h1.hovePost

theorem poisonOut (h : s.Kept d) {line} : s.Kept (d.poisonOut line) := by
  unfold Dev.poisonOut
  exact h.tally.announce.ite (h.tally.poisonSet.ite h.tally.markPoison)

theorem secAlarm (h : s.Kept d) {x} : s.Kept (d.secAlarm x) := by
  unfold Dev.secAlarm
  exact h.setF.cnt.post

/-! ### The functions of `Machine/Map.lean` -/

theorem raiseFold (h : s.Kept d) {n} : s.Kept (d.raiseFold n) := by
  unfold Dev.raiseFold
  extract_lets sc st avail
  refine h.ite ?_
  · split
    next hp1 =>
      exact (snd_eq hp1 h.draw).modPt.setF.setF.setF

theorem lowerFold (h : s.Kept d) {n} : s.Kept (d.lowerFold n) := by
  unfold Dev.lowerFold
  split
  · exact h.setReg.modPt
  · exact h

theorem foldMarks (h : s.Kept d) {x} : s.Kept (d.foldMarks x) := by
  unfold Dev.foldMarks
  exact (h.modPt.raiseFold.ite h.modPt).ite ((h.modPt.lowerFold.ite h.modPt).ite h)

theorem ovlReg (h : s.Kept d) {x} : s.Kept (d.ovlReg x) := by
  unfold Dev.ovlReg
  exact h.setF.setF.foldMarks

theorem mapReg (h : s.Kept d) {x} : s.Kept (d.mapReg x) := by
  unfold Dev.mapReg
  exact h.setF

theorem mapPut (h : s.Kept d) {x x1 x2 dirty} : s.Kept (d.mapPut x x1 x2 dirty) := by
  unfold Dev.mapPut
  extract_lets st d1 w rest set
  have hd1 : s.Kept d1 := h.modHm
  refine hd1.upd.mapReg.ite ?_
  · split
    · exact hd1.upd.mapReg
    · exact hd1

theorem capMove (h : s.Kept d) {st code lower} : s.Kept (d.capMove st code lower) := by
  unfold Dev.capMove
  exact h.setF.post.logBoth

theorem setAllow (h : s.Kept d) {v} : s.Kept (d.setAllow v) := by
  unfold Dev.setAllow
  exact h.foldl fun _ _ h1 => h1.setF

theorem freeChanged (h : s.Kept d) : s.Kept d.freeChanged := by
  unfold Dev.freeChanged
  extract_lets f d1 st y d2
  have hd1 : s.Kept d1 := h.setF
  have hd2 : s.Kept d2 := hd1.setAllow
  exact hd1.setAllow.capMove.ite ((hd2.capMove.capMove.ite (hd2.capMove.capMove.ite hd2.capMove)).ite hd1)

theorem occupy (h : s.Kept d) {taken freed} : s.Kept (d.occupy taken freed) := by
  unfold Dev.occupy
  exact h.upd.freeChanged

theorem recomputeSpare (h : s.Kept d) : s.Kept d.recomputeSpare := by
  unfold Dev.recomputeSpare
  extract_lets y pct sums life oldLife d1 d2 st d3
  have hd1 : s.Kept d1 := h.setF.setF.setF
  have hd2 : s.Kept d2 := hd1.logBoth.ite hd1
  have hd3 : s.Kept d3 := hd2.ite ((hd2.capMove.ite hd2).ite ((hd2.capMove.ite hd2).ite hd2))
  exact hd3.upd.freeChanged

theorem capChanged (h : s.Kept d) : s.Kept d.capChanged := by
  unfold Dev.capChanged
  exact h.upd

theorem allowGain (h : s.Kept d) {x n} : s.Kept (d.allowGain x n) := by
  unfold Dev.allowGain
  exact h.setF.ite h

theorem programMetaPage (h : s.Kept d) {n secs} :
    s.KeptIf Prod.snd (d.programMetaPage n secs) := by
  unfold Dev.programMetaPage
  split
  · exact .none
  · extract_lets d1
    have hd1 : s.Kept d1 := h.foldl fun _ _ h1 => h1.program
    exact .pair hd1.modPt.addLive

theorem writeMap (h : s.Kept d) {x mp} : s.KeptIf (fun d => d) (d.writeMap x mp) := by
  unfold Dev.writeMap
  extract_lets img p partner
  split
  · exact .none
  next e1 hp1 =>
    have h1 : s.Kept e1 := h.programMetaPage _ hp1
    split
    · exact .none
    next e2 hp2 =>
      have h2 : s.Kept e2 := h1.programMetaPage _ hp2
      exact .dev h2.record.upd.mapReg

theorem flushMap (h : s.Kept d) {x mp} : s.Kept (d.flushMap x mp) := by
  unfold Dev.flushMap
  exact (getD h.writeMap h).ite h

theorem mapRoom (h : s.Kept d) {x x1} : s.Kept (d.mapRoom x x1) := by
  unfold Dev.mapRoom
  exact h.ite (h.foldl fun _ _ h1 => h1.flushMap)

theorem ovlDead (h : s.Kept d) {x} : s.Kept (d.ovlDead x) := by
  unfold Dev.ovlDead
  extract_lets d1
  have hd1 : s.Kept d1 := h.subLive
  split
  · exact hd1.ite hd1.subLive
  · exact hd1

theorem dropOverlay (h : s.Kept d) {pg} : s.Kept (d.dropOverlay pg) := by
  unfold Dev.dropOverlay
  exact (h.upd.foldl fun _ _ h1 => h1.ovlDead).whenNot fun h2 => h2.ovlReg

theorem killPage (h : s.Kept d) {page} : s.Kept (d.killPage page) := by
  unfold Dev.killPage
  exact h.upd.freeChanged.ite h.subLive

theorem unmapPage (h : s.Kept d) {pg} : s.Kept (d.unmapPage pg) := by
  unfold Dev.unmapPage
  extract_lets y
  refine h.foldl fun _ _ h1 => ?_
  · extract_lets y1
    split
    · exact h1.mapRoom.mapPut.killPage
    · exact h1

/-! ### The functions of `Machine/Reads.lean` -/

theorem taskEvent (h : s.Kept d) {n} : s.Kept (d.taskEvent n) := by
  unfold Dev.taskEvent
  exact h.modEng

theorem queueTask (h : s.Kept d) {n t} : s.Kept (d.queueTask n t) := by
  unfold Dev.queueTask
  exact h.ite h.modPt.taskEvent

theorem declareDead (h : s.Kept d) {n cause} : s.Kept (d.declareDead n cause) := by
  unfold Dev.declareDead
  exact h.setF.setF

theorem countUnc (h : s.Kept d) {n} : s.Kept (d.countUnc n) := by
  unfold Dev.countUnc
  exact h.modPt.declareDead.ite h.modPt

theorem senseRow (h : s.Kept d) {psa row x} : s.Kept (d.senseRow psa row x) := by
  unfold Dev.senseRow
  exact h.linkSend.tally

theorem sense (h : s.Kept d) {psa} : s.Kept (d.sense psa) := by
  unfold Dev.sense
  exact h.setPhi.senseRow.modPt

theorem corrects (h : s.Kept d) {n c} : s.Kept (d.corrects n c) := by
  unfold Dev.corrects
  exact h.upd.modPt.tally

theorem fallback (h : s.Kept d) {psa} : s.Kept (d.fallback psa) := by
  unfold Dev.fallback
  exact h.senseRow.senseRow.cnt.tally.queueTask

theorem decode (h : s.Kept d) {psa retry ev} : s.Kept (d.decode psa retry ev).2.1 := by
  unfold Dev.decode
  extract_lets n d1 d2
  have hd1 : s.Kept d1 := h.sense
  have hd2 : s.Kept d2 := hd1.fallback
  split
  · exact h
  · split
    · exact h
    · split
      · exact h
      · split
        · exact hd1
        · split
          · split
            · exact hd1.corrects
            · split
              · exact hd1
              · split
                · split
                  · exact hd2.corrects
                  · exact hd2.cnt

theorem decodeAll (h : s.Kept d) {l ev} : s.Kept (d.decodeAll l ev).2.2.1 := by
  unfold Dev.decodeAll
  refine h.foldl_snd_snd_fst fun _ _ h1 => ?_
  · split
    next hp1 =>
      split
      · exact (snd_fst_eq hp1 h1.decode)
      · exact (snd_fst_eq hp1 h1.decode)
      · exact (snd_fst_eq hp1 h1.decode)

theorem fromParity (h : s.Kept d) {psa ev} : s.Kept (d.fromParity psa ev).2.2.1 := by
  unfold Dev.fromParity
  split
  · exact h
  · split
    next hp1 =>
      extract_lets y
      split
      · exact (snd_snd_fst_eq hp1 h.decodeAll)
      · exact (snd_snd_fst_eq hp1 h.decodeAll)

theorem rebuild (h : s.Kept d) {psa alt x ev} : s.Kept (d.rebuild psa alt x ev).2.1 := by
  unfold Dev.rebuild
  extract_lets n d1 d2
  have hd1 : s.Kept d1 := by
    unfold d1
    split
    · exact h.post
    · exact h
  have hd2 : s.Kept d2 := by
    unfold d2
    split
    · exact hd1.modPt
    · exact hd1
  split
  next hp1 =>
    have h3 := snd_snd_fst_eq hp1 hd2.fromParity
    split
    next d4 _ hp2 =>
      have h4 : s.Kept d4 := snd_snd_fst_eq hp2 <| by
        split
        · split
          next hp3 =>
            have h5 := snd_fst_eq hp3 h3.decode
            split
            · exact h5
            · exact h5
            · exact h5
        · exact h3
      extract_lets waits d5
      have hd5 : s.Kept d5 := by
        unfold d5
        split
        · exact h4.post.countUnc
        · exact h4
      split
      · exact h4.upd
      · exact hd5

theorem keyRegs (h : s.Kept d) : s.Kept d.keyRegs := by
  unfold Dev.keyRegs
  exact h.setF.setF

theorem walk (h : s.Kept d) {x x1 ev} : s.Kept (d.walk x x1 ev).2.2.1 := by
  obtain ⟨d1, he, hd1⟩ :
      ∃ d1, (d.cnt (MAP_CACHE.MISSES x)).tally 0x0D (d.serving x) 1 = d1 ∧ s.Kept d1 :=
    ⟨_, rfl, h.cnt.tally⟩
  unfold Dev.walk
  rw [he]
  split
  · exact h.mapPut
  · split
    · exact h
    · extract_lets pa pb
      split
      next d2 _ hp1 =>
        have hd2 : s.Kept d2 := snd_fst_eq hp1 hd1.decode
        extract_lets spent
        split
        · exact hd2.mapPut
        · split
          next d3 _ hp2 =>
            have hd3 : s.Kept d3 := snd_fst_eq hp2 hd2.decode
            extract_lets spent
            split
            · exact hd3.mapPut
            · exact hd3.upd
            · split
              · exact hd3.upd
              · exact hd3

theorem loseSector (h : s.Kept d) {l mask} : s.Kept (d.loseSector l mask) := by
  unfold Dev.loseSector
  exact h.foldl fun _ _ h1 => h1.markPoison.ite h1

theorem deadRecords (h : s.Kept d) {n} : s.Kept (d.deadRecords n) := by
  unfold Dev.deadRecords
  exact (h.foldl fun _ _ h1 => h1.post).upd

theorem loseOn (h : s.Kept d) {psa x l mask} : s.Kept (d.loseOn psa x l mask) := by
  unfold Dev.loseOn
  extract_lets n lost
  split
  · exact h.upd.loseSector.deadRecords
  · exact h.loseSector

theorem toCollect (h : s.Kept d) {sg} : s.Kept (d.toCollect sg) := by
  unfold Dev.toCollect
  exact h.setState.queueTask

theorem fence (h : s.Kept d) {psa} : s.Kept (d.fence psa) := by
  unfold Dev.fence
  exact h.modSeg.secAlarm.modPt.when fun h1 => h1.toCollect

theorem readAt (h : s.Kept d) {psa alt l q mask stream retry ev} :
    s.Kept (d.readAt psa alt l q mask stream retry ev).2.1 := by
  unfold Dev.readAt
  extract_lets y bad
  split
  next hp1 =>
    split
    next e1 _ hp2 =>
      have h1 : s.Kept e1 := snd_fst_eq hp2 <| by
        split
        · exact (snd_fst_eq hp1 h.decode)
        · exact (snd_fst_eq hp1 h.decode).rebuild
      split
      · exact h1.ite h1.loseOn
      · extract_lets d1
        have hd1 : s.Kept d1 := h1.fence.ite h1
        split
        · exact h1.hovePost
        · split
          · exact hd1
          · split
            · exact hd1.secAlarm
            · split
              next hp3 =>
                split
                · exact (snd_fst_eq hp3 hd1.rebuild)
                · exact (snd_fst_eq hp3 hd1.rebuild).whenNot fun h2 => h2.secAlarm

theorem readSec (h : s.Kept d) {psa alt l mask stream full retry ev} :
    s.Kept (d.readSec psa alt l mask stream full retry ev).2.1 := by
  unfold Dev.readSec
  split
  next hp1 =>
    split
    next e1 _ hp2 =>
      have h1 : s.Kept e1 := snd_fst_eq hp2 <| by
        split
        · exact (snd_fst_eq hp1 h.decode)
        · split
          · exact (snd_fst_eq hp1 h.decode).rebuild
          · exact (snd_fst_eq hp1 h.decode)
      split
      · exact h1.loseOn.ite h1
      · extract_lets d1 ls
        have hd1 : s.Kept d1 := h1.fence.ite h1
        split
        · exact hd1.secAlarm
        · exact hd1

theorem mediaLine (h : s.Kept d) {line stream ev} : s.Kept (d.mediaLine line stream ev).2.1 := by
  unfold Dev.mediaLine
  extract_lets l q y o d1 pg mask
  have hd1 : s.Kept d1 := h.tally
  clear_value o
  split
  · exact hd1.readAt
  · split
    next hp1 =>
      extract_lets alt
      split
      · exact (snd_snd_fst_eq hp1 h.walk).whenNot fun h1 => h1.loseSector
      · split
        · exact (snd_snd_fst_eq hp1 h.walk)
        · exact (snd_snd_fst_eq hp1 h.walk).readAt

theorem reading (h : s.Kept d) {f} (hf : ∀ d, s.Kept d → s.Kept (f d)) : s.Kept (d.reading f) := by
  unfold Dev.reading
  exact h.ite (hf _ h)

theorem binnDrop (h : s.Kept d) {p} : s.Kept (d.binnDrop p) := by
  unfold Dev.binnDrop
  exact h.upd

theorem mergeSource (h : s.Kept d) {line ev} : s.Kept (d.mergeSource line ev).2.1 := by
  unfold Dev.mergeSource
  split
  · exact h
  · split
    · exact h
    · exact h.mediaLine

theorem pilotKeep (h : s.Kept d) {line x ev} : s.Kept (d.pilotKeep line x ev) := by
  unfold Dev.pilotKeep
  exact h.upd.ite h

theorem sramUe (h : s.Kept d) {line} : s.Kept (d.sramUe line) := by
  unfold Dev.sramUe
  extract_lets d1 y
  have hd1 : s.Kept d1 := h.binnDrop
  have hy : s.Kept y := h.cnt
  split
  · exact hd1.cnt.markPoison.post
  · exact hy.upd.ite h

theorem readWindow (h : s.Kept d) {line ev} : s.Kept (d.readWindow line ev).2 := by
  unfold Dev.readWindow
  extract_lets y n d1 d2
  have hd1 : s.Kept d1 := h.sramUe.ite h
  have hd2 : s.Kept d2 := hd1.tally
  split
  · exact h.hovePoison
  · split
    · split
      · exact hd1.tally
      · split
        next hp1 =>
          split
          · exact (snd_fst_eq hp1 hd1.mergeSource)
          · exact (snd_fst_eq hp1 hd1.mergeSource).poisonOut
    · split
      · exact hd1.poisonOut
      · split
        · exact hd1.tally
        · split
          next hp2 =>
            split
            · exact (snd_fst_eq hp2 hd2.mediaLine).pilotKeep
            · exact (snd_fst_eq hp2 hd2.mediaLine).poisonOut

theorem egress (h : s.Kept d) {line x bad} : s.Kept (d.egress line x bad).2 := by
  unfold Dev.egress
  split
  · split
    · exact h.cnt.post.poisonOut
    · exact h
  · exact h

/-! ### The functions of `Machine/StreamOps.lean` -/

theorem oncePerSec (h : s.Kept d) {x code ps} : s.Kept (d.oncePerSec x code ps) := by
  unfold Dev.oncePerSec
  exact h.ite h.setStm.post

theorem strSettle (h : s.Kept d) {x} : s.Kept (d.strSettle x) := by
  unfold Dev.strSettle
  exact h.setStm.upd.notify.ite h.setStm

theorem takeFrames (h : s.Kept d) {x n} : s.Kept (d.takeFrames x n) := by
  induction n generalizing d with
  | zero => exact h
  | succ n ih =>
    unfold Dev.takeFrames
    refine ite h ?_
    split
    · exact h
    · split
      · exact ih h.setStm
      · exact ih h.setStm.post.notify

theorem joinSlots (h : s.Kept d) {x n} : s.Kept (d.joinSlots x n) := by
  induction n generalizing d with
  | zero => exact h
  | succ n ih =>
    unfold Dev.joinSlots
    exact ite (ih (h.takeFrames.ite h.setStm).setStm.tally) h

theorem limitUp (h : s.Kept d) {x} : s.Kept (d.limitUp x) := by
  unfold Dev.limitUp
  exact h.setStm.notify.ite h.setStm

theorem raiseHome (h : s.Kept d) {x n} : s.Kept (d.raiseHome x n) := by
  induction n generalizing d with
  | zero => exact h
  | succ n ih =>
    unfold Dev.raiseHome
    refine ite h ?_
    split
    · exact h
    · exact ih h.upd.limitUp

theorem setFull (h : s.Kept d) {x} : s.Kept (d.setFull x) := by
  unfold Dev.setFull
  exact h.setStm.notify.ite h.setStm

theorem creditRaise (h : s.Kept d) {x} : s.Kept (d.creditRaise x) := by
  unfold Dev.creditRaise
  exact h.raiseHome.setFull

theorem floorMoved (h : s.Kept d) {x old} : s.Kept (d.floorMoved x old) := by
  unfold Dev.floorMoved
  extract_lets x1 fl exts d1
  have hd1 : s.Kept d1 := h.foldl fun _ _ h1 => (h1.foldl fun _ _ h2 =>
      h2.unmapPage.dropOverlay).whenNot fun h3 => h3.occupy.allowGain.ite h3.occupy
  exact hd1.modStm

theorem complete (h : s.Kept d) {p tag} : s.Kept (d.complete p tag) := by
  unfold Dev.complete
  exact h.send.ite (h.send.raise.ite h)

theorem clearRsv (h : s.Kept d) {line} : s.Kept (d.clearRsv line) := by
  unfold Dev.clearRsv
  exact h.upd

theorem gather (h : s.Kept d) {x l acks} : s.Kept (d.gather x l acks) := by
  unfold Dev.gather
  exact h.modHm

theorem logTails (h : s.Kept d) : s.Kept d.logTails := by
  unfold Dev.logTails
  exact h.foldl fun _ _ h1 => h1.foldl fun _ _ h2 => h2.ite h2.gather

theorem tailWrite (h : s.Kept d) {x q i p tag data mask poison} :
    s.Kept (d.tailWrite x q i p tag data mask poison) := by
  unfold Dev.tailWrite
  extract_lets csn d1 d2 pos x1 term t m v t1 key d3 l d4
  have hd1 : s.Kept d1 := h.markPoison.ite h
  have hd2 : s.Kept d2 := hd1.takeCsn.modHm
  have hd3 : s.Kept d3 := hd2.setStm
  have hd4 : s.Kept d4 := hd2.setStm.complete.ite (hd3.gather.ite hd2.setStm)
  exact hd4.clearRsv.joinSlots.strSettle

theorem producerWrite (h : s.Kept d) {x w i p tag data mask poison} :
    s.Kept (d.producerWrite x w i p tag data mask poison) := by
  unfold Dev.producerWrite
  extract_lets x1
  refine h.complete.ite (h.complete.oncePerSec.ite ?_)
  · split
    · exact h.setStm.complete.oncePerSec.ite h.tailWrite
    · exact h.setStm.complete.oncePerSec

theorem resetDone (h : s.Kept d) {x old} : s.Kept (d.resetDone x old) := by
  unfold Dev.resetDone
  exact h.strSettle.modStm.post.notify

theorem queueReset (h : s.Kept d) {x} : s.Kept (d.queueReset x) := by
  unfold Dev.queueReset
  exact h.setStm.resetDone.ite (h.setStm.post.notify.ite h.setStm.resetDone)

theorem strOp (h : s.Kept d) {x who op arg} : s.Kept (d.strOp x who op arg).2 := by
  unfold Dev.strOp
  extract_lets x1 old
  split
  next e1 hp1 =>
    have h1 : s.Kept e1 := snd_eq hp1 <| by
      split
      · exact h
      · split
        · exact h
        · split
          · exact h
          · split
            · exact h.queueReset
            · split
              · exact h.queueReset
              · split
                · exact h.setStm.floorMoved
    extract_lets d1
    have hd1 : s.Kept d1 := h1.modStm
    exact hd1

theorem queueUe (h : s.Kept d) {x pos} : s.Kept (d.queueUe x pos) := by
  unfold Dev.queueUe
  exact h.ite (h.setStm.cnt.post.when fun h1 => h1.markPoison)

theorem strLine (h : s.Kept d) {x pos ev} : s.Kept (d.strLine x pos ev).2 := by
  unfold Dev.strLine
  extract_lets x1 d1
  have hd1 : s.Kept d1 := h.queueUe.ite h
  split
  · split
    · exact hd1.poisonOut
    · exact hd1
  · split
    · exact hd1.poisonOut
    · split
      next hp1 =>
        split
        · exact (snd_fst_eq hp1 hd1.mediaLine)
        · exact (snd_fst_eq hp1 hd1.mediaLine).poisonOut

theorem apRead (h : s.Kept d) {x off ev} : s.Kept (d.apRead x off ev).2 := by
  unfold Dev.apRead
  extract_lets x1 pg i pos
  split
  · exact h
  · split
    · split
      · exact h
      · exact h
    · split
      · exact h
      · split
        · exact h.tally
        · exact h.strLine

theorem apWrite (h : s.Kept d) {x off p tag data mask poison} :
    s.Kept (d.apWrite x off p tag data mask poison) := by
  unfold Dev.apWrite
  extract_lets pg i
  exact ((h.complete.oncePerSec.ite h.takeCsn.trigger.complete).ite h.complete).ite
      (h.producerWrite.ite (h.takeCsn.strOp.complete.ite h.complete))

theorem ringReclaim (h : s.Kept d) {x} : s.Kept (d.ringReclaim x) := by
  unfold Dev.ringReclaim
  extract_lets x1 old need need1 y d1 passed y1 z d2 d3
  have hd1 : s.Kept d1 := h.setStm
  have hd2 : s.Kept d2 := h.setStm.floorMoved
  have hd3 : s.Kept d3 := hd2.notify.oncePerSec.ite hd2
  exact h.ite ((hd1.ite hd1.notify).ite hd3.creditRaise)

/-! ### The functions of `Machine/LogFrames.lean` -/

theorem llKeep (h : s.Kept d) {off old} : s.Kept (d.llKeep off old) := by
  unfold Dev.llKeep
  exact h.upd.ite h

theorem llSend (h : s.Kept d) {n} : s.Kept (d.llSend n) := by
  induction n generalizing d with
  | zero => exact h
  | succ n ih =>
    unfold Dev.llSend
    split
    · exact h
    · exact h.ite (ih (h.upd.foldl fun _ _ h => h.producerWrite))

theorem llClose (h : s.Kept d) {timed} : s.Kept (d.llClose timed) := by
  unfold Dev.llClose
  exact h.upd.llSend

theorem llPut (h : s.Kept d) {r} : s.Kept (d.llPut r) := by
  unfold Dev.llPut
  exact h.upd.llClose.ite h.upd

theorem llGap (h : s.Kept d) : s.Kept d.llGap := by
  unfold Dev.llGap
  exact h.ite h.upd.llPut.setF

theorem llPlace (h : s.Kept d) {i n edge r} : s.Kept (d.llPlace i n edge r) := by
  unfold Dev.llPlace
  exact h.llSend.llGap.llPut.ite h.llSend.llGap.cnt.upd

theorem llTimeout (h : s.Kept d) : s.Kept d.llTimeout := by
  unfold Dev.llTimeout
  exact h.upd.llClose

theorem llEdgeAt (h : s.Kept d) {i level stamp code} :
    s.Kept (d.llEdgeAt i level stamp code) := by
  unfold Dev.llEdgeAt
  extract_lets trig
  refine h.ite ?_
  · split
    next e1 hp1 =>
      have h1 : s.Kept e1 := snd_eq hp1 <| by
        split
        · exact h.trigger
        · exact h
      exact h1.llPlace

theorem llReturn (h : s.Kept d) : s.Kept d.llReturn := by
  unfold Dev.llReturn
  exact h.upd.foldl fun _ _ h1 => h1.llEdgeAt

/-! ### The functions of `Machine/Logbook.lean` -/

theorem lbkWrite (h : s.Kept d) {addr bs} : s.Kept (d.lbkWrite addr bs).2 := by
  unfold Dev.lbkWrite
  split
  · exact h
  · split
    · exact h.cnt.post0
    · exact (h.withLbk (memWrite_wf bs _ _)).cnt.tally

theorem lbkIntent (h : s.Kept d) {off n} : s.Kept (d.lbkIntent off n) := by
  unfold Dev.lbkIntent
  extract_lets base b k
  refine ite ?_ h
  · split
    next hp1 =>
      refine (snd_eq hp1 h.lbkWrite).ite ?_
      · split
        next hp2 =>
          exact (snd_eq hp2 (snd_eq hp1 h.lbkWrite).lbkWrite).when fun h1 => h1.cnt.post0

theorem lbkSetCounter (h : s.Kept d) {off n v} : s.Kept (d.lbkSetCounter off n v) := by
  unfold Dev.lbkSetCounter
  extract_lets d1 old base k
  have hd1 : s.Kept d1 := h.lbkIntent
  refine hd1.lbkWrite.ite ?_
  · split
    next hp1 =>
      refine (snd_eq hp1 hd1.lbkWrite).ite ?_
      · split
        next hp2 =>
          refine (snd_eq hp2 (snd_eq hp1 hd1.lbkWrite).lbkWrite).ite ?_
          · split
            next hp3 =>
              exact (snd_eq hp3 (snd_eq hp2 (snd_eq hp1 hd1.lbkWrite).lbkWrite).lbkWrite).whenNot
                  fun h1 => h1.lbkWrite

theorem dirtyShutdown (h : s.Kept d) : s.Kept d.dirtyShutdown := by
  unfold Dev.dirtyShutdown
  exact h.setF.lbkSetCounter.logBoth

theorem lbkCsn (h : s.Kept d) : s.Kept d.lbkCsn := by
  unfold Dev.lbkCsn
  exact h.lbkWrite

theorem powerWrite (h : s.Kept d) {kind body} : s.Kept (d.powerWrite kind body) := by
  unfold Dev.powerWrite
  extract_lets r
  split
  next hp1 =>
    exact (snd_eq hp1 h.lbkWrite).when fun h1 => h1.upd

/-! ### The functions of `Machine/Records.lean` -/

theorem deckFull (h : s.Kept d) : s.Kept d.deckFull := by
  unfold Dev.deckFull
  exact h.setF.raiseAll.post0

theorem deckFlush (h : s.Kept d) : s.Kept d.deckFlush := by
  unfold Dev.deckFlush
  extract_lets ptr
  refine h.ite ?_
  · split
    · extract_lets n
      split
      next e1 hp1 =>
        have h1 : s.Kept e1 := snd_eq hp1 <| by
          split
          · exact h
          · exact h.lbkWrite
        extract_lets d1 y y1 d2
        have hd1 : s.Kept d1 := h1.ite h1.lbkSetCounter
        have hy : s.Kept y := hd1.setF
        have hd2 : s.Kept d2 := hd1.ite hy.upd.raiseAll
        exact h1.ite (hd1.ite (hd2.ite hd2.deckFull))

/-! ### The functions of `Machine/HostMemory.lean` -/

theorem creditFor (h : s.Kept d) {p wr} : s.KeptIf (fun d => d) (d.creditFor p wr) := by
  unfold Dev.creditFor
  exact .ite .none (.ite .none (.dev h.modHead))

theorem touch (h : s.Kept d) : s.Kept d.touch := by
  unfold Dev.touch
  exact h.upd

theorem unbackedEv (h : s.Kept d) {p} : s.Kept (d.unbackedEv p) := by
  unfold Dev.unbackedEv
  exact h.ite h.modHead.post0

theorem holdReq (h : s.Kept d) {p tag a wr poison bad ev chk} :
    s.Kept (d.holdReq p tag a wr poison bad ev chk) := by
  unfold Dev.holdReq
  exact h.upd.tally

theorem credits (h : s.Kept d) {x} : s.Kept (d.credits x) := by
  unfold Dev.credits
  exact h.modHm.ite (h.modHm.ite h)

theorem binnWrite (h : s.Kept d) {line csn data mask chk} :
    s.Kept (d.binnWrite line csn data mask chk) := by
  unfold Dev.binnWrite
  split
  · exact h.upd
  · exact h.upd.credits

theorem wholeLine (h : s.Kept d) {line ev} : s.KeptIf Prod.snd (d.wholeLine line ev) := by
  unfold Dev.wholeLine
  split
  · exact .none
  · refine .ite (.pair h) ?_
    · split
      next hp1 =>
        extract_lets v
        exact .pair (snd_fst_eq hp1 h.mergeSource)
      next hp2 =>
        exact .none

theorem pilotWrite (h : s.Kept d) {line data mask ev} :
    s.Kept (d.pilotWrite line data mask ev) := by
  unfold Dev.pilotWrite
  split
  · exact h.upd
  · refine h.ite ?_
    · split
      next e1 hp1 =>
        have h1 : s.Kept e1 := h.wholeLine _ hp1
        exact h1.upd
      · exact h

theorem completeAll (h : s.Kept d) {l} : s.Kept (d.completeAll l) := by
  unfold Dev.completeAll
  exact h.foldl fun _ _ h1 => h1.complete

theorem gpfSettle (h : s.Kept d) : s.Kept d.gpfSettle := by
  unfold Dev.gpfSettle
  exact h.upd.foldl fun _ _ h1 => h1.send

theorem recSettle (h : s.Kept d) : s.Kept d.recSettle := by
  unfold Dev.recSettle
  exact h.upd.completeAll.gpfSettle

theorem supersede (h : s.Kept d) {line} : s.Kept (d.supersede line) := by
  unfold Dev.supersede
  exact h.binnDrop.upd.modHm.credits.upd.recSettle

theorem needsSpace (h : s.Kept d) {pg} : s.Kept (d.needsSpace pg).2 := by
  unfold Dev.needsSpace
  extract_lets y y1
  have hy1 : s.Kept y1 := h.setF
  split
  · exact h
  · split
    · exact h
    · split
      · exact h
      · exact hy1.upd

theorem allowReturn (h : s.Kept d) {pg} : s.Kept (d.allowReturn pg) := by
  unfold Dev.allowReturn
  exact h.upd.allowGain.ite h

theorem logLine (h : s.Kept d) {line csn p tag ev} : s.Kept (d.logLine line csn p tag ev) := by
  unfold Dev.logLine
  extract_lets y
  split
  · exact h
  · refine h.gather.ite ?_
    · split
      next hp1 =>
        split
        · exact (snd_fst_eq hp1 h.mergeSource).upd.gather
        · exact (snd_fst_eq hp1 h.mergeSource).complete

theorem acceptWrite (h : s.Kept d) {p tag a data mask poison bad ev chk} :
    s.Kept (d.acceptWrite p tag a data mask poison bad ev chk) := by
  unfold Dev.acceptWrite
  extract_lets line y csn d1 d2
  have hd1 : s.Kept d1 := h.takeCsn.modHm.tally
  have hd2 : s.Kept d2 := hd1.clearRsv.partialPoison
  refine hd2.complete.loseHove.ite (hd2.markPoison.supersede.complete.ite
      (hd2.cnt.markPoison.supersede.post.complete.ite ?_))
  · split
    next hp1 =>
      extract_lets d3 d4
      have hd3 : s.Kept d3 := (snd_eq hp1 hd2.needsSpace).cnt.markPoison.supersede
      have hd4 : s.Kept d4 := (snd_eq hp1 hd2.needsSpace).binnWrite.pilotWrite
      exact hd3.post.complete.ite (hd4.complete.ite hd4.logLine)

theorem memWrite (h : s.Kept d) {p tag a data mask poison bad ev chk} :
    s.Kept (d.memWrite p tag a data mask poison bad ev chk) := by
  unfold Dev.memWrite
  extract_lets y
  have hy : s.Kept y := h.acceptWrite
  refine h.holdReq.ite ?_
  · split
    · split
      · exact h.upd
      · exact hy
    · exact h.complete.loseHove.ite (h.cnt.post.ite h).apWrite
    · exact h.complete
    · exact h.complete.unbackedEv

theorem memReadNow (h : s.Kept d) {p a ev} : s.Kept (d.memReadNow p a ev).2 := by
  unfold Dev.memReadNow
  extract_lets d1
  have hd1 : s.Kept d1 := h.tally
  split
  · split
    next hp1 =>
      exact (snd_eq hp1 hd1.readWindow).egress
  · split
    · exact h.hovePoison
    · exact h.apRead
  · exact h
  · exact h.tally.unbackedEv

theorem answer (h : s.Kept d) {p tag x} : s.Kept (d.answer p tag x) := by
  unfold Dev.answer
  exact h.send.ite h

theorem memReadReq (h : s.Kept d) {p tag a ev} : s.Kept (d.memReadReq p tag a ev) := by
  unfold Dev.memReadReq
  refine h.holdReq.ite ?_
  · split
    next hp1 =>
      split
      · exact h.upd
      · exact (snd_eq hp1 h.memReadNow).answer

theorem offer (h : s.Kept d) {r} : s.Kept (d.offer r) := by
  unfold Dev.offer
  split
  · exact h.memWrite.modEng.ite h.memWrite
  · exact h.memReadReq

theorem releaseHold (h : s.Kept d) : s.Kept d.releaseHold := by
  unfold Dev.releaseHold
  exact h.upd.foldl fun _ _ h1 => h1.offer

theorem releaseFront (h : s.Kept d) {n} : s.Kept (d.releaseFront n) := by
  unfold Dev.releaseFront
  exact h.upd.foldl fun _ _ h1 => h1.offer

theorem request (h : s.Kept d) {p wr f} (hf : ∀ d, s.Kept d → s.Kept (f d)) :
    s.Kept (d.request p wr f) := by
  unfold Dev.request
  split
  next hp => exact hf _ (h.creditFor _ hp).touch
  · exact h

/-! ### The functions of `Machine/WritePath.lean` -/

theorem modImg (h : s.Kept d) {i f} : s.Kept (d.modImg i f) := by
  unfold Dev.modImg
  exact h.upd

theorem modImgSec (h : s.Kept d) {i j f} : s.Kept (d.modImgSec i j f) := by
  unfold Dev.modImgSec
  exact h.modImg

theorem placeImg (h : s.Kept d) {x} : s.KeptIf Prod.snd (d.placeImg x) := by
  unfold Dev.placeImg
  extract_lets hm x1
  split
  · split
    · exact .none
    next d1 hp1 =>
      have h1 : s.Kept d1 := h.takePage _ hp1
      extract_lets put
      refine .ite (.pair h1) ?_
      split
      · exact .none
      next hp2 => exact .pair (h1.takeTwin _ hp2)
  · refine .foldl (.pair h) fun acc x hacc => ?_
    split
    · exact .none
    next d1 =>
      have h1 : s.Kept d1 := hacc _ rfl
      split
      · exact .none
      next d2 hp1 =>
        have h2 : s.Kept d2 := h1.takeSec _ hp1
        refine .ite (.pair h2) ?_
        split
        · exact .none
        next hp2 => exact .pair (h2.takeTwin _ hp2)

theorem placeSec (h : s.Kept d) {i j} : s.Kept (d.placeSec i j) := by
  unfold Dev.placeSec
  split
  · exact h
  · extract_lets y
    split
    next e1 hp1 =>
      have h1 : s.Kept e1 := snd_eq hp1 <| by
        split
        · exact h
        · split
          next e2 hp2 =>
            have h2 : s.Kept e2 := h.takeSec _ hp2
            exact h2.modImgSec
          · exact h
      split
      · exact h1
      · refine ite ?_ h1
        · split
          next e3 hp3 =>
            have h3 : s.Kept e3 := h1.takeTwin _ hp3
            exact h3.modImgSec
          · exact h1

theorem placeMissing (h : s.Kept d) {i} : s.Kept (d.placeMissing i) := by
  unfold Dev.placeMissing
  split
  · exact h
  · refine ite ?_ (h.foldl fun _ _ h1 => h1.placeSec)
    · split
      next e1 hp1 =>
        have h2 : s.Kept e1 := h.placeImg _ hp1
        exact h2.modImg
      · exact h

theorem replaceImg (h : s.Kept d) {i hit all} : s.Kept (d.replaceImg i hit all) := by
  unfold Dev.replaceImg
  split
  · exact h
  · exact h.modImg.placeMissing

theorem moveOff (h : s.Kept d) {hit all} : s.Kept (d.moveOff hit all) := by
  unfold Dev.moveOff
  exact h.foldl fun _ _ h1 => h1.replaceImg.ite h1

theorem dropImg (h : s.Kept d) {i} : s.Kept (d.dropImg i) := by
  unfold Dev.dropImg
  split
  · exact h
  · exact h.upd

theorem entriesTo (h : s.Kept d) {used a b} : s.Kept (d.entriesTo used a b) := by
  unfold Dev.entriesTo
  exact h.upd

theorem setFullDefer (h : s.Kept d) {l} : s.Kept (d.setFullDefer l) := by
  unfold Dev.setFullDefer
  extract_lets y d1
  have hd1 : s.Kept d1 := h.cnt.modHm
  refine h.ite ?_
  · split
    · exact hd1.queueTask.modHm
    · exact hd1

theorem undefer (h : s.Kept d) {pg ls} : s.Kept (d.undefer pg ls) := by
  unfold Dev.undefer
  exact h.modHm

theorem startImg (h : s.Kept d) {x} : s.Kept (d.startImg x) := by
  unfold Dev.startImg
  split
  · exact h
  next e1 hp1 =>
    have h1 : s.Kept e1 := h.placeImg _ hp1
    exact h1.entriesTo.undefer.upd

theorem routePage (h : s.Kept d) {pg} : s.Kept (d.routePage pg) := by
  unfold Dev.routePage
  extract_lets rs n d1 start blocked d2 secs
  have hd1 : s.Kept d1 := h.allowReturn.ite h
  have hd2 : s.Kept d2 := hd1.foldl fun _ _ h1 => h1.setFullDefer
  exact h.ite (hd1.startImg.ite (hd2.ite hd2.startImg))

theorem mergeLine1 (h : s.Kept d) {line ev} : s.Kept (d.mergeLine1 line ev).2.2.1 := by
  unfold Dev.mergeLine1
  split
  · exact h
  · split
    · exact h
    · extract_lets l q one
      have hone : ∀ psa alt retry d ev, s.Kept d → s.Kept (one psa alt retry d ev).2.2.1 :=
        fun psa alt retry d ev h => by
          unfold one
          split
          next hp1 => exact snd_fst_eq hp1 h.readSec
      split
      · exact hone _ _ _ _ _ h
      · split
        next hp1 =>
          have h1 := snd_snd_fst_eq hp1 h.walk
          split
          · exact h1
          · split
            · exact hone _ _ _ _ _ h1
            · exact h1

theorem mergeSec (h : s.Kept d) {x ev} : s.Kept (d.mergeSec x ev).2.2.1 := by
  unfold Dev.mergeSec
  refine h.foldl_snd_snd_fst fun acc q h1 => ?_
  dsimp -zeta only
  extract_lets line own
  have h2 : s.Kept (acc.2.2.1.mergeLine1 line acc.2.2.2).2.2.1 := h1.mergeLine1
  split
  · exact h1
  · split
    · exact h2
    · exact h2

theorem mergeDone (h : s.Kept d) {pg i x ev} : s.Kept (d.mergeDone pg i x ev) := by
  unfold Dev.mergeDone
  extract_lets r back secs d1 keep d2
  have hr : s.Kept r.2.1 := by
    unfold r
    refine h.foldl_snd_fst fun _ _ h1 => ?_
    · split
      next hp1 =>
        exact (snd_snd_fst_eq hp1 h1.mergeSec)
  have hd1 : s.Kept d1 := hr.entriesTo
  have hd2 : s.Kept d2 := hd1.foldl fun _ _ h2 => h2.cnt
  exact hd1.modImg.ite (hd2.upd.ite hd2.modImg)

theorem nextSec (h : s.Kept d) {psa kind} : s.KeptIf Prod.snd (d.nextSec psa kind) := by
  unfold Dev.nextSec
  extract_lets n
  split
  · exact .ite (.pair h.modQueue) .none
  · exact .none

theorem verifyFails (h : s.Kept d) {psa} : s.Kept (d.verifyFails psa) := by
  unfold Dev.verifyFails
  exact h.cnt.post

theorem plogAdd (h : s.Kept d) {psa x} : s.Kept (d.plogAdd psa x) := by
  unfold Dev.plogAdd
  exact h.modPt

theorem logImg (h : s.Kept d) {i} : s.Kept (d.logImg i) := by
  unfold Dev.logImg
  split
  · exact h
  · exact (h.modImg.foldl fun _ _ h1 => h1.plogAdd).ite h

theorem programSec (h : s.Kept d) {i j psa second ok} :
    s.Kept (d.programSec i j psa second ok) := by
  unfold Dev.programSec
  split
  · exact h
  · extract_lets sec d1 d2
    have hd1 : s.Kept d1 := h.programAs
    have hd2 : s.Kept d2 := hd1.verifyFails
    refine hd1.modImgSec.logImg.ite ?_
    · split
      next e1 hp1 =>
        have h1 : s.Kept e1 := snd_eq hp1 <| by
          split
          next e2 hp2 =>
            have h2 : s.Kept e2 := hd2.nextSec _ hp2
            exact h2
          · exact hd2
        exact h1.modImgSec

theorem programDue (h : s.Kept d) {i psa ok} : s.Kept (d.programDue i psa ok) := by
  unfold Dev.programDue
  refine h.replaceImg.ite (h.replaceImg.ite (h.ite ?_))
  · split
    · exact h
    · exact h.programSec

theorem programLog (h : s.Kept d) {n kind data body df ok} :
    s.KeptIf Prod.snd (d.programLog n kind data body df ok) := by
  unfold Dev.programLog
  extract_lets d1
  have hd1 : s.Kept d1 := by
    unfold d1
    refine h.ite ?_
    · split
      · exact h
      · split
        · exact h
        · exact h.program.modPt.verifyFails
  exact hd1.programOn

theorem closePlog (h : s.Kept d) {n ok} : s.Kept (d.closePlog n ok) := by
  unfold Dev.closePlog
  extract_lets l d1
  have hd1 : s.Kept d1 := h.takeCsn
  split
  · exact h
  · split
    · exact h
    next e1 hp1 =>
      have h1 : s.Kept e1 := hd1.programLog _ hp1
      exact h1.modPt.countLog

theorem verifyDone (h : s.Kept d) {psas} : s.Kept (d.verifyDone psas) := by
  unfold Dev.verifyDone
  exact h.upd

theorem freeUsed (h : s.Kept d) {used} : s.Kept (d.freeUsed used) := by
  unfold Dev.freeUsed
  exact h.binnDrop.foldl fun _ _ h1 => h1.credits

theorem commitUsed (h : s.Kept d) {used} : s.Kept (d.commitUsed used) := by
  unfold Dev.commitUsed
  exact h.entriesTo.upd

theorem freeSweep (h : s.Kept d) : s.Kept d.freeSweep := by
  unfold Dev.freeSweep
  exact (h.commitUsed.upd.foldl fun _ _ h1 => h1.freeUsed.verifyDone).gpfSettle.recSettle

theorem clearPoisons (h : s.Kept d) {x} : s.Kept (d.clearPoisons x) := by
  unfold Dev.clearPoisons
  exact h.foldl fun _ _ h1 => h1.poisonClear.ite h1

theorem ovlPut (h : s.Kept d) {l x} : s.Kept (d.ovlPut l x) := by
  unfold Dev.ovlPut
  extract_lets hm old d1 d2 d3 d4
  have hd2 : s.Kept d2 := h.upd.modHm.addLive
  have hd3 : s.Kept d3 := by
    unfold d3
    split
    · exact hd2.ite hd2.addLive
    · exact hd2
  have hd4 : s.Kept d4 := by
    unfold d4
    clear_value old
    split
    · exact hd3.ovlDead
    · exact hd3
  exact hd4.ovlReg

theorem newPage (h : s.Kept d) {pg} : s.Kept (d.newPage pg) := by
  unfold Dev.newPage
  exact (h.upd.ite h.upd.occupy).ite (h.upd.ite h.upd.occupy)

theorem installSec (h : s.Kept d) {i j} : s.Kept (d.installSec i j) := by
  unfold Dev.installSec
  split
  · exact h
  · extract_lets d1
    have hd1 : s.Kept d1 := h.newPage
    split
    · exact h
    · exact hd1.ovlPut.clearPoisons.undefer.modImgSec.freeSweep

theorem installRelocated (h : s.Kept d) {x} : s.Kept (d.installRelocated x) := by
  unfold Dev.installRelocated
  refine h.foldl fun _ _ h1 => ?_
  · split
    · exact h1.ovlPut
    · exact h1

theorem installCopy (h : s.Kept d) {pg c base dead} : s.Kept (d.installCopy pg c base dead) := by
  unfold Dev.installCopy
  dsimp -zeta only
  extract_lets hm sl old d1 d2
  have hd2 : s.Kept d2 := h.walk.mapPut.addLive
  clear_value old
  split
  · exact hd2.killPage
  · exact hd2

theorem moveSealed (h : s.Kept d) {no old new} : s.Kept (d.moveSealed no old new) := by
  unfold Dev.moveSealed
  exact h.upd

theorem spillDone (h : s.Kept d) {x q} : s.Kept (d.spillDone x q) := by
  unfold Dev.spillDone
  exact (h.foldl fun _ _ h1 => h1.markPoison.ite h1.poisonClear).setStm.completeAll.gpfSettle.creditRaise

theorem folded (h : s.Kept d) {pg} : s.Kept (d.folded pg) := by
  unfold Dev.folded
  exact h.modHm

theorem installPage (h : s.Kept d) {i} : s.Kept (d.installPage i) := by
  unfold Dev.installPage
  split
  · exact h
  · extract_lets d1 d2 d3 d4 d5 d6 d7 used y d8 d9
    have hd1 : s.Kept d1 := h.ite h.newPage
    have hd2 : s.Kept d2 := hd1.installCopy
    have hd3 : s.Kept d3 := hd2.moveSealed.ite hd2
    have hd4 : s.Kept d4 := hd3.installCopy.ite hd3
    have hd5 : s.Kept d5 := hd4.dropOverlay.installRelocated.undefer.folded
    have hd6 : s.Kept d6 := hd5.foldl fun _ _ h1 => h1.clearPoisons
    have hd7 : s.Kept d7 := hd6.cnt.ite hd6
    have hy : s.Kept y := hd7.commitUsed.verifyDone
    have hd8 : s.Kept d8 := hy.upd
    have hd9 : s.Kept d9 := hd8.spillDone.ite hd8
    exact hd9.freeUsed.freeSweep

theorem installSealed (h : s.Kept d) {i} : s.Kept (d.installSealed i) := by
  unfold Dev.installSealed
  split
  · exact h
  · extract_lets o d1 d2 d3
    have hd1 : s.Kept d1 := h.moveSealed.addLive
    have hd2 : s.Kept d2 := by
      unfold d2
      split
      · exact hd1.mapPut.ite hd1
      · exact hd1
    have hd3 : s.Kept d3 := hd2.subLive.verifyDone
    exact hd3.upd

theorem programPartial (h : s.Kept d) {g r j ok} :
    s.KeptIf (fun d => d) (d.programPartial g r j ok) := by
  unfold Dev.programPartial
  extract_lets cov mask y
  split
  · exact .none
  · split
    · exact .none
    · exact .ite (.dev h.program.modPt.verifyFails) (.dev h.program.modPt.modRow.plogAdd)

theorem recordNow (h : s.Kept d) {n b} : s.KeptIf (fun d => d) (d.recordNow n b) := by
  unfold Dev.recordNow
  split
  · exact .none
  next d1 hp =>
    have h1 : s.Kept d1 := h.takeCsn.programOn _ hp
    exact (KeptIf.bind fun _ => h1.programPartial).map fun _ h => h.countLog

theorem closeLlog (h : s.Kept d) {x} : s.Kept (d.closeLlog x) := by
  unfold Dev.closeLlog
  exact h.ite h.modHm.upd

theorem programLlog (h : s.Kept d) {j ok} : s.Kept (d.programLlog j ok).2 := by
  unfold Dev.programLlog
  extract_lets x
  split
  · exact h
  · split
    · exact h
    · extract_lets y d1 d2
      have hd1 : s.Kept d1 := h.program
      have hd2 : s.Kept d2 := hd1.modPt
      split
      · exact hd2.countLog
      · exact hd2.verifyFails

theorem commitLlog (h : s.Kept d) {j} : s.Kept (d.commitLlog j) := by
  unfold Dev.commitLlog
  exact h.modHm.upd.completeAll.gpfSettle.recSettle

/-! ### The functions of `Machine/Rows.lean` -/

theorem paritySec (h : s.Kept d) {g r j p ok} : s.Kept (d.paritySec g r j p ok).2 := by
  unfold Dev.paritySec
  extract_lets cov mask aside y d1
  have hd1 : s.Kept d1 := h.program
  split
  · exact getD h.programPartial h
  · split
    · exact hd1
    · split
      · exact getD hd1.verifyFails.programPartial hd1.verifyFails
      next e1 hp1 =>
        have h1 : s.Kept e1 := hd1.verifyFails.nextSec _ hp1
        extract_lets d2
        have hd2 : s.Kept d2 := h1.program.modRow
        exact hd2.plogAdd

theorem programParity (h : s.Kept d) {num r fails} : s.Kept (d.programParity num r fails) := by
  unfold Dev.programParity
  split
  · exact h
  · split
    · exact h
    · extract_lets base
      split
      next e1 hp1 =>
        have h1 : s.Kept e1 := snd_eq hp1 <| by
          refine h.foldl_snd fun _ _ h2 => ?_
          · split
            next hp2 =>
              exact (snd_eq hp2 h2.paritySec)
        exact h1.modRow.ite h1.modRow.plogAdd

theorem purgeSlots (h : s.Kept d) {x q} : s.Kept (d.purgeSlots x q) := by
  unfold Dev.purgeSlots
  exact h.foldl fun _ _ h1 => h1.modQueue

theorem closeRow (h : s.Kept d) {g r fails} : s.Kept (d.closeRow g r fails) := by
  unfold Dev.closeRow
  split
  · exact h
  · exact h.purgeSlots.modRow.moveOff.programParity

theorem closeGroup (h : s.Kept d) {g} : s.Kept (d.closeGroup g) := by
  unfold Dev.closeGroup
  split
  · exact h
  · extract_lets rows d1 d2 all d3
    have hd1 : s.Kept d1 := h.purgeSlots.foldl fun _ _ h1 => h1.programParity.ite h1.closeRow
    have hd2 : s.Kept d2 := hd1.foldl fun _ _ h2 => h2.setState
    have hd3 : s.Kept d3 := hd2.modGroup.moveOff
    exact h.ite hd3.record.freeSweep

theorem berthCheck (h : s.Kept d) : s.Kept d.berthCheck := by
  unfold Dev.berthCheck
  exact h.setF.post.ite (h.setF.ite h)

theorem formGroup (h : s.Kept d) {kind segs} : s.Kept (d.formGroup kind segs) := by
  unfold Dev.formGroup
  extract_lets num members d1 d2 d3 d4 nos
  have hd1 : s.Kept d1 := h.foldl fun _ _ h1 => h1.modSeg.setState
  have hd2 : s.Kept d2 := hd1.upd
  have hd3 : s.Kept d3 := (hd2.foldl fun _ _ h2 => h2.modPt).ite hd2
  have hd4 : s.Kept d4 := hd3.foldl fun _ _ h3 => h3.modQueue
  exact hd4.record.drainRecords

theorem openGroupOf (h : s.Kept d) {kind} : s.Kept (d.openGroupOf kind) := by
  unfold Dev.openGroupOf
  exact h.ite (h.ite h.formGroup)

theorem settleGroup (h : s.Kept d) {g x} : s.Kept (d.settleGroup g x) := by
  unfold Dev.settleGroup
  exact h.foldl fun _ _ h1 => h1.setState.queueTask.ite h1

theorem metaRecount (h : s.Kept d) {sg} : s.Kept (d.metaRecount sg) := by
  unfold Dev.metaRecount
  exact h.modSeg.ite h

theorem readPage (h : s.Kept d) {pg ev} : s.Kept (d.readPage pg ev).2.1 := by
  unfold Dev.readPage
  extract_lets stream
  refine h.foldl_snd_fst fun acc j h1 => ?_
  obtain ⟨out, d1, ev1⟩ := acc
  change s.Kept d1 at h1
  split
  next he =>
    cases he
    extract_lets l o m
    split
    next d2 _ hp1 =>
      have h2 : s.Kept d2 := snd_fst_eq hp1 <| by
        clear_value o
        split
        · exact h1.readSec
        · exact h1
      split
      next d3 _ hp2 =>
        have h3 : s.Kept d3 := snd_fst_eq hp2 <| by
          split
          · exact h2
          · split
            · exact h2.readSec
            · exact h2
        exact h3

theorem pinOvl (h : s.Kept d) {q} : s.Kept (d.pinOvl q) := by
  unfold Dev.pinOvl
  exact h.upd

theorem startFold (h : s.Kept d) {pg why old ev} : s.Kept (d.startFold pg why old ev).1 := by
  unfold Dev.startFold
  split
  · exact h
  · split
    next hp1 =>
      have h1 := snd_fst_eq hp1 h.readPage
      split
      · exact h
      · split
        · exact h
        next d2 hp2 =>
          have h2 : s.Kept d2 := h1.placeImg _ hp2
          exact mk_fst h2.upd.pinOvl

theorem dropEntry (h : s.Kept d) {l x} : s.Kept (d.dropEntry l x) := by
  unfold Dev.dropEntry
  exact h.upd.ovlDead.ovlReg

theorem startSecMove (h : s.Kept d) {l x ev} : s.Kept (d.startSecMove l x ev).1 := by
  unfold Dev.startSecMove
  extract_lets stream
  split
  · exact h
  · split
    next hp1 =>
      have h1 := snd_fst_eq hp1 h.readSec
      extract_lets mask x1
      split
      · exact h
      · split
        · exact h1.dropEntry
        · split
          · exact h
          next d2 hp2 =>
            have h2 : s.Kept d2 := h1.placeImg _ hp2
            exact mk_fst h2.upd.pinOvl

theorem startSealedMove (h : s.Kept d) {sl page ev} :
    s.Kept (d.startSealedMove sl page ev).1 := by
  unfold Dev.startSealedMove
  extract_lets k pg r y
  have hr : s.Kept r.2.1 := by
    unfold r
    refine h.foldl_snd_fst fun _ _ h1 => ?_
    · split
      next hp1 =>
        exact (snd_fst_eq hp1 h1.readSec)
  split
  · exact h
  · split
    · exact h
    · split
      · exact h
      next e1 hp2 =>
        have h2 : s.Kept e1 := hr.placeImg _ hp2
        exact h2.upd

theorem copyMeta (h : s.Kept d) {psa x} : s.KeptIf (fun d => d) (d.copyMeta psa x) := by
  unfold Dev.copyMeta
  split
  · exact .none
  · split
    · exact .none
    · exact .dev h.program.modPt.upd

theorem relocateMeta (h : s.Kept d) {psa} : s.Kept (d.relocateMeta psa).2 := by
  unfold Dev.relocateMeta
  split
  · exact h
  · split
    · split
      · exact getD h.writeMap h
      · exact h
    · split
      · exact getD h.copyMeta h
      · exact h

theorem relocate (h : s.Kept d) {psa ev} : s.Kept (d.relocate psa ev).2.1 := by
  unfold Dev.relocate
  split
  · split
    next hp1 => exact snd_eq hp1 h.relocateMeta
  · split
    · exact mk_snd_of_fst h.startSecMove
    · split
      · exact mk_snd_of_fst h.startFold
      · split
        · exact mk_snd_of_fst h.startSealedMove
        · exact h

theorem evacuate (h : s.Kept d) {sg ev} : s.Kept (d.evacuate sg ev).2 := by
  unfold Dev.evacuate
  extract_lets d1 left
  have hd1 : s.Kept d1 := h.foldl_fst fun _ _ h1 => h1.relocate
  exact hd1.metaRecount.dropEmpty

theorem loseAt (h : s.Kept d) {psa x} : s.Kept (d.loseAt psa x) := by
  unfold Dev.loseAt
  split
  · exact h.loseOn
  · split
    · exact h.loseOn
    · exact h

theorem verifyMove (h : s.Kept d) {psa ev} : s.Kept (d.verifyMove psa ev) := by
  unfold Dev.verifyMove
  split
  next hp1 =>
    exact (snd_fst_eq hp1 h.relocate).ite h.verifyDone

theorem verifyRead (h : s.Kept d) {psa ev} : s.Kept (d.verifyRead psa ev) := by
  unfold Dev.verifyRead
  split
  next hp1 =>
    split
    · exact (snd_fst_eq hp1 h.decode).upd
    · exact h.ite h.verifyDone
    · exact (snd_fst_eq hp1 h.decode).verifyDone.ite (snd_fst_eq hp1 h.decode).verifyMove
    · split
      next hp2 =>
        exact (snd_fst_eq hp2 (snd_fst_eq hp1 h.decode).rebuild).verifyMove.ite
            ((snd_fst_eq hp2 (snd_fst_eq hp1 h.decode).rebuild).whenNot fun h1 => h1.loseAt.verifyDone)

theorem releaseParity (h : s.Kept d) {g x} : s.Kept (d.releaseParity g x) := by
  unfold Dev.releaseParity
  extract_lets d1 d2
  have hd1 : s.Kept d1 := h.upd
  have hd2 : s.Kept d2 := hd1.foldl fun _ _ h1 => h1.ite (h1.setState.metaRecount.dropEmpty.when
      fun h2 => h2.toCollect)
  exact hd2.record

theorem groupClose (h : s.Kept d) {g cause aged} : s.Kept (d.groupClose g cause aged) := by
  unfold Dev.groupClose
  split
  · exact h
  · exact h.closeGroup.openGroupOf.ite h

/-! ### The functions of `Machine/Drift.lean` -/

theorem correctPhi (h : s.Kept d) {n j sg m0 m1 m2} : s.Kept (d.correctPhi n j sg m0 m1 m2) := by
  unfold Dev.correctPhi
  exact h.ite ((h.setPhi.setF.post.foldl fun _ _ h1 => h1.modSeg).ite h.setPhi)

theorem findMedian (h : s.Kept d) {sg cell k els} : s.Kept (d.findMedian sg cell k els).2 := by
  unfold Dev.findMedian
  split
  next hp1 =>
    split
    · split
      next hp2 =>
        exact (snd_eq hp2 (snd_eq hp1 (h.foldl_snd fun _ _ h1 => h1.linkSend)).draw)
    · exact (snd_eq hp1 (h.foldl_snd fun _ _ h1 => h1.linkSend))

theorem sampleLodestone (h : s.Kept d) {n g sg p els} :
    s.Kept (d.sampleLodestone n g sg p els) := by
  unfold Dev.sampleLodestone
  extract_lets key periodic mine d1 d2
  have hd1 : s.Kept d1 := h.modPt
  have hd2 : s.Kept d2 := hd1.upd
  split
  next hp1 =>
    split
    next hp2 =>
      split
      next hp3 =>
        extract_lets d3 q
        have hd3 : s.Kept d3 := (snd_eq hp3 (snd_eq hp2 (snd_eq hp1
            hd2.grant.findMedian).findMedian).findMedian).when fun h1 => h1.correctPhi
        exact hd3.setPhi

theorem sweepSeg (h : s.Kept d) {sg} : s.Kept (d.sweepSeg sg) := by
  unfold Dev.sweepSeg
  exact h.ite h.setSeg

theorem surveyDie (h : s.Kept d) {n samples dorm} : s.Kept (d.surveyDie n samples dorm).2 := by
  unfold Dev.surveyDie
  extract_lets gs us u
  split
  · exact h
  · exact h.setReg

/-! ### The functions of `Machine/Wear.lean` -/

theorem failCell (h : s.Kept d) {n c} : s.Kept (d.failCell n c) := by
  unfold Dev.failCell
  extract_lets d1 second pages d2 d3 d4 d5
  have hd1 : s.Kept d1 := h.post
  have hd2 : s.Kept d2 := hd1.modPt
  have hd3 : s.Kept d3 := hd2.setF.setF.capChanged
  have hd4 : s.Kept d4 := hd3.moveOff
  have hd5 : s.Kept d5 := hd4.foldl fun _ _ h1 => h1.queueTask
  exact h.ite (hd5.declareDead.ite hd5)

theorem beginClear (h : s.Kept d) {sg c} : s.Kept (d.beginClear sg c) := by
  unfold Dev.beginClear
  exact h.record.modSeg.setState.wearSeg

theorem startClear (h : s.Kept d) {sg} : s.Kept (d.startClear sg) := by
  unfold Dev.startClear
  exact h.ite (h.setState.ite h.beginClear)

theorem clearPulses (h : s.Kept d) {sg} : s.Kept (d.clearPulses sg) := by
  unfold Dev.clearPulses
  extract_lets n row
  split
  next hp1 =>
    exact (snd_eq hp1 h.draw).tally.linkSend.grant.linkSend.linkSend

theorem sliceFails (h : s.Kept d) {sg retired} : s.Kept (d.sliceFails sg retired) := by
  unfold Dev.sliceFails
  extract_lets n fresh all d1 d2 d3 d4
  have hd1 : s.Kept d1 := h.foldl fun _ _ h1 => h1.cnt.post
  have hd2 : s.Kept d2 := hd1.modSeg
  have hd3 : s.Kept d3 := hd2.modPt
  have hd4 : s.Kept d4 := hd3.ite hd3.capChanged
  exact hd4.foldl fun _ _ h2 => h2.failCell

theorem clearDone (h : s.Kept d) {sg retired} : s.Kept (d.clearDone sg retired) := by
  unfold Dev.clearDone
  extract_lets n d1 d2 d3 x bad d4 d5 d6
  have hd1 : s.Kept d1 := h.clearPulses
  have hd2 : s.Kept d2 := hd1.upd
  have hd3 : s.Kept d3 := hd2.sliceFails
  have hd4 : s.Kept d4 := hd3.modSeg
  have hd5 : s.Kept d5 := hd4.record.ite hd4
  have hd6 : s.Kept d6 := (hd5.setState.ite hd5.setState.capChanged).wearSeg
  exact hd6.modPt

theorem restartClears (h : s.Kept d) : s.Kept d.restartClears := by
  unfold Dev.restartClears
  exact h.foldl fun _ _ h1 => h1.setState.ite h1.beginClear

theorem collect (h : s.Kept d) {sg} : s.Kept (d.collect sg) := by
  unfold Dev.collect
  exact h.toCollect.metaRecount.dropEmpty

theorem flushMapsOf (h : s.Kept d) {sg} : s.Kept (d.flushMapsOf sg) := by
  unfold Dev.flushMapsOf
  exact h.foldl fun _ _ h1 => getD h1.writeMap h1

theorem collectCands (h : s.Kept d) {cands} : s.Kept (d.collectCands cands) := by
  unfold Dev.collectCands
  exact h.foldl fun _ _ h1 => h1.ite (h1.flushMapsOf.upd.ite h1.collect)

theorem setPool (h : s.Kept d) {sg pool} : s.Kept (d.setPool sg pool) := by
  unfold Dev.setPool
  exact h.modSeg.record.poolRegs.capChanged

/-! ### The functions of `Machine/Link.lean` -/

theorem needRetrain (h : s.Kept d) {n cause} : s.Kept (d.needRetrain n cause) := by
  unfold Dev.needRetrain
  exact h.ite (h.declareDead.ite h.modPt)

theorem pllLocks (h : s.Kept d) {v} : s.Kept (d.pllLocks v) := by
  unfold Dev.pllLocks
  exact h.setF.setF.setF

theorem leaveDoze (h : s.Kept d) : s.Kept d.leaveDoze := by
  unfold Dev.leaveDoze
  exact (h.upd.pllLocks.foldl fun _ _ h1 => h1.needRetrain).ite h

theorem startRetrain (h : s.Kept d) {n cause} : s.Kept (d.startRetrain n cause) := by
  unfold Dev.startRetrain
  exact h.modPt.setF.cnt.setF

theorem resend (h : s.Kept d) {n} : s.Kept (d.resend n) := by
  unfold Dev.resend
  exact h.cnt.tally.modPt

theorem resendFirst (h : s.Kept d) {n k} : s.Kept (d.resendFirst n k) := by
  unfold Dev.resendFirst
  exact h.resend.post.ite h.resend

theorem homeRecord (h : s.Kept d) {n} : s.Kept (d.homeRecord n) := by
  unfold Dev.homeRecord
  exact h.record

theorem quadLost (h : s.Kept d) {q} : s.Kept (d.quadLost q) := by
  unfold Dev.quadLost
  exact h.hovePost

theorem dropRsv (h : s.Kept d) {n} : s.Kept (d.dropRsv n) := by
  unfold Dev.dropRsv
  exact h.upd

theorem pointDies (h : s.Kept d) {n} : s.Kept (d.pointDies n) := by
  unfold Dev.pointDies
  exact h.dropRsv.setF.post.homeRecord.moveOff.upd.releaseFront.when fun h1 => h1.quadLost

theorem rehome (h : s.Kept d) {n a} : s.Kept (d.rehome n a) := by
  unfold Dev.rehome
  extract_lets homes d1 d2 d3 tasks d4 d5
  have hd1 : s.Kept d1 := h.upd
  have hd2 : s.Kept d2 := hd1.foldl fun _ _ h1 => h1.mapReg.setF
  have hd3 : s.Kept d3 := hd2.setF.setF
  have hd4 : s.Kept d4 := hd3.modPt
  have hd5 : s.Kept d5 := hd4.ite hd4.modPt.taskEvent
  exact hd5.setF

theorem loseSegs (h : s.Kept d) {n} : s.Kept (d.loseSegs n) := by
  unfold Dev.loseSegs
  exact h.foldl fun _ _ h1 => h1.setState

theorem closeGroupsOf (h : s.Kept d) {n} : s.Kept (d.closeGroupsOf n) := by
  unfold Dev.closeGroupsOf
  exact h.foldl fun _ _ h1 => h1.closeGroup

theorem rehomed (h : s.Kept d) {n selfTestOk} : s.Kept (d.rehomed n selfTestOk) := by
  unfold Dev.rehomed
  extract_lets d1 d2
  have hd1 : s.Kept d1 := h.closeGroupsOf
  have hd2 : s.Kept d2 := hd1.ite hd1.quadLost
  split
  · exact hd2.setF.loseSegs.capChanged.homeRecord.settleHove.releaseHold
  · exact hd2.rehome.loseSegs.capChanged.homeRecord.post.releaseHold

theorem recoverPage (h : s.Kept d) {n pg ev} : s.Kept (d.recoverPage n pg ev) := by
  unfold Dev.recoverPage
  split
  next e1 _ hp1 =>
    have h1 : s.Kept e1 := fst_eq hp1 <| by
      split
      · exact h
      · exact h.startFold
    extract_lets mine moved
    have hmoved : s.Kept moved.1 := by
      unfold moved
      refine h1.foldl_fst fun _ _ h2 => ?_
      · split
        · exact h2.startSealedMove
        · exact h2
    exact hmoved.deadRecords

theorem crossbarFail (h : s.Kept d) {q} : s.Kept (d.crossbarFail q) := by
  unfold Dev.crossbarFail
  exact h.post.quadLost

/-! ### The functions of `Machine/Chain.lean` -/

theorem hashedAt (h : s.Kept d) {q ns} : s.Kept (d.hashedAt q ns) := by
  unfold Dev.hashedAt
  exact h.modQuad.tally

theorem hashedBytes (h : s.Kept d) {n} : s.Kept (d.hashedBytes n) := by
  unfold Dev.hashedBytes
  exact (h.foldl fun _ _ h1 => h1.hashedAt).tally

theorem sealRegs (h : s.Kept d) : s.Kept d.sealRegs := by
  unfold Dev.sealRegs
  exact h.setF.foldl fun _ _ h1 => h1.setF

theorem chainAppend (h : s.Kept d) {kind target csn stream start len digest} :
    s.Kept (d.chainAppend kind target csn stream start len digest) := by
  unfold Dev.chainAppend
  exact h.putBody.upd.lbkWrite.sealRegs

theorem sealGoneEvent (h : s.Kept d) : s.Kept d.sealGoneEvent := by
  unfold Dev.sealGoneEvent
  split
  next hp1 =>
    exact (snd_eq hp1 h.draw).post

theorem endSeal (h : s.Kept d) {x} : s.Kept (d.endSeal x) := by
  unfold Dev.endSeal
  exact h.upd.modStm.setF.floorMoved.strSettle.ite (h.upd.foldl fun _ _ h1 => h1.ite h1.occupy.subLive)

/-! ### The functions of `Machine/Checkpoint.lean` -/

theorem cut (h : s.Kept d) : s.Kept d.cut := by
  unfold Dev.cut
  exact h.record.setF.setF.upd

theorem startCkpt (h : s.Kept d) : s.Kept d.startCkpt := by
  unfold Dev.startCkpt
  exact h.cut.ite h.upd

theorem answerCkpt (h : s.Kept d) {c} : s.Kept (d.answerCkpt c) := by
  unfold Dev.answerCkpt
  exact h.upd

theorem discardCands (h : s.Kept d) : s.Kept (match d.sdisc with
    | x :: _ => if x.step = 6 then d.collectCands x.cands else d
    | [] => d) := by
  split
  · exact h.collectCands.ite h
  · exact h

theorem rekeyCands (h : s.Kept d) : s.Kept (match d.rekey with
    | some r => if r.step = 4 then d.collectCands r.cands else d
    | none => d) := by
  split
  · exact h.collectCands.ite h
  · exact h

theorem ckptDone (h : s.Kept d) {c} : s.Kept (d.ckptDone c) := by
  unfold Dev.ckptDone
  extract_lets loc i d1 d2 d3 d4 d5 d6 d7
  have hd3 : s.Kept d3 := h.cnt.tally.upd.setF.setF.setF
  have hd5 : s.Kept d5 := hd3.tally.foldl fun _ _ h => h.metaRecount.dropEmpty
  have hd6 : s.Kept d6 := hd5.discardCands
  have hd7 : s.Kept d7 := hd6.rekeyCands
  exact hd7.answerCkpt

/-! ### The functions of `Machine/Recovery.lean` -/

theorem loadEclk (h : s.Kept d) {c} : s.Kept (d.loadEclk c) := by
  unfold Dev.loadEclk
  exact (h.foldl fun _ _ h1 => h1.setReg).upd

theorem loadCkpt (h : s.Kept d) {c} : s.Kept (d.loadCkpt c) := by
  unfold Dev.loadCkpt
  extract_lets hdr heads y d1 d2 d3 d4 d5 d6 d7 d8 d9
  have hd1 : s.Kept d1 := h.upd
  have hd2 : s.Kept d2 := hd1.loadEclk
  have hd3 : s.Kept d3 := hd2.setReg
  have hd4 : s.Kept d4 := hd3.foldl fun _ _ h1 => h1.setF.setF.ite h1.setF
  have hd5 : s.Kept d5 := hd4.foldl fun _ _ h2 => h2.setReg
  have hd6 : s.Kept d6 := hd5.foldl fun _ _ h3 => h3.setReg
  have hd7 : s.Kept d7 := hd6.setReg
  have hd8 : s.Kept d8 := hd7.setF.setF.setF
  have hd9 : s.Kept d9 := hd8.keyRegs
  refine hd9.foldl fun _ _ h4 => ?_
  · split
    · exact h4.setF.setF
    · exact h4

theorem surveyAll (h : s.Kept d) {ev} : s.Kept (d.surveyAll ev).2 := by
  unfold Dev.surveyAll
  refine h.foldl_snd fun _ _ h1 => ?_
  · split
    next hp1 =>
      exact (snd_eq hp1 h1.surveyDie)

theorem surveyEvent (h : s.Kept d) {us} : s.Kept (d.surveyEvent us) := by
  unfold Dev.surveyEvent
  exact h.upd.post

theorem logGroups (h : s.Kept d) {logs} : s.Kept (d.logGroups logs) := by
  unfold Dev.logGroups
  refine h.foldl fun _ _ h1 => ?_
  · split
    · exact h1.upd
    · refine h1.foldl fun _ _ h2 => ?_
      · extract_lets psa r m
        split
        · exact h2
        · exact h2.modRow.ite (h2.modRow.ite h2)
    · exact h1

theorem replayPage (h : s.Kept d) {pg base second} : s.Kept (d.replayPage pg base second) := by
  unfold Dev.replayPage
  extract_lets y d1 d2 d3
  have hd1 : s.Kept d1 := h.newPage
  have hd2 : s.Kept d2 := hd1.mapRoom.installCopy
  have hd3 : s.Kept d3 := by
    unfold d3
    split
    · exact hd2.mapRoom.installCopy
    · exact hd2
  exact hd3.dropOverlay

theorem replaySec (h : s.Kept d) {l psa mask second} :
    s.Kept (d.replaySec l psa mask second) := by
  unfold Dev.replaySec
  exact h.newPage.ovlPut

theorem replayEnt (h : s.Kept d) {cov n data x seconds} :
    s.Kept (d.replayEnt cov n data x seconds).1 := by
  unfold Dev.replayEnt
  extract_lets psa span two rest other span2
  split
  · exact h
  · split
    · exact h
    · split
      · split
        · exact h.moveSealed.addLive.subLive
        · exact h
      · split
        · exact h.replaySec
        · exact h.replayPage

theorem discardTables (h : s.Kept d) {start len} : s.Kept (d.discardTables start len) := by
  unfold Dev.discardTables
  exact h.foldl fun _ _ h1 => h1.dropOverlay.unmapPage.occupy.ite h1

theorem replayPool (h : s.Kept d) {sg p} : s.Kept (d.replayPool sg p) := by
  unfold Dev.replayPool
  exact (h.upd.ite h).modSeg

theorem replayRec (h : s.Kept d) {csn b} : s.Kept (d.replayRec csn b) := by
  unfold Dev.replayRec
  split
  · exact h.modSeg.setState
  · exact (h.foldl fun _ _ h => h.modSeg.setState).upd
  · split
    · exact h
    · split
      · exact (h.foldl fun _ _ h => h.setState).modGroup
      · exact h.upd.foldl fun _ _ h => h.ite h.setState.metaRecount.dropEmpty
  · exact h.upd.upd
  · exact h.modHm
  · exact h.setPoisonMask
  · exact h.discardTables.ite h
  · exact h.setReg.foldl fun _ _ h => h.setF
  · exact h.replayPool
  · exact h
  · exact h
  · exact h

theorem replaySdisc (h : s.Kept d) {b} : s.Kept (d.replaySdisc b) := by
  unfold Dev.replaySdisc
  split
  · exact h.ite (h.upd.ite h.upd)
  · exact h

theorem standWindow (h : s.Kept d) {x} : s.Kept (d.standWindow x) := by
  unfold Dev.standWindow
  exact h.modStm

theorem replaySeal (h : s.Kept d) {num bs} : s.Kept (d.replaySeal num bs) := by
  unfold Dev.replaySeal
  extract_lets d1 kind psas x d2 gone
  have hd1 : s.Kept d1 := h.upd
  have hd2 : s.Kept d2 := hd1.upd
  refine (hd2.standWindow.ite hd2).ite (ite ?_ ((hd1.foldl fun _ _ h1 => h1.endSeal).ite hd1))
  · split
    · exact hd1.endSeal
    · exact hd1

theorem replay (h : s.Kept d) {cov logs} : s.Kept (d.replay cov logs) := by
  unfold Dev.replay
  refine h.foldl_fst fun acc x hacc => ?_
  split
  · exact hacc.foldl_fst fun _ _ h => h.replayEnt
  · exact hacc.replayRec.replaySdisc
  · exact hacc.replaySeal
  · exact hacc

theorem replayOpen (h : s.Kept d) {c gs} : s.Kept (d.replayOpen c gs) := by
  unfold Dev.replayOpen
  exact h.foldl fun _ _ h1 => h1.foldl fun _ _ h2 => h2.modSeg

theorem resumeCsn (h : s.Kept d) {c ev} : s.Kept (d.resumeCsn c ev) := by
  unfold Dev.resumeCsn
  split
  extract_lets valid m base d1
  have hd1 : s.Kept d1 := h.ite h.post
  exact hd1.updCsn

theorem restoreAdopted (h : s.Kept d) : s.Kept d.restoreAdopted := by
  unfold Dev.restoreAdopted
  exact h.foldl fun _ _ h1 => h1.setF.ite (h1.setF.setF.setF.ite h1)

theorem finishRehoming (h : s.Kept d) : s.Kept d.finishRehoming := by
  unfold Dev.finishRehoming
  refine h.foldl fun _ _ h1 => ite ?_ h1
  · split
    · exact h1.rehome.loseSegs.capChanged.homeRecord.post
    · exact h1.setF.loseSegs.homeRecord

theorem reenter (h : s.Kept d) {l} : s.Kept (d.reenter l) := by
  unfold Dev.reenter
  extract_lets a was d1 y off x
  have hd1 : s.Kept d1 := h.binnWrite
  refine (hd1.ite hd1.cnt).ite ?_
  · split
    · exact h
    · exact h.setStm

theorem poisonBadLines (h : s.Kept d) {ls} : s.Kept (d.poisonBadLines ls) := by
  unfold Dev.poisonBadLines
  exact h.foldl fun _ _ h1 => h1.ite h1.markPoison

theorem restoreStreams (h : s.Kept d) {ctx} : s.Kept (d.restoreStreams ctx) := by
  unfold Dev.restoreStreams
  refine h.foldl fun _ _ h1 => ?_
  · extract_lets x x1 y1 y2 p
    split
    · exact h1.setStm
    · exact h1.setStm

theorem markLost (h : s.Kept d) {ev segs fc logged pos} :
    s.Kept (d.markLost ev segs fc logged pos) := by
  unfold Dev.markLost
  exact h.foldl fun _ _ h1 => (h1.foldl fun _ _ h2 => h2.markPoison.supersede).foldl fun _ _ h3 => h3.post

theorem appendDump (h : s.Kept d) {ev segs fc} : s.Kept (d.appendDump ev segs fc) := by
  unfold Dev.appendDump
  exact h.upd.deckFlush.upd

theorem reenterAll (h : s.Kept d) {ev c} : s.Kept (d.reenterAll ev c) := by
  unfold Dev.reenterAll
  extract_lets segs fc logged d1 d2 flushed all d3 d4 d5
  have hd1 : s.Kept d1 := h.restoreStreams
  have hd2 : s.Kept d2 := hd1.foldl fun _ _ h1 => h1.hovePost.ite h1
  have hd3 : s.Kept d3 := (hd2.foldl fun _ _ h2 => h2.reenter).poisonBadLines
  have hd4 : s.Kept d4 := hd3.upd
  have hd5 : s.Kept d5 := hd4.appendDump
  split
  · exact (hd5.dirtyShutdown.post.ite hd5).ite (hd5.markLost.ite hd5)
  · exact hd5

theorem rowsFromMedia (h : s.Kept d) {g} : s.Kept (d.rowsFromMedia g) := by
  unfold Dev.rowsFromMedia
  exact h.foldl fun _ _ h1 => h1.modRow

theorem closeAll (h : s.Kept d) : s.Kept d.closeAll := by
  unfold Dev.closeAll
  extract_lets opn d1 d2
  have hd1 : s.Kept d1 := h.foldl fun _ _ h1 => h1.rowsFromMedia
  have hd2 : s.Kept d2 := hd1.foldl fun _ _ h2 => h2.closeGroup
  exact hd2.foldl fun _ _ h3 => (h3.foldl fun _ _ h4 => h4.ite h4.setState).modGroup

theorem freshFlush (h : s.Kept d) : s.Kept d.freshFlush := by
  unfold Dev.freshFlush
  exact ((h.foldl fun _ _ h1 => h1.ite h1.setState).foldl fun _ _ h2 => h2.modPt.modPt.ite h2.modPt).record

theorem tableRegs (h : s.Kept d) : s.Kept d.tableRegs := by
  unfold Dev.tableRegs
  exact h.foldl fun _ _ h1 => h1.setF.wearPoint.poolRegs.mapReg.ovlReg.setF

theorem noCkpt (h : s.Kept d) : s.Kept d.noCkpt := by
  unfold Dev.noCkpt
  exact h.hovePost

theorem recoverWith (h : s.Kept d) {c ev} : s.Kept (d.recoverWith c ev) := by
  unfold Dev.recoverWith
  extract_lets d1
  split
  next hp1 =>
    have h1 := snd_eq hp1 h.loadCkpt.surveyAll
    extract_lets d2 logs badLogs cov d3 d4 d5 d6 d7 d8 d9 d10 d11 d12 d13 d14 d15 d16
    have hd5 : s.Kept d5 := h1.setF.surveyEvent.replay.replayOpen.foldl fun _ _ h => h.modSeg
    have hd7 : s.Kept d7 := hd5.upd.foldl fun _ _ h => by
      split
      · exact h.post
      · split
        · exact h
        · exact h.hovePost
    have hd8 : s.Kept d8 := hd7.setF.setF
    have hd10 : s.Kept d10 := hd8.resumeCsn.restoreAdopted.finishRehoming
    have hd13 : s.Kept d13 := hd10.record.reenterAll.tableRegs.recomputeSpare
    have hd14 : s.Kept d14 := hd13.setAllow.ite hd13
    exact hd14.closeAll.openGroupOf.freshFlush.sealRegs.startCkpt.post

theorem recoverNow (h : s.Kept d) {ev} : s.Kept (d.recoverNow ev) := by
  unfold Dev.recoverNow
  split
  · extract_lets d1 d2 d3 y
    have hd1 : s.Kept d1 := h.setF.setF
    have hd2 : s.Kept d2 := hd1.post.ite hd1
    have hd3 : s.Kept d3 := by
      unfold d3
      split
      · exact hd2.recoverWith
      · exact hd2.noCkpt
    exact hd3.upd

theorem abbreviatedRestart (h : s.Kept d) : s.Kept d.abbreviatedRestart := by
  unfold Dev.abbreviatedRestart
  exact h.updCsn.freshFlush.post0

/-! ### The functions of `Machine/Orders.lean` -/

theorem reply (h : s.Kept d) {x op rc payload} : s.Kept (d.reply x op rc payload) := by
  unfold Dev.reply
  exact h.send.raise

theorem mailbox (h : s.Kept d) {x op f} (hf : ∀ d, s.Kept d → s.Kept (f d).2.2) :
    s.Kept (d.mailbox x op f) := by
  unfold Dev.mailbox
  refine ite h ?_
  split
  · exact h.reply
  · split
    next hp => exact (snd_snd_eq hp (hf _ h.touch)).reply

theorem endOrder (h : s.Kept d) {id code d0 d1} : s.Kept (d.endOrder id code d0 d1) := by
  unfold Dev.endOrder
  exact h.upd

theorem newOrder (h : s.Kept d) {src idx entry} : s.Kept (d.newOrder src idx entry).2 := by
  unfold Dev.newOrder
  extract_lets csn d1 o y
  have hd1 : s.Kept d1 := h.takeCsn.ite h
  exact hd1.upd

theorem refuse4 (h : s.Kept d) {id} : s.Kept (d.refuse4 id) := by
  unfold Dev.refuse4
  exact h.endOrder

theorem letIn (h : s.Kept d) {o} : s.Kept (d.letIn o) := by
  unfold Dev.letIn
  exact h.refuse4.ite (h.endOrder.ite h)

theorem asOrder (h : s.Kept d) {o prog op bg parse answer f}
    (hf : ∀ d x, s.Kept d → s.Kept (f d x)) :
    s.Kept (d.asOrder o prog op bg parse answer f) := by
  unfold Dev.asOrder
  split
  · split
    · exact ite (hf _ _ h) h
    · exact h
  · refine ite h ?_
    split
    · exact h.reply
    · split
      refine ite h.reply (ite h.reply ?_)
      split
      next hp =>
        have h1 := snd_eq hp h.touch.newOrder
        extract_lets d1 d2 d3
        have hd2 : s.Kept d2 := (h1.modHead.reply.ite h1).letIn
        have hd3 : s.Kept d3 := by
          unfold d3
          split
          · exact ite (hf _ _ hd2) hd2
          · exact hd2
        refine ite hd3 ?_
        split
        · exact hd3.upd.reply
        · exact hd3

theorem sqTail (h : s.Kept d) {r v} : s.Kept (d.sqTail r v) := by
  unfold Dev.sqTail
  exact h.setF.post.ite h.setF

theorem cqHead (h : s.Kept d) {r v} : s.Kept (d.cqHead r v) := by
  unfold Dev.cqHead
  exact h.setF.post.ite (h.setF.setF.ite h.setF)

theorem runReg (h : s.Kept d) {r} : s.Kept (d.runReg r) := by
  unfold Dev.runReg
  exact h.setF.ite h

theorem take (h : s.Kept d) {r idx entry} : s.Kept (d.take r idx entry) := by
  unfold Dev.take
  split
  next hp1 =>
    exact ((snd_eq hp1 h.newOrder).when fun h1 => h1.modEng).letIn.runReg

theorem dispatch (h : s.Kept d) {r} : s.Kept (d.dispatch r) := by
  unfold Dev.dispatch
  extract_lets hd y i y1
  refine h.ite ((h.ite (h.ite (h.setF.ite h.setF.setF.take))).ite ?_)
  · split
    · exact h
    · exact h.ite h.upd.take

theorem ringClear (h : s.Kept d) {r} : s.Kept (d.ringClear r) := by
  unfold Dev.ringClear
  exact h.upd.foldl fun _ _ h1 => h1.setReg

theorem completeOrder (h : s.Kept d) {id} : s.Kept (d.completeOrder id) := by
  unfold Dev.completeOrder
  split
  · exact h
  · split
    · exact h
    · extract_lets ord wch d1 r t ph ord' d2 d3 p op d4
      have hd1 : s.Kept d1 := h.upd
      have hd3 : s.Kept d3 := hd1.upd.setF.setF
      split
      · exact hd1.ringClear.ite hd1
      · split
        · exact hd3.cnt.runReg.raise
        · split
          · exact hd1.ite hd1.post
          · exact hd1.modHead.raise

theorem letWrite (h : s.Kept d) {by_ f} (hf : ∀ d, s.Kept d → s.Kept (f d)) :
    s.Kept (d.letWrite by_ f) := by
  unfold Dev.letWrite
  exact ite (hf _ (h.touch.ite h)) h

/-! ### The functions of `Machine/Seal.lean` -/

theorem dropImgs (h : s.Kept d) {start len} : s.Kept (d.dropImgs start len) := by
  unfold Dev.dropImgs
  refine h.foldl fun _ _ h1 => ?_
  · split
    · exact h1.dropImg.ite h1
    · exact h1

theorem freeBelow (h : s.Kept d) {start len csn} : s.Kept (d.freeBelow start len csn).2 := by
  unfold Dev.freeBelow
  extract_lets hit own mine ownJ jobs d1
  have hd1 : s.Kept d1 := h.upd
  exact mk_snd (hd1.upd.foldl fun _ _ h => h.credits)

theorem discardPage (h : s.Kept d) {pg} : s.Kept (d.discardPage pg) := by
  unfold Dev.discardPage
  exact h.ite h.dropOverlay.unmapPage.occupy.allowGain

theorem discardRange (h : s.Kept d) {start len csn step} :
    s.KeptIf (fun d => d) (d.discardRange start len csn step) := by
  unfold Dev.discardRange
  extract_lets d1
  split
  next hp =>
    have h1 := snd_eq hp h.dropImgs.freeBelow
    extract_lets d2
    have hd2 : s.Kept d2 := h1.foldl fun _ _ h => h.discardPage
    exact hd2.recordNow.map fun _ h => h.completeAll.gpfSettle

theorem discardOrder (h : s.Kept d) {x} : s.Kept (d.discardOrder x) := by
  unfold Dev.discardOrder
  split
  · exact h.endOrder
  · refine h.ite ?_
    · split
      next hp1 =>
        exact (h.discardRange _ hp1).endOrder
      · exact h

theorem closeCands (h : s.Kept d) {cands} : s.Kept (d.closeCands cands) := by
  unfold Dev.closeCands
  exact h.foldl fun _ _ h1 => h1.closeGroup.openGroupOf

theorem modSdisc (h : s.Kept d) {f} : s.Kept (d.modSdisc f) := by
  unfold Dev.modSdisc
  split
  · exact h.upd
  · exact h

theorem sdiscBegin (h : s.Kept d) : s.Kept d.sdiscBegin := by
  unfold Dev.sdiscBegin
  split
  · exact h.upd.record.setF.setF.setF.ite h
  · exact h

theorem poisonFree (h : s.Kept d) {start len} : s.Kept (d.poisonFree start len) := by
  unfold Dev.poisonFree
  exact h.foldl fun _ _ h1 => h1.setPoisonMask.upd.record

theorem sdiscStep (h : s.Kept d) {x step} : s.Kept (d.sdiscStep x step) := by
  unfold Dev.sdiscStep
  extract_lets c d1 d2 d3 d4
  have hd1 : s.Kept d1 := h.modSdisc.setF
  have hd2 : s.Kept d2 := h.poisonFree.record
  have hd3 : s.Kept d3 := hd2.upd
  have hd4 : s.Kept d4 := hd3.setF.setF.setF.endOrder
  split
  · split
    next hp1 =>
      exact (h.discardRange _ hp1).modSdisc
    · exact h
  · exact hd1.record
  · exact h.modSdisc.closeCands
  · exact h.modSdisc.ite h
  · exact h.modSdisc.collectCands
  · exact h.ite hd4.post.sdiscBegin.releaseHold

theorem sdiscNext (h : s.Kept d) {id step} : s.Kept (d.sdiscNext id step) := by
  unfold Dev.sdiscNext
  split
  · exact h.sdiscStep.ite h
  · exact h

theorem sdiscOrder (h : s.Kept d) {x} : s.Kept (d.sdiscOrder x) := by
  unfold Dev.sdiscOrder
  split
  · exact h.endOrder
  · exact h.ite h.upd.sdiscBegin

theorem sealFold (h : s.Kept d) {pg csn no ev} : s.Kept (d.sealFold pg csn no ev) := by
  unfold Dev.sealFold
  extract_lets newer bs own
  split
  next hp1 =>
    extract_lets d1 ss y
    have hd1 : s.Kept d1 := (snd_fst_eq hp1 h.upd.readPage).upd
    refine h.upd.ite ?_
    · split
      · exact h
      next e1 hp2 =>
        have h1 : s.Kept e1 := hd1.placeImg _ hp2
        exact h1.upd.pinOvl.entriesTo

theorem sealPage (h : s.Kept d) {no csn pg ev} : s.Kept (d.sealPage no csn pg ev) := by
  unfold Dev.sealPage
  split
  · exact h
  · exact h.ite (h.sealFold.ite h.moveSealed)

theorem sealedSec (h : s.Kept d) {psa l ev} : s.Kept (d.sealedSec psa l ev).2.1 := by
  unfold Dev.sealedSec
  split
  next hp1 =>
    split
    next e1 _ hp2 =>
      have h1 : s.Kept e1 := snd_fst_eq hp2 <| by
        split
        · exact (snd_fst_eq hp1 h.decode)
        · exact (snd_fst_eq hp1 h.decode).rebuild
      split
      · exact h1
      · extract_lets ls
        split
        · exact h1
        · exact h1.secAlarm

theorem sealedBytes (h : s.Kept d) {x ev} : s.Kept (d.sealedBytes x ev).2 := by
  unfold Dev.sealedBytes
  extract_lets r
  have hr : s.Kept r.2.1 := by
    unfold r
    refine h.foldl_snd_fst fun _ _ h1 => ?_
    · extract_lets pg
      split
      · exact h1
      · refine h1.foldl_snd_fst fun _ _ h2 => ?_
        · split
          · exact h2
          · split
            next hp1 =>
              split
              · exact (snd_fst_eq hp1 h2.sealedSec)
              · exact (snd_fst_eq hp1 h2.sealedSec)
  exact hr

theorem sealedFrames (h : s.Kept d) {x ev} : s.Kept (d.sealedFrames x ev).2 := by
  unfold Dev.sealedFrames
  extract_lets st r
  have hr : s.Kept r.2 := by
    unfold r
    refine h.foldl_snd fun _ _ h1 => ?_
    · extract_lets pos
      split
      · exact h1
      · split
        next hp1 =>
          split
          · exact (snd_eq hp1 h1.strLine)
          · exact (snd_eq hp1 h1.strLine)
  exact hr

theorem sealBytes (h : s.Kept d) {x ev} : s.Kept (d.sealBytes x ev).2 := by
  unfold Dev.sealBytes
  split
  · exact h.sealedBytes
  · exact h.sealedFrames

theorem putPages (h : s.Kept d) {num l} : s.Kept (d.putPages num l) := by
  unfold Dev.putPages
  exact h.foldl fun _ _ h1 => h1.putBody

theorem sealFinish (h : s.Kept d) {x sl ev} : s.Kept (d.sealFinish x sl ev) := by
  unfold Dev.sealFinish
  extract_lets drop
  split
  · exact h.endSeal.endOrder
  · split
    next hp1 =>
      extract_lets num
      split
      · exact (snd_eq hp1 h.sealBytes).endSeal.endOrder
      · exact (snd_eq hp1 h.sealBytes).whenNot fun h1 => h1.hashedBytes.putPages.chainAppend.upd.endOrder

theorem sealRange (h : s.Kept d) {x ev} : s.Kept (d.sealRange x ev) := by
  unfold Dev.sealRange
  extract_lets start len no pgs d1 d2 d3
  have hd1 : s.Kept d1 := h.upd
  have hd2 : s.Kept d2 := hd1.foldl fun _ _ h1 => h1.sealPage
  have hd3 : s.Kept d3 := h.foldl fun _ _ h2 => h2.sealPage
  split
  · refine h.refuse4.ite ?_
    · split
      · exact h.endOrder
      · refine h.endOrder.ite (h.endOrder.ite (h.ite ?_))
        · split
          · exact hd2.ite hd2.sealFinish
          · exact hd2
  · split
    · exact hd3.ite hd3.sealFinish
    · exact hd3

theorem unsealOrder (h : s.Kept d) {x} : s.Kept (d.unsealOrder x) := by
  unfold Dev.unsealOrder
  split
  · exact h.endOrder
  · exact h.ite h.endSeal.chainAppend.sealGoneEvent.endOrder

theorem orderWrite (h : s.Kept d) {csn line data mask ev} :
    s.Kept (d.orderWrite csn line data mask ev) := by
  unfold Dev.orderWrite
  extract_lets y chk
  split
  next hp1 =>
    extract_lets d1 d2 d3
    have hd1 : s.Kept d1 := (snd_eq hp1 h.clearRsv.needsSpace).cnt.markPoison
    have hd2 : s.Kept d2 := hd1.ite hd1.supersede
    have hd3 : s.Kept d3 := (snd_eq hp1 h.clearRsv.needsSpace).binnWrite.pilotWrite
    refine hd2.post.ite ?_
    · split
      · exact (snd_eq hp1 h.clearRsv.needsSpace).upd.ite (snd_eq hp1
          h.clearRsv.needsSpace).binnWrite.pilotWrite
      · refine hd3.ite ?_
        · split
          next e1 hp2 =>
            have h1 : s.Kept e1 := hd3.wholeLine _ hp2
            exact h1.gather
          · exact hd3

theorem drawKey (h : s.Kept d) {slot gen} : s.Kept (d.drawKey slot gen) := by
  unfold Dev.drawKey
  exact h.upd

theorem rngFail (h : s.Kept d) {id} : s.Kept (d.rngFail id) := by
  unfold Dev.rngFail
  split
  next hp1 =>
    exact (snd_eq hp1 h.draw).post0.endOrder

theorem rekeyStart (h : s.Kept d) {x rngOk} : s.Kept (d.rekeyStart x rngOk) := by
  unfold Dev.rekeyStart
  exact h.endOrder.ite (h.ite (h.endOrder.ite (h.rngFail.ite h.drawKey.upd.keyRegs.setF.setF.setF)))

theorem rekeyStep (h : s.Kept d) {r step rngOk} : s.Kept (d.rekeyStep r step rngOk) := by
  unfold Dev.rekeyStep
  extract_lets y d1 d2
  have hy : s.Kept y := h.rngFail
  have hd1 : s.Kept d1 := h.drawKey
  have hd2 : s.Kept d2 := hd1.upd.setF.setF
  split
  · split
    · exact h.upd
  · exact h.upd.closeCands
  · exact h.upd.collectCands.ite h
  · exact h.ite (hy.upd.ite hd2.endOrder.post0)

theorem keyFail (h : s.Kept d) : s.Kept d.keyFail := by
  unfold Dev.keyFail
  exact h.hovePost

theorem leafLost (h : s.Kept d) {sg fails} : s.Kept (d.leafLost sg fails) := by
  unfold Dev.leafLost
  extract_lets sib top d1
  have hd1 : s.Kept d1 := by
    unfold d1
    split
    · exact h.modSeg
    · exact h.modSeg
  exact hd1.wearSeg

theorem tableUe (h : s.Kept d) {u} : s.Kept (d.tableUe u) := by
  unfold Dev.tableUe
  extract_lets bad wear
  split
  · exact h.hovePost
  · exact h.hovePost
  · exact h.hovePost
  · split
    · exact h
    · exact h.hovePost.ite h.upd.mapReg.post0
  · exact h.rebuildNode.post
  · exact h.rebuildRoot.post
  · exact h.leafLost.post
  · exact h.hovePost.ite h.post0

theorem sanitizeQueues (h : s.Kept d) : s.Kept d.sanitizeQueues := by
  unfold Dev.sanitizeQueues
  extract_lets acks d1 str d2
  have hd1 : s.Kept d1 := h.completeAll
  have hd2 : s.Kept d2 := (hd1.withLbk memWf_filter).upd
  exact (hd2.foldl fun _ _ h => h.setF).gpfSettle

theorem sanitizeMedia (h : s.Kept d) {fails} : s.Kept (d.sanitizeMedia fails) := by
  unfold Dev.sanitizeMedia
  extract_lets d1 d2 d3
  have hd1 : s.Kept d1 := h.upd
  have hd2 : s.Kept d2 := hd1.foldl fun _ _ h1 => h1.ite (h1.setSeg.ite h1.setSeg.sliceFails.setSeg)
  have hd3 : s.Kept d3 := hd2.foldl fun _ _ h2 => h2.ovlReg.mapReg.poolRegs.wearPoint
  exact hd3.recomputeSpare.openGroupOf

theorem sanitizeSeals (h : s.Kept d) : s.Kept d.sanitizeSeals := by
  unfold Dev.sanitizeSeals
  exact h.takeCsn.chainAppend.upd.setF.foldl fun _ _ h1 => h1.sealGoneEvent.ite h1

theorem sanitizeEnd (h : s.Kept d) : s.Kept d.sanitizeEnd := by
  unfold Dev.sanitizeEnd
  exact h.freshFlush.record.upd.setF.setF.setF.setF

theorem bgEnd (h : s.Kept d) {x op rc} : s.Kept (d.bgEnd x op rc) := by
  unfold Dev.bgEnd
  split
  · exact h.modHead.raise
  · exact h

theorem sanitizeStep (h : s.Kept d) {x step secure rngOk fails} :
    s.Kept (d.sanitizeStep x step secure rngOk fails) := by
  unfold Dev.sanitizeStep
  extract_lets op y next y1
  have hy : s.Kept y := h.touch
  have hy1 : s.Kept y1 := h.post0
  refine (h.ite ?_).ite (h.ite ?_)
  · split
    · exact h.reply
    · exact h.reply.ite (h.reply.ite hy.upd.modHead.reply)
  · split
    · exact hy1.upd.bgEnd.releaseHold.ite (h.foldl fun _ _ h1 => h1.drawKey).upd
    · exact h.sanitizeQueues.upd
    · exact h.sanitizeMedia.upd
    · exact h.sanitizeSeals.upd.ite h.openGroupOf
    · exact h.sanitizeEnd.bgEnd.releaseHold

/-! ### The functions of `Machine/Ports.lean` -/

theorem linkReady (h : s.Kept d) {p} : s.Kept (d.linkReady p) := by
  unfold Dev.linkReady
  exact h.ite ((h.modHead.foldl fun _ _ h1 => h1.send.ite h1).when fun h2 => h2.send)

theorem portDiscard (h : s.Kept d) {p} : s.Kept (d.portDiscard p).2 := by
  unfold Dev.portDiscard
  extract_lets n mute y
  exact h.upd

theorem portReset (h : s.Kept d) {p cause perst} : s.Kept (d.portReset p cause perst) := by
  unfold Dev.portReset
  split
  next hp1 =>
    extract_lets keep d1 d2 d3 y d4
    have hd1 : s.Kept d1 := (snd_eq hp1 h.portDiscard).setReg.setF
    have hd2 : s.Kept d2 := hd1.setF.ite hd1
    have hd3 : s.Kept d3 := hd2.setF.modHead
    have hd4 : s.Kept d4 := hd3.ringClear.ite hd3.upd
    exact hd4.post

theorem takeRef (h : s.Kept d) {p ref} : s.Kept (d.takeRef p ref) := by
  unfold Dev.takeRef
  exact h.modHead

theorem padAuto (h : s.Kept d) : s.Kept d.padAuto := by
  unfold Dev.padAuto
  exact h.ite h.setF

theorem engWake (h : s.Kept d) : s.Kept d.engWake := by
  unfold Dev.engWake
  exact h.upd

theorem dozeExit (h : s.Kept d) {maint} : s.Kept (d.dozeExit maint) := by
  unfold Dev.dozeExit
  extract_lets wake
  split
  · exact h.upd.padAuto.whenNot fun h1 => h1.wdogRun.llReturn
  · exact h.engWake.leaveDoze.upd.padAuto.whenNot fun h2 => h2.wdogRun.llReturn
  · exact h

/-! ### The functions of `Machine/ChartSlots.lean` -/

theorem chartChosen (h : s.Kept d) {slot source cause} :
    s.Kept (d.chartChosen slot source cause) := by
  unfold Dev.chartChosen
  exact h.upd.setF.setF.setF.setF.setF.post

theorem endBecalmed (h : s.Kept d) {x source} : s.Kept (d.endBecalmed x source) := by
  unfold Dev.endBecalmed
  exact h.chartChosen.upd

/-! ### The functions of `Machine/FlushImage.lean` -/

theorem flushPut (h : s.Kept d) {n df mk} : s.Kept (d.flushPut n df mk) := by
  unfold Dev.flushPut
  split
  · exact h
  · split
    · exact h
    · exact h.program.modPt

theorem flushList (h : s.Kept d) {n x first ls keep} :
    s.Kept (d.flushList n x first ls keep) := by
  unfold Dev.flushList
  exact (h.foldl fun _ _ h1 => h1.flushPut).foldl fun _ _ h2 => h2.flushPut.ite h2

theorem flushTorn (h : s.Kept d) {n x ls k} : s.Kept (d.flushTorn n x ls k) := by
  unfold Dev.flushTorn
  exact h.foldl fun _ _ h1 => h1.ite h1.flushPut

theorem flushStreams (h : s.Kept d) {n x first keep} :
    s.Kept (d.flushStreams n x first keep) := by
  unfold Dev.flushStreams
  refine h.foldl_snd fun _ _ h1 => ?_
  · extract_lets d1 ls
    have hd1 : s.Kept d1 := h1.flushPut
    split
    · exact h1
    · exact hd1.flushList

theorem flushDeck (h : s.Kept d) {n} : s.Kept (d.flushDeck n) := by
  unfold Dev.flushDeck
  exact h.foldl fun _ _ h1 => h1.flushPut

theorem flushHome (h : s.Kept d) {x last} : s.Kept (d.flushHome x last) := by
  unfold Dev.flushHome
  extract_lets n es d1
  have hd1 : s.Kept d1 := h.flushList.flushStreams
  refine h.ite ?_
  · split
    · exact hd1.flushDeck.ite hd1
    · split
      · exact h.flushTorn.ite h.flushList
      · exact h.flushList.flushStreams

theorem flushRows (h : s.Kept d) : s.Kept d.flushRows := by
  unfold Dev.flushRows
  extract_lets last df
  refine h.foldl fun _ _ h1 => ?_
  dsimp only
  split
  · exact h1
  · exact h1.foldl fun _ _ h => h.ite h.program

theorem flushImage (h : s.Kept d) {cut} : s.Kept (d.flushImage cut) := by
  unfold Dev.flushImage
  exact (h.foldl fun _ _ h1 => h1.flushHome).flushRows

/-! ### The functions of `Machine/Modes.lean` -/

theorem resetEngine (h : s.Kept d) {x} : s.Kept (d.resetEngine x) := by
  unfold Dev.resetEngine
  exact h.modEng

theorem endDeck (h : s.Kept d) {x code d0 d1} : s.Kept (d.endDeck x code d0 d1) := by
  unfold Dev.endDeck
  exact h.ite h.endOrder.modEng

theorem requeueTask (h : s.Kept d) {x} : s.Kept (d.requeueTask x) := by
  unfold Dev.requeueTask
  split
  · exact h.modPt.modEng
  · exact h

theorem faultOne (h : s.Kept d) {x} : s.Kept (d.faultOne x) := by
  unfold Dev.faultOne
  extract_lets again d1 d2 d3 y
  have hd1 : s.Kept d1 := h.post.post
  have hd2 : s.Kept d2 := hd1.requeueTask
  have hd3 : s.Kept d3 := by
    unfold d3
    refine ite ?_ hd2
    · split
      next hp1 =>
        split
        next hp2 =>
          split
          next hp3 =>
            exact (snd_eq hp3 (snd_eq hp2 (snd_eq hp1 hd2.draw).draw).draw).endDeck
  exact hd3.modEng

theorem engFault (h : s.Kept d) {x} : s.Kept (d.engFault x) := by
  unfold Dev.engFault
  exact (h.foldl fun _ _ h1 => h1.faultOne).when fun h2 => h2.post

theorem resetEngines (h : s.Kept d) : s.Kept d.resetEngines := by
  unfold Dev.resetEngines
  exact h.foldl fun _ _ h1 => (h1.endDeck.ite h1).whenNot fun h2 => h2.requeueTask.resetEngine

theorem modePointAt (h : s.Kept d) {old auto cold kept} :
    s.Kept (d.modePointAt old auto cold kept) := by
  unfold Dev.modePointAt
  extract_lets req new why csn y y1 d1 d2 d3 d4 d5 d6 y2
  have hy : s.Kept y := h.takeCsn.ite h
  have hd1 : s.Kept d1 := hy.upd
  have hd2 : s.Kept d2 := hd1.setReg.setReg.setReg
  have hd3 : s.Kept d3 := hd2.setReg.cnt.setF
  have hd4 : s.Kept d4 := hd3.surveyEnds.ite hd3
  have hd5 : s.Kept d5 := hd4.resetEngines.ite hd4
  have hd6 : s.Kept d6 := hd5.logTails.ite hd5
  exact hd6.upd.ite hd6

theorem modeEvent (h : s.Kept d) {code p} : s.Kept (d.modeEvent code p) := by
  unfold Dev.modeEvent
  exact h.post

theorem modePointFrom (h : s.Kept d) {old auto cold kept} :
    s.Kept (d.modePointFrom old auto cold kept) := by
  unfold Dev.modePointFrom
  exact h.modePointAt.modeEvent

theorem modePoint (h : s.Kept d) {auto cold kept} : s.Kept (d.modePoint auto cold kept) := by
  unfold Dev.modePoint
  exact h.modePointFrom

theorem autoPoint (h : s.Kept d) : s.Kept d.autoPoint := by
  unfold Dev.autoPoint
  exact h.ite (h.modePoint.ite h.setReg.setReg)

theorem modeEnd (h : s.Kept d) {id} : s.Kept (d.modeEnd id) := by
  unfold Dev.modeEnd
  exact h.endOrder.modeEvent.setF

theorem modeChange (h : s.Kept d) {x} : s.Kept (d.modeChange x) := by
  unfold Dev.modeChange
  extract_lets req set clear was old d1 d2 y d3
  have hd1 : s.Kept d1 := h.setReg.setF
  have hd2 : s.Kept d2 := hd1.modePointAt
  have hd3 : s.Kept d3 := hd2.upd
  refine (h.modeEnd.ite h).ite ?_
  · split
    · exact h.endOrder
    · exact hd3.ite hd3.modeEnd

/-! ### The functions of `Machine/Power.lean` -/

theorem voltReg (h : s.Kept d) : s.Kept d.voltReg := by
  unfold Dev.voltReg
  exact h.setF.setF.setF.setF

theorem settleVsys (h : s.Kept d) : s.Kept d.settleVsys := by
  unfold Dev.settleVsys
  exact h.upd.voltReg

theorem powerLog (h : s.Kept d) {kind body} : s.Kept (d.powerLog kind body) := by
  unfold Dev.powerLog
  exact h.powerWrite.setF.setF

theorem railCount (h : s.Kept d) {k what} : s.Kept (d.railCount k what) := by
  unfold Dev.railCount
  exact h.upd

theorem countersRec (h : s.Kept d) {ph} : s.Kept (d.countersRec ph) := by
  unfold Dev.countersRec
  exact h.ite h.powerLog.upd

theorem railRec (h : s.Kept d) {k cause vs} : s.Kept (d.railRec k cause vs) := by
  unfold Dev.railRec
  exact h.powerLog

theorem saveCsn (h : s.Kept d) : s.Kept d.saveCsn := by
  unfold Dev.saveCsn
  exact h.lbkCsn.ite h

theorem saveEclk (h : s.Kept d) : s.Kept d.saveEclk := by
  unfold Dev.saveEclk
  exact h.upd.ite h.upd

theorem postLate (h : s.Kept d) : s.Kept d.postLate := by
  unfold Dev.postLate
  extract_lets evs y d1
  have hd1 : s.Kept d1 := h.upd
  refine hd1.foldl fun _ _ h1 => ?_
  · split
    · exact h1.postAs

theorem railEnable (h : s.Kept d) {k} : s.Kept (d.railEnable k) := by
  unfold Dev.railEnable
  exact h.upd.setF.setF

theorem railDisable (h : s.Kept d) {k} : s.Kept (d.railDisable k) := by
  unfold Dev.railDisable
  exact h.upd.setF.setF

theorem beginDown (h : s.Kept d) {kind} : s.Kept (d.beginDown kind) := by
  unfold Dev.beginDown
  exact h.upd.setF.ite h.upd.setF.railDisable

theorem latchOff (h : s.Kept d) : s.Kept d.latchOff := by
  unfold Dev.latchOff
  exact h.setF.setF.setF

theorem latchOn (h : s.Kept d) : s.Kept d.latchOn := by
  unfold Dev.latchOn
  exact h.setF.setF.setF

theorem beginOrderly (h : s.Kept d) : s.Kept d.beginOrderly := by
  unfold Dev.beginOrderly
  exact h.latchOff.wdogPause.upd

theorem powerUpDown (h : s.Kept d) {kind} : s.Kept (d.powerUpDown kind) := by
  unfold Dev.powerUpDown
  exact h.upd.ite h.beginDown

theorem offRequest (h : s.Kept d) {seq} : s.Kept (d.offRequest seq) := by
  unfold Dev.offRequest
  extract_lets y y1
  have hy1 : s.Kept y1 := h.upd
  split
  · exact hy1.beginOrderly
  · exact hy1.beginOrderly
  · exact hy1.leaveDoze.beginOrderly
  · exact hy1.powerUpDown
  · exact hy1.latchOff
  · exact hy1.latchOff
  · exact hy1.latchOff
  · exact hy1.latchOff
  · exact hy1.latchOff
  · exact hy1.latchOff
  · exact hy1.latchOff
  · exact hy1.beginDown
  · exact hy1.latchOff
  · exact hy1.latchOff
  · exact hy1.latchOff
  · exact hy1.latchOff
  · exact h.setF
  · exact h
  · exact h

theorem startOption (h : s.Kept d) : s.Kept d.startOption := by
  unfold Dev.startOption
  extract_lets d1 n d2 y y1
  have hd1 : s.Kept d1 := by
    unfold d1
    split
    · exact h.setF.setF
    · exact h
  have hd2 : s.Kept d2 := hd1.setF.setF
  exact hd2.upd

theorem wakePend (h : s.Kept d) {src} : s.Kept (d.wakePend src) := by
  unfold Dev.wakePend
  exact h.orF.upd.ite (h.orF.ite h.orF.upd)

theorem onRequest (h : s.Kept d) : s.Kept d.onRequest := by
  unfold Dev.onRequest
  split
  · exact h.ite (h.latchOn.startOption.ite h.latchOn)
  · exact h.latchOn
  · exact h

theorem closeWindows (h : s.Kept d) : s.Kept d.closeWindows := by
  unfold Dev.closeWindows
  exact h.upd

theorem countBrownout (h : s.Kept d) : s.Kept d.countBrownout := by
  unfold Dev.countBrownout
  exact h.cnt.lbkSetCounter

theorem countIncomplete (h : s.Kept d) : s.Kept d.countIncomplete := by
  unfold Dev.countIncomplete
  exact h.cnt.lbkSetCounter

theorem noteDetect (h : s.Kept d) {origin} : s.Kept (d.noteDetect origin) := by
  unfold Dev.noteDetect
  exact h.wdogPause.upd

theorem beginFlush (h : s.Kept d) {origin} : s.Kept (d.beginFlush origin) := by
  unfold Dev.beginFlush
  extract_lets y y1 d1 d2 y2 d3 d4 d5
  have hy : s.Kept y := h.noteDetect.leaveDoze
  have hd1 : s.Kept d1 := hy.upd
  have hd2 : s.Kept d2 := hd1.fix.closeWindows
  have hd3 : s.Kept d3 := hd2.upd
  have hd4 : s.Kept d4 := hd3.settleVsys.setF.saveCsn
  have hd5 : s.Kept d5 := hd4.cnt.ite hd4
  exact (hd5.ite hd5.countBrownout).post0

theorem beginCommit (h : s.Kept d) {origin} : s.Kept (d.beginCommit origin) := by
  unfold Dev.beginCommit
  exact h.noteDetect.upd.saveCsn

theorem detect (h : s.Kept d) {origin} : s.Kept (d.detect origin) := by
  unfold Dev.detect
  extract_lets y
  split
  · exact h.beginFlush
  · exact h.beginFlush
  · exact h.beginFlush
  · exact h.beginFlush
  · exact h.beginFlush
  · exact h.beginFlush
  · exact h.beginFlush
  · exact h.beginCommit.countBrownout.post0
  · exact h.beginCommit.countBrownout.post0
  · exact h.beginCommit.countBrownout.post0
  · exact h.beginCommit.countBrownout.post0
  · exact h.beginCommit.countBrownout.post0
  · exact h.upd.powerUpDown.countBrownout.post0
  · exact h.upd.beginDown
  · exact h

theorem deckDirect (h : s.Kept d) : s.Kept d.deckDirect := by
  unfold Dev.deckDirect
  extract_lets y
  split
  · exact h.upd.deckFlush.upd.cnt

theorem brownoutRec (h : s.Kept d) : s.Kept d.brownoutRec := by
  unfold Dev.brownoutRec
  extract_lets noFlush
  split
  · split
    next hp1 =>
      exact (snd_eq hp1 h.draw).powerLog

theorem commitRecs (h : s.Kept d) : s.Kept d.commitRecs := by
  unfold Dev.commitRecs
  exact h.countersRec.brownoutRec.saveEclk.lbkSetCounter.lbkSetCounter

theorem endFlush (h : s.Kept d) {cut pos} : s.Kept (d.endFlush cut pos) := by
  unfold Dev.endFlush
  extract_lets lim com d1 y
  have hd1 : s.Kept d1 := h.flushImage
  split
  · exact hd1.upd.countIncomplete.post0.ite hd1.upd.post0

theorem resumeActive (h : s.Kept d) : s.Kept d.resumeActive := by
  unfold Dev.resumeActive
  exact h.upd.settleVsys.upd.postLate.abbreviatedRestart.wdogRun.when fun h1 => h1.beginOrderly

theorem railsUp (h : s.Kept d) : s.Kept d.railsUp := by
  unfold Dev.railsUp
  exact h.upd.upd.ite h.upd.upd.postLate

theorem stepFail (h : s.Kept d) {k cause} : s.Kept (d.stepFail k cause) := by
  unfold Dev.stepFail
  exact h.setF.railCount.countersRec.upd.beginDown.post.when fun h1 => h1.send

theorem railActs (h : s.Kept d) {k} : s.Kept (d.railActs k) := by
  unfold Dev.railActs
  split
  · exact h.beginFlush.ite h.beginCommit.countIncomplete.post0
  · exact h.beginFlush.ite h.beginCommit.countIncomplete.post0
  · exact h.beginFlush.ite h.beginCommit.countIncomplete.post0
  · exact h.beginFlush.ite h.beginCommit.countIncomplete.post0
  · exact h.beginFlush.ite h.beginCommit.countIncomplete.post0
  · exact h.beginFlush.ite h.beginCommit.countIncomplete.post0
  · exact h.beginFlush.ite h.beginCommit.countIncomplete.post0
  · exact h.beginCommit.countIncomplete.post0
  · exact h.beginCommit.countIncomplete.post0
  · exact h.beginCommit.countIncomplete.post0
  · exact h.beginCommit.countIncomplete.post0
  · exact h.beginCommit.countIncomplete.post0
  · exact h

theorem railAgain (h : s.Kept d) : s.Kept d.railAgain := by
  unfold Dev.railAgain
  extract_lets y
  split
  · exact h.upd.ite h.upd
  · exact h.upd

theorem railFaulted (h : s.Kept d) {k cause vs} : s.Kept (d.railFaulted k cause vs) := by
  unfold Dev.railFaulted
  extract_lets d1 d2 y d3 d4 d5
  have hd1 : s.Kept d1 := h.cnt.setF
  have hd2 : s.Kept d2 := hd1.ite hd1.setF
  have hd3 : s.Kept d3 := hd2.upd
  have hd4 : s.Kept d4 := hd3.railRec.ite hd3.railCount
  have hd5 : s.Kept d5 := hd4.railAgain.railActs
  exact hd2.railCount.ite hd5.post

theorem powerOff (h : s.Kept d) : s.Kept d.powerOff := by
  have hreg : s.Kept { d with regs := d.regs.filter fun x => (0x500 ≤ x.1 && x.1 < 0x600) || x.1 == 0x704 } :=
    h.withRegs regsWf_filter
  exact hreg.updCsn

theorem reachDormant (h : s.Kept d) : s.Kept d.reachDormant := by
  unfold Dev.reachDormant
  extract_lets off on ov th cool d1 y y1 d2 d3 low y2 d4 d5
  have hd1 : s.Kept d1 := h.powerOff.voltReg
  have hd2 : s.Kept d2 := hd1.upd
  have hd3 : s.Kept d3 := hd2.latchOff.ite (hd2.latchOn.ite hd2)
  have hd4 : s.Kept d4 := hd3.upd
  have hd5 : s.Kept d5 := hd4.setF.setF
  exact hd5.setF.setF

theorem orderlyStep (h : s.Kept d) {step} : s.Kept (d.orderlyStep step) := by
  unfold Dev.orderlyStep
  extract_lets next d1 d2 y y1
  have hd1 : s.Kept d1 := h.logTails
  have hd2 : s.Kept d2 := h.saveCsn.countersRec.powerLog
  have hy : s.Kept y := hd2.saveEclk
  split
  · exact h.logTails.upd
  · exact hd1.startCkpt.upd.ite hd1
  · exact h.upd.ite h
  · exact h.deckFlush.upd
  · exact hy.upd.beginDown
  · exact h

theorem setEnergy (h : s.Kept d) {c} : s.Kept (d.setEnergy c) := by
  unfold Dev.setEnergy
  exact h.setF.setF.setF

theorem holdupLost (h : s.Kept d) {code} : s.Kept (d.holdupLost code) := by
  unfold Dev.holdupLost
  exact h.post.autoPoint.ite h.post0

theorem bankTested (h : s.Kept d) {v1 t} : s.Kept (d.bankTested v1 t) := by
  unfold Dev.bankTested
  exact h.setEnergy.setF.upd.powerLog.post0.ite h.setEnergy.setF.upd.powerLog.holdupLost

theorem bankLow (h : s.Kept d) : s.Kept d.bankLow := by
  unfold Dev.bankLow
  exact h.upd.setF.holdupLost

/-! ### The functions of `Machine/Start.lean` -/

theorem crystalFails (h : s.Kept d) : s.Kept d.crystalFails := by
  unfold Dev.crystalFails
  exact h.upd.setF.setF.post0

theorem resetAccept (h : s.Kept d) {code} : s.Kept (d.resetAccept code) := by
  unfold Dev.resetAccept
  exact h.ite (h.setF.setF.cnt.setF.upd.ite (h.setF.upd.ite h))

theorem beginResetFlush (h : s.Kept d) : s.Kept d.beginResetFlush := by
  unfold Dev.beginResetFlush
  exact h.noteDetect.leaveDoze.closeWindows.saveCsn.upd

theorem deviceReset (h : s.Kept d) : s.Kept d.deviceReset := by
  unfold Dev.deviceReset
  extract_lets y d1 d2 y1 d3 y2 y3
  have hd1 : s.Kept d1 := h.upd
  have hd2 : s.Kept d2 := hd1.beginCommit
  have hd3 : s.Kept d3 := hd1.latchOn
  split
  · exact hd1.upd.cnt
  · exact hd2.upd
  · exact hd2.upd
  · exact hd2.upd
  · exact hd2.upd
  · exact hd2.upd
  · exact hd2.upd
  · exact hd1.beginResetFlush
  · exact hd1.beginResetFlush
  · exact hd1.beginResetFlush
  · exact hd1.beginResetFlush
  · exact hd1.beginResetFlush
  · exact hd1.beginResetFlush
  · exact hd3.upd
  · exact hd3.upd
  · exact hd3.upd
  · exact hd1.upd.onRequest
  · exact hd1
  · exact hd1

theorem endResetFlush (h : s.Kept d) : s.Kept d.endResetFlush := by
  unfold Dev.endResetFlush
  extract_lets com d1 y
  have hd1 : s.Kept d1 := h.flushImage
  split
  · exact hd1.upd.countersRec.brownoutRec.beginDown

theorem safeLow (h : s.Kept d) : s.Kept d.safeLow := by
  unfold Dev.safeLow
  exact h.upd.setF

theorem safeRelease (h : s.Kept d) : s.Kept d.safeRelease := by
  unfold Dev.safeRelease
  exact h.ite h.upd.setF

theorem escalate (h : s.Kept d) : s.Kept d.escalate := by
  unfold Dev.escalate
  exact h.safeLow.resetAccept.deviceReset.upd

theorem wake (h : s.Kept d) {src edge} : s.Kept (d.wake src edge) := by
  unfold Dev.wake
  split
  · exact h.wakePend.dozeExit
  · exact h.wakePend.dozeExit
  · exact h.wakePend.onRequest
  · exact h.wakePend.latchOn.ite h
  · exact h

theorem watchQuiet (h : s.Kept d) : s.Kept d.watchQuiet := by
  unfold Dev.watchQuiet
  exact h.upd.ite h

theorem pass (h : s.Kept d) : s.Kept d.pass := by
  unfold Dev.pass
  exact h.idle.watchQuiet

theorem latchStraps (h : s.Kept d) {straps} : s.Kept (d.latchStraps straps) := by
  unfold Dev.latchStraps
  exact h.upd.setF.setF.setF.setF

theorem readCounters (h : s.Kept d) : s.Kept d.readCounters := by
  unfold Dev.readCounters
  extract_lets d1 d2 d3 d4 d5
  have hd2 : s.Kept d2 := h.upd.foldl fun _ _ h => h.lbkIntent
  have hd4 : s.Kept d4 := hd2.upd.setF.setF.setF
  have hd5 : s.Kept d5 := hd4.setF.setF
  split
  exact hd5.updCsn

theorem readPowerLog (h : s.Kept d) : s.Kept d.readPowerLog := by
  unfold Dev.readPowerLog
  extract_lets d1 y d2
  have hd1 : s.Kept d1 := h.setF
  have hd2 : s.Kept d2 := by
    unfold d2
    split
    · exact hd1.upd.setF.setF
    · exact hd1
  split
  · exact hd2.setF
  · exact hd2

theorem chartStep (h : s.Kept d) {boot} : s.Kept (d.chartStep boot) := by
  unfold Dev.chartStep
  refine ite ?_ h.chartChosen
  · split
    · exact h.chartChosen
    · exact h.chartChosen

theorem optionLoad (h : s.Kept d) {straps} : s.Kept (d.optionLoad straps) := by
  unfold Dev.optionLoad
  extract_lets boot warm n d1 d2 d3 y y1 y2 y3
  have hd1 : s.Kept d1 := h.latchStraps.readCounters.readPowerLog.chartStep.setF
  have hd2 : s.Kept d2 := hd1.lbkSetCounter
  have hd3 : s.Kept d3 := hd2.safeLow.setF.ite hd2
  exact hd3.upd

theorem measureRefs (h : s.Kept d) {usable present} : s.Kept (d.measureRefs usable present) := by
  unfold Dev.measureRefs
  split
  · exact h.modHead
  · exact h.modHead
  · exact h.modHead.modHead
  · exact h

theorem latentFails (h : s.Kept d) {fails} : s.Kept (d.latentFails fails) := by
  unfold Dev.latentFails
  exact (h.ite h.orF).foldl fun _ _ h1 => h1.ite (h1.hovePost.ite h1.post0)

theorem becalm (h : s.Kept d) : s.Kept d.becalm := by
  unfold Dev.becalm
  exact h.upd.post.safeRelease.when fun h1 => h1.beginDown

theorem goActive (h : s.Kept d) {late} : s.Kept (d.goActive late) := by
  unfold Dev.goActive
  exact h.upd.countersRec.restartClears.padAuto.safeRelease.setF.post.when fun h1 => h1.beginOrderly

/-! ### The functions of `Machine/Inject.lean` -/

theorem clockFail (h : s.Kept d) : s.Kept d.clockFail := by
  unfold Dev.clockFail
  exact h.safeLow.hovePost

theorem pairMismatch (h : s.Kept d) : s.Kept d.pairMismatch := by
  unfold Dev.pairMismatch
  exact h.hovePost

theorem readbackFail (h : s.Kept d) : s.Kept d.readbackFail := by
  unfold Dev.readbackFail
  exact h.setF.post

theorem injectAct (h : s.Kept d) {mech inst} : s.KeptIf (fun d => d) (d.injectAct mech inst) := by
  unfold Dev.injectAct
  split
  · exact .ite (.dev h.resendFirst) .none
  · exact .dev h.pairMismatch
  · exact .dev h.pairMismatch
  · exact .ite (.dev h.crossbarFail) .none
  · exact .dev h.keyFail
  · exact .ite (.dev h.engFault) .none
  · exact .dev h.detect
  · refine .ite ?_ .none
    · split
      next hp1 =>
        exact .dev (snd_eq hp1 h.draw).railFaulted
  · exact .dev h.bankLow
  · exact .dev h.setF.holdupLost
  · exact .ite (.dev h.clockFail) .none
  · exact .ite (.dev h.crystalFails) .none
  · exact .dev h.escalate
  · exact .dev h.readbackFail
  · exact .ite (.dev h.engFault) .none
  · exact .none

theorem safInj (h : s.Kept d) {by_ mech inst} : s.Kept (d.safInj by_ mech inst) := by
  unfold Dev.safInj
  extract_lets own y
  refine h.ite ?_
  · split
    next hp1 =>
      exact (of_some hp1 (.ite .none h.injectAct))
    · exact h.upd

/-! ### The functions of `Machine/Seq.lean` -/

theorem seqAck (h : s.Kept d) : s.Kept d.seqAck := by
  unfold Dev.seqAck
  exact h.upd.send

theorem seqFrame (h : s.Kept d) {ok f} (hf : ∀ d, s.Kept d → s.Kept (f d)) :
    s.Kept (d.seqFrame ok f) := by
  unfold Dev.seqFrame
  exact (hf _ h.seqAck).ite h

theorem seqSend (h : s.Kept d) {addr cmd arg} : s.Kept (d.seqSend addr cmd arg) := by
  unfold Dev.seqSend
  exact h.send

theorem seqFail (h : s.Kept d) {i} : s.Kept (d.seqFail i) := by
  unfold Dev.seqFail
  exact h.orF.cnt.setF.upd.post0

theorem seqResp (h : s.Kept d) {i w} : s.Kept (d.seqResp i w) := by
  unfold Dev.seqResp
  exact h.setF.setF.setF.upd

theorem seqChart (h : s.Kept d) {i w} : s.Kept (d.seqChart i w) := by
  unfold Dev.seqChart
  split
  · exact h.ite (h.foldl fun _ _ h1 => h1.send).seqSend.setF.upd
  · exact h

theorem discover (h : s.Kept d) {resp} : s.Kept (d.discover resp) := by
  unfold Dev.discover
  extract_lets d1 y
  have hd1 : s.Kept d1 := by
    unfold d1
    refine h.foldl fun _ _ h1 => ?_
    · extract_lets d2
      have hd2 : s.Kept d2 := h1.seqSend
      split
      · exact hd2.orF.seqResp.seqChart
      · exact hd2.setF
  exact hd1.upd.seqSend

theorem pollGroup (h : s.Kept d) {resp} : s.Kept (d.pollGroup resp) := by
  unfold Dev.pollGroup
  extract_lets k late d1 ready y
  have hd1 : s.Kept d1 := by
    unfold d1
    refine h.foldl fun _ _ h1 => ?_
    · extract_lets d2
      have hd2 : s.Kept d2 := h1.seqSend
      split
      · exact hd2.seqFail
      · exact hd2.seqResp.seqChart.when fun h2 => h2.seqFail
  exact hd1.upd.seqSend.ite hd1

/-! ### The functions of `Machine/HelmSpace.lean` -/

theorem regRefuse (h : s.Kept d) {off old new v lim} :
    s.KeptIf (fun d => d) (d.regRefuse off old new v lim) := by
  unfold Dev.regRefuse
  extract_lets f g no
  have hno : ∀ bad, s.KeptIf (fun d => d) (no bad) := fun _ => .ite (.dev h) .none
  have hset : ∀ F v, s.KeptIf (fun d => d) (some (d.setF F v)) := fun _ _ => .dev h.setF
  refine .ite (hno _) (.ite (hno _) (.ite (.ite (hset _ _) .none) (.ite (hno _) ?_)))
  refine .ite (.ite .none (hset _ _)) (.ite (hno _) (.ite (hno _) (.ite (hno _) ?_)))
  refine .ite (hno _) (.ite (hno _) (.ite (hno _) (.ite (hno _) (.ite (hno _) ?_))))
  exact .ite (.ite (hset _ _) (.ite (hset _ _) .none)) .none

theorem padRelease (h : s.Kept d) : s.Kept d.padRelease := by
  unfold Dev.padRelease
  exact h.ite h.setF

theorem wdogKick (h : s.Kept d) : s.Kept d.wdogKick := by
  unfold Dev.wdogKick
  exact h.upd

theorem vholdSet (h : s.Kept d) : s.Kept d.vholdSet := by
  unfold Dev.vholdSet
  exact h.setEnergy.setF.ite (h.setEnergy.whenNot fun h1 => h1.holdupLost)

theorem strCounts (h : s.Kept d) : s.Kept d.strCounts := by
  unfold Dev.strCounts
  exact h.setF.setF

theorem strAct (h : s.Kept d) {act x} : s.Kept (d.strAct act x) := by
  unfold Dev.strAct
  exact (h.trigger.ite h).ite ((h.queueReset.ite h).ite h)

theorem seqCmd (h : s.Kept d) {v} : s.Kept (d.seqCmd v) := by
  unfold Dev.seqCmd
  exact h.seqSend.ite h

theorem pwrCtl (h : s.Kept d) {v} : s.Kept (d.pwrCtl v) := by
  unfold Dev.pwrCtl
  exact (h.upd.setF.ite h).when fun h1 => h1.offRequest

theorem regAct (h : s.Kept d) {by_ off old new v} : s.Kept (d.regAct by_ off old new v) := by
  unfold Dev.regAct
  extract_lets y y1
  exact h.upd.ite ((h.ite h.vholdSet).ite (h.seqCmd.ite ((h.orF.ite h).ite
      ((h.ite h.setF).ite ((h.padRelease.ite h).ite ((h.resetAccept.ite h).ite
          ((h.wdogKick.ite h).ite (h.upd.ite (h.llKeep.ite (h.safInj.ite
              ((h.fix.ite h).ite (h.upd.ite ((h.foldl fun _ _ h1 => h1.setReg).ite
                  (h.floorReg.ite (h.strAct.ite ((h.modStm.ite h).strCounts.ite h))))))))))))))))

theorem regWrite (h : s.Kept d) {by_ off mask v} : s.Kept (d.regWrite by_ off mask v) := by
  unfold Dev.regWrite
  extract_lets old lim
  split
  · exact h
  · extract_lets new d1 d2
    have hd1 : s.Kept d1 := h.setReg
    have hd2 : s.Kept d2 := hd1.upd.ite hd1
    refine h.pwrCtl.ite (h.sqTail.ite (h.cqHead.ite ((h.setReg.ite h).ite ?_)))
    · split
      next hp1 =>
        exact (h.regRefuse _ hp1)
      · exact hd2.regAct

theorem sqWrite (h : s.Kept d) {r byte n v} : s.Kept (d.sqWrite r byte n v) := by
  unfold Dev.sqWrite
  exact h.upd

theorem helm32 (h : s.Kept d) {by_ off v} : s.Kept (d.helm32 by_ off v) := by
  unfold Dev.helm32
  split
  · exact h.sqWrite
  · split
    · exact h
    · exact h.regWrite.ite h.regWrite

theorem helmWrite (h : s.Kept d) {by_ off width v} : s.Kept (d.helmWrite by_ off width v) := by
  unfold Dev.helmWrite
  refine h.helm32.ite (ite ?_ h)
  · split
    · exact h.sqWrite
    · exact h.regWrite.ite h.helm32.helm32

theorem noteRead (h : s.Kept d) {p} : s.Kept (d.noteRead p).2 := by
  unfold Dev.noteRead
  extract_lets q y
  exact h.upd

theorem helmRead32 (h : s.Kept d) {by_ off} : s.Kept (d.helmRead32 by_ off).2 := by
  unfold Dev.helmRead32
  split
  · exact h
  · split
    · exact h
    · extract_lets base v
      split
      · exact h.noteRead
      · split
        · exact h
        · split
          · exact h.upd
          · split
            · exact h.upd
            · exact h

theorem helmRead (h : s.Kept d) {by_ off width} : s.Kept (d.helmRead by_ off width).2 := by
  unfold Dev.helmRead
  split
  · exact h.helmRead32
  · split
    · split
      · exact h
      · split
        · exact h
        · split
          next hp1 =>
            split
            next hp2 =>
              exact (snd_eq hp2 (snd_eq hp1 h.helmRead32).helmRead32)
    · exact h

theorem helmIn (h : s.Kept d) {by_ off width v} : s.Kept (d.helmIn by_ off width v) := by
  unfold Dev.helmIn
  exact h.letWrite fun _ h => h.helmWrite

theorem halfIn (h : s.Kept d) {by_ off half v} : s.Kept (d.halfIn by_ off half v) := by
  unfold Dev.halfIn
  exact h.helmIn.ite (h.helmIn.ite h.helmIn)

theorem readIn (h : s.Kept d) {by_ off} : s.Kept (d.readIn by_ off) := by
  unfold Dev.readIn
  refine ite ?_ h
  · split
    next hp1 =>
      exact (snd_eq hp1 (h.touch.ite h).helmRead).send

/-! ### The functions of `Machine/ChartApply.lean` -/

theorem recReject (h : s.Kept d) {idx half} : s.Kept (d.recReject idx half) := by
  unfold Dev.recReject
  exact h.cnt.post

theorem chartStr (h : s.Kept d) {off mask v} : s.Kept (d.chartStr off mask v) := by
  unfold Dev.chartStr
  split
  · exact h
  · exact h.setReg.setF.ite h.setReg

theorem chartWrite (h : s.Kept d) {a idx half off mask v} :
    s.Kept (d.chartWrite a idx half off mask v).1 := by
  unfold Dev.chartWrite
  extract_lets i old x
  have hx : s.Kept x := h.regWrite
  split
  · split
    · exact h.recReject
    · exact h
  · split
    · exact h
    · split
      · exact h.ite h.recReject
      · split
        · exact h
        · split
          · exact h.recReject
          · split
            · exact h.chartStr
            · split
              · exact hx.ite hx.recReject
              · split
                next hp1 =>
                  exact (h.regRefuse _ hp1).recReject
                · exact h.regWrite

theorem chart32 (h : s.Kept d) {a idx half off v} : s.Kept (d.chart32 a idx half off v).1 := by
  unfold Dev.chart32
  split
  · exact h.sqWrite
  · split
    · split
      · exact h.chartWrite
      · exact h.chartWrite
    · exact h.chartWrite

theorem chartRec {x : Dev × ChartAsk} (h : s.Kept x.1) {idx b} :
    s.Kept (Dev.chartRec x idx b).1 := by
  unfold Dev.chartRec
  extract_lets d a w off v
  split
  · split
    · exact h.chart32
    · split
      · split
        · exact h.chartWrite
        · exact h.chart32.chart32
      · exact h.recReject
  · split
    · exact h
    · exact h.recReject
  · exact h
  · exact h

theorem chartKept (h : s.Kept d) : s.Kept d.chartKept := by
  unfold Dev.chartKept
  exact h.setF.post0

theorem chartRanges (h : s.Kept d) {a} : s.Kept (d.chartRanges a) := by
  unfold Dev.chartRanges
  exact (h.foldl fun _ _ h1 => h1.setReg).ite (h.setF.post0.ite h)

theorem chartLayout (h : s.Kept d) {a} : s.Kept (d.chartLayout a) := by
  unfold Dev.chartLayout
  exact (h.setReg.setF.ite (h.chartKept.ite h)).setF

theorem chartRegions (h : s.Kept d) {a} : s.Kept (d.chartRegions a) := by
  unfold Dev.chartRegions
  extract_lets all
  refine h.foldl fun _ _ h1 => ?_
  · extract_lets x
    split
    · exact h1.ite (h1.chartKept.ite h1.setStm)

theorem checkRegions (h : s.Kept d) : s.Kept d.checkRegions := by
  unfold Dev.checkRegions
  extract_lets good
  split
  next d1 _ hp1 =>
    have h1 : s.Kept d1 := fst_eq hp1 <| by
      refine h.foldl_fst fun y _ hy => ?_
      split
      · dsimp only
        exact hy.modStm
      · dsimp only
        exact hy.modStm.setF.post
    exact h1.foldl fun _ _ h => h.ite h.modStm

theorem walkFrames (h : s.Kept d) {x framed n p} : s.Kept (d.walkFrames x framed n p) := by
  induction n generalizing d p with
  | zero => exact h
  | succ n ih =>
    unfold Dev.walkFrames
    extract_lets x1
    refine ite h.setStm (ite ?_ ?_)
    · split
      next hp1 =>
        have h1 := snd_eq hp1 h.strLine
        split
        · split
          · exact ih h1.setStm
          · exact ih h1.draw.setStm
        · exact ih h1.draw.setStm
    · exact ih h.draw.setStm

theorem resumeStream (h : s.Kept d) {x} : s.Kept (d.resumeStream x) := by
  unfold Dev.resumeStream
  extract_lets x1 framed last
  split
  · exact h
  · exact h.walkFrames.modStm.joinSlots.strSettle

theorem hoveAgain (h : s.Kept d) : s.Kept d.hoveAgain := by
  unfold Dev.hoveAgain
  exact (h.foldl fun _ _ h1 => h1.quadLost.ite h1).whenNot fun h2 => h2.keyFail

theorem saveLayout (h : s.Kept d) : s.Kept d.saveLayout := by
  unfold Dev.saveLayout
  exact h.ite h.upd

theorem applyChart (h : s.Kept d) {sl} : s.Kept (d.applyChart sl) := by
  unfold Dev.applyChart
  extract_lets old
  split
  next d0 _ hp1 =>
    have h0 : s.Kept d0 := fst_eq hp1 (h.foldl_fst fun _ _ h => chartRec h)
    extract_lets d1 d2 d3 d4 d5 d6
    have hd2 : s.Kept d2 := h0.setReg.chartRanges.chartLayout.chartRegions.checkRegions
    have hd3 : s.Kept d3 := (hd2.foldl fun _ _ h => h.modStm).strCounts.saveLayout
    have hd5 : s.Kept d5 := (hd3.foldl fun _ _ h => h.resumeStream).hoveAgain
    exact hd5.modePointFrom.upd

/-! ### The functions of `Machine/Operands.lean` -/

theorem setGr (h : s.Kept d) {x i v} : s.Kept (d.setGr x i v) := by
  unfold Dev.setGr
  exact h.modEng

/-! ### The functions of `Machine/Engine.lean` -/

theorem lockCopy (h : s.Kept d) {x} : s.Kept (d.lockCopy x) := by
  unfold Dev.lockCopy
  exact h.modEng.ite h

theorem takeExc (h : s.Kept d) {x code detail bad epc} :
    s.Kept (d.takeExc x code detail bad epc) := by
  unfold Dev.takeExc
  exact h.modEng

theorem syncExc (h : s.Kept d) {x code detail bad} : s.Kept (d.syncExc x code detail bad) := by
  unfold Dev.syncExc
  exact h.engFault.ite h.takeExc.endDeck.post

theorem engStep (h : s.Kept d) {x word bad helm bar f} (hf : EngRes.KeptBy s (f d)) :
    s.Kept (d.engStep x word bad helm bar f) := by
  unfold Dev.engStep
  refine ite h ?_
  extract_lets r
  have hr : EngRes.KeptBy s r := by
    unfold r
    split
    · exact h
    · exact hf
  clear_value r
  cases r with
  | raise e c t b => exact hr.syncExc.lockCopy
  | done e => exact h.takeExc.lockCopy.ite hr.modEng.lockCopy
  | goto e pc => exact h.takeExc.lockCopy.ite hr.modEng.lockCopy
  | stay e => exact h.takeExc.lockCopy.ite hr.lockCopy
  | wait => exact h.takeExc.lockCopy.ite h

theorem engSet (h : s.Kept d) {x word rd bad v} : s.Kept (d.engSet x word rd bad v) := by
  unfold Dev.engSet
  exact h.engStep (done h.setGr)

/-! ### The functions of `Machine/EngineMem.lean` -/

theorem forward (h : s.Kept d) {q m} : s.Kept (d.forward q m) := by
  unfold Dev.forward
  exact h.modQuad

theorem leave (h : s.Kept d) {x m} : s.Kept (d.leave x m) := by
  unfold Dev.leave
  exact h.modEng.forward

theorem unreserve (h : s.Kept d) {g} : s.Kept (d.unreserve g) := by
  unfold Dev.unreserve
  exact h.upd

theorem unreserveOwn (h : s.Kept d) {x g} : s.Kept (d.unreserveOwn x g) := by
  unfold Dev.unreserveOwn
  exact h.modEng

theorem sharedMerge (h : s.Kept d) {q off data mask} :
    s.Kept (d.sharedMerge q off data mask) := by
  unfold Dev.sharedMerge
  exact h.foldl fun _ _ h1 => h1.modQuad.ite h1

theorem drainOne (h : s.Kept d) {q} : s.Kept (d.drainOne q) := by
  unfold Dev.drainOne
  extract_lets c
  split
  · exact h
  · extract_lets go
    have hgo : s.Kept go := h.modQuad
    split
    · exact h.ite (hgo.memWrite.when fun h1 => h1.modEng)
    · exact hgo.sharedMerge.unreserve
    · exact hgo

theorem drainOf (h : s.Kept d) {x n} : s.Kept (d.drainOf x n) := by
  induction n generalizing d with
  | zero => exact h
  | succ n ih =>
    unfold Dev.drainOf
    exact ite (ih h.drainOne) h

theorem leaveAll (h : s.Kept d) {x} : s.Kept (d.leaveAll x) := by
  unfold Dev.leaveAll
  exact h.foldl fun _ _ h1 => h1.leave.ite h1

theorem devLoad (h : s.Kept d) {x a n ev k} (hk : ∀ v d, s.Kept d → EngRes.KeptBy s (k v d)) :
    EngRes.KeptBy s (d.devLoad x a n ev k) := by
  unfold Dev.devLoad
  extract_lets own need check
  refine .ite (hk _ _ h) (.ite trivial ?_)
  split
  next hp => exact .ite trivial (raised (snd_eq hp h.memReadNow))
  next hp => exact hk _ _ (snd_eq hp h.memReadNow)

theorem engLoad (h : s.Kept d) {x addr n ev k} (hk : ∀ v d, s.Kept d → EngRes.KeptBy s (k v d)) :
    EngRes.KeptBy s (d.engLoad x addr n ev k) := by
  unfold Dev.engLoad
  extract_lets a r own
  refine .ite (raised h) (.ite (raised h) ?_)
  clear_value r
  cases r with
  | loc off => exact .ite (raised h.post) (hk _ _ h)
  | shared q off => exact .ite (raised h.post) (hk _ _ h)
  | rom off => exact hk _ _ h
  | helm off => exact hk _ _ h.helmRead
  | dev a => exact h.devLoad hk
  | unmapped => exact raised h

theorem loadOp (h : s.Kept d) {x op rd a imm n signed ev} :
    s.Kept (d.loadOp x op rd a imm n signed ev) := by
  unfold Dev.loadOp
  exact h.engStep (h.engLoad fun _ _ h => done h.setGr)

theorem mergeStore (h : s.Kept d) {x line data mask} :
    EngRes.KeptBy s (d.mergeStore x line data mask) := by
  unfold Dev.mergeStore
  extract_lets l add put
  have hput : ∀ d, s.Kept d → s.Kept (put d) := fun _ h => h.modEng
  refine .ite (done (hput _ h)) ?_
  clear_value l
  split
  · exact done (hput _ h)
  · exact .ite (done (hput _ h.leave)) trivial

theorem engStore (h : s.Kept d) {x addr n v} : EngRes.KeptBy s (d.engStore x addr n v) := by
  unfold Dev.engStore
  extract_lets a r
  refine .ite (raised h) (.ite (raised h) ?_)
  clear_value r
  cases r with
  | loc off => exact done h.modEng.unreserveOwn
  | shared q off =>
    exact .ite (done h.modQuad.unreserve) (.ite trivial (done h.forward.unreserveOwn))
  | helm off => exact done h.helmWrite
  | dev a => exact h.unreserveOwn.mergeStore
  | rom off => exact raised h
  | unmapped => exact raised h

theorem storeOp (h : s.Kept d) {x op b a imm n} : s.Kept (d.storeOp x op b a imm n) := by
  unfold Dev.storeOp
  exact h.engStep h.engStore

theorem condDev (h : s.Kept d) {x rd a v} : EngRes.KeptBy s (d.condDev x rd a v) := by
  unfold Dev.condDev
  extract_lets g lines go d1 y m c d2
  have hgo : s.Kept go.2 := h.foldl_snd fun acc _ hacc => by
    split
    · exact hacc.leave.mk_snd
    · exact hacc
  have hd1 : s.Kept d1 := hgo.drainOf
  exact .ite trivial (.ite (done hd1.memWrite.modEng.setGr) (done hd1.modEng.setGr))

theorem barLocal (h : s.Kept d) {x} : EngRes.KeptBy s (d.barLocal x) := by
  unfold Dev.barLocal
  exact .ite (done h.leaveAll) (stay h.leaveAll)

theorem barChip (h : s.Kept d) {x} : EngRes.KeptBy s (d.barChip x) := by
  unfold Dev.barChip
  extract_lets d1 d2 dying
  have hd1 : s.Kept d1 := h.leaveAll
  have hd2 : s.Kept d2 := hd1.drainOf
  exact .ite (stay hd1) (.ite (done hd2.modEng) (stay hd2.modEng))

theorem discardStore (h : s.Kept d) {x r} : s.Kept (d.discardStore x r) := by
  unfold Dev.discardStore
  extract_lets d1
  have hd1 : s.Kept d1 := h.upd.markPoison.supersede
  split
  · exact h
  · exact hd1.post.modEng

/-! ### The functions of `Machine/EngineMedia.lean` -/

theorem issue (h : s.Kept d) {x rd f} (hf : ∀ t, s.Kept (f t d).2) :
    EngRes.KeptBy s (d.issue x rd f) := by
  unfold Dev.issue
  split
  · exact done h.setGr
  · exact done (hf _).modEng.setGr

theorem issueAt (h : s.Kept d) {x rd a clear f} (hf : ∀ p t, s.Kept (f p t d).2) :
    EngRes.KeptBy s (d.issueAt x rd a clear f) := by
  unfold Dev.issueAt
  refine h.issue fun t => ?_
  split
  · exact h
  · exact hf _ t

theorem bufCheck (h : s.Kept d) {x buf n k} (hk : EngRes.KeptBy s k) :
    EngRes.KeptBy s (d.bufCheck x buf n k) := by
  unfold Dev.bufCheck
  exact .ite (raised h) (.ite (raised h) hk)

theorem freeBytes (h : s.Kept d) {n} : s.Kept (d.freeBytes n).2 := by
  induction n generalizing d with
  | zero => exact h
  | succ n ih =>
    unfold Dev.freeBytes
    exact (ih h.draw).mk_snd

theorem sensed (h : s.Kept d) {image ev} : s.Kept (d.sensed image ev).2 := by
  unfold Dev.sensed
  split
  · exact h
  · exact h.freeBytes

theorem refCmd (h : s.Kept d) {x psa row override} : s.Kept (d.refCmd x psa row override) := by
  unfold Dev.refCmd
  exact h.linkSend.ite h

theorem readsBlank (h : s.Kept d) {ev} : s.Kept (d.readsBlank ev).2 := by
  unfold Dev.readsBlank
  split
  · exact h
  · split
    next hp1 =>
      exact (snd_eq hp1 h.freeBytes)

theorem mreadOp (h : s.Kept d) {x t psa buf want fn ev} :
    s.Kept (d.mreadOp x t psa buf want fn ev).2 := by
  unfold Dev.mreadOp
  extract_lets ov row d1 r d2 r1 retry c
  have hr : s.Kept r.2 := h.senseRow.refCmd.sensed
  have hd2 : s.Kept d2 := h.sense.refCmd
  have hr1 : s.Kept r1.2 := hd2.freeBytes
  split
  · exact hr.mk_snd
  · split
    · split
      · split
        · exact hd2
        · exact hr1.mk_snd
      · exact hd2.sensed.mk_snd
    · split
      · exact h.sense.refCmd
      · split
        next d3 hp =>
          have h3 : s.Kept d3 := snd_eq hp (by
            split
            · exact h.readsBlank
            · exact h)
          extract_lets r2 d4
          have hd4 : s.Kept d4 := h3.decode.refCmd
          split
          · exact h3.sense.refCmd
          · split
            · exact hd4
            · extract_lets bytes
              split
              · exact hd4
              · exact hd4.secAlarm.mk_snd

theorem mverifyOp (h : s.Kept d) {t psa ev} : s.Kept (d.mverifyOp t psa ev).2 := by
  unfold Dev.mverifyOp
  extract_lets c r res
  have hr : s.Kept r.2.1 := h.decode
  split
  · exact h.sense
  · exact hr

theorem mwriteOp (h : s.Kept d) {t psa buf commit ok} :
    s.Kept (d.mwriteOp t psa buf commit ok).2 := by
  unfold Dev.mwriteOp
  extract_lets kind n waits y d1 d2 r
  have hd1 : s.Kept d1 := h.program
  have hd2 : s.Kept d2 := hd1.cnt.post
  have hr : s.Kept r.2 := hd2.draw
  split
  · exact h
  · split
    · exact h.program
    · split
      · exact h.program.addLive
      · split
        · exact hr
        · exact hd2.program.addLive

theorem mclearOp (h : s.Kept d) {t psa count retired} :
    s.Kept (d.mclearOp t psa count retired).2 := by
  unfold Dev.mclearOp
  extract_lets sg all k
  split
  · exact h
  · split
    · exact h
    · exact h.beginClear.mk_snd

theorem foldStart (h : s.Kept d) {mode target place refresh ev} :
    s.Kept (d.foldStart mode target place refresh ev) := by
  unfold Dev.foldStart
  extract_lets had d1
  have hd1 : s.Kept d1 := by
    unfold d1
    split
    · exact h.startFold
    · split
      · exact h.startSecMove
      · exact h
    · split
      · exact h.startSealedMove
      · exact h
  exact hd1.upd.ite hd1

theorem mfoldOp (h : s.Kept d) {t mode desc ev} : s.Kept (d.mfoldOp t mode desc ev).2 := by
  unfold Dev.mfoldOp
  extract_lets target flags src zero pick
  split
  · exact h
  · clear_value pick
    split
    · exact h
    · split
      · exact h
      · exact h.foldStart.mk_snd

theorem mfold (h : s.Kept d) {x rd a mode rs ev} : s.Kept (d.mfold x rd a mode rs ev) := by
  unfold Dev.mfold
  exact h.engStep (h.bufCheck (h.issue fun _ => h.mfoldOp))

theorem ticketDone (h : s.Kept d) {x t status} : s.Kept (d.ticketDone x t status) := by
  unfold Dev.ticketDone
  exact h.modEng

theorem ticketStep (h : s.Kept d) {x t} : s.Kept (d.ticketStep x t) := by
  unfold Dev.ticketStep
  split
  · exact h.ticketDone
  · exact h.ticketDone.ite h
  · exact h.ite (h.clearDone.ite h).ticketDone
  · exact (h.ite h.ticketDone).ite (h.ticketDone.ite h.foldStart.modEng)

/-! ### The functions of `Machine/EngineQueue.lean` -/

theorem qOp (h : s.Kept d) {x x1 op arg} : s.Kept (d.qOp x x1 op arg).2.2 := by
  unfold Dev.qOp
  extract_lets c r
  have hr : s.Kept r.2 := h.takeCsn.modEng.strOp
  exact hr

theorem qPlain (h : s.Kept d) {x op rd a arg shown} :
    EngRes.KeptBy s (d.qPlain x op rd a arg shown) := by
  unfold Dev.qPlain
  refine .ite trivial ?_
  split
  · exact done h.setGr
  · exact done h.qOp.setGr

theorem qLines (h : s.Kept d) {x n pos ev} : s.Kept (d.qLines x n pos ev).2 := by
  induction n generalizing d pos ev with
  | zero => exact h
  | succ n ih =>
    unfold Dev.qLines
    extract_lets r
    have hr : s.Kept r.2 := h.strLine
    split
    · exact hr.egress.mk_snd
    · exact (ih hr).mk_snd

theorem qCopy (h : s.Kept d) {x rd a b c ev k} (hk : ∀ n d, s.Kept d → EngRes.KeptBy s (k n d)) :
    EngRes.KeptBy s (d.qCopy x rd a b c ev k) := by
  unfold Dev.qCopy
  extract_lets sm buf len p n
  refine .ite trivial (.ite (raised h) (.ite (raised h) ?_))
  split
  · exact done h.setGr
  · refine .ite (done h.setGr) ?_
    split
    next hp => exact .ite trivial (raised (snd_eq hp h.qLines))
    next hp => exact hk _ _ (snd_eq hp h.qLines).modEng

/-! ### The functions of `Machine/EngineSys.lean` -/

theorem trapOp (h : s.Kept d) {x code word} : EngRes.KeptBy s (d.trapOp x code word) := by
  unfold Dev.trapOp
  extract_lets y t
  have ht : s.Kept t := h.takeExc
  refine .ite (.ite (stay h.engFault) (stay ht)) ?_
  split
  · exact stay ht.endDeck
  · exact stay ht.post
  · exact stay ht
  · exact raised h

theorem trap (h : s.Kept d) {x code rs} : s.Kept (d.trap x code rs) := by
  unfold Dev.trap
  exact h.engStep h.trapOp

theorem eret (h : s.Kept d) {x} : s.Kept (d.eret x) := by
  unfold Dev.eret
  exact h.modEng

theorem perform (h : s.Kept d) {n t ev} : s.Kept (d.perform n t ev).2 := by
  unfold Dev.perform
  extract_lets fold
  split
  · exact h.startFold
  · exact h.evacuate
  · split
    · exact h
    · exact h.evacuate
  · exact h.startFold
  · exact h

theorem takeTask (h : s.Kept d) {x ev} : s.Kept (d.takeTask x ev).2 := by
  unfold Dev.takeTask
  split
  · exact h
  · extract_lets d1
    have hd1 : s.Kept d1 := h.modPt
    split
    next hp1 =>
      extract_lets d2 d3 d4 r
      have hd2 : s.Kept d2 := (snd_eq hp1 hd1.perform).when fun h1 => h1.queueTask
      have hd3 : s.Kept d3 := hd2.modEng
      have hd4 : s.Kept d4 := hd3.tally.ite hd3
      have hr : s.Kept r.2 := hd4.draw
      exact hr

theorem getsys (h : s.Kept d) {x n ev} : s.Kept (d.getsys x n ev).2 := by
  unfold Dev.getsys
  split
  · exact h.takeTask
  · exact h

theorem putsys (h : s.Kept d) {x n v} : s.Kept (d.putsys x n v) := by
  unfold Dev.putsys
  exact h.modEng

theorem getsysOp (h : s.Kept d) {x rd n rs ev} : s.Kept (d.getsysOp x rd n rs ev) := by
  unfold Dev.getsysOp
  exact h.engStep (done h.getsys.setGr)

theorem putsysOp (h : s.Kept d) {x a n rs} : s.Kept (d.putsysOp x a n rs) := by
  unfold Dev.putsysOp
  exact h.engStep (done h.putsys)

theorem consume (h : s.Kept d) {x rd m} : s.Kept (d.consume x rd m) := by
  unfold Dev.consume
  exact h.modEng.setGr

/-! ### The functions of `Machine/DeckRun.lean` -/

theorem loadSec (h : s.Kept d) {x sl x1} : s.Kept (d.loadSec x sl x1) := by
  unfold Dev.loadSec
  exact h.modEng

theorem deckStart (h : s.Kept d) {x k id copy entry slice} :
    s.Kept (d.deckStart x k id copy entry slice) := by
  unfold Dev.deckStart
  exact h.modEng

theorem deckRun (h : s.Kept d) {x} : s.Kept (d.deckRun x) := by
  unfold Dev.deckRun
  split
  · exact h.endOrder
  · split
    · exact h.endOrder
    · extract_lets data top base r copy d1 d2 d3 slice
      have hd1 : s.Kept d1 := h.draw.loadSec
      have hd2 : s.Kept d2 := by
        unfold d2
        clear_value data
        split
        · exact hd1.loadSec
        · exact hd1
      exact ite h.endOrder hd2.modEng.deckStart.lockCopy

theorem deckStop (h : s.Kept d) {x} : s.Kept (d.deckStop x) := by
  unfold Dev.deckStop
  exact h.endOrder.ite (h.endDeck.takeExc.lockCopy.ite h.endDeck).endOrder

/-! ### The functions of `Machine/EngineAlu.lean` -/

theorem aluOp (h : s.Kept d) {x rd a b fn f} : s.Kept (d.aluOp x rd a b fn f) := by
  unfold Dev.aluOp
  exact h.engSet

theorem immOp (h : s.Kept d) {x op rd a imm f} : s.Kept (d.immOp x op rd a imm f) := by
  unfold Dev.immOp
  exact h.engSet

theorem branch (h : s.Kept d) {x k b a imm} : s.Kept (d.branch x k b a imm) := by
  unfold Dev.branch
  exact h.engStep (.ite h h)

/-! ### The functions of `Machine/I3c.lean` -/

theorem i3cAnswer (h : s.Kept d) {status data} : s.Kept (d.i3cAnswer status data) := by
  unfold Dev.i3cAnswer
  exact h.upd

theorem i3cWords (h : s.Kept d) {off n} : s.Kept (d.i3cWords off n).2 := by
  induction n generalizing d off with
  | zero => exact h
  | succ n ih =>
    unfold Dev.i3cWords
    exact (ih h.helmRead).mk_snd

theorem i3cPut (h : s.Kept d) {off l} : s.Kept (d.i3cPut off l) := by
  induction d, off, l using Dev.i3cPut.induct with
  | case1 => exact h
  | case2 => exact h.helmIn
  | case3 d off x y t hc ih =>
    rw [Dev.i3cPut, if_pos hc]
    exact ih h.helmIn
  | case4 d off x y t hc ih =>
    rw [Dev.i3cPut, if_neg hc]
    exact ih h.helmIn

theorem i3cWrote (h : s.Kept d) {status} : s.Kept (d.i3cWrote status) := by
  unfold Dev.i3cWrote
  exact h.upd.i3cAnswer

theorem i3cFrame (h : s.Kept d) {k fr f} (hf : ∀ d, s.Kept d → s.Kept (f d)) :
    s.Kept (d.i3cFrame k fr f) := by
  unfold Dev.i3cFrame
  exact h.ite (hf _ h)

theorem i3cGet (h : s.Kept d) {b} : s.Kept (d.i3cGet b) := by
  unfold Dev.i3cGet
  exact h.send.ite h

/-! ### The functions of `Machine/Logs.lean` -/

theorem deckClearOrder (h : s.Kept d) {x} : s.Kept (d.deckClearOrder x) := by
  unfold Dev.deckClearOrder
  exact h.setF.lbkSetCounter.setF.setF.endOrder

theorem tallyDump (h : s.Kept d) : s.Kept d.tallyDump := by
  unfold Dev.tallyDump
  exact h.draw.setF.upd

/-! ### The functions of `Machine/Thermal.lean` -/

theorem mediaSub (h : s.Kept d) {n} : s.Kept (d.mediaSub n).2 := by
  unfold Dev.mediaSub
  extract_lets near r
  have hr : s.Kept r.2 := h.draw
  split
  · exact h
  · split
    · exact h
    · split
      · exact h
      · exact hr

theorem ctrlSub (h : s.Kept d) {x} : s.Kept (d.ctrlSub x).2 := by
  unfold Dev.ctrlSub
  extract_lets near r
  have hr : s.Kept r.2 := h.draw
  split
  · exact h
  · exact hr

theorem modSensor (h : s.Kept d) {kind i f} : s.Kept (d.modSensor kind i f) := by
  unfold Dev.modSensor
  exact h.upd

theorem showSensor (h : s.Kept d) {kind i v} : s.Kept (d.showSensor kind i v) := by
  unfold Dev.showSensor
  exact h.setF

theorem takeReading (h : s.Kept d) {kind i v} : s.Kept (d.takeReading kind i v) := by
  unfold Dev.takeReading
  exact h.modSensor.showSensor

theorem loseAll (h : s.Kept d) : s.Kept d.loseAll := by
  unfold Dev.loseAll
  exact h.setF.foldl fun _ _ h1 => h1.takeReading

theorem exclude (h : s.Kept d) {kind i cause} : s.Kept (d.exclude kind i cause) := by
  unfold Dev.exclude
  extract_lets d1 d2 show_
  have hd1 : s.Kept d1 := h.modSensor
  have hd2 : s.Kept d2 := hd1.setReg
  split
  next e1 hp1 =>
    have h1 : s.Kept e1 := snd_eq hp1 <| by
      split
      · split
        next hp2 =>
          exact (snd_eq hp2 hd2.setF.setF.mediaSub).loseAll.ite
              (snd_eq hp2 hd2.setF.setF.mediaSub).takeReading
      · split
        · split
          next hp3 =>
            exact (snd_eq hp3 hd2.setF.setF.ctrlSub).takeReading
        · exact hd2.setF.setF
    exact h1.post

theorem openShort (h : s.Kept d) {kind i} : s.Kept (d.openShort kind i) := by
  unfold Dev.openShort
  exact h.draw.exclude

theorem watchReading (h : s.Kept d) {kind i near t} : s.Kept (d.watchReading kind i near t) := by
  unfold Dev.watchReading
  exact (h.exclude.ite h.modSensor.takeReading).ite h.modSensor.takeReading

theorem coldCheck (h : s.Kept d) {n} : s.Kept (d.coldCheck n) := by
  unfold Dev.coldCheck
  exact h.setF.post.ite (h.setF.post.drainRecords.ite h)

theorem ctrlCheck (h : s.Kept d) {i was} : s.Kept (d.ctrlCheck i was) := by
  unfold Dev.ctrlCheck
  split
  · exact h
  · exact (h.setF.setF.post.ite (h.setF.setF.ite h.setF)).when fun h1 => h1.setF.offRequest

theorem auxCheck (h : s.Kept d) {i} : s.Kept (d.auxCheck i) := by
  unfold Dev.auxCheck
  exact (h.modSensor.ite h).ite (h.modSensor.post.ite h)

theorem readMedia (h : s.Kept d) {n v} : s.Kept (d.readMedia n v) := by
  unfold Dev.readMedia
  extract_lets d1
  have hd1 : s.Kept d1 := by
    unfold d1
    refine h.takeReading.ite (ite ?_ ?_)
    · split
      next hp1 =>
        exact (snd_eq hp1 h.mediaSub).takeReading
    · split
      · exact h.watchReading.ite h.openShort
      · exact h.openShort
  exact h.ite hd1.coldCheck

theorem readCtrl (h : s.Kept d) {i v} : s.Kept (d.readCtrl i v) := by
  unfold Dev.readCtrl
  extract_lets was d1
  have hd1 : s.Kept d1 := by
    unfold d1
    refine ite ?_ ?_
    · split
      next hp1 =>
        exact (snd_eq hp1 h.ctrlSub).takeReading
    · split
      · exact h.watchReading.ite h.openShort
      · exact h.openShort
  exact h.ite hd1.ctrlCheck

theorem readAux (h : s.Kept d) {i v} : s.Kept (d.readAux i v) := by
  unfold Dev.readAux
  refine h.ite ?_
  · split
    · exact h.takeReading.auxCheck
    · exact h.openShort

theorem hotCross (h : s.Kept d) {bit in_ enter leave n t} :
    s.Kept (d.hotCross bit in_ enter leave n t) := by
  unfold Dev.hotCross
  exact h.setF.post.ite (h.setF.post.ite h)

theorem hotFormed (h : s.Kept d) {x c n} : s.Kept (d.hotFormed x c n) := by
  unfold Dev.hotFormed
  exact (h.setF.setF.when fun h1 => h1.logBoth).hotCross.hotCross.upd.setF

/-! ### The functions of `Machine/LogLine.lean` -/

theorem llCheck (h : s.Kept d) : s.Kept d.llCheck := by
  unfold Dev.llCheck
  exact h.upd.ite (h.upd.setF.ite h.upd.setF.post0)

theorem llWindow (h : s.Kept d) {i code} : s.Kept (d.llWindow i code) := by
  unfold Dev.llWindow
  exact h.upd.ite h.upd

theorem llRecord (h : s.Kept d) {i v} : s.Kept (d.llRecord i v) := by
  unfold Dev.llRecord
  extract_lets y
  split
  · exact h.upd.ite h.upd.llPlace

theorem llTake (h : s.Kept d) {i code clip smp} : s.Kept (d.llTake i code clip smp) := by
  unfold Dev.llTake
  exact (h.setF.setF.whenNot fun h1 => h1.llWindow).when fun h2 => h2.llRecord

theorem llEdgeTaken (h : s.Kept d) {i level at_} : s.Kept (d.llEdgeTaken i level at_) := by
  unfold Dev.llEdgeTaken
  extract_lets code wakes y d1 d2
  have hd1 : s.Kept d1 := h.upd
  have hd2 : s.Kept d2 := h.llEdgeAt
  split
  · exact hd1.wake.ite hd1
  · exact hd2.wake.ite hd2
  · exact h.llEdgeAt

/-! ### The functions of `Machine/Mailbox.lean` -/

theorem vendor (h : s.Kept d) {x op n inp f} (hf : ∀ d, s.Kept d → s.Kept (f d).2.2) :
    s.Kept (d.vendor x op n inp f) := by
  unfold Dev.vendor
  refine h.mailbox fun d h => ?_
  split
  · exact hf d h
  · exact h

theorem readArea (h : s.Kept d) {base size inp} : s.Kept (d.readArea base size inp).2.2 := by
  unfold Dev.readArea
  extract_lets off len
  split
  · exact h
  · exact h

/-! ### The functions of `Machine/StreamRows.lean` -/

theorem consumerOp (h : s.Kept d) {p st op arg mask} :
    s.Kept (d.consumerOp p st op arg mask) := by
  unfold Dev.consumerOp
  exact (h.touch.memWrite.ite h).ite (h.takeCsn.strOp.ite h)

theorem placeSpill (h : s.Kept d) {x q im} : s.KeptIf Prod.snd (d.placeSpill x q im) := by
  unfold Dev.placeSpill
  split
  · exact h.placeImg
  · split
    · exact h.placeImg
    · extract_lets b d1 put
      have hd1 : s.Kept d1 := h.modQueue
      refine .ite (.pair hd1) ?_
      · split
        · exact .none
        next e1 hp1 =>
          have h1 : s.Kept e1 := hd1.takeTwin _ hp1
          exact .pair h1

theorem closeStreamGroup (h : s.Kept d) : s.Kept d.closeStreamGroup := by
  unfold Dev.closeStreamGroup
  split
  · exact h.closeGroup
  · exact h

theorem formLoan (h : s.Kept d) : s.KeptIf (fun d => d) d.formLoan := by
  unfold Dev.formLoan
  exact .ite .none (.dev (h.closeStreamGroup.foldl fun _ _ h1 => h1.modSeg.setPool).formGroup.berthCheck)

theorem spillSpace (h : s.Kept d) {st q x} : s.KeptIf Prod.snd (d.spillSpace st q x) := by
  unfold Dev.spillSpace
  extract_lets normal
  have hn : s.Kept (normal d) := h.closeStreamGroup.openGroupOf.ite h
  refine .ite (.pair h) (.ite (.pair hn) (.ite (.pair hn) (.ite .none (.ite (.pair h) ?_))))
  exact h.formLoan.map fun _ h => h

theorem boundAll (h : s.Kept d) {at_} : s.Kept (d.boundAll at_) := by
  unfold Dev.boundAll
  exact h.foldl fun _ _ h1 => h1.modStm.ite h1

theorem windowDigest (h : s.Kept d) {st a n} : s.Kept (d.windowDigest st a n).2 := by
  unfold Dev.windowDigest
  split
  · exact h
  · split
    next hp1 =>
      exact (snd_eq hp1 h.sealedFrames).hashedBytes
    next hp2 =>
      extract_lets k
      exact (snd_eq hp2 h.sealedFrames).upd

theorem recordWindow (h : s.Kept d) {st w x} : s.Kept (d.recordWindow st w x) := by
  unfold Dev.recordWindow
  extract_lets csn n
  split
  next hp1 =>
    exact (snd_eq hp1 h.takeCsn.windowDigest).chainAppend.modStm.upd.post.notify

end Sys2Proof.Machine.Dev.Kept

/-! ## What every step keeps: the commands

For each command, its effect keeps both, from the lemmas of the functions it calls. -/

namespace Sys2Proof.Machine
open Dev.Kept

/-! ### The commands of `Machine/HostMemory.lean` -/

theorem execMemRd_keeps {p tag a ev} : Keeps (execMemRd p tag a ev) :=
  .act fun h => h.request fun _ h1 => h1.memReadReq

theorem execMemRdData_keeps {p tag a ev} : Keeps (execMemRdData p tag a ev) :=
  .act fun h => h.request fun _ h1 => h1.memReadReq

theorem execMemWr_keeps {p tag a data poison bad} : Keeps (execMemWr p tag a data poison bad) :=
  .act fun h => h.request fun _ h1 => h1.memWrite

theorem execMemWrPtl_keeps {p tag a data mask poison bad ev} :
    Keeps (execMemWrPtl p tag a data mask poison bad ev) :=
  .act fun h => h.request fun _ h1 => h1.memWrite

theorem execUnsupportedM2sOpcode_keeps {p tag op a} :
    Keeps (execUnsupportedM2sOpcode p tag op a) :=
  .act fun h => h.request fun _ h1 => h1.send

theorem execGlobalPersistentFlush_keeps {p} : Keeps (execGlobalPersistentFlush p) :=
  .act fun h => h.ite (h.dirtyShutdown.ite h).touch.upd.gpfSettle

/-! ### The commands of `Machine/WritePath.lean` -/

theorem execSectorReady_keeps {l cause} : Keeps (execSectorReady l cause) :=
  .act fun h => h.upd.ite h

theorem execPageRoute_keeps {pg} : Keeps (execPageRoute pg) := .act fun {s _} h => by
  split
  · exact h.placeMissing
  · exact h.routePage

theorem execMergeReadDone_keeps {pg ev} : Keeps (execMergeReadDone pg ev) := .act fun {s _} h => by
  refine h.reading fun _ h1 => ?_
  · split
    · exact h1
    · split
      · exact h1
      · exact h1.mergeDone

theorem execSectorProgramDone_keeps {psa ok} : Keeps (execSectorProgramDone psa ok) := .act fun {s _} h => by
  split
  · exact h
  · exact h.programDue

theorem execPlacementLogClose_keeps {n ok} : Keeps (execPlacementLogClose n ok) :=
  .act fun h => h.closePlog.ite h

theorem execOverlayInstall_keeps {l} : Keeps (execOverlayInstall l) := .act fun {s _} h => by
  split
  · exact h
  · refine h.setFullDefer.ite ?_
    · split
      · exact h.installSec
      · exact h

theorem execPageInstall_keeps {pg} : Keeps (execPageInstall pg) := .act fun {s _} h => by
  split
  · exact h
  · split
    · exact h
    · exact h.installSealed.ite ((h.foldl fun _ _ h1 => h1.setFullDefer).ite (h.ite h.installPage))

theorem execLineLogClose_keeps {x cause} : Keeps (execLineLogClose x cause) :=
  .act fun h => h.closeLlog.ite h

theorem execLineLogCommit_keeps {hm okA okB} : Keeps (execLineLogCommit hm okA okB) :=
  .act fun {s _} h => by
    split
    · exact h
    · split
      next d1 hp1 =>
        have h1 : s.Kept d1 := snd_eq hp1 <| by
          split
          · exact h
          · exact h.programLlog
        extract_lets j d2
        have hd2 : s.Kept d2 := h1.upd
        split
        · exact hd2
        next hp2 =>
          have h3 := of_some hp2 (Dev.KeptIf.bind fun _ => Dev.KeptIf.bind fun _ => hd2.programPartial)
          exact ite (Dev.Kept.commitLlog h3) h3

theorem execWatermark_keeps {x} : Keeps (execWatermark x) := .act fun h => h.ite h.record.modHm

/-! ### The commands of `Machine/Rows.lean` -/

theorem execRowComplete_keeps {g r fails} : Keeps (execRowComplete g r fails) := .act fun {s _} h => by
  split
  · exact h
  · exact h.programParity.freeSweep.ite h

theorem execRowTimeout_keeps {g r fails} : Keeps (execRowTimeout g r fails) := .act fun {s _} h => by
  split
  · exact h
  · exact h.closeRow.freeSweep.ite h

theorem execGroupOpen_keeps {kind} : Keeps (execGroupOpen kind) := .act fun h => h.openGroupOf

theorem execSettleEnd_keeps {g} : Keeps (execSettleEnd g) := .act fun {s _} h => by
  split
  · exact h
  · exact h.settleGroup.ite h

theorem execMapFlush_keeps {x mp} : Keeps (execMapFlush x mp) := .act fun h => h.ite h.flushMap

theorem execVerifyReadDone_keeps {psa ev} : Keeps (execVerifyReadDone psa ev) :=
  .act fun h => h.reading fun _ h1 => h1.verifyRead.ite h1

theorem execParityRelease_keeps {g} : Keeps (execParityRelease g) := .act fun {s _} h => by
  split
  · exact h
  · exact h.releaseParity.ite h

theorem execFoldQueue_keeps {pg cause} : Keeps (execFoldQueue pg cause) :=
  .act fun h => h.queueTask.ite h

theorem execPlacementQueueRefill_keeps {n kind} : Keeps (execPlacementQueueRefill n kind) := .act
    fun {s _} h => by
  split
  · exact h.modQueue.ite h
  · exact h

/-! ### The commands of `Machine/Drift.lean` -/

theorem execLodestoneSample_keeps {n g els} : Keeps (execLodestoneSample n g els) := .act fun {s _} h => by
  extract_lets key p
  split
  · exact h
  · exact h.ite h.sampleLodestone

theorem execMarginSweep_keeps : Keeps execMarginSweep :=
  .act fun h => (h.foldl fun _ _ h1 => h1.sweepSeg).foldl fun _ _ h2 => h2.setF

theorem execRefreshQueue_keeps {sg} : Keeps (execRefreshQueue sg) :=
  .act fun h => h.setState.queueTask.ite h

theorem execSegmentAgeClose_keeps {sg} : Keeps (execSegmentAgeClose sg) :=
  .act fun h => h.groupClose.ite h

theorem execGroupClose_keeps {g cause} : Keeps (execGroupClose g cause) := .act fun {s _} h => by
  split
  · exact h
  · exact h.groupClose

/-! ### The commands of `Machine/Wear.lean` -/

theorem execStuckCell_keeps {n c} : Keeps (execStuckCell n c) := .act fun h => h.ite h.post.failCell

theorem execClearSchedule_keeps {n} : Keeps (execClearSchedule n) := .act fun {s _} h => by
  refine h.ite ?_
  · split
    · exact h.startClear.queueTask
    · exact h

theorem execSegmentClearDone_keeps {sg retired} : Keeps (execSegmentClearDone sg retired) :=
  .act fun h => h.ite h.clearDone

theorem execCollectionStart_keeps {n} : Keeps (execCollectionStart n) := .act fun {s _} h => by
  refine ite ?_ h
  · split
    · exact h.collect
    · exact h

theorem execStaticLevelling_keeps {n} : Keeps (execStaticLevelling n) := .act fun {s _} h => by
  extract_lets busy
  refine h.ite ?_
  · split
    · exact h.collect.cnt.modPt
    · exact h

theorem execPoolWearExchange_keeps {n} : Keeps (execPoolWearExchange n) := .act fun {s _} h => by
  extract_lets m a recent whole
  refine h.ite ?_
  · split
    · exact h.setPool.setPool.modPt
    · exact h

theorem execMetadataPoolTopup_keeps {n} : Keeps (execMetadataPoolTopup n) := .act fun {s _} h => by
  refine h.ite (h.foldl fun _ _ h1 => ?_)
  · split
    · exact h1.setPool
    · exact h1

theorem execSpareRecompute_keeps : Keeps execSpareRecompute := .act fun h => h.recomputeSpare.ite h

theorem execBerthLow_keeps : Keeps execBerthLow := .act fun h => h.berthCheck

/-! ### The commands of `Machine/Link.lean` -/

theorem execBurstCrcFail_keeps {n read_ resend} : Keeps (execBurstCrcFail n read_ resend) :=
  .act fun h => h.ite (h.resendFirst.ite (h.cnt.needRetrain.whenNot fun h1 => h1.moveOff))

theorem execAckTimeout_keeps {n resend} : Keeps (execAckTimeout n resend) :=
  .act fun h => h.ite (h.cnt.resendFirst.ite h.cnt.cnt.needRetrain)

theorem execQuickRetrain_keeps {n cause} : Keeps (execQuickRetrain n cause) :=
  .act fun h => h.startRetrain.ite h

theorem execQuickRetrainDone_keeps {n ok} : Keeps (execQuickRetrainDone n ok) :=
  .act fun h => h.ite (h.setF.releaseFront.ite h.declareDead.releaseFront)

theorem execFullTrainingDone_keeps {n ok} : Keeps (execFullTrainingDone n ok) :=
  .act fun h => h.ite (h.setF.modPt.ite (h.modPt.ite h.declareDead))

theorem execDieFatalStatus_keeps {n} : Keeps (execDieFatalStatus n) :=
  .act fun h => h.ite h.declareDead

theorem execPointDeath_keeps {n cause} : Keeps (execPointDeath n cause) :=
  .act fun h => h.ite h.pointDies

theorem execRehomingComplete_keeps {n selfTestOk} : Keeps (execRehomingComplete n selfTestOk) :=
  .act fun h => h.ite h.rehomed

theorem execDeadDieRecovery_keeps {n pg ev} : Keeps (execDeadDieRecovery n pg ev) :=
  .act fun h => h.ite (h.reading fun _ h1 => h1.recoverPage)

theorem execCrossbarSelfCheck_keeps {q ok} : Keeps (execCrossbarSelfCheck q ok) :=
  .act fun h => h.modQuad.ite h.modQuad.crossbarFail

/-! ### The commands of `Machine/Checkpoint.lean` -/

theorem execCheckpointStart_keeps {cause} : Keeps (execCheckpointStart cause) :=
  .act fun h => h.cut.ite h

theorem execCheckpointComplete_keeps : Keeps execCheckpointComplete := .act fun {s _} h => by
  split
  · exact h
  · exact h.ite (h.cnt.post0.ite h.ckptDone)

/-! ### The commands of `Machine/Recovery.lean` -/

theorem execRecovery_keeps {ev} : Keeps (execRecovery ev) := .act fun h => h.ite h.recoverNow

/-! ### The commands of `Machine/Orders.lean` -/

theorem execSqTailWrite_keeps {by_ r v} : Keeps (execSqTailWrite by_ r v) :=
  .act fun h => h.letWrite fun _ h1 => h1.sqTail

theorem execCqHeadWrite_keeps {by_ r v} : Keeps (execCqHeadWrite by_ r v) :=
  .act fun h => h.letWrite fun _ h1 => h1.cqHead

theorem execOrderDispatch_keeps {r} : Keeps (execOrderDispatch r) := .act fun h => h.dispatch

theorem execOrderCompletion_keeps {id} : Keeps (execOrderCompletion id) :=
  .act fun h => h.completeOrder

theorem execRunOrder_keeps {x inp} : Keeps (execRunOrder x inp) := .act fun {s _} h => by
  refine h.ite ?_
  · split
    · exact h.reply
    · refine h.reply.ite (h.reply.ite ?_)
      · split
        next hp1 =>
          exact (snd_eq hp1 h.touch.newOrder).modHead.reply.letIn

theorem execGetOrderResult_keeps {x inp} : Keeps (execGetOrderResult x inp) := .act fun {s _} h => by
  refine h.mailbox fun _ h1 => ?_
  · split
    · exact h1
    · exact h1

theorem execCheckpoint_keeps {o} : Keeps (execCheckpoint o) :=
  .act fun h => h.asOrder fun _ _ h1 => h1.startCkpt

theorem execTrigger_keeps {o} : Keeps (execTrigger o) := .act fun {s _} h => by
  refine h.asOrder fun _ _ h1 => ?_
  · extract_lets k
    refine h1.endOrder.ite (h1.endOrder.ite ?_)
    · split
      next hp1 =>
        exact (snd_eq hp1 h1.trigger).endOrder

theorem execStreamReset_keeps {o} : Keeps (execStreamReset o) :=
  .act fun h => h.asOrder fun _ _ h1 => h1.endOrder.ite h1.queueReset.endOrder

theorem execFix_keeps {o} : Keeps (execFix o) :=
  .act fun h => h.asOrder fun _ _ h1 => h1.fix.endOrder

/-! ### The commands of `Machine/Seal.lean` -/

theorem execDiscard_keeps {o} : Keeps (execDiscard o) :=
  .act fun h => h.asOrder fun _ _ h1 => h1.discardOrder

theorem execSecureDiscard_keeps {o step} : Keeps (execSecureDiscard o step) := .act fun {s _} h => by
  split
  · exact h.asOrder fun _ _ h1 => h1.sdiscOrder
  · exact (h.asOrder fun _ _ h2 => h2.sdiscOrder).ite h.sdiscNext

theorem execSecureDiscardResume_keeps : Keeps execSecureDiscardResume := .act fun {s _} h => by
  split
  · exact h.modSdisc.setF.setF.ite h
  · exact h

theorem execSealRange_keeps {o ev} : Keeps (execSealRange o ev) :=
  .act fun h => h.reading fun _ h1 => h1.asOrder fun _ _ h2 => h2.sealRange

theorem execUnseal_keeps {o} : Keeps (execUnseal o) :=
  .act fun h => h.asOrder fun _ _ h1 => h1.unsealOrder

theorem execSealVerify_keeps {o ev} : Keeps (execSealVerify o ev) := .act fun {s _} h => by
  refine h.reading fun _ h1 => h1.asOrder fun _ _ h2 => ?_
  · split
    · exact h2.endOrder
    · split
      next hp1 =>
        split
        · exact (snd_eq hp1 h2.sealBytes).endOrder
        · exact (snd_eq hp1 h2.sealBytes).hashedBytes.endOrder

theorem execSealExport_keeps {o ev} : Keeps (execSealExport o ev) := .act fun {s _} h => by
  refine h.reading fun _ h1 => h1.asOrder fun _ _ h2 => ?_
  · extract_lets dst
    split
    · exact h2.endOrder
    · refine h2.endOrder.ite ?_
      · split
        · exact h2.endOrder.ite h2
        · split
          next hp1 =>
            split
            · exact (snd_eq hp1 h2.sealBytes).endOrder
            · exact ((snd_eq hp1 h2.sealBytes).foldl fun _ _ h3 => h3.orderWrite).endOrder

theorem execRekey_keeps {o step rngOk} : Keeps (execRekey o step rngOk) := .act fun {s _} h => by
  extract_lets start
  split
  · exact h.asOrder fun _ _ h1 => h1.rekeyStart
  · refine (h.asOrder fun _ _ h2 => h2.rekeyStart).ite ?_
    · split
      · exact h.rekeyStep.ite h
      · exact h

theorem execRekeyResume_keeps : Keeps execRekeyResume := .act fun {s _} h => by
  split
  · exact h.upd.setF.setF.setF.ite h
  · exact h

theorem execKeySweep_keeps {bad} : Keeps (execKeySweep bad) :=
  .act fun h => h.ite (h.draw.upd.keyRegs.keyFail.ite (h.ite h.keyFail))

theorem execScrubPass_keeps {ce ues} : Keeps (execScrubPass ce ues) :=
  .act fun h => (h.cnt.foldl fun _ _ h1 => h1.tableUe).ite h

theorem execSanitize_keeps {x step rngOk fails} : Keeps (execSanitize x step rngOk fails) :=
  .act fun h => h.sanitizeStep

theorem execSecureErase_keeps {x step rngOk fails} :
    Keeps (execSecureErase x step rngOk fails) :=
  .act fun h => h.sanitizeStep

theorem execSanitizeRestart_keeps : Keeps execSanitizeRestart := .act fun {s _} h => by
  split
  · exact h.upd.ite h
  · exact h

/-! ### The commands of `Machine/Ports.lean` -/

theorem execPerst_keeps {p cause} : Keeps (execPerst p cause) :=
  .act fun h => (h.ite h.touch.portReset).ite (h.ite h.touch.portReset)

theorem execLinkTraining_keeps {p rate width flit256 ref} :
    Keeps (execLinkTraining p rate width flit256 ref) := .act fun {s _} h => by
  extract_lets d1 up d2 d3 d4 d5
  have hd1 : s.Kept d1 := h.takeRef
  have hd2 : s.Kept d2 := hd1.cnt.ite hd1
  have hd3 : s.Kept d3 := hd2.setF.setF.setF.setF
  have hd4 : s.Kept d4 := hd3.setF.ite hd3
  have hd5 : s.Kept d5 := hd4.post0.ite hd4
  exact hd1.ite ((hd1.ite hd1.touch.portReset).ite hd5.touch.linkReady)

theorem execL1Entry_keeps {p} : Keeps (execL1Entry p) := .act fun h => h.upd.setF.ite h

theorem execL1Exit_keeps {p} : Keeps (execL1Exit p) :=
  .act fun h => h.dozeExit.upd.wdogRun.setF.modHead.linkReady.ite h

theorem execD3hotEntry_keeps {p} : Keeps (execD3hotEntry p) :=
  .act fun h => h.upd.modHead.setF.ite h

theorem execDecoderCommit_keeps {p idx base size dpa ways gran} :
    Keeps (execDecoderCommit p idx base size dpa ways gran) :=
  .act fun h => h.ite (h.send.ite h.modHead)

theorem execMsixUnmask_keeps {p v} : Keeps (execMsixUnmask p v) :=
  .act fun h => h.modHead.sendVec.ite h.modHead

/-! ### The commands of `Machine/ChartSlots.lean` -/

theorem execGetChartSlots_keeps {x inp} : Keeps (execGetChartSlots x inp) := .act fun {s _} h => by
  refine h.mailbox fun _ h1 => ?_
  · split
    · exact h1
    · exact h1

theorem execWriteChartChunk_keeps {x inp} : Keeps (execWriteChartChunk x inp) := .act fun {s _} h => by
  extract_lets n sl off
  refine h.mailbox fun _ h1 => ?_
  · split
    · exact h1
    · split
      · exact h1
      · split
        next hp1 =>
          extract_lets y
          split
          · exact (snd_eq hp1 h1.lbkWrite).upd
          · exact (snd_eq hp1 h1.lbkWrite)

theorem execChartCheck_keeps {o} : Keeps (execChartCheck o) :=
  .act fun h => h.asOrder fun _ _ h1 => h1.endOrder.ite (h1.endOrder.when fun h2 => h2.endBecalmed)

/-! ### The commands of `Machine/Modes.lean` -/

theorem execAutomaticModeChange_keeps : Keeps execAutomaticModeChange :=
  .act fun h => h.autoPoint.ite h

theorem execModeChange_keeps {o} : Keeps (execModeChange o) :=
  .act fun h => h.asOrder fun _ _ h1 => h1.modeChange

/-! ### The commands of `Machine/Power.lean` -/

theorem execBrownout_keeps : Keeps execBrownout := .act fun h => h.detect.ite h

theorem execBrownoutWatch_keeps {vin} : Keeps (execBrownoutWatch vin) :=
  .act fun h => (h.upd.settleVsys.when fun h1 => h1.setF).when fun h2 => h2.upd

theorem execFlushEnd_keeps {cut pos} : Keeps (execFlushEnd cut pos) :=
  .act fun h => h.ite h.endFlush

theorem execCommitEnd_keeps : Keeps execCommitEnd := .act fun {s _} h => by
  extract_lets d1 d2 origin d3 d4
  have hd1 : s.Kept d1 := h.deckDirect.ite h
  have hd2 : s.Kept d2 := hd1.commitRecs
  have hd3 : s.Kept d3 := hd2.dirtyShutdown.ite hd2
  have hd4 : s.Kept d4 := hd3.latchOn.ite hd3
  exact h.ite (hd2.resumeActive.ite hd4.beginDown)

theorem execSupplyReturn_keeps : Keeps execSupplyReturn := .act fun {s _} h => by
  extract_lets y
  refine h.ite ?_
  · split
    · exact h.ite h.upd.cnt
    · exact h.ite h.upd.cnt
    · exact h.cnt.latchOn.ite h
    · exact h.onRequest.ite h
    · exact h.upd.cnt.ite h

theorem execVinOvervoltage_keeps : Keeps execVinOvervoltage := .act fun h => h.setF.post0.ite h

theorem execRailStep_keeps {k} : Keeps (execRailStep k) := .act fun h => h.railEnable.ite h

theorem execRailStepDone_keeps {k vs} : Keeps (execRailStepDone k vs) := .act fun {s _} h => by
  extract_lets d1 y d2
  have hd1 : s.Kept d1 := h.setF.setF
  have hd2 : s.Kept d2 := hd1.upd
  exact h.ite (hd1.stepFail.ite (hd2.beginDown.ite (hd2.railsUp.ite hd2)))

theorem execRailStepFail_keeps {k cause} : Keeps (execRailStepFail k cause) :=
  .act fun h => h.ite h.stepFail

theorem execRailFault_keeps {k cause vs} : Keeps (execRailFault k cause vs) :=
  .act fun h => h.ite h.railFaulted

theorem execRailDischarged_keeps {k timeout} : Keeps (execRailDischarged k timeout) := .act fun {s _} h => by
  extract_lets d1 d2
  have hd1 : s.Kept d1 := h.setF
  have hd2 : s.Kept d2 := by
    unfold d2
    refine h.ite ?_
    · split
      next hp1 =>
        exact ((snd_eq hp1 hd1.draw).railRec.ite (snd_eq hp1 hd1.draw).railCount).post0
  exact h.ite (hd2.ite hd2.railDisable)

theorem execRailsDownComplete_keeps : Keeps execRailsDownComplete :=
  .act fun h => h.ite h.reachDormant

theorem execMinimumOffTimeEnd_keeps : Keeps execMinimumOffTimeEnd :=
  .act fun h => h.startOption.ite h

theorem execOrderlyShutdown_keeps {step} : Keeps (execOrderlyShutdown step) :=
  .act fun h => h.orderlyStep.ite h

theorem execBankTestDue_keeps {cause} : Keeps (execBankTestDue cause) :=
  .act fun h => h.ite (h.upd.upd.settleVsys.ite h.upd)

theorem execBankTest_keeps {v1 t} : Keeps (execBankTest v1 t) := .act fun h => h.ite h.bankTested

theorem execBankVoltageLow_keeps : Keeps execBankVoltageLow := .act fun h => h.bankLow.ite h

/-! ### The commands of `Machine/Start.lean` -/

theorem execWatchStop_keeps : Keeps execWatchStop := .act fun h => h.powerOff.upd.ite h

theorem Dev.Kept.watchOn {s d : Dev} (h : s.Kept d) {time phase chart pwr wch} :
    s.Kept { d with time := time, phase := phase, regs := [], chart := chart, pwr := pwr, wch := wch } :=
  (h.withRegs (regs := []) fun _ => rfl).upd

theorem execWatchPowerOn_keeps : Keeps execWatchPowerOn :=
  .act fun h => ite h.powerOff.watchOn.voltReg h

theorem execCrystalSwitch_keeps : Keeps execCrystalSwitch := .act fun h => h.ite h.setF

theorem execCrystalFail_keeps {cause} : Keeps (execCrystalFail cause) :=
  .act fun h => h.ite h.crystalFails

theorem execResetN_keeps : Keeps execResetN :=
  .act fun h => h.ite (h.upd.ite h.upd.upd.wakePend.resetAccept)

theorem execResetNRelease_keeps : Keeps execResetNRelease := .act fun h => h.upd

theorem execChipWatchdog_keeps : Keeps execChipWatchdog := .act fun h => h.resetAccept.ite h

theorem execDeviceReset_keeps {code} : Keeps (execDeviceReset code) :=
  .act fun h => h.deviceReset.ite h

theorem execResetFlushEnd_keeps {cut pos} : Keeps (execResetFlushEnd cut pos) :=
  .act fun h => h.ite h.endResetFlush

theorem execHeartbeatTimeout_keeps : Keeps execHeartbeatTimeout := .act fun {s _} h => by
  split
  · exact h.escalate
  · exact h.escalate
  · exact h.escalate
  · exact h.escalate
  · exact h.escalate
  · exact h.escalate
  · exact h.escalate
  · exact h.escalate
  · exact h.escalate
  · exact h

theorem execWakeEdge_keeps {i since} : Keeps (execWakeEdge i since) := .act fun h => h.ite h.wake

theorem execWakeLevel_keeps {i since} : Keeps (execWakeLevel i since) := .act fun h => h.wake.ite h

theorem execWakeReleaseOff_keeps {i since} : Keeps (execWakeReleaseOff i since) := .act fun {s _} h => by
  refine ite ?_ h
  · split
    · exact h.offRequest
    · exact h.offRequest
    · exact h.offRequest
    · exact h

theorem execWchAlarm_keeps : Keeps execWchAlarm := .act fun h => h.orF.wake.ite h

theorem execDozeEntry_keeps : Keeps execDozeEntry := .act fun h => h.wdogPause.upd.ite h

theorem execDozeReached_keeps : Keeps execDozeReached := .act fun h => h.ite h.upd.pllLocks.setF

theorem execPadHoldLatch_keeps : Keeps execPadHoldLatch := .act fun h => h.upd.setF.ite h

theorem execMaintenanceWake_keeps : Keeps execMaintenanceWake := .act fun h => h.dozeExit.ite h

theorem execDozeWake_keeps {src} : Keeps (execDozeWake src) := .act fun h => h.wake.ite h

theorem execQuietClockGate_keeps : Keeps execQuietClockGate := .act fun h => h.upd.ite h

theorem execOptionLoad_keeps {straps} : Keeps (execOptionLoad straps) :=
  .act fun h => h.ite h.optionLoad

theorem execReferenceCheck_keeps {usable present} : Keeps (execReferenceCheck usable present) := .act
    fun {s _} h => by
  extract_lets ok d1 ref
  have hd1 : s.Kept d1 := h.setF.measureRefs
  exact h.ite (hd1.upd.setF.ite (hd1.setF.upd.setF.post0.ite hd1.setF))

theorem execPllLock_keeps : Keeps execPllLock := .act fun h => h.ite h.upd.pllLocks

theorem execBuiltInSelfTest_keeps {fails} : Keeps (execBuiltInSelfTest fails) :=
  .act fun h => h.ite ((h.setF.ite h.latentFails).becalm.ite (h.setF.ite h.latentFails).upd)

theorem execMediaInitialisation_keeps : Keeps execMediaInitialisation :=
  .act fun h => h.ite ((h.foldl fun _ _ h1 => h1.setF.ite h1).ite (h.ite h.upd))

theorem execActiveReached_keeps {p} : Keeps (execActiveReached p) := .act fun h => h.goActive.ite h

theorem execNoLinkTimeout_keeps : Keeps execNoLinkTimeout := .act fun h => h.goActive.ite h

/-! ### The commands of `Machine/Seq.lean` -/

theorem execStep_keeps {k} : Keeps (execStep k) :=
  .act fun h => h.seqFrame fun _ h1 => h1.upd.wakePend.onRequest.ite h1.upd

theorem execDown_keeps : Keeps execDown := .act fun h => h.seqFrame fun _ h1 => h1.offRequest

theorem execFlush_keeps : Keeps execFlush := .act fun h => h.seqFrame fun _ h1 => h1.detect

theorem execSeqFix_keeps {arg} : Keeps (execSeqFix arg) :=
  .act fun h => h.seqFrame fun _ h1 => h1.setF.fix

theorem execStatus_keeps : Keeps execStatus := .act fun h => h.seqFrame fun _ h1 => h1.send

theorem execChart_keeps {blk data crc} : Keeps (execChart blk data crc) := .act fun {s _} h => by
  extract_lets await d1 y y1 sl
  have hd1 : s.Kept d1 := h.seqAck
  refine h.ite (ite ?_ (h.upd.cnt.ite ?_))
  · split
    · exact hd1.upd.setF.endBecalmed
    · exact hd1.upd
  · split
    next hp1 =>
      exact (snd_eq hp1 h.lbkWrite).when fun h1 => h1.upd.seqAck

theorem execLineFlush_keeps : Keeps execLineFlush := .act fun h => h.ite h.setF.detect

theorem execSeqOrphan_keeps : Keeps execSeqOrphan := .act fun h => h.upd.setF.post0.ite h

theorem execSeqNoack_keeps {addr cmd} : Keeps (execSeqNoack addr cmd) :=
  .act fun h => h.ite (h.seqFail.ite h.upd.cnt)

theorem execSeqDiscovery_keeps {resp} : Keeps (execSeqDiscovery resp) :=
  .act fun h => h.ite h.discover

theorem execSeqGroupPoll_keeps {resp} : Keeps (execSeqGroupPoll resp) :=
  .act fun h => h.ite h.pollGroup

theorem execSeqCmdFix_keeps {by_ addr arg} : Keeps (execSeqCmdFix by_ addr arg) :=
  .act fun h => h.seqSend.ite h

theorem execSeqCmdStatus_keeps {by_ addr resp} : Keeps (execSeqCmdStatus by_ addr resp) := .act fun {s
    _} h => by
  extract_lets d1
  have hd1 : s.Kept d1 := h.seqSend
  refine (hd1.ite ?_).ite h
  · split
    · exact hd1.seqResp.seqChart
    · exact hd1.seqFail

/-! ### The commands of `Machine/HelmSpace.lean` -/

theorem execHelmSpaceWrite_keeps {by_ off width v} :
    Keeps (execHelmSpaceWrite by_ off width v) :=
  .act fun h => h.helmIn

theorem execHalfReadLatch_keeps {by_ off} : Keeps (execHalfReadLatch by_ off) :=
  .act fun h => h.readIn

theorem execPntArbWrite_keeps {by_ n half v} : Keeps (execPntArbWrite by_ n half v) :=
  .act fun h => h.halfIn

theorem execPntRetireWrite_keeps {by_ half v} : Keeps (execPntRetireWrite by_ half v) :=
  .act fun h => h.halfIn

theorem execWlvPlaceWrite_keeps {by_ x half v} : Keeps (execWlvPlaceWrite by_ x half v) :=
  .act fun h => h.halfIn

theorem execStrCtlWrite_keeps {by_ st half v} : Keeps (execStrCtlWrite by_ st half v) :=
  .act fun h => h.halfIn

theorem execStrActTrigger_keeps {by_ st} : Keeps (execStrActTrigger by_ st) :=
  .act fun h => h.helmIn

theorem execStrActQueueReset_keeps {by_ st} : Keeps (execStrActQueueReset by_ st) :=
  .act fun h => h.helmIn

theorem execStrNoteRead_keeps {by_ p} : Keeps (execStrNoteRead by_ p) := .act fun h => h.readIn

theorem execPwrCtlOff_keeps {by_} : Keeps (execPwrCtlOff by_) := .act fun h => h.helmIn

theorem execPwrCtlBanktest_keeps {by_} : Keeps (execPwrCtlBanktest by_) := .act fun h => h.helmIn

theorem execPwrThrWrite_keeps {by_ v} : Keeps (execPwrThrWrite by_ v) := .act fun h => h.helmIn

theorem execFixCtlTrigger_keeps {by_ v} : Keeps (execFixCtlTrigger by_ v) := .act fun h => h.helmIn

theorem execRstCtlDevice_keeps {by_ key} : Keeps (execRstCtlDevice by_ key) :=
  .act fun h => h.helmIn

theorem execRstWdogKick_keeps {by_ v} : Keeps (execRstWdogKick by_ v) := .act fun h => h.helmIn

theorem execPadholdRelease_keeps {by_ v} : Keeps (execPadholdRelease by_ v) :=
  .act fun h => h.helmIn

theorem execTalSelWrite_keeps {by_ j v} : Keeps (execTalSelWrite by_ j v) := .act fun h => h.helmIn

theorem execTalCfgWrite_keeps {by_ v} : Keeps (execTalCfgWrite by_ v) := .act fun h => h.helmIn

theorem execSafInjWrite_keeps {by_ v} : Keeps (execSafInjWrite by_ v) := .act fun h => h.helmIn

theorem execLlnChWrite_keeps {by_ i half v} : Keeps (execLlnChWrite by_ i half v) :=
  .act fun h => h.halfIn

/-! ### The commands of `Machine/ChartApply.lean` -/

theorem execChartApply_keeps : Keeps execChartApply := .act fun {s _} h => by
  refine h.ite ?_
  · split
    · exact h.applyChart
    · exact h

/-! ### The commands of `Machine/EngineMem.lean` -/

theorem execLd8_keeps {x x1 a imm ev} : Keeps (execLd8 x x1 a imm ev) := .act fun h => h.loadOp

theorem execLd16_keeps {x x1 a imm ev} : Keeps (execLd16 x x1 a imm ev) := .act fun h => h.loadOp

theorem execLd32_keeps {x x1 a imm ev} : Keeps (execLd32 x x1 a imm ev) := .act fun h => h.loadOp

theorem execLd64_keeps {x x1 a imm ev} : Keeps (execLd64 x x1 a imm ev) := .act fun h => h.loadOp

theorem execLd8u_keeps {x x1 a imm ev} : Keeps (execLd8u x x1 a imm ev) := .act fun h => h.loadOp

theorem execLd16u_keeps {x x1 a imm ev} : Keeps (execLd16u x x1 a imm ev) := .act fun h => h.loadOp

theorem execLd32u_keeps {x x1 a imm ev} : Keeps (execLd32u x x1 a imm ev) := .act fun h => h.loadOp

theorem execSt8_keeps {x b a imm} : Keeps (execSt8 x b a imm) := .act fun h => h.storeOp

theorem execSt16_keeps {x b a imm} : Keeps (execSt16 x b a imm) := .act fun h => h.storeOp

theorem execSt32_keeps {x b a imm} : Keeps (execSt32 x b a imm) := .act fun h => h.storeOp

theorem execSt64_keeps {x b a imm} : Keeps (execSt64 x b a imm) := .act fun h => h.storeOp

theorem execLdRsv_keeps {x x1 a imm ev} : Keeps (execLdRsv x x1 a imm ev) :=
  .act fun h => h.engStep (.ite (raised h) (h.engLoad fun _ _ h1 => done h1.modEng.setGr))

theorem execStCnd_keeps {x rd a b} : Keeps (execStCnd x rd a b) := .act fun {s _} h => by
  refine h.engStep ?_
  extract_lets addr r
  refine .ite (raised h) (.ite (raised h) ?_)
  clear_value r
  split
  · exact h.condDev
  · refine .ite ?_ (done h.modEng.setGr)
    split
    next hp => exact done (of_done hp h.engStore).modEng.setGr
    · exact h.engStore

theorem execBarCore_keeps {x rs} : Keeps (execBarCore x rs) := .act fun h => h.engStep h.barLocal

theorem execBarQuad_keeps {x rs} : Keeps (execBarQuad x rs) := .act fun h => h.engStep h.barLocal

theorem execBarChip_keeps {x rs} : Keeps (execBarChip x rs) := .act fun h => h.engStep h.barChip

theorem execBarrierDrainTimeout_keeps {x} : Keeps (execBarrierDrainTimeout x) :=
  .act fun h => h.ite ((h.foldl fun _ _ h1 => h1.discardStore).modEng.when fun h2 => h2.modEng).lockCopy

theorem execWriteMergeDrain_keeps {x line} : Keeps (execWriteMergeDrain x line) := .act fun {s _} h => by
  split
  · exact h.leave.ite h
  · exact h

theorem execForwardingBufferDrain_keeps {q} : Keeps (execForwardingBufferDrain q) :=
  .act fun h => h.drainOne.ite h

/-! ### The commands of `Machine/EngineMedia.lean` -/

theorem execMread_keeps {x x1 a b c fn ev} : Keeps (execMread x x1 a b c fn ev) :=
  .act fun h => h.engStep (h.bufCheck (h.issueAt fun _ _ => h.mreadOp))

theorem execMverify_keeps {x x1 a rs ev} : Keeps (execMverify x x1 a rs ev) :=
  .act fun h => h.engStep (h.issueAt fun _ _ => h.mverifyOp)

theorem execMwrite_keeps {x x1 a b fn rs ok} : Keeps (execMwrite x x1 a b fn rs ok) :=
  .act fun h => h.engStep (.ite trivial (h.bufCheck (h.issueAt fun _ _ => h.mwriteOp)))

theorem execMclear_keeps {x x1 a b rs retired} : Keeps (execMclear x x1 a b rs retired) :=
  .act fun h => h.engStep (.ite trivial (h.issueAt fun _ _ => h.mclearOp))

theorem execMfoldPage_keeps {x x1 a rs ev} : Keeps (execMfoldPage x x1 a rs ev) :=
  .act fun h => h.mfold

theorem execMfoldSector_keeps {x x1 a rs ev} : Keeps (execMfoldSector x x1 a rs ev) :=
  .act fun h => h.mfold

theorem execMfoldSealed_keeps {x x1 a rs ev} : Keeps (execMfoldSealed x x1 a rs ev) :=
  .act fun h => h.mfold

theorem execMref_keeps {x x1 a fn rs} : Keeps (execMref x x1 a fn rs) :=
  .act fun h => h.engStep (h.issueAt fun _ _ => h)

theorem execMsense_keeps {x x1 a b rs els} : Keeps (execMsense x x1 a b rs els) :=
  .act fun h => h.engStep (h.issueAt fun _ _ => h.linkSend.grant)

theorem execMediaTicketComplete_keeps {x t} : Keeps (execMediaTicketComplete x t) := .act fun {s _} h => by
  split
  · exact h.ticketStep.lockCopy.ite h
  · exact h

theorem execWait_keeps {x x1 a b timeout} : Keeps (execWait x x1 a b timeout) := .act fun {s _} h => by
  extract_lets out
  refine h.engStep ?_
  · extract_lets n late
    split
    · exact .ite (done h.setGr) (.ite (done h.setGr) trivial)
    · split
      · exact done h.modEng.setGr
      · exact .ite (done h.setGr) trivial

/-! ### The commands of `Machine/EngineQueue.lean` -/

theorem execQmark_keeps {x x1 a b rs} : Keeps (execQmark x x1 a b rs) :=
  .act fun h => h.engStep h.qPlain

theorem execQrewind_keeps {x x1 a b rs} : Keeps (execQrewind x x1 a b rs) :=
  .act fun h => h.engStep h.qPlain

theorem execQrelease_keeps {x x1 a b rs} : Keeps (execQrelease x x1 a b rs) :=
  .act fun h => h.engStep h.qPlain

theorem execQdrop_keeps {x x1 a b rs} : Keeps (execQdrop x x1 a b rs) :=
  .act fun h => h.engStep h.qPlain

theorem execQcredit_keeps {x x1 a fn rs} : Keeps (execQcredit x x1 a fn rs) := .act fun {s _} h => by
  refine h.engStep ?_
  · extract_lets st p
    refine .ite trivial ?_
    · split
      · exact done h.setGr
      · exact done h.setGr

theorem execQpeek_keeps {x x1 a b c fn ev} : Keeps (execQpeek x x1 a b c fn ev) :=
  .act fun h => h.engStep (h.qCopy fun _ _ h1 => done h1.setGr)

theorem execQtake_keeps {x x1 a b c fn ev} : Keeps (execQtake x x1 a b c fn ev) :=
  .act fun h => h.engStep (h.qCopy fun _ _ h1 => done h1.qOp.setGr)

/-! ### The commands of `Machine/EngineSys.lean` -/

theorem execTrap_keeps {x code rs} : Keeps (execTrap x code rs) := .act fun h => h.trap

theorem execExit_keeps {x} : Keeps (execExit x) := .act fun h => h.trap

theorem execEvent_keeps {x} : Keeps (execEvent x) := .act fun h => h.trap

theorem execYield_keeps {x} : Keeps (execYield x) := .act fun h => h.trap

theorem execEret_keeps {x rs} : Keeps (execEret x rs) := .act fun h => h.engStep (stay h.eret)

theorem execGetsys_keeps {x x1 n rs ev} : Keeps (execGetsys x x1 n rs ev) :=
  .act fun h => h.getsysOp

theorem execPutsys_keeps {x a n rs} : Keeps (execPutsys x a n rs) := .act fun h => h.putsysOp

theorem execTaskTake_keeps {x x1 ev} : Keeps (execTaskTake x x1 ev) := .act fun h => h.getsysOp

theorem execWdogKick_keeps {x a} : Keeps (execWdogKick x a) := .act fun h => h.putsysOp

theorem execSleep_keeps {x x1 a rs} : Keeps (execSleep x x1 a rs) :=
  .act fun h => h.engStep (.ite (stay h.takeExc) (.ite (done h.consume)
      (.ite (done h.setGr) (stay h.modEng))))

theorem execSleepEnd_keeps {x} : Keeps (execSleepEnd x) :=
  .act fun h => h.ite h.modEng.consume.lockCopy

theorem execFixInstruction_keeps {x x1 rs} : Keeps (execFixInstruction x x1 rs) :=
  .act fun h => h.engStep (done h.fix.setGr)

theorem execBudget_keeps {x} : Keeps (execBudget x) := .act fun h => h.takeExc.lockCopy.ite h

theorem execEngineWatchdog_keeps {x} : Keeps (execEngineWatchdog x) :=
  .act fun h => h.engFault.ite h

theorem execLockstepMismatch_keeps {x} : Keeps (execLockstepMismatch x) :=
  .act fun h => h.engFault.ite h

theorem execEngineFault_keeps {x} : Keeps (execEngineFault x) := .act fun h => h.engFault.ite h

theorem execEngineSelfTestDone_keeps {x pass} : Keeps (execEngineSelfTestDone x pass) :=
  .act fun h => h.ite h.modEng

/-! ### The commands of `Machine/DeckRun.lean` -/

theorem execDeckRun_keeps {o} : Keeps (execDeckRun o) :=
  .act fun h => h.asOrder fun _ _ h1 => h1.ite h1.deckRun

theorem execDeckStop_keeps {o} : Keeps (execDeckStop o) :=
  .act fun h => h.asOrder fun _ _ h1 => h1.deckStop

/-! ### The commands of `Machine/EngineAlu.lean` -/

theorem execAdd_keeps {x x1 a b} : Keeps (execAdd x x1 a b) := .act fun h => h.aluOp

theorem execSub_keeps {x x1 a b} : Keeps (execSub x x1 a b) := .act fun h => h.aluOp

theorem execAnd_keeps {x x1 a b} : Keeps (execAnd x x1 a b) := .act fun h => h.aluOp

theorem execOr_keeps {x x1 a b} : Keeps (execOr x x1 a b) := .act fun h => h.aluOp

theorem execXor_keeps {x x1 a b} : Keeps (execXor x x1 a b) := .act fun h => h.aluOp

theorem execShl_keeps {x x1 a b} : Keeps (execShl x x1 a b) := .act fun h => h.aluOp

theorem execShr_keeps {x x1 a b} : Keeps (execShr x x1 a b) := .act fun h => h.aluOp

theorem execSar_keeps {x x1 a b} : Keeps (execSar x x1 a b) := .act fun h => h.aluOp

theorem execMul_keeps {x x1 a b} : Keeps (execMul x x1 a b) := .act fun h => h.aluOp

theorem execMulh_keeps {x x1 a b} : Keeps (execMulh x x1 a b) := .act fun h => h.aluOp

theorem execDiv_keeps {x x1 a b} : Keeps (execDiv x x1 a b) := .act fun h => h.aluOp

theorem execRem_keeps {x x1 a b} : Keeps (execRem x x1 a b) := .act fun h => h.aluOp

theorem execAddi_keeps {x x1 a imm} : Keeps (execAddi x x1 a imm) := .act fun h => h.immOp

theorem execAndi_keeps {x x1 a imm} : Keeps (execAndi x x1 a imm) := .act fun h => h.immOp

theorem execOri_keeps {x x1 a imm} : Keeps (execOri x x1 a imm) := .act fun h => h.immOp

theorem execXori_keeps {x x1 a imm} : Keeps (execXori x x1 a imm) := .act fun h => h.immOp

theorem execLhi_keeps {x x1 imm rs} : Keeps (execLhi x x1 imm rs) := .act fun h => h.engSet

theorem execBeq_keeps {x b a imm} : Keeps (execBeq x b a imm) := .act fun h => h.branch

theorem execBne_keeps {x b a imm} : Keeps (execBne x b a imm) := .act fun h => h.branch

theorem execBlt_keeps {x b a imm} : Keeps (execBlt x b a imm) := .act fun h => h.branch

theorem execBge_keeps {x b a imm} : Keeps (execBge x b a imm) := .act fun h => h.branch

theorem execBltu_keeps {x b a imm} : Keeps (execBltu x b a imm) := .act fun h => h.branch

theorem execBgeu_keeps {x b a imm} : Keeps (execBgeu x b a imm) := .act fun h => h.branch

theorem execJal_keeps {x x1 off} : Keeps (execJal x x1 off) :=
  .act fun h => h.engStep (goto h.setGr)

theorem execJr_keeps {x x1 a imm} : Keeps (execJr x x1 a imm) :=
  .act fun h => h.engStep (goto h.setGr)

/-! ### The commands of `Machine/I3c.lean` -/

theorem execI3cRead_keeps {frame} : Keeps (execI3cRead frame) := .act fun {s _} h => by
  extract_lets off n
  refine h.i3cFrame fun _ h1 => h1.i3cAnswer.ite (h1.i3cAnswer.ite (h1.i3cAnswer.ite ?_))
  · split
    next hp1 =>
      exact (snd_eq hp1 h1.i3cWords).i3cAnswer

theorem execI3cWrite_keeps {frame} : Keeps (execI3cWrite frame) := .act fun {s _} h => by
  extract_lets off n
  exact h.i3cFrame fun _ h1 => h1.i3cWrote.ite (h1.i3cWrote.ite
      (h1.i3cWrote.ite (h1.i3cWrote.ite h1.i3cWrote.i3cPut)))

theorem execI3cStatus_keeps {frame} : Keeps (execI3cStatus frame) :=
  .act fun h => h.i3cFrame fun _ h1 => h1.i3cAnswer.ite (h1.i3cAnswer.ite h1.i3cAnswer)

theorem execI3cResponse_keeps {ready} : Keeps (execI3cResponse ready) := .act fun {s _} h => by
  extract_lets y
  refine h.ite ?_
  · split
    · exact h.upd.send.ite h.send
    · exact h.send

theorem execI3cAddressInDoze_keeps : Keeps execI3cAddressInDoze :=
  .act fun h => h.send.dozeExit.ite h

theorem execEntdaa_keeps {addr} : Keeps (execEntdaa addr) := .act fun h => h.upd.ite h

theorem execSetdasa_keeps {addr} : Keeps (execSetdasa addr) := .act fun h => h.upd.ite h

theorem execRstdaa_keeps : Keeps execRstdaa := .act fun h => h.upd.ite h

theorem execEnec_keeps {b} : Keeps (execEnec b) := .act fun h => h.upd.ite h

theorem execDisec_keeps {b} : Keeps (execDisec b) := .act fun h => h.upd.ite h

theorem execGetpid_keeps : Keeps execGetpid := .act fun h => h.i3cGet

theorem execGetbcr_keeps : Keeps execGetbcr := .act fun h => h.i3cGet

theorem execGetdcr_keeps : Keeps execGetdcr := .act fun h => h.i3cGet

theorem execGetstatus_keeps : Keeps execGetstatus := .act fun {s _} h => by
  split
  next hp1 =>
    exact (snd_eq hp1 h.draw).i3cGet

theorem execGetmrl_keeps : Keeps execGetmrl := .act fun h => h.i3cGet

theorem execSetmrl_keeps {n} : Keeps (execSetmrl n) := .act fun h => h.upd.ite h

theorem execGetmwl_keeps : Keeps execGetmwl := .act fun h => h.i3cGet

theorem execSetmwl_keeps {n} : Keeps (execSetmwl n) := .act fun h => h.upd.ite h

theorem execRstact_keeps {v} : Keeps (execRstact v) := .act fun h => h.upd.ite h

theorem execIbiRetry_keeps {nacked} : Keeps (execIbiRetry nacked) :=
  .act fun h => h.ite (h.upd.ite h.send.upd)

/-! ### The commands of `Machine/SafetyRows.lean` -/

theorem execPllUnlock_keeps {which} : Keeps (execPllUnlock which) :=
  .act fun h => h.setF.cnt.clockFail.ite h

theorem execClockDeviation_keeps : Keeps execClockDeviation := .act fun h => h.clockFail.ite h

theorem execSequencerMismatch_keeps : Keeps execSequencerMismatch :=
  .act fun h => h.pairMismatch.ite h

theorem execSafeNReadback_keeps : Keeps execSafeNReadback := .act fun h => h.ite h.readbackFail

theorem execLatentFaultTest_keeps {fails} : Keeps (execLatentFaultTest fails) := .act fun {s _} h => by
  extract_lets y
  split
  · exact h.upd.setF.latentFails.ite h
  · exact h.upd.setF.latentFails.ite h
  · exact h.upd.setF.latentFails.ite h
  · exact h.upd.setF.latentFails.ite h
  · exact h

/-! ### The commands of `Machine/Logs.lean` -/

theorem execFixNEdge_keeps : Keeps execFixNEdge := .act fun h => h.fix

theorem execDeckLogFlush_keeps {cause} : Keeps (execDeckLogFlush cause) :=
  .act fun h => h.deckFlush.ite h

theorem execDeckClear_keeps {o} : Keeps (execDeckClear o) :=
  .act fun h => h.asOrder fun _ _ h1 => h1.deckClearOrder

theorem execTallyDump_keeps : Keeps execTallyDump := .act fun {s _} h => by
  extract_lets p y d1 y1 y2
  have hd1 : s.Kept d1 := h.upd
  have hy1 : s.Kept y1 := hd1.cnt
  refine h.ite ?_
  · split
    · exact hy1.upd
    · exact hy1.upd.ite hd1.tallyDump
    · exact hy1.upd.ite hd1.tallyDump
    · exact hy1.upd.ite hd1.tallyDump
    · exact hy1.upd.ite hd1.tallyDump
    · exact hy1.upd.ite hd1.tallyDump
    · exact hy1.upd.ite hd1.tallyDump
    · exact hy1.upd.ite hd1.tallyDump
    · exact hy1.upd.ite hd1.tallyDump
    · exact hy1.upd.ite hd1.tallyDump
    · exact hd1

theorem execLogbookSegmentWrite_keeps {addr data} : Keeps (execLogbookSegmentWrite addr data) :=
  .act fun h => h.ite h.lbkWrite

theorem execOperatingSecond_keeps : Keeps execOperatingSecond :=
  .act fun h => h.ite (h.upd.ite h.upd.upd.lbkSetCounter)

theorem execReset_keeps {x inp} : Keeps (execReset x inp) :=
  .act fun h => (h.mailbox fun _ h1 => h1).whenNot fun h2 => h2.portReset.ite h2.resetAccept

/-! ### The commands of `Machine/Thermal.lean` -/

theorem execSensorRead_keeps {kind i v} : Keeps (execSensorRead kind i v) := .act fun {s _} h => by
  split
  · exact h.readMedia
  · exact h.readCtrl
  · exact h.readAux

theorem execThermalEvaluation_keeps : Keeps execThermalEvaluation := .act fun {s _} h => by
  extract_lets y y1 d1
  have hd1 : s.Kept d1 := h.upd
  refine h.ite ?_
  · clear_value y
    split
    · exact hd1.hotFormed
    · exact hd1

theorem execCriticalTimeout_keeps : Keeps execCriticalTimeout := .act fun {s _} h => by
  split
  · exact h.setF.offRequest.ite h
  · exact h

theorem execCoolDownEnd_keeps : Keeps execCoolDownEnd := .act fun h => h.startOption.ite h

theorem execEclkUpdate_keeps : Keeps execEclkUpdate :=
  .act fun h => h.ite ((h.upd.foldl fun _ _ h1 => h1.setReg).ite h.upd.upd)

/-! ### The commands of `Machine/LogLine.lean` -/

theorem execLlStreamCheck_keeps : Keeps execLlStreamCheck := .act fun h => h.llCheck.ite h

theorem execLlSample_keeps {i code clip} : Keeps (execLlSample i code clip) :=
  .act fun h => h.ite h.llTake

theorem execLlWindowExcursion_keeps {i} : Keeps (execLlWindowExcursion i) :=
  .act fun h => h.ite h.upd.orF.post

theorem execLlEdge_keeps {i level since} : Keeps (execLlEdge i level since) :=
  .act fun h => h.ite (h.setF.ite h.setF.llEdgeTaken)

theorem execLlFrameClose_keeps : Keeps execLlFrameClose := .act fun {s _} h => by
  extract_lets d1
  have hd1 : s.Kept d1 := h.llTimeout.ite h
  split
  · exact hd1.llSend.llGap
  · exact hd1.llSend.llGap
  · exact hd1.llSend.llGap
  · exact h

theorem execLlLevelWake_keeps {i active since} : Keeps (execLlLevelWake i active since) := .act fun {s
    _} h => by
  refine h.ite (ite ?_ (ite ?_ h))
  · split
    · exact h.wake
    · exact h.wake
    · exact h
  · split
    · exact h.offRequest
    · exact h.offRequest
    · exact h.offRequest
    · exact h

/-! ### The commands of `Machine/Mailbox.lean` -/

theorem execIdentify_keeps {x} : Keeps (execIdentify x) := .act fun h => h.mailbox fun _ h1 => h1

theorem execGetEventRecords_keeps {x log} : Keeps (execGetEventRecords x log) :=
  .act fun h => h.mailbox fun _ h1 => h1

theorem execClearEventRecords_keeps {x log all handles} :
    Keeps (execClearEventRecords x log all handles) := .act fun {s _} h => by
  refine h.mailbox fun _ h1 => ?_
  · extract_lets l put
    split
    · exact h1.modHead
    · split
      · exact h1.modHead
      · exact h1

theorem execGetEventInterruptPolicy_keeps {x} : Keeps (execGetEventInterruptPolicy x) :=
  .act fun h => h.mailbox fun _ h1 => h1

theorem execSetEventInterruptPolicy_keeps {x policy} :
    Keeps (execSetEventInterruptPolicy x policy) := .act fun {s _} h => by
  refine h.mailbox fun _ h1 => ?_
  · split
    · exact h1
    · exact h1.modHead

theorem execGetFwInfo_keeps {x} : Keeps (execGetFwInfo x) := .act fun h => h.mailbox fun _ h1 => h1

theorem execTransferFw_keeps {x slot off data} : Keeps (execTransferFw x slot off data) := .act fun {s
    _} h => by
  refine h.mailbox fun _ h1 => ?_
  · split
    · exact h1
    · split
      · exact h1
      · split
        next hp1 =>
          exact (snd_eq hp1 h1.lbkWrite)

theorem execActivateFw_keeps {x action slot} : Keeps (execActivateFw x action slot) := .act fun {s _} h => by
  refine h.mailbox fun _ h1 => ?_
  · split
    · exact h1
    · split
      · exact h1
      · exact h1.upd

theorem execGetTimestamp_keeps {x} : Keeps (execGetTimestamp x) :=
  .act fun h => h.mailbox fun _ h1 => h1

theorem execSetTimestamp_keeps {x ns} : Keeps (execSetTimestamp x ns) :=
  .act fun h => h.mailbox fun _ h1 => h1.upd

theorem execGetSupportedLogs_keeps {x} : Keeps (execGetSupportedLogs x) :=
  .act fun h => h.mailbox fun _ h1 => h1

theorem execGetLog_keeps {x off len} : Keeps (execGetLog x off len) := .act fun {s _} h => by
  refine h.mailbox fun _ h1 => ?_
  · split
    · exact h1
    · exact h1

theorem execIdentifyMemoryDevice_keeps {x} : Keeps (execIdentifyMemoryDevice x) :=
  .act fun h => h.mailbox fun _ h1 => h1

theorem execGetPartitionInfo_keeps {x} : Keeps (execGetPartitionInfo x) :=
  .act fun h => h.mailbox fun _ h1 => h1

theorem execSetPartitionInfo_keeps {x inp} : Keeps (execSetPartitionInfo x inp) :=
  .act fun h => h.mailbox fun _ h1 => h1

theorem execGetLsa_keeps {x off len} : Keeps (execGetLsa x off len) := .act fun {s _} h => by
  refine h.mailbox fun _ h1 => ?_
  · split
    · exact h1
    · exact h1

theorem execSetLsa_keeps {x off data} : Keeps (execSetLsa x off data) := .act fun {s _} h => by
  refine h.mailbox fun _ h1 => ?_
  · split
    · exact h1
    · split
      next hp1 =>
        exact (snd_eq hp1 h1.lbkWrite)

theorem execGetHealthInfo_keeps {x} : Keeps (execGetHealthInfo x) :=
  .act fun h => h.mailbox fun _ h1 => h1

theorem execGetAlertConfiguration_keeps {x} : Keeps (execGetAlertConfiguration x) :=
  .act fun h => h.mailbox fun _ h1 => h1

theorem execSetAlertConfiguration_keeps {x valid enable life temp} :
    Keeps (execSetAlertConfiguration x valid enable life temp) := .act fun {s _} h => by
  refine h.mailbox fun _ h1 => ?_
  · split
    · exact h1
    · split
      · extract_lets en
        exact h1.upd

theorem execGetShutdownState_keeps {x} : Keeps (execGetShutdownState x) :=
  .act fun h => h.mailbox fun _ h1 => h1

theorem execSetShutdownState_keeps {x v} : Keeps (execSetShutdownState x v) := .act fun {s _} h => by
  refine h.mailbox fun _ h1 => ?_
  · split
    next hp1 =>
      exact (snd_eq hp1 h1.lbkWrite)

theorem execGetPoisonList_keeps {x start len} : Keeps (execGetPoisonList x start len) :=
  .act fun h => h.mailbox fun _ h1 => h1

theorem execInjectPoison_keeps {x dpa} : Keeps (execInjectPoison x dpa) := .act fun {s _} h => by
  refine h.mailbox fun _ h1 => ?_
  · split
    · exact h1
    · split
      · exact h1
      · split
        · exact h1
        · exact h1.markPoison.supersede

theorem execClearPoison_keeps {x dpa data} : Keeps (execClearPoison x dpa data) := .act fun {s _} h => by
  refine h.ite ?_
  · split
    · exact h.reply
    · exact h.reply.ite h.touch.memWrite

theorem execScanMedia_keeps {x op} : Keeps (execScanMedia x op) :=
  .act fun h => h.mailbox fun _ h1 => h1

theorem execPersistentMemorySecurity_keeps {x op} : Keeps (execPersistentMemorySecurity x op) :=
  .act fun h => h.mailbox fun _ h1 => h1

theorem execGetDeviceIdentity_keeps {x inp} : Keeps (execGetDeviceIdentity x inp) :=
  .act fun h => h.vendor fun _ h1 => h1

theorem execGetMode_keeps {x inp} : Keeps (execGetMode x inp) :=
  .act fun h => h.vendor fun _ h1 => h1

theorem execReadSealRecord_keeps {x inp} : Keeps (execReadSealRecord x inp) := .act fun {s _} h => by
  extract_lets n
  refine h.vendor fun _ h1 => ?_
  · split
    · exact h1
    · split
      · exact h1
      · exact h1

theorem execReadDeckLog_keeps {x inp} : Keeps (execReadDeckLog x inp) :=
  .act fun h => h.vendor fun _ h1 => h1.readArea

theorem execReadPowerLog_keeps {x inp} : Keeps (execReadPowerLog x inp) :=
  .act fun h => h.vendor fun _ h1 => h1.readArea

theorem execReadLogbookPage_keeps {x inp} : Keeps (execReadLogbookPage x inp) := .act fun {s _} h => by
  extract_lets p
  refine h.vendor fun _ h1 => ?_
  · split
    · exact h1
    · exact h1

theorem execWriteRegistryPage_keeps {x inp} : Keeps (execWriteRegistryPage x inp) := .act fun {s _} h => by
  refine h.vendor fun _ h1 => ?_
  · split
    · exact h1
    · split
      next hp1 =>
        exact (snd_eq hp1 h1.lbkWrite)

theorem execLockRegistryPage_keeps {hd inp} : Keeps (execLockRegistryPage hd inp) :=
  .act fun h => h.vendor fun _ h => by
    split
    · exact h
    · exact h.ite h.setF.withFuse.post0

theorem execGetCapacity_keeps {x inp} : Keeps (execGetCapacity x inp) :=
  .act fun h => h.vendor fun _ h1 => h1

/-! ### The commands of `Machine/StreamRows.lean` -/

theorem execProducerWrite_keeps {p tag a data mask poison} :
    Keeps (execProducerWrite p tag a data mask poison) :=
  .act fun h => h.touch.memWrite.ite h

theorem execConsumerRead_keeps {p tag a ev} : Keeps (execConsumerRead p tag a ev) :=
  .act fun h => h.touch.memReadReq.ite h

theorem execProducerWindowRead_keeps {p tag a} : Keeps (execProducerWindowRead p tag a) :=
  .act fun h => h.touch.memReadReq.ite h

theorem execTriggerLineWrite_keeps {p tag st t} : Keeps (execTriggerLineWrite p tag st t) :=
  .act fun h => h.touch.memWrite.ite h

theorem execRead_keeps {p st n} : Keeps (execRead p st n) := .act fun h => h.consumerOp

theorem execMark_keeps {p st} : Keeps (execMark p st) := .act fun h => h.consumerOp

theorem execRewind_keeps {p st} : Keeps (execRewind p st) := .act fun h => h.consumerOp

theorem execRelease_keeps {p st t} : Keeps (execRelease p st t) := .act fun h => h.consumerOp

theorem execDrop_keeps {p st} : Keeps (execDrop p st) := .act fun h => h.consumerOp

theorem execOpReset_keeps {p st} : Keeps (execOpReset p st) := .act fun h => h.consumerOp

theorem execOpInvalid_keeps {p st code full} : Keeps (execOpInvalid p st code full) :=
  .act fun h => h.consumerOp

theorem execQueueReset_keeps {st cause} : Keeps (execQueueReset st cause) :=
  .act fun h => h.ite (h.setStm.queueReset.ite h.queueReset)

theorem execCreditRaise_keeps {st} : Keeps (execCreditRaise st) := .act fun h => h.creditRaise

theorem execHeadRefill_keeps {st} : Keeps (execHeadRefill st) := .act fun h => h.ite h.setStm

theorem execStreamPageSpill_keeps {st slot ev} : Keeps (execStreamPageSpill st slot ev) := .act fun {s
    _} h => by
  extract_lets y
  refine h.ite ?_
  · split
    · exact h
    next e1 hp1 =>
      have h1 : s.Kept e1 := h.spillSpace _ hp1
      split
      · exact h1
      next e2 hp2 =>
        have h2 : s.Kept e2 := h1.placeSpill _ hp2
        exact (h2.ite h2.setF).upd

theorem execRingReclaim_keeps {st} : Keeps (execRingReclaim st) := .act fun h => h.ringReclaim

theorem execBoundaryRecord_keeps : Keeps execBoundaryRecord := .act fun h => h.ite h.upd.boundAll

theorem execWindowClose_keeps {st} : Keeps (execWindowClose st) := .act fun h => h.setStm.ite h

theorem execWindowRecord_keeps {st} : Keeps (execWindowRecord st) := .act fun {s _} h => by
  split
  · exact h
  · exact h.ite h.recordWindow

end Sys2Proof.Machine

/-! ## Settled: O6 and O7, what every step keeps -/

namespace Sys2Proof.Machine

theorem exec_keeps (c : Instr) : Keeps (exec c) := by
  cases c with
  | memRd => exact execMemRd_keeps
  | memRdData => exact execMemRdData_keeps
  | memWr => exact execMemWr_keeps
  | memWrPtl => exact execMemWrPtl_keeps
  | unsupportedM2sOpcode => exact execUnsupportedM2sOpcode_keeps
  | globalPersistentFlush => exact execGlobalPersistentFlush_keeps
  | perst => exact execPerst_keeps
  | linkTraining => exact execLinkTraining_keeps
  | l1Entry => exact execL1Entry_keeps
  | l1Exit => exact execL1Exit_keeps
  | d3hotEntry => exact execD3hotEntry_keeps
  | decoderCommit => exact execDecoderCommit_keeps
  | msixUnmask => exact execMsixUnmask_keeps
  | identify => exact execIdentify_keeps
  | getEventRecords => exact execGetEventRecords_keeps
  | clearEventRecords => exact execClearEventRecords_keeps
  | getEventInterruptPolicy => exact execGetEventInterruptPolicy_keeps
  | setEventInterruptPolicy => exact execSetEventInterruptPolicy_keeps
  | getFwInfo => exact execGetFwInfo_keeps
  | transferFw => exact execTransferFw_keeps
  | activateFw => exact execActivateFw_keeps
  | getTimestamp => exact execGetTimestamp_keeps
  | setTimestamp => exact execSetTimestamp_keeps
  | getSupportedLogs => exact execGetSupportedLogs_keeps
  | getLog => exact execGetLog_keeps
  | identifyMemoryDevice => exact execIdentifyMemoryDevice_keeps
  | getPartitionInfo => exact execGetPartitionInfo_keeps
  | setPartitionInfo => exact execSetPartitionInfo_keeps
  | getLsa => exact execGetLsa_keeps
  | setLsa => exact execSetLsa_keeps
  | getHealthInfo => exact execGetHealthInfo_keeps
  | getAlertConfiguration => exact execGetAlertConfiguration_keeps
  | setAlertConfiguration => exact execSetAlertConfiguration_keeps
  | getShutdownState => exact execGetShutdownState_keeps
  | setShutdownState => exact execSetShutdownState_keeps
  | getPoisonList => exact execGetPoisonList_keeps
  | injectPoison => exact execInjectPoison_keeps
  | clearPoison => exact execClearPoison_keeps
  | scanMedia => exact execScanMedia_keeps
  | persistentMemorySecurity => exact execPersistentMemorySecurity_keeps
  | sanitize => exact execSanitize_keeps
  | secureErase => exact execSecureErase_keeps
  | getDeviceIdentity => exact execGetDeviceIdentity_keeps
  | getMode => exact execGetMode_keeps
  | getChartSlots => exact execGetChartSlots_keeps
  | writeChartChunk => exact execWriteChartChunk_keeps
  | runOrder => exact execRunOrder_keeps
  | getOrderResult => exact execGetOrderResult_keeps
  | readSealRecord => exact execReadSealRecord_keeps
  | readDeckLog => exact execReadDeckLog_keeps
  | readPowerLog => exact execReadPowerLog_keeps
  | readLogbookPage => exact execReadLogbookPage_keeps
  | writeRegistryPage => exact execWriteRegistryPage_keeps
  | lockRegistryPage => exact execLockRegistryPage_keeps
  | getCapacity => exact execGetCapacity_keeps
  | reset => exact execReset_keeps
  | sqTailWrite => exact execSqTailWrite_keeps
  | cqHeadWrite => exact execCqHeadWrite_keeps
  | orderDispatch => exact execOrderDispatch_keeps
  | orderCompletion => exact execOrderCompletion_keeps
  | modeChange => exact execModeChange_keeps
  | checkpoint => exact execCheckpoint_keeps
  | discard => exact execDiscard_keeps
  | secureDiscard => exact execSecureDiscard_keeps
  | sealRange => exact execSealRange_keeps
  | sealVerify => exact execSealVerify_keeps
  | sealExport => exact execSealExport_keeps
  | trigger => exact execTrigger_keeps
  | streamReset => exact execStreamReset_keeps
  | rekey => exact execRekey_keeps
  | fix => exact execFix_keeps
  | deckClear => exact execDeckClear_keeps
  | deckRun => exact execDeckRun_keeps
  | deckStop => exact execDeckStop_keeps
  | chartCheck => exact execChartCheck_keeps
  | helmSpaceWrite => exact execHelmSpaceWrite_keeps
  | halfReadLatch => exact execHalfReadLatch_keeps
  | pntArbWrite => exact execPntArbWrite_keeps
  | pntRetireWrite => exact execPntRetireWrite_keeps
  | wlvPlaceWrite => exact execWlvPlaceWrite_keeps
  | strCtlWrite => exact execStrCtlWrite_keeps
  | strActTrigger => exact execStrActTrigger_keeps
  | strActQueueReset => exact execStrActQueueReset_keeps
  | strNoteRead => exact execStrNoteRead_keeps
  | pwrCtlOff => exact execPwrCtlOff_keeps
  | pwrCtlBanktest => exact execPwrCtlBanktest_keeps
  | pwrThrWrite => exact execPwrThrWrite_keeps
  | fixCtlTrigger => exact execFixCtlTrigger_keeps
  | seqCmdFix => exact execSeqCmdFix_keeps
  | seqCmdStatus => exact execSeqCmdStatus_keeps
  | rstCtlDevice => exact execRstCtlDevice_keeps
  | rstWdogKick => exact execRstWdogKick_keeps
  | padholdRelease => exact execPadholdRelease_keeps
  | talSelWrite => exact execTalSelWrite_keeps
  | talCfgWrite => exact execTalCfgWrite_keeps
  | safInjWrite => exact execSafInjWrite_keeps
  | llnChWrite => exact execLlnChWrite_keeps
  | i3cRead => exact execI3cRead_keeps
  | i3cWrite => exact execI3cWrite_keeps
  | i3cStatus => exact execI3cStatus_keeps
  | i3cResponse => exact execI3cResponse_keeps
  | entdaa => exact execEntdaa_keeps
  | setdasa => exact execSetdasa_keeps
  | rstdaa => exact execRstdaa_keeps
  | enec => exact execEnec_keeps
  | disec => exact execDisec_keeps
  | getpid => exact execGetpid_keeps
  | getbcr => exact execGetbcr_keeps
  | getdcr => exact execGetdcr_keeps
  | getstatus => exact execGetstatus_keeps
  | getmrl => exact execGetmrl_keeps
  | setmrl => exact execSetmrl_keeps
  | getmwl => exact execGetmwl_keeps
  | setmwl => exact execSetmwl_keeps
  | rstact => exact execRstact_keeps
  | ibiRetry => exact execIbiRetry_keeps
  | i3cAddressInDoze => exact execI3cAddressInDoze_keeps
  | producerWrite => exact execProducerWrite_keeps
  | creditRaise => exact execCreditRaise_keeps
  | streamPageSpill => exact execStreamPageSpill_keeps
  | headRefill => exact execHeadRefill_keeps
  | consumerRead => exact execConsumerRead_keeps
  | producerWindowRead => exact execProducerWindowRead_keeps
  | triggerLineWrite => exact execTriggerLineWrite_keeps
  | read => exact execRead_keeps
  | mark => exact execMark_keeps
  | rewind => exact execRewind_keeps
  | release => exact execRelease_keeps
  | drop => exact execDrop_keeps
  | opReset => exact execOpReset_keeps
  | opInvalid => exact execOpInvalid_keeps
  | queueReset => exact execQueueReset_keeps
  | ringReclaim => exact execRingReclaim_keeps
  | boundaryRecord => exact execBoundaryRecord_keeps
  | windowClose => exact execWindowClose_keeps
  | windowRecord => exact execWindowRecord_keeps
  | add => exact execAdd_keeps
  | sub => exact execSub_keeps
  | and => exact execAnd_keeps
  | or => exact execOr_keeps
  | xor => exact execXor_keeps
  | shl => exact execShl_keeps
  | shr => exact execShr_keeps
  | sar => exact execSar_keeps
  | mul => exact execMul_keeps
  | mulh => exact execMulh_keeps
  | div => exact execDiv_keeps
  | rem => exact execRem_keeps
  | addi => exact execAddi_keeps
  | andi => exact execAndi_keeps
  | ori => exact execOri_keeps
  | xori => exact execXori_keeps
  | lhi => exact execLhi_keeps
  | beq => exact execBeq_keeps
  | bne => exact execBne_keeps
  | blt => exact execBlt_keeps
  | bge => exact execBge_keeps
  | bltu => exact execBltu_keeps
  | bgeu => exact execBgeu_keeps
  | jal => exact execJal_keeps
  | jr => exact execJr_keeps
  | ld8 => exact execLd8_keeps
  | ld16 => exact execLd16_keeps
  | ld32 => exact execLd32_keeps
  | ld64 => exact execLd64_keeps
  | ld8u => exact execLd8u_keeps
  | ld16u => exact execLd16u_keeps
  | ld32u => exact execLd32u_keeps
  | st8 => exact execSt8_keeps
  | st16 => exact execSt16_keeps
  | st32 => exact execSt32_keeps
  | st64 => exact execSt64_keeps
  | ldRsv => exact execLdRsv_keeps
  | stCnd => exact execStCnd_keeps
  | barCore => exact execBarCore_keeps
  | barQuad => exact execBarQuad_keeps
  | barChip => exact execBarChip_keeps
  | mread => exact execMread_keeps
  | mwrite => exact execMwrite_keeps
  | mclear => exact execMclear_keeps
  | mverify => exact execMverify_keeps
  | mfoldPage => exact execMfoldPage_keeps
  | mfoldSector => exact execMfoldSector_keeps
  | mfoldSealed => exact execMfoldSealed_keeps
  | mref => exact execMref_keeps
  | msense => exact execMsense_keeps
  | mediaTicketComplete => exact execMediaTicketComplete_keeps
  | qpeek => exact execQpeek_keeps
  | qtake => exact execQtake_keeps
  | qmark => exact execQmark_keeps
  | qrewind => exact execQrewind_keeps
  | qrelease => exact execQrelease_keeps
  | qdrop => exact execQdrop_keeps
  | qcredit => exact execQcredit_keeps
  | fixInstruction => exact execFixInstruction_keeps
  | wait => exact execWait_keeps
  | sleep => exact execSleep_keeps
  | sleepEnd => exact execSleepEnd_keeps
  | trap => exact execTrap_keeps
  | exit => exact execExit_keeps
  | event => exact execEvent_keeps
  | yield => exact execYield_keeps
  | eret => exact execEret_keeps
  | getsys => exact execGetsys_keeps
  | putsys => exact execPutsys_keeps
  | taskTake => exact execTaskTake_keeps
  | wdogKick => exact execWdogKick_keeps
  | budget => exact execBudget_keeps
  | engineWatchdog => exact execEngineWatchdog_keeps
  | lockstepMismatch => exact execLockstepMismatch_keeps
  | engineFault => exact execEngineFault_keeps
  | engineSelfTestDone => exact execEngineSelfTestDone_keeps
  | writeMergeDrain => exact execWriteMergeDrain_keeps
  | forwardingBufferDrain => exact execForwardingBufferDrain_keeps
  | barrierDrainTimeout => exact execBarrierDrainTimeout_keeps
  | sectorReady => exact execSectorReady_keeps
  | pageRoute => exact execPageRoute_keeps
  | mergeReadDone => exact execMergeReadDone_keeps
  | sectorProgramDone => exact execSectorProgramDone_keeps
  | overlayInstall => exact execOverlayInstall_keeps
  | pageInstall => exact execPageInstall_keeps
  | placementLogClose => exact execPlacementLogClose_keeps
  | lineLogClose => exact execLineLogClose_keeps
  | lineLogCommit => exact execLineLogCommit_keeps
  | watermark => exact execWatermark_keeps
  | rowComplete => exact execRowComplete_keeps
  | rowTimeout => exact execRowTimeout_keeps
  | groupClose => exact execGroupClose_keeps
  | groupOpen => exact execGroupOpen_keeps
  | segmentAgeClose => exact execSegmentAgeClose_keeps
  | settleEnd => exact execSettleEnd_keeps
  | verifyReadDone => exact execVerifyReadDone_keeps
  | parityRelease => exact execParityRelease_keeps
  | clearSchedule => exact execClearSchedule_keeps
  | segmentClearDone => exact execSegmentClearDone_keeps
  | collectionStart => exact execCollectionStart_keeps
  | foldQueue => exact execFoldQueue_keeps
  | mapFlush => exact execMapFlush_keeps
  | checkpointStart => exact execCheckpointStart_keeps
  | checkpointComplete => exact execCheckpointComplete_keeps
  | spareRecompute => exact execSpareRecompute_keeps
  | berthLow => exact execBerthLow_keeps
  | metadataPoolTopup => exact execMetadataPoolTopup_keeps
  | staticLevelling => exact execStaticLevelling_keeps
  | poolWearExchange => exact execPoolWearExchange_keeps
  | marginSweep => exact execMarginSweep_keeps
  | refreshQueue => exact execRefreshQueue_keeps
  | lodestoneSample => exact execLodestoneSample_keeps
  | eclkUpdate => exact execEclkUpdate_keeps
  | scrubPass => exact execScrubPass_keeps
  | keySweep => exact execKeySweep_keeps
  | burstCrcFail => exact execBurstCrcFail_keeps
  | ackTimeout => exact execAckTimeout_keeps
  | quickRetrain => exact execQuickRetrain_keeps
  | quickRetrainDone => exact execQuickRetrainDone_keeps
  | fullTrainingDone => exact execFullTrainingDone_keeps
  | dieFatalStatus => exact execDieFatalStatus_keeps
  | stuckCell => exact execStuckCell_keeps
  | pointDeath => exact execPointDeath_keeps
  | rehomingComplete => exact execRehomingComplete_keeps
  | deadDieRecovery => exact execDeadDieRecovery_keeps
  | crossbarSelfCheck => exact execCrossbarSelfCheck_keeps
  | secureDiscardResume => exact execSecureDiscardResume_keeps
  | rekeyResume => exact execRekeyResume_keeps
  | bankTest => exact execBankTest_keeps
  | bankTestDue => exact execBankTestDue_keeps
  | bankVoltageLow => exact execBankVoltageLow_keeps
  | automaticModeChange => exact execAutomaticModeChange_keeps
  | brownout => exact execBrownout_keeps
  | flushEnd => exact execFlushEnd_keeps
  | commitEnd => exact execCommitEnd_keeps
  | supplyReturn => exact execSupplyReturn_keeps
  | vinOvervoltage => exact execVinOvervoltage_keeps
  | railStep => exact execRailStep_keeps
  | railStepDone => exact execRailStepDone_keeps
  | railStepFail => exact execRailStepFail_keeps
  | railFault => exact execRailFault_keeps
  | railDischarged => exact execRailDischarged_keeps
  | railsDownComplete => exact execRailsDownComplete_keeps
  | minimumOffTimeEnd => exact execMinimumOffTimeEnd_keeps
  | orderlyShutdown => exact execOrderlyShutdown_keeps
  | step => exact execStep_keeps
  | down => exact execDown_keeps
  | flush => exact execFlush_keeps
  | seqFix => exact execSeqFix_keeps
  | status => exact execStatus_keeps
  | chart => exact execChart_keeps
  | seqNoack => exact execSeqNoack_keeps
  | lineFlush => exact execLineFlush_keeps
  | seqOrphan => exact execSeqOrphan_keeps
  | seqDiscovery => exact execSeqDiscovery_keeps
  | seqGroupPoll => exact execSeqGroupPoll_keeps
  | watchPowerOn => exact execWatchPowerOn_keeps
  | watchStop => exact execWatchStop_keeps
  | crystalSwitch => exact execCrystalSwitch_keeps
  | crystalFail => exact execCrystalFail_keeps
  | wakeEdge => exact execWakeEdge_keeps
  | wakeLevel => exact execWakeLevel_keeps
  | wakeReleaseOff => exact execWakeReleaseOff_keeps
  | wchAlarm => exact execWchAlarm_keeps
  | resetN => exact execResetN_keeps
  | deviceReset => exact execDeviceReset_keeps
  | resetFlushEnd => exact execResetFlushEnd_keeps
  | chipWatchdog => exact execChipWatchdog_keeps
  | dozeEntry => exact execDozeEntry_keeps
  | dozeReached => exact execDozeReached_keeps
  | padHoldLatch => exact execPadHoldLatch_keeps
  | maintenanceWake => exact execMaintenanceWake_keeps
  | dozeWake => exact execDozeWake_keeps
  | optionLoad => exact execOptionLoad_keeps
  | referenceCheck => exact execReferenceCheck_keeps
  | pllLock => exact execPllLock_keeps
  | mediaInitialisation => exact execMediaInitialisation_keeps
  | recovery => exact execRecovery_keeps
  | chartApply => exact execChartApply_keeps
  | activeReached => exact execActiveReached_keeps
  | noLinkTimeout => exact execNoLinkTimeout_keeps
  | heartbeatTimeout => exact execHeartbeatTimeout_keeps
  | pllUnlock => exact execPllUnlock_keeps
  | clockDeviation => exact execClockDeviation_keeps
  | sequencerMismatch => exact execSequencerMismatch_keeps
  | safeNReadback => exact execSafeNReadback_keeps
  | latentFaultTest => exact execLatentFaultTest_keeps
  | fixNEdge => exact execFixNEdge_keeps
  | deckLogFlush => exact execDeckLogFlush_keeps
  | tallyDump => exact execTallyDump_keeps
  | logbookSegmentWrite => exact execLogbookSegmentWrite_keeps
  | operatingSecond => exact execOperatingSecond_keeps
  | sensorRead => exact execSensorRead_keeps
  | thermalEvaluation => exact execThermalEvaluation_keeps
  | criticalTimeout => exact execCriticalTimeout_keeps
  | coolDownEnd => exact execCoolDownEnd_keeps
  | llWindowExcursion => exact execLlWindowExcursion_keeps
  | llSample => exact execLlSample_keeps
  | llEdge => exact execLlEdge_keeps
  | llFrameClose => exact execLlFrameClose_keeps
  | llLevelWake => exact execLlLevelWake_keeps
  | llStreamCheck => exact execLlStreamCheck_keeps
  | builtInSelfTest => exact execBuiltInSelfTest_keeps
  | quietClockGate => exact execQuietClockGate_keeps
  | sanitizeRestart => exact execSanitizeRestart_keeps
  | brownoutWatch => exact execBrownoutWatch_keeps
  | resetNRelease => exact execResetNRelease_keeps
  | placementQueueRefill => exact execPlacementQueueRefill_keeps
  -- the command of UNSEAL, whose constructor bears the name of a Lean command
  | _ => exact execUnseal_keeps

/-- A step runs the command at the front of the queue, or lets time pass. -/
theorem step_keeps : Keeps step := by
  intro q t ht
  rw [step] at ht
  split at ht
  · cases ht
    exact Dev.Kept.refl.pass
  · have hc := exec_keeps _ _ t ht
    exact hc

/-- Settles O6: each command, and the passing of time, builds the next device so that the invariant is kept. -/
theorem stepKeepsInv : Obligations.StepKeepsInv :=
  fun s t hs ht => (step_keeps s t ht).inv hs

/-- Settles O7: no function of the model clears the fuse; the lock command alone writes it, to blown. -/
theorem registryLockIsPermanent : Obligations.RegistryLockIsPermanent :=
  fun s t hs ht => (step_keeps s t ht).fuse hs

end Sys2Proof.Machine
